-- ==== Sys2Proof/Word.lean ====
section
/-! DEFINITION. The machine's words: registers are 32 bits wide, bit 0 the least significant (R2), memory is bytes,
little-endian (R2). -/
namespace Sys2Proof

/-- A 32-bit register or bus word (R2). -/
abbrev Word := BitVec 32

/-- A byte of memory (R2). -/
abbrev Byte := BitVec 8

/-- A 256-bit vector register of an engine (R354). -/
abbrev Vec := BitVec 256

/-- One audio sample: a signed 24-bit value held sign-extended (chapters 04 to 10). -/
abbrev Sample := Int

end Sys2Proof
end

