-- ==== Sys2Proof/Syntax.lean ====
section
/-! DEFINITION. The commands of the block: one constructor of `Instr` for each row of the opcode table. Indices are bounded by
their types; what a list must look like is in WellFormed. The structures say what the surroundings supply with a command. -/
namespace Sys2Proof.Machine

/-- What the array holds wrong at a word (R393, R394): its address, the codeword, and the bit in error, none where two are. -/
structure EccErr where
  word : Nat
  cw : Nat
  bit : Option Nat
  deriving DecidableEq, Repr

/-- What the surroundings add to an access: the commit phase of the present pass has begun (R122); the reference not in use lies
within 100 ppm (R88); the access comes over SPI, and the words that the boot controller has consumed since the last one
(R54); the code of the standby's check of a live keyplan (R501); what the arrays read hold wrong (R393). -/
structure Env where
  late : Bool
  near : Bool
  spi : Bool
  taken : Nat
  partner : Nat
  errs : List EccErr
  deriving DecidableEq, Repr

/-- What the surroundings give a frame: the decimated values of AIN0–7 and of the PDM channels; outputs whose modulator clipped
(R176, R211, R218, R224); MICB outputs in current limit (R156); measured supplies in mV (VDD_CORE, VDD_IO33, AVDD18, PVDD)
and die temperatures in 1/8 °C; servo trims (R241); banks with their busy count and whether a request starved (R392); engines
whose ring write, or read, was late (R377, R378); what the arrays read hold wrong (R393). -/
structure FrameIn where
  ain : List Int
  pdm : List Int
  clips : Nat
  micb : Nat
  supplies : List Nat
  temps : List Int
  servo : List (Nat × Int)
  banks : List (Nat × Nat × Bool)
  lateIn : Nat
  lateOut : Nat
  errs : List EccErr
  deriving DecidableEq, Repr

/-- An audio slot as it arrives (R462, R473): slot, sample, a code error in it, and the segments that carried it before
this one. -/
structure SlotIn where
  slot : Nat
  sample : Int
  bad : Bool
  crossed : Nat
  deriving DecidableEq, Repr

/-- A link frame on a port (R461): its 64 header bytes, a code error among them, Δ in ps where it gives a ranging sample
(R467), whether the parent sends it on DOWN_B, and its audio slots. -/
structure LinkIn where
  hdr : List Byte
  codeErr : Bool
  delta : Int
  downB : Bool
  slots : List SlotIn
  deriving DecidableEq, Repr

/-- A frame on SPDIF_RX (R301): the preambles of its subframes (0 X, 1 Y, 2 Z), a biphase violation outside them, and the
two subframes with time slot `k` in bit `k`. -/
structure SpdifIn where
  preA : Nat
  preB : Nat
  biphase : Bool
  a : Nat
  b : Nat
  deriving DecidableEq, Repr

/-- Class and HID requests (R339); the setting ones but SET_IDLE have rows of their own. -/
inductive UsbClassReq where
  | freqCur | freqRange | validCur | muteCur | volCur | volRange | getReport | getIdle
  | setIdle (rate : Nat)
  | other
  deriving DecidableEq, Repr

/-- Standard requests of USB 2.0 chapter 9 (R339); `read` stands for those that change nothing. -/
inductive UsbStdReq where
  | setAddress (a : Nat)
  | setConfiguration (c : Nat)
  | remoteWake (on : Bool)
  | getBos
  | read
  deriving DecidableEq, Repr

/-- A hinge frame as it arrives (R497): header CRC, role, hb, fresh, dropped, side; arrival within 1 µs of the receiver's
boundary; frame number; the lockstep CRCs; the batch, if any, as sequence, boundary and entries; the service field:
acknowledgement, identity, delay, sync copy with the tumbler and the announced boundary, the active's HSh_RES words, records
as location and information, requests (2 the checks passed and sync begins, 3 perform a HINGE reset), and a live keyplan that
has passed the active's checks with the boundary of its ward 0 (R501; empty: none). -/
structure HingeIn where
  ok : Bool
  role : Nat
  hb : Bool
  fresh : Bool
  side : Bool
  inTime : Bool
  frame : Nat
  crcs : List Nat
  batch : Option (Nat × Nat × List (Nat × Word))
  ack : Nat
  ident : Option (Nat × List Word × Nat × Bool)
  delay : Nat
  copy : List (Nat × Word)
  tumb : Option (List (Nat × Word) × Option Nat)
  syncAt : Option Nat
  hsRes : List (Nat × Word)
  records : List (Nat × Nat)
  req : Nat
  live : List Byte
  liveAt : Nat
  deriving DecidableEq, Repr

end Sys2Proof.Machine

namespace Sys2Proof

open Sys2Proof.Machine

/-- A command (one row of the opcode table). -/
inductive Instr where
  /-- POR: power-on reset (R529, R554, R557). -/
  | por
  /-- BOR: brown-out reset (R554, R555); `supply`: bit 0 VDD_CORE, 1 VDD_IO33, 2 AVDD18. -/
  | bor (supply : Nat)
  /-- PIN_RESET: RESET_N (R554). -/
  | pinReset
  /-- WDT_RESET: the watchdog expires (R556). -/
  | wdtReset
  /-- SOFT: the SOFT command of SYS_RSTCTRL (R554, R565). -/
  | soft
  /-- RESET_RELEASE: the reset ends and the boot tests begin (R517); `twinSel`: the level of TWIN_SEL (R571). -/
  | resetRelease (twinSel : Bool)
  /-- BOOT_TESTS_DONE: the boot tests end with findings: what failed and its location word (R517 to R519). -/
  | bootTestsDone (findings : List (Nat × Nat))
  /-- SPK_SEGMENT_TESTS_DEFERRED: the deferred segment tests (R519): failing channel, half-bridge, segment and cell. -/
  | spkSegmentTestsDeferred (findings : List (Nat × Nat × Nat × Nat))
  /-- COMMIT: the final checks have passed and the commit begins (R48); `img`: the image in the flash slot, where one is read. -/
  | commit (img : List Byte)
  /-- KEYWAY_START: the frame boundary of commit step 7 (R48). -/
  | keywayStart (f : FrameIn)
  /-- HOSTLOAD: BOOT_CTRL command HOSTLOAD (R54). -/
  | hostload
  /-- RESEAT: BOOT_CTRL command RESEAT from a source code (R56). -/
  | reseat (src : Fin 16)
  /-- RESEAT_COMPARE: the compare of R57; `img`: the image in the flash slot, where one is read. -/
  | reseatCompare (img : List Byte)
  /-- RESEAT_TEARDOWN: reseat step 4 (R56). -/
  | reseatTeardown
  /-- LIVE: BOOT_CTRL command LIVE (R61). -/
  | live
  /-- ABORT: BOOT_CTRL command ABORT (R68). -/
  | abort
  /-- BOOT_CTRL_BAD_KEY: a BOOT_CTRL write that is ignored (R68). -/
  | bootCtrlBadKey (v : Word)
  /-- BOOT_HOSTDATA: a word of a keyplan (R54). -/
  | bootHostdata (env : Env) (w : Word)
  /-- LOAD_SOURCE_TIMEOUT: the source has fallen silent (R54, R481). -/
  | loadSourceTimeout
  /-- PLL_WRITE: a write to CLK_PLLCFG or CLK_PLLFRAC (R76, R80, R92, R93). -/
  | pllWrite (frac : Bool) (v : Word)
  /-- REFSEL_WRITE: a write to CLK_REFSEL (R80, R94). -/
  | refselWrite (v : Word)
  /-- REACQUIRE: a write of 1 to CLK_CTRL.reacquire (R80, R95). -/
  | reacquire
  /-- SWAP: a write of 1 to CLK_CTRL.swap (R88, R95); `near`: the other reference lies within 100 ppm. -/
  | swap (near : Bool)
  /-- BAND_SEARCH_DONE: the band search ends (R77). -/
  | bandSearchDone (band : Fin 64)
  /-- PLL_LOCK: lock (R77) on a reference of `fref` Hz. -/
  | pllLock (fref : Nat)
  /-- ACQ_TIMEOUT: no lock within 2 ms (R79). -/
  | acqTimeout
  /-- FALLBACK_EXIT: the alignment point after lock (R84). -/
  | fallbackExit
  /-- PHASE_FREEZE: the phase detector freezes the loop (R85). -/
  | phaseFreeze
  /-- FREEZE_DECISION: the decision 1 µs after a freeze (R85). -/
  | freezeDecision (phaseOk near : Bool)
  /-- REF_LOST: a reference becomes invalid (R86). -/
  | refLost (ref : Fin 4)
  /-- REF_RETURNED: a reference becomes valid (R86, R87). -/
  | refReturned (ref : Fin 4) (near : Bool)
  /-- REFMON_REFRESH: the monitors are refreshed (R99). -/
  | refmonRefresh (count : Nat)
  /-- FRAME_BOUNDARY: the next frame boundary (R105). -/
  | frameBoundary (f : FrameIn)
  /-- TUMBLER_STAGE: a write to an RWT word (R118 to R121). -/
  | tumblerStage (a : Nat) (v : Word)
  /-- ARM: TUMB_CTRL command ARM (R122); `late`: the commit phase has begun. -/
  | arm (late : Bool)
  /-- ARM_AT: TUMB_CTRL command ARM_AT (R123). -/
  | armAt (late : Bool)
  /-- DISARM: TUMB_CTRL command DISARM (R125). -/
  | disarm (late : Bool)
  /-- DISCARD: TUMB_CTRL command DISCARD (R125). -/
  | discard
  /-- XP_RAMP_END: a gain ramp reaches its target (R112, R114). -/
  | xpRampEnd (c : Fin 8192)
  /-- FADE_SHADOW_END: a fade shadow ends (R115). -/
  | fadeShadowEnd (c : Fin 8192)
  /-- SERIAL_FADE_HALF: the first half of a serial fade ends (R115). -/
  | serialFadeHalf (c : Fin 8192)
  /-- ANAIN_SETTLE_END: a channel has settled (R146). -/
  | anainSettleEnd (n : Fin 8)
  /-- ADC_SLICE_SWAP: slices rotate (R148). -/
  | adcSliceSwap (n : Fin 8)
  /-- ADC_SLICE_CAL_DONE: a calibration ends, its trim beyond range or not (R149). -/
  | adcSliceCalDone (n : Fin 8) (beyond : Bool)
  /-- ADC_SLICE_CHECK_FAIL: slice `k` disagrees (R150). -/
  | adcSliceCheckFail (n : Fin 8) (k : Fin 9)
  /-- MICB_TRIP: a bias output trips (R156). -/
  | micbTrip (n : Fin 4)
  /-- PDM_CLK_LOST: a received clock stops (R161). -/
  | pdmClkLost (k : Fin 8)
  /-- PDM_CLK_RETURN: a received clock returns (R161). -/
  | pdmClkReturn (k : Fin 8)
  /-- PDM_SETTLE_END: an interval of R162 ends: of channel `k`, or of clock pin `k`. -/
  | pdmSettleEnd (ch : Bool) (k : Fin 32)
  /-- DAC_SLICE_SWAP: slices rotate (R179). -/
  | dacSliceSwap (o : Fin 10)
  /-- DAC_SLICE_CAL_DONE: a calibration ends (R180). -/
  | dacSliceCalDone (o : Fin 10) (beyond : Bool)
  /-- DAC_SLICE_CHECK_FAIL: slice `k` disagrees (R181). -/
  | dacSliceCheckFail (o : Fin 10) (k : Fin 10)
  /-- COMPLIANCE_TRIP: a pin leaves the window (R185). -/
  | complianceTrip (o : Fin 4)
  /-- COMPLIANCE_HIZ: the pin is still outside 1 ms after the hold (R185). -/
  | complianceHiz (o : Fin 4)
  /-- COMPLIANCE_CLEARED: software clears protect and hiz (R186). -/
  | complianceCleared (o : Fin 4)
  /-- COMPLIANCE_RECOVER: the pin has stayed inside for 1 ms (R186). -/
  | complianceRecover (o : Fin 4)
  /-- HP_CURRENT_LIMIT: a headphone channel stays in limit (R189). -/
  | hpCurrentLimit (h : Fin 2)
  /-- HP_PROTECT_CLEARED: software clears protect (R189). -/
  | hpProtectCleared (h : Fin 2)
  /-- PUMP_READY: the charge pump is ready (R188). -/
  | pumpReady
  /-- CHAIN_READY: the chain of an output becomes ready (R193). -/
  | chainReady (o : Fin 10)
  /-- OUTPUT_RUN: a write to CTRL.run (R193). -/
  | outputRun (o : Fin 10) (run : Bool)
  /-- OUT_CLR_ASSERT: OUT_CLR_N counts as low (R194). -/
  | outClrAssert
  /-- OUT_CLR_RELEASE: OUT_CLR_N counts as high (R194). -/
  | outClrRelease
  /-- HOLD_END: a hold ends (R195). -/
  | holdEnd (o : Fin 10)
  /-- SEGMENT_FAILING: a segment disagrees (R215, R216). -/
  | segmentFailing (n : Fin 4) (h : Fin 2) (seg : Fin 18) (cell : Fin 3)
  /-- SPK_SHORT_TRIP: a short circuit (R219). -/
  | spkShortTrip (n : Fin 4)
  /-- SPK_SHORT_CLEARED: software clears EVENTS.short (R219). -/
  | spkShortCleared (n : Fin 4)
  /-- SPK_DIAG: a write of 1 to CTRL.diag (R220). -/
  | spkDiag (n : Fin 4)
  /-- DIAG_DONE: a load diagnostic ends (R220, R221): the pin that failed a phase, or the resistance. -/
  | diagDone (n : Fin 4) (pin : Option Bool) (r : Nat)
  /-- PILOT_MEASURE: a pilot measurement ends (R222, R223). -/
  | pilotMeasure (n : Fin 4) (amps : Bool) (z : Nat)
  /-- SPK_PVDD_READY: PVDD is in range and the bootstrap is charged (R225). -/
  | spkPvddReady
  /-- PVDD_CUTOFF: PVDD below 7.0 V (R225). -/
  | pvddCutoff
  /-- PVDD_OVERVOLTAGE: PVDD above the overvoltage threshold (R225). -/
  | pvddOvervoltage
  /-- DERATE_STEP: a millisecond of derating at `t`/8 °C (R226). -/
  | derateStep (t : Int)
  /-- SPK_THERMAL_SHUTDOWN: die 2 at 140 °C (R227). -/
  | spkThermalShutdown (t : Int)
  /-- SPK_THERMAL_CLEARED: die 2 below 125 °C and the event cleared (R227). -/
  | spkThermalCleared (n : Fin 4) (t : Int)
  /-- SEQ_BLOCK_DONE: a block of a sequence ends (R242), a servo with its trim (R241). -/
  | seqBlockDone (o : Fin 10) (trim : Int) (limit : Bool)
  /-- SEQ_MUTE_WRITE: a write to SEQn_CTRL.mute (R243). -/
  | seqMuteWrite (o : Fin 10) (mute : Bool)
  /-- PERSONA_SEQUENCE: the boundary after an OUTPUT_PERSONA turn (R182, R245). -/
  | personaSequence (o : Fin 4)
  /-- JACK_RAW_CHANGE: a comparator changes (R248). -/
  | jackRawChange (k : Fin 4) (high : Bool)
  /-- JACK_DEBOUNCED: the raw state has held (R249). -/
  | jackDebounced (k : Fin 4)
  /-- JD_CFG_WRITE: a write to JDk_CFG (R249, R255). -/
  | jdCfgWrite (k : Fin 4) (v : Word)
  /-- HS_START: a write of 1 to HSh_CTRL.start (R250). -/
  | hsStart (h : Fin 2)
  /-- HS_ABORT: a write of 1 to HSh_CTRL.abort (R251). -/
  | hsAbort (h : Fin 2)
  /-- HS_SETTLE_END: the settle ends (R250). -/
  | hsSettleEnd (h : Fin 2)
  /-- HS_DETECT_DONE: averaging ends with |Z| of `z` ohms (R251). -/
  | hsDetectDone (h : Fin 2) (z : Nat)
  /-- BUTTON_SAMPLE: a button sample (R253). -/
  | buttonSample (h : Fin 2) (level : Nat) (reached : Bool)
  /-- BTNCFG_WRITE: a write to HSh_BTNCFG (R254). -/
  | btncfgWrite (h : Fin 2) (v : Word)
  /-- PORT_RUN_START: a write of 1 to a run bit (R277). -/
  | portRunStart (n : Fin 7) (tx : Bool)
  /-- PORT_RUN_STOP: a write of 0 to a run bit (R278). -/
  | portRunStop (n : Fin 7) (tx : Bool)
  /-- PORT_CLR_CNT: a write of 1 to clr_cnt (R295). -/
  | portClrCnt (n : Fin 7)
  /-- PORT_FRAME_RECEIVED: a receive pin frame completes (R271); the bits of its slots. -/
  | portFrameReceived (n : Fin 6) (slots : List Nat)
  /-- PORT_FS_EDGE: an FS edge after `bits` bit clocks (R275, R276). -/
  | portFsEdge (pair : Fin 12) (bits : Nat)
  /-- PORT_PIN_FRAME_START: a transmit pin frame starts (R273). -/
  | portPinFrameStart (n : Fin 7)
  /-- SPDIF_FRAME_RECEIVED: an S/PDIF frame arrives (R301 to R304). -/
  | spdifFrameReceived (f : SpdifIn)
  /-- NP_UNMUTE: PCM time reaches the hold (R313). -/
  | npUnmute (k : Fin 8)
  /-- RMON_STOP: a rate monitor declares a stop (R315). -/
  | rmonStop (m : Fin 13)
  /-- RMON_PERIOD: a period of `c` CLK_PER cycles ends (R314, R315). -/
  | rmonPeriod (m : Fin 13) (c : Nat)
  /-- RMON_CLR: a write to RMON_CTRL.clr (R325). -/
  | rmonClr (mask : Word)
  /-- ASRC_ACQUIRED: a ratio has settled (R318). -/
  | asrcAcquired (g : Fin 14)
  /-- ASRC_FADE_DONE: a fade ends (R318). -/
  | asrcFadeDone (g : Fin 14)
  /-- ASRC_HOLD_TIMEOUT: HOLD has lasted 64 frames (R318). -/
  | asrcHoldTimeout (g : Fin 14)
  /-- ASRC_CLR: a write to ASRC_CTRL.clr (R327). -/
  | asrcClr (mask : Word)
  /-- USB_OUT_PACKET: a playback packet (R334, R336). -/
  | usbOutPacket (bytes : List Byte)
  /-- USB_IN_TOKEN: an IN token (R336, R341); `up`: the adaptive size of R336 is the larger one. -/
  | usbInToken (ep : Fin 4) (up : Bool)
  /-- USB_SOF: a start of frame (R335), with the measured rate. -/
  | usbSof (frame micro : Nat) (meas : Int)
  /-- SET_INTERFACE: an alternate setting is selected (R337). -/
  | setInterface (cap : Bool) (alt ch sub res : Nat)
  /-- SET_CUR_SAMPLING_FREQ: SET_CUR of a sampling frequency (R338). -/
  | setCurSamplingFreq (cap : Bool) (hz : Nat)
  /-- USB_CLASS_REQUEST: a class or HID request (R339). -/
  | usbClassRequest (req : UsbClassReq)
  /-- USB_STANDARD_REQUEST: a standard request (R339). -/
  | usbStandardRequest (req : UsbStdReq)
  /-- FEATURE_UNIT_SET: SET_CUR of mute or volume (R340). -/
  | featureUnitSet (cap : Bool) (mute : Option Bool) (vol : Option Int)
  /-- SET_REPORT: an HID output report (R341). -/
  | setReport (report : Nat)
  /-- HIDIN_WRITE: a write to USB_HIDIN (R341, R344). -/
  | hidinWrite (v : Word)
  /-- USB_CONNECT: USB_VBUS has been present for 10 ms (R342). -/
  | usbConnect
  /-- USB_DISCONNECT: a condition of R342 ceases; `vbus`: USB_VBUS is still present. -/
  | usbDisconnect (vbus : Bool)
  /-- USB_SUSPEND: 3 ms of bus idle (R344). -/
  | usbSuspend
  /-- USB_RESUME: resume signalling, or a bus reset at high or full speed (R344). -/
  | usbResume (reset high : Bool)
  /-- LPM: an LPM transaction (R345). -/
  | lpm
  /-- USB_CTRL_WRITE: a write to USB_CTRL (R348). -/
  | usbCtrlWrite (v : Word)
  /-- ENGINE_BUNDLE: an engine issues a bundle (R356); `cycles`: CLK_CORE cycles since the last (R355). -/
  | engineBundle (e : Fin 16) (cycles : Nat) (env : Env)
  /-- INTERRUPT_TRAP: a normal-class interrupt is taken (R368). -/
  | interruptTrap (e : Fin 16) (errs : List EccErr)
  /-- FAST_ENTRY: a fast-class interrupt is taken (R369). -/
  | fastEntry (e : Fin 16) (errs : List EccErr)
  /-- WAIT_WAKE: a waiting engine goes on (R371). -/
  | waitWake (e : Fin 16) (cycles : Nat) (errs : List EccErr)
  /-- ENGINE_START: ENGn_CTRL command START (R384). -/
  | engineStart (e : Fin 16)
  /-- ENGINE_STOP: ENGn_CTRL command STOP (R384). -/
  | engineStop (e : Fin 16)
  /-- ENGINE_RESUME: ENGn_CTRL command RESUME (R384). -/
  | engineResume (e : Fin 16)
  /-- ENGINE_STEP: ENGn_CTRL command STEP (R384). -/
  | engineStep (e : Fin 16) (env : Env)
  /-- ENGINE_CLR_CNT: a write of 1 to ENGn_CTRL.clr_cnt (R381). -/
  | engineClrCnt (e : Fin 16)
  /-- DOORBELL: a write to ENGn_DOORBELL (R380). -/
  | doorbell (e : Fin 16) (v : Word)
  /-- REGDATA_WRITE: a write to ENGn_REGDATA (R383). -/
  | regdataWrite (e : Fin 16) (v : Word)
  /-- RING_CONFIG_WRITE: a write to RINGIN, RINGOUT or RINGGEOM (R379). -/
  | ringConfigWrite (e : Fin 16) (which : Fin 3) (v : Word)
  /-- ECC_WRITEBACK: a corrected word is written back (R393). -/
  | eccWriteback (a : Nat)
  /-- SCRUB_READ: the scrubber reads a word (R395). -/
  | scrubRead (a : Nat) (errs : List EccErr)
  /-- REPAIR_COPY_DONE: a repair copy ends (R396, R521). -/
  | repairCopyDone (loc kind : Nat)
  /-- WINDOW_WRITE: a write to a window word (R400). -/
  | windowWrite (set : Fin 64) (win : Fin 16) (pa : Bool) (v : Word)
  /-- LBX_WIPE_DONE: a lockbox wipe ends (R402, R531). -/
  | lbxWipeDone
  /-- MEM_CTRL_WRITE: a write to MEM_CTRL (R407). -/
  | memCtrlWrite (v : Word)
  /-- DMA_START: DMA command START (R431). -/
  | dmaStart (c : Fin 64)
  /-- DMA_STOP: DMA command STOP (R421). -/
  | dmaStop (c : Fin 64)
  /-- DMA_RESUME: DMA command RESUME (R420). -/
  | dmaResume (c : Fin 64)
  /-- KICK: DMA command KICK (R413). -/
  | kick (c : Fin 64)
  /-- DMA_CLR_CNT: a write of 1 to DMA_CHc_CTRL.clr_cnt (R430). -/
  | dmaClrCnt (c : Fin 64)
  /-- DMA_CFG_WRITE: a write to DMA_CHc_CFG or DMA_CHc_DESC (R429, R430). -/
  | dmaCfgWrite (c : Fin 64) (desc : Bool) (v : Word)
  /-- DESC_FETCH: a descriptor fetch completes (R413). -/
  | descFetch (c : Fin 64) (env : Env)
  /-- DMA_READ_RETURN: the read of beat `k` in flight returns (R414, R417). -/
  | dmaReadReturn (c : Fin 64) (k : Fin 4) (env : Env)
  /-- DMA_BEAT_COMMIT: the write of the lowest beat is granted (R415). -/
  | dmaBeatCommit (c : Fin 64) (env : Env)
  /-- DESC_COMPLETE: a descriptor completes (R413). -/
  | descComplete (c : Fin 64) (env : Env)
  /-- DMA_STALL: no beat has committed for timeout boundaries (R427). -/
  | dmaStall (c : Fin 64)
  /-- COAL_TIMER_EXPIRE: a coalescer timer expires (R441). -/
  | coalTimerExpire (k : Fin 2048)
  /-- CLAIM: a read of a claim register (R444). -/
  | claim (t : Fin 18) (fast : Bool)
  /-- COMPLETE: a write to a claim register (R446). -/
  | complete (t : Fin 18) (fast : Bool) (id : Fin 1024)
  /-- SWSET: a write to INTC_SWSET (R452). -/
  | swset (v : Word)
  /-- INTC_HOLD_WRITE: a write to INTC_CTRL.hold (R449). -/
  | intcHoldWrite (hold : Bool)
  /-- INTC_CFG_WRITE: a write to a source's configuration or coalescer (R454, R455). -/
  | intcCfgWrite (k : Fin 2048) (coal : Bool) (v : Word)
  /-- EXTINT_CHANGE: a filtered EXTINT level changes (R450). -/
  | extintChange (k : Fin 16) (high : Bool)
  /-- LINK_FRAME_RX: a link frame arrives (R461 to R475). -/
  | linkFrameRx (p : Fin 3) (f : LinkIn)
  /-- LINK_RANGING_DONE: ranging over 32 base frames ends (R469, R471, R483). -/
  | linkRangingDone (same : Bool)
  /-- LINK_ROOT_LOSS: root loss (R482). -/
  | linkRootLoss
  /-- APP: an APP message arrives (R477 to R479). -/
  | app (p : Fin 3) (m : List Byte)
  /-- ASSIGN: an ASSIGN message arrives (R466, R479). -/
  | assign (p : Fin 3) (m : List Byte)
  /-- JOIN: a JOIN message arrives (R479). -/
  | join (p : Fin 3) (m : List Byte)
  /-- LINK_RESET: a RESET message arrives (R479). -/
  | linkReset (p : Fin 3) (m : List Byte)
  /-- BOOT_DATA: a BOOT_DATA message arrives (R479, R481). -/
  | bootData (p : Fin 3) (m : List Byte)
  /-- LINK_SEND: a write of 1 to LINK_TXCTRL.send (R488). -/
  | linkSend
  /-- LINK_POP: a write of 1 to LINK_RXSTAT.pop (R488). -/
  | linkPop
  /-- LINK_NODEID_WRITE: a write to LINK_NODEID (R466, R487). -/
  | linkNodeidWrite (v : Word)
  /-- LINK_IDLE: a write of 1 to LINK_PORTp_CTRL.idle (R484). -/
  | linkIdle (p : Fin 3)
  /-- LINK_WAKE: a write of 1 to wake with idle as it reads, or of 0 to idle (R485). -/
  | linkWake (p : Fin 3) (wake : Bool)
  /-- SQUELCH_WAKE: activity on an idle port (R485, R549). -/
  | squelchWake (p : Fin 3)
  /-- LINK_CLR_CNT: a write of 1 to LINK_CTRL.clr_cnt (R487). -/
  | linkClrCnt
  /-- HINGE_FRAME_RX: a hinge frame arrives (R497 to R501, R504). -/
  | hingeFrameRx (f : HingeIn)
  /-- PAIR_WAIT_EXPIRE: pair_wait ends (R493). -/
  | pairWaitExpire
  /-- STANDBY_SYNC: the announced boundary of a synchronisation (R496). -/
  | standbySync (f : FrameIn)
  /-- PAIR_SYNC_TIMEOUT: STANDBY not reached in 50 ms (R496). -/
  | pairSyncTimeout
  /-- HEARTBEAT_MISS: no heartbeat by b + 1 µs (R506, R509, R510). -/
  | heartbeatMiss (high priOk : Bool)
  /-- DEADMAN_FIRE: the dead-man circuit fires (R507). -/
  | deadmanFire
  /-- PARTNER_LOST: no valid partner frame for six base frames (R510). -/
  | partnerLost
  /-- DETACH: HINGE_CTRL command DETACH (R511). -/
  | detach
  /-- ATTACH: HINGE_CTRL command ATTACH (R511). -/
  | attach
  /-- RESET_TWIN: HINGE_CTRL command RESET_TWIN (R511). -/
  | resetTwin
  /-- HINGE_CLR_CNT: a write of 1 to HINGE_CTRL.clr_cnt (R513). -/
  | hingeClrCnt
  /-- TILE_SWAP: REP_CTRL command TILE_SWAP (R522). -/
  | tileSwap (n : Fin 16)
  /-- TILE_SWAP_DONE: the copy of a tile swap has ended and a boundary has come (R522). -/
  | tileSwapDone
  /-- REPAIR_BURN_START: a queued repair begins to burn (R524). -/
  | repairBurnStart
  /-- REPAIR_BURN_DONE: a burn is sealed (R524). -/
  | repairBurnDone
  /-- KT_WRITE: a write to the KT register of a setting (R526). -/
  | ktWrite (setting : Fin 26) (v : Word)
  /-- KT_HOLDING_WRITE: a write to a holding word (R528). -/
  | ktHoldingWrite (w : Fin 8) (v : Word)
  /-- KT_SEAL: a turn is sealed (R525, R527, R531). -/
  | ktSeal
  /-- TAMPER: a tamper event (R533, R534). -/
  | tamper (cause : Fin 3)
  /-- VIOL_CLEAR: a write to VIOL_CNTi (R537). -/
  | violClear (cat : Fin 16) (v : Word)
  /-- PWR_TRANSACTION: an access that writes PWR_TARGET (R545). -/
  | pwrTransaction (ws : List (Fin 3 × Word))
  /-- QUIESCE_AGREE: a waiting domain agrees (R546). -/
  | quiesceAgree (k : Fin 46)
  /-- QUIESCE_TIMEOUT: qtime ends (R546, R547). -/
  | quiesceTimeout
  /-- PWR_COMMIT: all domains have agreed (R546). -/
  | pwrCommit
  /-- DOMAIN_ARRIVE: a rising domain arrives (R550, R608). -/
  | domainArrive (k : Fin 46)
  /-- WAKE: a wake event (R548, R549). -/
  | wake (src : Fin 6)
  /-- WAKE_PIN: a low level on WAKE0 or WAKE1 (R549). -/
  | wakePin (k : Fin 2)
  /-- PWR_CLKSEL_WRITE: a write to PWR_CLKSEL (R550, R566). -/
  | pwrClkselWrite (w : Fin 2) (v : Word)
  /-- DOMAIN_CLK_SWITCH: a domain moves to PLL clocks (R550). -/
  | domainClkSwitch (k : Fin 46)
  /-- SHACKLE_RELEASE: a write to PWR_SHACKLE (R553). -/
  | shackleRelease (w : Fin 2) (v : Word)
  /-- WDT_KICK: a write to SYS_WDTKICK with the key (R556). -/
  | wdtKick
  /-- WDTCFG_WRITE: a write to SYS_WDTCFG (R556). -/
  | wdtcfgWrite (v : Word)
  /-- WATCHDOG_PRE: the watchdog nears expiry (R556). -/
  | watchdogPre
  /-- SUPPLY_WARNING: a supply falls below its warning threshold (R560). -/
  | supplyWarning (sup : Fin 4) (mv : Nat)
  /-- SUPPLY_RECOVER: a supply recovers (R561). -/
  | supplyRecover (sup : Fin 4) (mv : Nat)
  /-- RESUME: a write of 1 to MON_CTRL.resume (R561). -/
  | resume
  /-- THERMAL_WARNING: a die at 115 °C (R563). -/
  | thermalWarning (k : Fin 3) (t : Int)
  /-- DIE0_THROTTLE: die 0 at 125 °C (R564). -/
  | die0Throttle (t : Int)
  /-- DIE0_THROTTLE_END: die 0 below 120 °C (R564). -/
  | die0ThrottleEnd (t : Int)
  /-- DIE0_SHUTDOWN: die 0 at 135 °C, or throttled for 50 ms (R564). -/
  | die0Shutdown (t : Int) (long : Bool)
  /-- I2C_WRITE: an I2C write (R573, R574). -/
  | i2cWrite (env : Env) (adr : Fin 128) (reg : Nat) (bytes : List Byte)
  /-- I2C_SET_POINTER: an I2C address phase alone (R573). -/
  | i2cSetPointer (adr : Fin 128) (reg : Nat)
  /-- I2C_READ: an I2C read (R575). -/
  | i2cRead (env : Env) (adr : Fin 128) (words : Nat)
  /-- I2C_ABORT: an irregular condition on the bus (R577). -/
  | i2cAbort
  /-- I2C_STUCK: a line held low (R577). -/
  | i2cStuck
  /-- I2C_STRETCH_TIMEOUT: 500 µs of stretching (R576). -/
  | i2cStretchTimeout
  /-- SPI_WRITE: SPI command 0x02 (R578 to R581). -/
  | spiWrite (env : Env) (adr bytes : List Byte) (cut : Bool)
  /-- SPI_READ: SPI command 0x03 (R578 to R581). -/
  | spiRead (env : Env) (adr : List Byte) (words : Nat) (late : List Nat) (cut : Bool)
  /-- SPI_STATUS: SPI command 0x05 (R582). -/
  | spiStatus
  /-- QSPI_GO: a write of 1 to QSPI_CMD.go (R584). -/
  | qspiGo (v : Word)
  /-- QSPI_DONE: a flash command ends (R584), with the bytes it read. -/
  | qspiDone (bytes : List Byte)
  /-- REGISTER_WRITE: a write of the host to any register or memory word (R7, R9, R29 to R32). -/
  | registerWrite (env : Env) (a : Nat) (v : Word)
  /-- FLASH_LOAD_FAIL: the image in the flash slot fails (R47). -/
  | flashLoadFail (img : List Byte)
  /-- SPI_UNKNOWN_COMMAND: another SPI command (R581). -/
  | spiUnknownCommand (cmd : Nat)
  deriving DecidableEq, Repr

end Sys2Proof
end

