-- ==== Sys2Proof/Decode.lean ====
section
/-! DEFINITION. The command that a word spells. The opcode table gives no row any bits: commands come over pins and buses, not
as words of an instruction stream, so no word spells one. -/
namespace Sys2Proof

/-- The command that `nbits` bits with value `w` spell by the table's bits: none has any. -/
def decodeTableWord (_nbits _w : Nat) : Option Instr := none

end Sys2Proof
end

