-- ==== Sys2Proof/Config.lean ====
section
/-! DEFINITION. What the spec leaves open: values with no body, of which nothing can be proved. A statement about them holds
for every value. Each is named in the assumption log. -/
namespace Sys2Proof

/-- The value taken at the `n`-th taking of a free value (log 3). -/
opaque Config.freeValue : Nat → Word

/-- A converter's output sample at the `n`-th taking, for slot `k` (chapter 10 gives performance, no samples; log 40). -/
opaque Config.asrcSample (n k : Nat) : Sample

/-- A sample of the fixed-ratio filter of the USB function at the `n`-th taking, for channel `k` (R331 gives its figures). -/
opaque Config.usbSample (n k : Nat) : Sample

/-- The device secret burned in manufacture (R39): 32 bytes, most significant first. -/
opaque Config.deviceSecret : Nat

/-- PVDD in mV from which SPK_PVDD.low clears, and up to which SPK_PVDD.high clears (R225 gives the detecting side). -/
opaque Config.pvddLow : Nat
opaque Config.pvddHigh : Nat

end Sys2Proof
end

