-- ==== Sys2Proof/Machine/Fields.lean ====
section
/-! DEFINITION. The addresses of the registers and the places of their fields, from the register tables of spec/
(the rule is cited at each). Addresses are those of the global map R27; a crosspoint window word carries its page as
page × 2^32 above its window address (R132, R137). -/
namespace Sys2Proof.Machine

/-- A field of a register: the register's address and the field's bits hi:lo (R2). -/
structure Fld where
  addr : Nat
  hi : Nat
  lo : Nat
  deriving DecidableEq, Repr

/-- The number of bits of a field. -/
def Fld.width (f : Fld) : Nat := f.hi + 1 - f.lo

/-- The base address of output `o`: 0–3 line (R203), 4–5 headphone, 6–9 speaker (R232). -/
def outBase (o : Nat) : Nat :=
  if o < 4 then 0x890000 + 0x40 * o else if o < 6 then 0x891000 + 0x40 * (o - 4) else 0x892000 + 0x40 * (o - 6)

/-- SYS_PARTID; R11. -/
def Reg.sysPartid : Nat := 0x800000
/-- SYS_REVID; R12. -/
def Reg.sysRevid : Nat := 0x800004
/-- SYS_TILEMAP; R24. -/
def Reg.sysTilemap (w : Nat) : Nat := 0x800010 + 0x4 * w
/-- BOOT_STATUS; R65. -/
def Reg.bootStatus : Nat := 0x8E8000
/-- BOOT_RESULT; R66. -/
def Reg.bootResult (n : Nat) : Nat := 0x8E8004 + 0x4 * n
/-- BOOT_CTRL; R68. -/
def Reg.bootCtrl : Nat := 0x8E8020
/-- BOOT_HOSTDATA; R69. -/
def Reg.bootHostdata : Nat := 0x8E8024
/-- BOOT_LIVESTAT; R69. -/
def Reg.bootLivestat : Nat := 0x8E8028
/-- BOOT_RUNVER; R69. -/
def Reg.bootRunver : Nat := 0x8E802C
/-- BOOT_RUNLIKE0; R69. -/
def Reg.bootRunlike0 : Nat := 0x8E8030
/-- BOOT_RUNLIKE1; R69. -/
def Reg.bootRunlike1 : Nat := 0x8E8034
/-- BOOT_RUNHASH; R69. -/
def Reg.bootRunhash (w : Nat) : Nat := 0x8E8040 + 0x4 * w
/-- CLK_PLLCFG; R92. -/
def Reg.clkPllcfg : Nat := 0x810000
/-- CLK_PLLFRAC; R93. -/
def Reg.clkPllfrac : Nat := 0x810004
/-- CLK_REFSEL; R94. -/
def Reg.clkRefsel : Nat := 0x810008
/-- CLK_CTRL; R95. -/
def Reg.clkCtrl : Nat := 0x81000C
/-- CLK_PLAN; R96. -/
def Reg.clkPlan : Nat := 0x810010
/-- CLK_STATUS; R97. -/
def Reg.clkStatus : Nat := 0x810014
/-- CLK_EVENTS; R98. -/
def Reg.clkEvents : Nat := 0x810018
/-- CLK_REFMON; R99. -/
def Reg.clkRefmon : Nat := 0x81001C
/-- KEY_STATUS; R128. -/
def Reg.keyStatus : Nat := 0x850000
/-- KEY_FRAMECNT; R129. -/
def Reg.keyFramecnt : Nat := 0x850004
/-- KEY_USAGE; R130. -/
def Reg.keyUsage : Nat := 0x850008
/-- KEY_FADE; R131. -/
def Reg.keyFade : Nat := 0x85000C
/-- KEY_XPPAGE; R132. -/
def Reg.keyXppage : Nat := 0x850010
/-- KEY_EVENTS; R133. -/
def Reg.keyEvents : Nat := 0x850014
/-- KEY_REFUSE; R134. -/
def Reg.keyRefuse : Nat := 0x850018
/-- KEY_SAT; R135. -/
def Reg.keySat (n : Nat) : Nat := 0x850020 + 0x4 * n
/-- KEY_ROUTE; R136. -/
def Reg.keyRoute (n : Nat) : Nat := 0x851000 + 0x4 * n
/-- KEY_XPCFG; R137. -/
def Reg.keyXpcfg (m : Nat) (page : Nat) : Nat := 0x854000 + 0x8 * m + 0x100000000 * page
/-- KEY_XPGAIN; R138. -/
def Reg.keyXpgain (m : Nat) (page : Nat) : Nat := 0x854004 + 0x8 * m + 0x100000000 * page
/-- TUMB_CTRL; R139. -/
def Reg.tumbCtrl : Nat := 0x858000
/-- TUMB_STATUS; R140. -/
def Reg.tumbStatus : Nat := 0x858004
/-- TUMB_ATFRAME; R141. -/
def Reg.tumbAtframe : Nat := 0x858008
/-- TUMB_LASTCOMMIT; R141. -/
def Reg.tumbLastcommit : Nat := 0x85800C
/-- TUMB_COMMITS; R141. -/
def Reg.tumbCommits : Nat := 0x858010
/-- TUMB_ENTRY_A; R141. -/
def Reg.tumbEntryA (n : Nat) : Nat := 0x858400 + 0x8 * n
/-- TUMB_ENTRY_V; R141. -/
def Reg.tumbEntryV (n : Nat) : Nat := 0x858404 + 0x8 * n
/-- ANAIN_CH_CFG; R165. -/
def Reg.anainChCfg (n : Nat) : Nat := 0x880000 + 0x20 * n
/-- ANAIN_CH_STATUS; R166. -/
def Reg.anainChStatus (n : Nat) : Nat := 0x880004 + 0x20 * n
/-- ANAIN_CH_EVENTS; R167. -/
def Reg.anainChEvents (n : Nat) : Nat := 0x880008 + 0x20 * n
/-- MICB_CFG; R168. -/
def Reg.micbCfg (n : Nat) : Nat := 0x880100 + 0x4 * n
/-- MICB_STATUS; R169. -/
def Reg.micbStatus : Nat := 0x880110
/-- MICB_EVENTS; R169. -/
def Reg.micbEvents : Nat := 0x880114
/-- ANAIN_CALCTRL; R170. -/
def Reg.anainCalctrl : Nat := 0x880120
/-- PDM_CLK_CFG; R171. -/
def Reg.pdmClkCfg (k : Nat) : Nat := 0x870000 + 0x4 * k
/-- PDM_CH_CFG; R172. -/
def Reg.pdmChCfg (c : Nat) : Nat := 0x870100 + 0x4 * c
/-- PDM_SETTLE; R173. -/
def Reg.pdmSettle : Nat := 0x870200
/-- PDM_STATUS; R173. -/
def Reg.pdmStatus : Nat := 0x870204
/-- PDM_EVENTS; R173. -/
def Reg.pdmEvents : Nat := 0x870208
/-- OUT_CFG of output o (0–3 LO, 4–5 HP, 6–9 SPK); R203–R207, R232–R235. -/
def Reg.outCfg (o : Nat) : Nat := outBase o + 0
/-- OUT_CODES of output o (0–3 LO, 4–5 HP, 6–9 SPK); R203–R207, R232–R235. -/
def Reg.outCodes (o : Nat) : Nat := outBase o + 4
/-- OUT_CTRL of output o (0–3 LO, 4–5 HP, 6–9 SPK); R203–R207, R232–R235. -/
def Reg.outCtrl (o : Nat) : Nat := outBase o + 8
/-- OUT_STATUS of output o (0–3 LO, 4–5 HP, 6–9 SPK); R203–R207, R232–R235. -/
def Reg.outStatus (o : Nat) : Nat := outBase o + 12
/-- OUT_EVENTS of output o (0–3 LO, 4–5 HP, 6–9 SPK); R203–R207, R232–R235. -/
def Reg.outEvents (o : Nat) : Nat := outBase o + 16
/-- OUT_CLRSTAT; R208. -/
def Reg.outClrstat : Nat := 0x890F00
/-- OUT_CALCTRL; R208. -/
def Reg.outCalctrl : Nat := 0x890F04
/-- HP_PUMP; R208. -/
def Reg.hpPump : Nat := 0x891100
/-- TONE_CFG; R209. -/
def Reg.toneCfg (k : Nat) : Nat := 0x893000 + 0x10 * k
/-- TONE_FREQ; R209. -/
def Reg.toneFreq (k : Nat) : Nat := 0x893004 + 0x10 * k
/-- TONE_PHASE; R209. -/
def Reg.tonePhase (k : Nat) : Nat := 0x893008 + 0x10 * k
/-- SPK_CFG; R232. -/
def Reg.spkCfg (n : Nat) : Nat := 0x892000 + 0x40 * n
/-- SPK_CTRL; R233. -/
def Reg.spkCtrl (n : Nat) : Nat := 0x892008 + 0x40 * n
/-- SPK_STATUS; R234. -/
def Reg.spkStatus (n : Nat) : Nat := 0x89200C + 0x40 * n
/-- SPK_EVENTS; R235. -/
def Reg.spkEvents (n : Nat) : Nat := 0x892010 + 0x40 * n
/-- SPK_SEGP; R236. -/
def Reg.spkSegp (n : Nat) : Nat := 0x892014 + 0x40 * n
/-- SPK_SEGN; R236. -/
def Reg.spkSegn (n : Nat) : Nat := 0x892018 + 0x40 * n
/-- SPK_DIAGCFG; R237. -/
def Reg.spkDiagcfg (n : Nat) : Nat := 0x89201C + 0x40 * n
/-- SPK_DIAG; R237. -/
def Reg.spkDiag (n : Nat) : Nat := 0x892020 + 0x40 * n
/-- SPK_PILOT; R237. -/
def Reg.spkPilot (n : Nat) : Nat := 0x892024 + 0x40 * n
/-- SPK_PILOTSTAT; R237. -/
def Reg.spkPilotstat (n : Nat) : Nat := 0x892028 + 0x40 * n
/-- SPK_LIMITS; R237. -/
def Reg.spkLimits (n : Nat) : Nat := 0x89202C + 0x40 * n
/-- SPK_PVDD; R238. -/
def Reg.spkPvdd : Nat := 0x892F00
/-- SPK_THERM; R238. -/
def Reg.spkTherm : Nat := 0x892F04
/-- SPK_PAIR; R238. -/
def Reg.spkPair : Nat := 0x892F08
/-- JD_CFG; R255. -/
def Reg.jdCfg (k : Nat) : Nat := 0x8A0000 + 0x8 * k
/-- JD_MUTE; R256. -/
def Reg.jdMute (k : Nat) : Nat := 0x8A0004 + 0x8 * k
/-- JACK_STATUS; R257. -/
def Reg.jackStatus : Nat := 0x8A0040
/-- JACK_EVENTS; R257. -/
def Reg.jackEvents : Nat := 0x8A0044
/-- HS_CFG; R258. -/
def Reg.hsCfg (h : Nat) : Nat := 0x8A0060 + 0x20 * h
/-- HS_CTRL; R258. -/
def Reg.hsCtrl (h : Nat) : Nat := 0x8A0064 + 0x20 * h
/-- HS_RES; R258. -/
def Reg.hsRes (h : Nat) : Nat := 0x8A0068 + 0x20 * h
/-- HS_BTNCFG; R258. -/
def Reg.hsBtncfg (h : Nat) : Nat := 0x8A006C + 0x20 * h
/-- HS_BTNSTAT; R258. -/
def Reg.hsBtnstat (h : Nat) : Nat := 0x8A0070 + 0x20 * h
/-- SEQ_CFG; R259. -/
def Reg.seqCfg (n : Nat) : Nat := 0x8A0100 + 0x10 * n
/-- SEQ_CTRL; R260. -/
def Reg.seqCtrl (n : Nat) : Nat := 0x8A0104 + 0x10 * n
/-- SEQ_STATUS; R260. -/
def Reg.seqStatus (n : Nat) : Nat := 0x8A0108 + 0x10 * n
/-- SEQ_TRIM; R260. -/
def Reg.seqTrim (n : Nat) : Nat := 0x8A010C + 0x10 * n
/-- SEQ_EVENTS; R261. -/
def Reg.seqEvents : Nat := 0x8A01A0
/-- PORT_FMT; R291. -/
def Reg.portFmt (n : Nat) : Nat := 0x860000 + 0x1000 * n
/-- PORT_CLK; R292. -/
def Reg.portClk (n : Nat) : Nat := 0x860004 + 0x1000 * n
/-- PORT_PATH; R293. -/
def Reg.portPath (n : Nat) : Nat := 0x860008 + 0x1000 * n
/-- PORT_SLOTMASK; R294. -/
def Reg.portSlotmask (n : Nat) : Nat := 0x86000C + 0x1000 * n
/-- PORT_CTRL; R295. -/
def Reg.portCtrl (n : Nat) : Nat := 0x860010 + 0x1000 * n
/-- PORT_SILENT; R296. -/
def Reg.portSilent (n : Nat) : Nat := 0x860014 + 0x1000 * n
/-- PORT_STATUS; R297. -/
def Reg.portStatus (n : Nat) : Nat := 0x860018 + 0x1000 * n
/-- PORT_EVENTS; R298. -/
def Reg.portEvents (n : Nat) : Nat := 0x86001C + 0x1000 * n
/-- PORT_COUNT0; R299. -/
def Reg.portCount0 (n : Nat) : Nat := 0x860020 + 0x1000 * n
/-- PORT_COUNT1; R299. -/
def Reg.portCount1 (n : Nat) : Nat := 0x860024 + 0x1000 * n
/-- PORT_COUNT2; R299. -/
def Reg.portCount2 (n : Nat) : Nat := 0x860028 + 0x1000 * n
/-- PORT_RXFRAME; R299. -/
def Reg.portRxframe (n : Nat) : Nat := 0x86002C + 0x1000 * n
/-- PORT_TXFRAME; R299. -/
def Reg.portTxframe (n : Nat) : Nat := 0x860030 + 0x1000 * n
/-- SPDIF_CFG; R321. -/
def Reg.spdifCfg : Nat := 0x868000
/-- SPDIF_CTRL; R322. -/
def Reg.spdifCtrl : Nat := 0x868004
/-- SPDIF_SILENT; R322. -/
def Reg.spdifSilent : Nat := 0x868008
/-- SPDIF_STATUS; R322. -/
def Reg.spdifStatus : Nat := 0x86800C
/-- SPDIF_EVENTS; R322. -/
def Reg.spdifEvents : Nat := 0x868010
/-- SPDIF_COUNT0; R322. -/
def Reg.spdifCount0 : Nat := 0x868014
/-- SPDIF_COUNT1; R322. -/
def Reg.spdifCount1 : Nat := 0x868018
/-- SPDIF_COUNT2; R322. -/
def Reg.spdifCount2 : Nat := 0x86801C
/-- SPDIF_COUNT3; R322. -/
def Reg.spdifCount3 : Nat := 0x868020
/-- SPDIF_TXVAL; R322. -/
def Reg.spdifTxval : Nat := 0x868024
/-- SPDIF_RXCSA; R322. -/
def Reg.spdifRxcsa (w : Nat) : Nat := 0x868040 + 0x4 * w
/-- SPDIF_RXCSB; R322. -/
def Reg.spdifRxcsb (w : Nat) : Nat := 0x868060 + 0x4 * w
/-- SPDIF_TXCS; R322. -/
def Reg.spdifTxcs (w : Nat) : Nat := 0x868080 + 0x4 * w
/-- SPDIF_NPCFG; R323. -/
def Reg.spdifNpcfg : Nat := 0x8680A0
/-- SPDIF_IECMAP; R323. -/
def Reg.spdifIecmap (n : Nat) : Nat := 0x8680C0 + 0x4 * n
/-- SPDIF_NPSTAT; R323. -/
def Reg.spdifNpstat (k : Nat) : Nat := 0x8680E0 + 0x4 * k
/-- RMON_STATUS; R324. -/
def Reg.rmonStatus (m : Nat) : Nat := 0x869000 + 0x10 * m
/-- RMON_COUNT; R324. -/
def Reg.rmonCount (m : Nat) : Nat := 0x869004 + 0x10 * m
/-- RMON_CTRL; R325. -/
def Reg.rmonCtrl : Nat := 0x8690F0
/-- RMON_EVENTS0; R325. -/
def Reg.rmonEvents0 : Nat := 0x8690F4
/-- RMON_EVENTS1; R325. -/
def Reg.rmonEvents1 : Nat := 0x8690F8
/-- ASRC_G_CFG; R326. -/
def Reg.asrcGCfg (g : Nat) : Nat := 0x878000 + 0x10 * g
/-- ASRC_G_STATUS; R326. -/
def Reg.asrcGStatus (g : Nat) : Nat := 0x878004 + 0x10 * g
/-- ASRC_G_RATIO; R326. -/
def Reg.asrcGRatio (g : Nat) : Nat := 0x878008 + 0x10 * g
/-- ASRC_G_COUNT; R326. -/
def Reg.asrcGCount (g : Nat) : Nat := 0x87800C + 0x10 * g
/-- ASRC_CTRL; R327. -/
def Reg.asrcCtrl : Nat := 0x8780F0
/-- ASRC_EVENTS; R327. -/
def Reg.asrcEvents : Nat := 0x8780F4
/-- USB_CTRL; R348. -/
def Reg.usbCtrl : Nat := 0x8D0000
/-- USB_STATUS; R349. -/
def Reg.usbStatus : Nat := 0x8D0004
/-- USB_RATE; R350. -/
def Reg.usbRate : Nat := 0x8D0008
/-- USB_FEEDBACK; R351. -/
def Reg.usbFeedback : Nat := 0x8D000C
/-- USB_FILL; R351. -/
def Reg.usbFill : Nat := 0x8D0010
/-- USB_EVENTS; R351. -/
def Reg.usbEvents : Nat := 0x8D0014
/-- USB_COUNT0; R351. -/
def Reg.usbCount0 : Nat := 0x8D0018
/-- USB_COUNT1; R351. -/
def Reg.usbCount1 : Nat := 0x8D001C
/-- USB_FUPLAY; R351. -/
def Reg.usbFuplay : Nat := 0x8D0020
/-- USB_FUCAP; R351. -/
def Reg.usbFucap : Nat := 0x8D0024
/-- USB_HIDIN; R351. -/
def Reg.usbHidin : Nat := 0x8D0028
/-- USB_HIDOUT; R351. -/
def Reg.usbHidout : Nat := 0x8D002C
/-- USB_SOF; R351. -/
def Reg.usbSof : Nat := 0x8D0030
/-- ENG_CTRL; R381. -/
def Reg.engCtrl (n : Nat) : Nat := 0xA00000 + 0x1000 * n
/-- ENG_STATUS; R382. -/
def Reg.engStatus (n : Nat) : Nat := 0xA00004 + 0x1000 * n
/-- ENG_ENTRY; R383. -/
def Reg.engEntry (n : Nat) : Nat := 0xA00008 + 0x1000 * n
/-- ENG_PC; R383. -/
def Reg.engPc (n : Nat) : Nat := 0xA0000C + 0x1000 * n
/-- ENG_HALTREC0; R383. -/
def Reg.engHaltrec0 (n : Nat) : Nat := 0xA00010 + 0x1000 * n
/-- ENG_HALTREC1; R383. -/
def Reg.engHaltrec1 (n : Nat) : Nat := 0xA00014 + 0x1000 * n
/-- ENG_HALTREC2; R383. -/
def Reg.engHaltrec2 (n : Nat) : Nat := 0xA00018 + 0x1000 * n
/-- ENG_HALTREC3; R383. -/
def Reg.engHaltrec3 (n : Nat) : Nat := 0xA0001C + 0x1000 * n
/-- ENG_RINGIN; R383. -/
def Reg.engRingin (n : Nat) : Nat := 0xA00020 + 0x1000 * n
/-- ENG_RINGOUT; R383. -/
def Reg.engRingout (n : Nat) : Nat := 0xA00024 + 0x1000 * n
/-- ENG_RINGGEOM; R383. -/
def Reg.engRinggeom (n : Nat) : Nat := 0xA00028 + 0x1000 * n
/-- ENG_RINGSTAT; R383. -/
def Reg.engRingstat (n : Nat) : Nat := 0xA0002C + 0x1000 * n
/-- ENG_DOORBELL; R383. -/
def Reg.engDoorbell (n : Nat) : Nat := 0xA00030 + 0x1000 * n
/-- ENG_LOAD; R383. -/
def Reg.engLoad (n : Nat) : Nat := 0xA00034 + 0x1000 * n
/-- ENG_REGSEL; R383. -/
def Reg.engRegsel (n : Nat) : Nat := 0xA00038 + 0x1000 * n
/-- ENG_REGDATA; R383. -/
def Reg.engRegdata (n : Nat) : Nat := 0xA0003C + 0x1000 * n
/-- WIN_VA; R404. -/
def Reg.winVa (j : Nat) (s : Nat) : Nat := 0x848000 + 0x8 * j + 0x80 * s
/-- WIN_PA; R405. -/
def Reg.winPa (j : Nat) (s : Nat) : Nat := 0x848004 + 0x8 * j + 0x80 * s
/-- MEM_HASHKEY; R406. -/
def Reg.memHashkey : Nat := 0x84A000
/-- MEM_SCRUBCFG; R406. -/
def Reg.memScrubcfg : Nat := 0x84A004
/-- MEM_CTRL; R407. -/
def Reg.memCtrl : Nat := 0x84A008
/-- MEM_EVENTS; R407. -/
def Reg.memEvents : Nat := 0x84A00C
/-- MEM_ECCCNT; R408. -/
def Reg.memEcccnt : Nat := 0x84A010
/-- MEM_CELOC; R408. -/
def Reg.memCeloc : Nat := 0x84A014
/-- MEM_CEINFO; R408. -/
def Reg.memCeinfo : Nat := 0x84A018
/-- MEM_UELOC; R408. -/
def Reg.memUeloc : Nat := 0x84A01C
/-- MEM_UEINFO; R408. -/
def Reg.memUeinfo : Nat := 0x84A020
/-- LBX_STATUS; R409. -/
def Reg.lbxStatus : Nat := 0x84A024
/-- MEM_BANK; R409. -/
def Reg.memBank (b : Nat) : Nat := 0x84A100 + 0x4 * b
/-- DMA_CH_CFG; R429. -/
def Reg.dmaChCfg (c : Nat) : Nat := 0x840000 + 0x40 * c
/-- DMA_CH_DESC; R430. -/
def Reg.dmaChDesc (c : Nat) : Nat := 0x840004 + 0x40 * c
/-- DMA_CH_CTRL; R430. -/
def Reg.dmaChCtrl (c : Nat) : Nat := 0x840008 + 0x40 * c
/-- DMA_CH_STATUS; R432. -/
def Reg.dmaChStatus (c : Nat) : Nat := 0x84000C + 0x40 * c
/-- DMA_CH_CURDESC; R432. -/
def Reg.dmaChCurdesc (c : Nat) : Nat := 0x840010 + 0x40 * c
/-- DMA_CH_OFFSET; R432. -/
def Reg.dmaChOffset (c : Nat) : Nat := 0x840014 + 0x40 * c
/-- DMA_CH_FAULT0; R433. -/
def Reg.dmaChFault0 (c : Nat) : Nat := 0x840018 + 0x40 * c
/-- DMA_CH_FAULT1; R433. -/
def Reg.dmaChFault1 (c : Nat) : Nat := 0x84001C + 0x40 * c
/-- DMA_CH_FAULT2; R433. -/
def Reg.dmaChFault2 (c : Nat) : Nat := 0x840020 + 0x40 * c
/-- DMA_CH_FAULT3; R433. -/
def Reg.dmaChFault3 (c : Nat) : Nat := 0x840024 + 0x40 * c
/-- DMA_CH_FAULT4; R433. -/
def Reg.dmaChFault4 (c : Nat) : Nat := 0x840028 + 0x40 * c
/-- DMA_CH_EVENTS; R434. -/
def Reg.dmaChEvents (c : Nat) : Nat := 0x84002C + 0x40 * c
/-- DMA_CH_COUNT; R434. -/
def Reg.dmaChCount (c : Nat) : Nat := 0x840030 + 0x40 * c
/-- DMA_INFLIGHT; R435. -/
def Reg.dmaInflight : Nat := 0x841000
/-- DMA_ACTIVE; R435. -/
def Reg.dmaActive (w : Nat) : Nat := 0x841004 + 0x4 * w
/-- DMA_FAULTED; R435. -/
def Reg.dmaFaulted (w : Nat) : Nat := 0x84100C + 0x4 * w
/-- INTC_CTRL; R451. -/
def Reg.intcCtrl : Nat := 0x830000
/-- INTC_STATUS; R451. -/
def Reg.intcStatus : Nat := 0x830004
/-- INTC_HALTEV; R452. -/
def Reg.intcHaltev : Nat := 0x830008
/-- INTC_SWSET; R452. -/
def Reg.intcSwset : Nat := 0x83000C
/-- EXTINT; R453. -/
def Reg.extint (k : Nat) : Nat := 0x830100 + 0x4 * k
/-- INTC_SRC_CFG; R454. -/
def Reg.intcSrcCfg (i : Nat) : Nat := 0x831200 + 0x8 * i
/-- INTC_SRC_COAL; R454. -/
def Reg.intcSrcCoal (i : Nat) : Nat := 0x831204 + 0x8 * i
/-- INTC_T_CLAIM; R457. -/
def Reg.intcTClaim (t : Nat) : Nat := 0x833000 + 0x40 * t
/-- INTC_T_THRESH; R457. -/
def Reg.intcTThresh (t : Nat) : Nat := 0x833004 + 0x40 * t
/-- INTC_T_PRIVEN; R457. -/
def Reg.intcTPriven (t : Nat) : Nat := 0x833008 + 0x40 * t
/-- INTC_T_STATUS; R457. -/
def Reg.intcTStatus (t : Nat) : Nat := 0x83300C + 0x40 * t
/-- INTC_T_FCLAIM; R457. -/
def Reg.intcTFclaim (t : Nat) : Nat := 0x833010 + 0x40 * t
/-- INTC_T_FTHRESH; R457. -/
def Reg.intcTFthresh (t : Nat) : Nat := 0x833014 + 0x40 * t
/-- INTC_T_FSTATUS; R457. -/
def Reg.intcTFstatus (t : Nat) : Nat := 0x833018 + 0x40 * t
/-- LINK_CFG; R487. -/
def Reg.linkCfg : Nat := 0x8B0000
/-- LINK_NODEID; R487. -/
def Reg.linkNodeid : Nat := 0x8B0004
/-- LINK_STATUS; R487. -/
def Reg.linkStatus : Nat := 0x8B0008
/-- LINK_POS; R487. -/
def Reg.linkPos : Nat := 0x8B000C
/-- LINK_EVENTS; R487. -/
def Reg.linkEvents : Nat := 0x8B0010
/-- LINK_COUNT0; R487. -/
def Reg.linkCount0 : Nat := 0x8B0014
/-- LINK_COUNT1; R487. -/
def Reg.linkCount1 : Nat := 0x8B0018
/-- LINK_CTRL; R487. -/
def Reg.linkCtrl : Nat := 0x8B001C
/-- LINK_TXCTRL; R488. -/
def Reg.linkTxctrl : Nat := 0x8B0020
/-- LINK_RXSTAT; R488. -/
def Reg.linkRxstat : Nat := 0x8B0024
/-- LINK_TXMSG; R488. -/
def Reg.linkTxmsg (w : Nat) : Nat := 0x8B0200 + 0x4 * w
/-- LINK_RXMSG; R488. -/
def Reg.linkRxmsg (w : Nat) : Nat := 0x8B0300 + 0x4 * w
/-- LINK_PORT_CFG; R489. -/
def Reg.linkPortCfg (p : Nat) : Nat := 0x8B0100 + 0x20 * p
/-- LINK_PORT_CTRL; R489. -/
def Reg.linkPortCtrl (p : Nat) : Nat := 0x8B0104 + 0x20 * p
/-- LINK_PORT_STATUS; R489. -/
def Reg.linkPortStatus (p : Nat) : Nat := 0x8B0108 + 0x20 * p
/-- LINK_PORT_DELAY; R489. -/
def Reg.linkPortDelay (p : Nat) : Nat := 0x8B010C + 0x20 * p
/-- LINK_PORT_OFFSET; R489. -/
def Reg.linkPortOffset (p : Nat) : Nat := 0x8B0110 + 0x20 * p
/-- LINK_PORT_COUNT; R489. -/
def Reg.linkPortCount (p : Nat) : Nat := 0x8B0114 + 0x20 * p
/-- LINK_TXSLOT; R490. -/
def Reg.linkTxslot (s : Nat) (p : Nat) : Nat := 0x8B4000 + 0x4 * s + 0x800 * p
/-- LINK_RXCH; R490. -/
def Reg.linkRxch (c : Nat) : Nat := 0x8B6000 + 0x4 * c
/-- HINGE_CFG; R513. -/
def Reg.hingeCfg : Nat := 0x8C0000
/-- HINGE_CTRL; R513. -/
def Reg.hingeCtrl : Nat := 0x8C0004
/-- HINGE_STATUS; R514. -/
def Reg.hingeStatus : Nat := 0x8C0008
/-- HINGE_EVENTS; R515. -/
def Reg.hingeEvents : Nat := 0x8C000C
/-- HINGE_COUNT0; R516. -/
def Reg.hingeCount0 : Nat := 0x8C0010
/-- HINGE_COUNT1; R516. -/
def Reg.hingeCount1 : Nat := 0x8C0014
/-- HINGE_COUNT2; R516. -/
def Reg.hingeCount2 : Nat := 0x8C0018
/-- HINGE_CRCSEL; R516. -/
def Reg.hingeCrcsel (j : Nat) : Nat := 0x8C0040 + 0x4 * j
/-- HINGE_CRCSTAT; R516. -/
def Reg.hingeCrcstat : Nat := 0x8C0060
/-- HINGE_PREV; R516. -/
def Reg.hingePrev : Nat := 0x8C0064
/-- HINGE_PDELAY; R516. -/
def Reg.hingePdelay : Nat := 0x8C0068
/-- KT_LIKENESS0; R538. -/
def Reg.ktLikeness0 : Nat := 0x8F0000
/-- KT_LIKENESS1; R538. -/
def Reg.ktLikeness1 : Nat := 0x8F0004
/-- KT_ROOTHASH; R538. -/
def Reg.ktRoothash (w : Nat) : Nat := 0x8F0010 + 0x4 * w
/-- KT_MINVER; R538. -/
def Reg.ktMinver : Nat := 0x8F0030
/-- KT_LIFECYCLE; R538. -/
def Reg.ktLifecycle : Nat := 0x8F0034
/-- KT_TWINROLE; R538. -/
def Reg.ktTwinrole : Nat := 0x8F0038
/-- KT_PERSONA; R538. -/
def Reg.ktPersona (n : Nat) : Nat := 0x8F0040 + 0x4 * n
/-- KT_PUCODE; R538. -/
def Reg.ktPucode (n : Nat) : Nat := 0x8F0060 + 0x4 * n
/-- KT_CEIL; R538. -/
def Reg.ktCeil (n : Nat) : Nat := 0x8F0090 + 0x4 * n
/-- KT_I2CBASE; R538. -/
def Reg.ktI2cbase : Nat := 0x8F00A0
/-- KT_BOOTORDER; R538. -/
def Reg.ktBootorder : Nat := 0x8F00A4
/-- KT_SECRET; R538. -/
def Reg.ktSecret : Nat := 0x8F00A8
/-- KT_STATUS; R539. -/
def Reg.ktStatus : Nat := 0x8F0100
/-- KT_BOOTCNT; R539. -/
def Reg.ktBootcnt : Nat := 0x8F0104
/-- KT_TAMPER; R539. -/
def Reg.ktTamper : Nat := 0x8F0110
/-- KT_EVENTS; R539. -/
def Reg.ktEvents : Nat := 0x8F0114
/-- KT_USE; R539. -/
def Reg.ktUse (i : Nat) : Nat := 0x8F0200 + 0x4 * i
/-- KT_RECSEL; R539. -/
def Reg.ktRecsel : Nat := 0x8F0300
/-- KT_REC; R539. -/
def Reg.ktRec : Nat := 0x8F0304
/-- KT_RECVAL; R539. -/
def Reg.ktRecval : Nat := 0x8F0308
/-- REP_CFG; R540. -/
def Reg.repCfg : Nat := 0x8F8000
/-- REP_STATUS; R540. -/
def Reg.repStatus : Nat := 0x8F8004
/-- REP_EVENTS; R540. -/
def Reg.repEvents : Nat := 0x8F8008
/-- REP_CTRL; R540. -/
def Reg.repCtrl : Nat := 0x8F800C
/-- REP_LAST; R540. -/
def Reg.repLast : Nat := 0x8F8010
/-- REP_LASTINFO; R540. -/
def Reg.repLastinfo : Nat := 0x8F8014
/-- REP_TILEFAIL; R540. -/
def Reg.repTilefail : Nat := 0x8F8018
/-- REP_ENTRY_LOC; R540. -/
def Reg.repEntryLoc (k : Nat) : Nat := 0x8F9000 + 0x8 * k
/-- REP_ENTRY_INFO; R540. -/
def Reg.repEntryInfo (k : Nat) : Nat := 0x8F9004 + 0x8 * k
/-- VIOL_CNT; R541. -/
def Reg.violCnt (i : Nat) : Nat := 0x908000 + 0x4 * i
/-- VIOL_LAST; R541. -/
def Reg.violLast : Nat := 0x908040
/-- VIOL_LASTADDR; R541. -/
def Reg.violLastaddr : Nat := 0x908044
/-- SYS_RSTCAUSE; R565. -/
def Reg.sysRstcause : Nat := 0x800020
/-- SYS_RSTCTRL; R565. -/
def Reg.sysRstctrl : Nat := 0x800024
/-- SYS_WDTCFG; R565. -/
def Reg.sysWdtcfg : Nat := 0x800028
/-- SYS_WDTKICK; R565. -/
def Reg.sysWdtkick : Nat := 0x80002C
/-- SYS_WDTEV; R565. -/
def Reg.sysWdtev : Nat := 0x800030
/-- PWR_TARGET; R566. -/
def Reg.pwrTarget (w : Nat) : Nat := 0x820000 + 0x4 * w
/-- PWR_STATE; R566. -/
def Reg.pwrState (w : Nat) : Nat := 0x820010 + 0x4 * w
/-- PWR_TXN; R566. -/
def Reg.pwrTxn : Nat := 0x820020
/-- PWR_SHACKLE; R566. -/
def Reg.pwrShackle (w : Nat) : Nat := 0x820030 + 0x4 * w
/-- PWR_CLKSEL; R566. -/
def Reg.pwrClksel (w : Nat) : Nat := 0x820038 + 0x4 * w
/-- PWR_SLEEPCFG; R566. -/
def Reg.pwrSleepcfg : Nat := 0x820040
/-- PWR_WAKECFG; R566. -/
def Reg.pwrWakecfg : Nat := 0x820044
/-- PWR_WAKESTATE; R566. -/
def Reg.pwrWakestate (w : Nat) : Nat := 0x820050 + 0x4 * w
/-- PWR_WAKESRC; R566. -/
def Reg.pwrWakesrc : Nat := 0x82005C
/-- PWR_EVENTS; R566. -/
def Reg.pwrEvents : Nat := 0x820060
/-- MON_SUPPLY0; R567. -/
def Reg.monSupply0 : Nat := 0x900000
/-- MON_SUPPLY1; R567. -/
def Reg.monSupply1 : Nat := 0x900004
/-- MON_SUPEV; R567. -/
def Reg.monSupev : Nat := 0x900008
/-- MON_SUPSTAT; R567. -/
def Reg.monSupstat : Nat := 0x90000C
/-- MON_CFG; R567. -/
def Reg.monCfg : Nat := 0x900010
/-- MON_CTRL; R567. -/
def Reg.monCtrl : Nat := 0x900014
/-- MON_SUPCNT; R567. -/
def Reg.monSupcnt : Nat := 0x900018
/-- MON_THERM; R567. -/
def Reg.monTherm : Nat := 0x90001C
/-- MON_THEV; R567. -/
def Reg.monThev : Nat := 0x900020
/-- HOSTIF_I2CCFG; R586. -/
def Reg.hostifI2ccfg : Nat := 0x8E0000
/-- HOSTIF_I2CADDR; R586. -/
def Reg.hostifI2caddr : Nat := 0x8E0004
/-- HOSTIF_I2CCRC; R586. -/
def Reg.hostifI2ccrc : Nat := 0x8E0008
/-- HOSTIF_I2CCNT; R586. -/
def Reg.hostifI2ccnt : Nat := 0x8E000C
/-- HOSTIF_SPICFG; R586. -/
def Reg.hostifSpicfg : Nat := 0x8E0010
/-- HOSTIF_EVENTS; R586. -/
def Reg.hostifEvents : Nat := 0x8E0014
/-- HOSTIF_I2CNOW; R586. -/
def Reg.hostifI2cnow : Nat := 0x8E0018
/-- QSPI_CFG; R587. -/
def Reg.qspiCfg : Nat := 0x8E0100
/-- QSPI_CMD; R587. -/
def Reg.qspiCmd : Nat := 0x8E0104
/-- QSPI_OPC; R587. -/
def Reg.qspiOpc : Nat := 0x8E0108
/-- QSPI_ADDR; R587. -/
def Reg.qspiAddr : Nat := 0x8E010C
/-- QSPI_DATA; R587. -/
def Reg.qspiData (w : Nat) : Nat := 0x8E0200 + 0x4 * w
/-- INTC_Ee_PCFGi, i = 16–63; R455. -/
def Reg.intcPcfg (e i : Nat) : Nat := 0x834000 + 0x200 * e + 8 * (i - 16)
/-- INTC_Ee_PCOALi; R455. -/
def Reg.intcPcoal (e i : Nat) : Nat := 0x834004 + 0x200 * e + 8 * (i - 16)
/-- INTC_PENDw; R456. -/
def Reg.intcPend (w : Nat) : Nat := 0x832000 + 4 * w
/-- INTC_ACTw; R456. -/
def Reg.intcAct (w : Nat) : Nat := 0x832040 + 4 * w

/-- SYS_PARTID.part; R11. -/
def Fld.sysPartidPart : Fld := ⟨Reg.sysPartid, 31, 0⟩
/-- SYS_REVID.kp_format; R12. -/
def Fld.sysRevidKpFormat : Fld := ⟨Reg.sysRevid, 31, 24⟩
/-- SYS_REVID.die2_rev; R12. -/
def Fld.sysRevidDie2Rev : Fld := ⟨Reg.sysRevid, 23, 16⟩
/-- SYS_REVID.die1_rev; R12. -/
def Fld.sysRevidDie1Rev : Fld := ⟨Reg.sysRevid, 15, 8⟩
/-- SYS_REVID.die0_rev; R12. -/
def Fld.sysRevidDie0Rev : Fld := ⟨Reg.sysRevid, 7, 0⟩
/-- SYS_TILEMAP.unavail7; R24. -/
def Fld.sysTilemapUnavail7 (w : Nat) : Fld := ⟨Reg.sysTilemap w, 31, 31⟩
/-- SYS_TILEMAP.phys7; R24. -/
def Fld.sysTilemapPhys7 (w : Nat) : Fld := ⟨Reg.sysTilemap w, 30, 28⟩
/-- SYS_TILEMAP.unavail6; R24. -/
def Fld.sysTilemapUnavail6 (w : Nat) : Fld := ⟨Reg.sysTilemap w, 27, 27⟩
/-- SYS_TILEMAP.phys6; R24. -/
def Fld.sysTilemapPhys6 (w : Nat) : Fld := ⟨Reg.sysTilemap w, 26, 24⟩
/-- SYS_TILEMAP.unavail5; R24. -/
def Fld.sysTilemapUnavail5 (w : Nat) : Fld := ⟨Reg.sysTilemap w, 23, 23⟩
/-- SYS_TILEMAP.phys5; R24. -/
def Fld.sysTilemapPhys5 (w : Nat) : Fld := ⟨Reg.sysTilemap w, 22, 20⟩
/-- SYS_TILEMAP.unavail4; R24. -/
def Fld.sysTilemapUnavail4 (w : Nat) : Fld := ⟨Reg.sysTilemap w, 19, 19⟩
/-- SYS_TILEMAP.phys4; R24. -/
def Fld.sysTilemapPhys4 (w : Nat) : Fld := ⟨Reg.sysTilemap w, 18, 16⟩
/-- SYS_TILEMAP.unavail3; R24. -/
def Fld.sysTilemapUnavail3 (w : Nat) : Fld := ⟨Reg.sysTilemap w, 15, 15⟩
/-- SYS_TILEMAP.phys3; R24. -/
def Fld.sysTilemapPhys3 (w : Nat) : Fld := ⟨Reg.sysTilemap w, 14, 12⟩
/-- SYS_TILEMAP.unavail2; R24. -/
def Fld.sysTilemapUnavail2 (w : Nat) : Fld := ⟨Reg.sysTilemap w, 11, 11⟩
/-- SYS_TILEMAP.phys2; R24. -/
def Fld.sysTilemapPhys2 (w : Nat) : Fld := ⟨Reg.sysTilemap w, 10, 8⟩
/-- SYS_TILEMAP.unavail1; R24. -/
def Fld.sysTilemapUnavail1 (w : Nat) : Fld := ⟨Reg.sysTilemap w, 7, 7⟩
/-- SYS_TILEMAP.phys1; R24. -/
def Fld.sysTilemapPhys1 (w : Nat) : Fld := ⟨Reg.sysTilemap w, 6, 4⟩
/-- SYS_TILEMAP.unavail0; R24. -/
def Fld.sysTilemapUnavail0 (w : Nat) : Fld := ⟨Reg.sysTilemap w, 3, 3⟩
/-- SYS_TILEMAP.phys0; R24. -/
def Fld.sysTilemapPhys0 (w : Nat) : Fld := ⟨Reg.sysTilemap w, 2, 0⟩
/-- BOOT_STATUS.fifo_free; R65. -/
def Fld.bootStatusFifoFree : Fld := ⟨Reg.bootStatus, 31, 21⟩
/-- BOOT_STATUS.attempt; R65. -/
def Fld.bootStatusAttempt : Fld := ⟨Reg.bootStatus, 15, 12⟩
/-- BOOT_STATUS.source; R65. -/
def Fld.bootStatusSource : Fld := ⟨Reg.bootStatus, 11, 8⟩
/-- BOOT_STATUS.state; R65. -/
def Fld.bootStatusState : Fld := ⟨Reg.bootStatus, 3, 0⟩
/-- BOOT_RESULT.ward; R66. -/
def Fld.bootResultWard (n : Nat) : Fld := ⟨Reg.bootResult n, 31, 16⟩
/-- BOOT_RESULT.source; R66. -/
def Fld.bootResultSource (n : Nat) : Fld := ⟨Reg.bootResult n, 11, 8⟩
/-- BOOT_RESULT.code; R66. -/
def Fld.bootResultCode (n : Nat) : Fld := ⟨Reg.bootResult n, 7, 0⟩
/-- BOOT_CTRL.key; R68. -/
def Fld.bootCtrlKey : Fld := ⟨Reg.bootCtrl, 31, 16⟩
/-- BOOT_CTRL.source; R68. -/
def Fld.bootCtrlSource : Fld := ⟨Reg.bootCtrl, 7, 4⟩
/-- BOOT_CTRL.cmd; R68. -/
def Fld.bootCtrlCmd : Fld := ⟨Reg.bootCtrl, 3, 0⟩
/-- BOOT_HOSTDATA.data; R69. -/
def Fld.bootHostdataData : Fld := ⟨Reg.bootHostdata, 31, 0⟩
/-- BOOT_LIVESTAT.commits; R69. -/
def Fld.bootLivestatCommits : Fld := ⟨Reg.bootLivestat, 31, 16⟩
/-- BOOT_LIVESTAT.ward; R69. -/
def Fld.bootLivestatWard : Fld := ⟨Reg.bootLivestat, 15, 8⟩
/-- BOOT_LIVESTAT.code; R69. -/
def Fld.bootLivestatCode : Fld := ⟨Reg.bootLivestat, 7, 0⟩
/-- BOOT_RUNVER.version; R69. -/
def Fld.bootRunverVersion : Fld := ⟨Reg.bootRunver, 31, 0⟩
/-- BOOT_RUNLIKE0.like_lo; R69. -/
def Fld.bootRunlike0LikeLo : Fld := ⟨Reg.bootRunlike0, 31, 0⟩
/-- BOOT_RUNLIKE1.like_hi; R69. -/
def Fld.bootRunlike1LikeHi : Fld := ⟨Reg.bootRunlike1, 31, 0⟩
/-- BOOT_RUNHASH.hash; R69. -/
def Fld.bootRunhashHash (w : Nat) : Fld := ⟨Reg.bootRunhash w, 31, 0⟩
/-- CLK_PLLCFG.run; R92. -/
def Fld.clkPllcfgRun : Fld := ⟨Reg.clkPllcfg, 31, 31⟩
/-- CLK_PLLCFG.refdiv; R92. -/
def Fld.clkPllcfgRefdiv : Fld := ⟨Reg.clkPllcfg, 18, 16⟩
/-- CLK_PLLCFG.int; R92. -/
def Fld.clkPllcfgInt : Fld := ⟨Reg.clkPllcfg, 8, 0⟩
/-- CLK_PLLFRAC.frac; R93. -/
def Fld.clkPllfracFrac : Fld := ⟨Reg.clkPllfrac, 23, 0⟩
/-- CLK_REFSEL.holdover_en; R94. -/
def Fld.clkRefselHoldoverEn : Fld := ⟨Reg.clkRefsel, 9, 9⟩
/-- CLK_REFSEL.alt_en; R94. -/
def Fld.clkRefselAltEn : Fld := ⟨Reg.clkRefsel, 8, 8⟩
/-- CLK_REFSEL.alt; R94. -/
def Fld.clkRefselAlt : Fld := ⟨Reg.clkRefsel, 6, 4⟩
/-- CLK_REFSEL.primary; R94. -/
def Fld.clkRefselPrimary : Fld := ⟨Reg.clkRefsel, 2, 0⟩
/-- CLK_CTRL.reacquire; R95. -/
def Fld.clkCtrlReacquire : Fld := ⟨Reg.clkCtrl, 1, 1⟩
/-- CLK_CTRL.swap; R95. -/
def Fld.clkCtrlSwap : Fld := ⟨Reg.clkCtrl, 0, 0⟩
/-- CLK_PLAN.rate; R96. -/
def Fld.clkPlanRate : Fld := ⟨Reg.clkPlan, 2, 1⟩
/-- CLK_PLAN.family; R96. -/
def Fld.clkPlanFamily : Fld := ⟨Reg.clkPlan, 0, 0⟩
/-- CLK_STATUS.last_cause; R97. -/
def Fld.clkStatusLastCause : Fld := ⟨Reg.clkStatus, 27, 24⟩
/-- CLK_STATUS.acq_fail; R97. -/
def Fld.clkStatusAcqFail : Fld := ⟨Reg.clkStatus, 23, 16⟩
/-- CLK_STATUS.band; R97. -/
def Fld.clkStatusBand : Fld := ⟨Reg.clkStatus, 13, 8⟩
/-- CLK_STATUS.ref_used; R97. -/
def Fld.clkStatusRefUsed : Fld := ⟨Reg.clkStatus, 6, 4⟩
/-- CLK_STATUS.holdover; R97. -/
def Fld.clkStatusHoldover : Fld := ⟨Reg.clkStatus, 3, 3⟩
/-- CLK_STATUS.on_alt; R97. -/
def Fld.clkStatusOnAlt : Fld := ⟨Reg.clkStatus, 2, 2⟩
/-- CLK_STATUS.acquiring; R97. -/
def Fld.clkStatusAcquiring : Fld := ⟨Reg.clkStatus, 1, 1⟩
/-- CLK_STATUS.locked; R97. -/
def Fld.clkStatusLocked : Fld := ⟨Reg.clkStatus, 0, 0⟩
/-- CLK_EVENTS.slip; R98. -/
def Fld.clkEventsSlip : Fld := ⟨Reg.clkEvents, 5, 5⟩
/-- CLK_EVENTS.ref_returned; R98. -/
def Fld.clkEventsRefReturned : Fld := ⟨Reg.clkEvents, 4, 4⟩
/-- CLK_EVENTS.acq_timeout; R98. -/
def Fld.clkEventsAcqTimeout : Fld := ⟨Reg.clkEvents, 3, 3⟩
/-- CLK_EVENTS.ref_switch; R98. -/
def Fld.clkEventsRefSwitch : Fld := ⟨Reg.clkEvents, 2, 2⟩
/-- CLK_EVENTS.ref_lost; R98. -/
def Fld.clkEventsRefLost : Fld := ⟨Reg.clkEvents, 1, 1⟩
/-- CLK_EVENTS.unlock; R98. -/
def Fld.clkEventsUnlock : Fld := ⟨Reg.clkEvents, 0, 0⟩
/-- CLK_REFMON.alt_valid; R99. -/
def Fld.clkRefmonAltValid : Fld := ⟨Reg.clkRefmon, 29, 29⟩
/-- CLK_REFMON.pri_valid; R99. -/
def Fld.clkRefmonPriValid : Fld := ⟨Reg.clkRefmon, 28, 28⟩
/-- CLK_REFMON.pri_count; R99. -/
def Fld.clkRefmonPriCount : Fld := ⟨Reg.clkRefmon, 19, 0⟩
/-- KEY_STATUS.double; R128. -/
def Fld.keyStatusDouble : Fld := ⟨Reg.keyStatus, 1, 1⟩
/-- KEY_STATUS.running; R128. -/
def Fld.keyStatusRunning : Fld := ⟨Reg.keyStatus, 0, 0⟩
/-- KEY_FRAMECNT.count; R129. -/
def Fld.keyFramecntCount : Fld := ⟨Reg.keyFramecnt, 31, 0⟩
/-- KEY_USAGE.routes; R130. -/
def Fld.keyUsageRoutes : Fld := ⟨Reg.keyUsage, 25, 16⟩
/-- KEY_USAGE.live; R130. -/
def Fld.keyUsageLive : Fld := ⟨Reg.keyUsage, 13, 0⟩
/-- KEY_FADE.dropped; R131. -/
def Fld.keyFadeDropped : Fld := ⟨Reg.keyFade, 31, 24⟩
/-- KEY_FADE.serial; R131. -/
def Fld.keyFadeSerial : Fld := ⟨Reg.keyFade, 23, 16⟩
/-- KEY_FADE.shadows; R131. -/
def Fld.keyFadeShadows : Fld := ⟨Reg.keyFade, 13, 0⟩
/-- KEY_XPPAGE.page; R132. -/
def Fld.keyXppagePage : Fld := ⟨Reg.keyXppage, 1, 0⟩
/-- KEY_EVENTS.sat; R133. -/
def Fld.keyEventsSat : Fld := ⟨Reg.keyEvents, 2, 2⟩
/-- KEY_EVENTS.late; R133. -/
def Fld.keyEventsLate : Fld := ⟨Reg.keyEvents, 1, 1⟩
/-- KEY_EVENTS.commit; R133. -/
def Fld.keyEventsCommit : Fld := ⟨Reg.keyEvents, 0, 0⟩
/-- KEY_REFUSE.reason; R134. -/
def Fld.keyRefuseReason : Fld := ⟨Reg.keyRefuse, 31, 30⟩
/-- KEY_REFUSE.id; R134. -/
def Fld.keyRefuseId : Fld := ⟨Reg.keyRefuse, 25, 16⟩
/-- KEY_REFUSE.index; R134. -/
def Fld.keyRefuseIndex : Fld := ⟨Reg.keyRefuse, 12, 0⟩
/-- KEY_SAT.sat; R135. -/
def Fld.keySatSat (n : Nat) : Fld := ⟨Reg.keySat n, 31, 0⟩
/-- KEY_ROUTE.en; R136. -/
def Fld.keyRouteEn (n : Nat) : Fld := ⟨Reg.keyRoute n, 31, 31⟩
/-- KEY_ROUTE.sink; R136. -/
def Fld.keyRouteSink (n : Nat) : Fld := ⟨Reg.keyRoute n, 25, 16⟩
/-- KEY_ROUTE.src; R136. -/
def Fld.keyRouteSrc (n : Nat) : Fld := ⟨Reg.keyRoute n, 9, 0⟩
/-- KEY_XPCFG.en; R137. -/
def Fld.keyXpcfgEn (m : Nat) (page : Nat) : Fld := ⟨Reg.keyXpcfg m page, 31, 31⟩
/-- KEY_XPCFG.ramp; R137. -/
def Fld.keyXpcfgRamp (m : Nat) (page : Nat) : Fld := ⟨Reg.keyXpcfg m page, 26, 10⟩
/-- KEY_XPCFG.src; R137. -/
def Fld.keyXpcfgSrc (m : Nat) (page : Nat) : Fld := ⟨Reg.keyXpcfg m page, 9, 0⟩
/-- KEY_XPGAIN.gain; R138. -/
def Fld.keyXpgainGain (m : Nat) (page : Nat) : Fld := ⟨Reg.keyXpgain m page, 31, 0⟩
/-- TUMB_CTRL.cmd; R139. -/
def Fld.tumbCtrlCmd : Fld := ⟨Reg.tumbCtrl, 3, 0⟩
/-- TUMB_STATUS.armed; R140. -/
def Fld.tumbStatusArmed : Fld := ⟨Reg.tumbStatus, 31, 31⟩
/-- TUMB_STATUS.late; R140. -/
def Fld.tumbStatusLate : Fld := ⟨Reg.tumbStatus, 30, 30⟩
/-- TUMB_STATUS.live; R140. -/
def Fld.tumbStatusLive : Fld := ⟨Reg.tumbStatus, 29, 29⟩
/-- TUMB_STATUS.count; R140. -/
def Fld.tumbStatusCount : Fld := ⟨Reg.tumbStatus, 24, 16⟩
/-- TUMB_STATUS.agent; R140. -/
def Fld.tumbStatusAgent : Fld := ⟨Reg.tumbStatus, 4, 0⟩
/-- TUMB_ATFRAME.frame; R141. -/
def Fld.tumbAtframeFrame : Fld := ⟨Reg.tumbAtframe, 31, 0⟩
/-- TUMB_LASTCOMMIT.frame; R141. -/
def Fld.tumbLastcommitFrame : Fld := ⟨Reg.tumbLastcommit, 31, 0⟩
/-- TUMB_COMMITS.commits; R141. -/
def Fld.tumbCommitsCommits : Fld := ⟨Reg.tumbCommits, 31, 9⟩
/-- TUMB_COMMITS.words; R141. -/
def Fld.tumbCommitsWords : Fld := ⟨Reg.tumbCommits, 8, 0⟩
/-- TUMB_ENTRY_A.addr; R141. -/
def Fld.tumbEntryAAddr (n : Nat) : Fld := ⟨Reg.tumbEntryA n, 31, 2⟩
/-- TUMB_ENTRY_A.page; R141. -/
def Fld.tumbEntryAPage (n : Nat) : Fld := ⟨Reg.tumbEntryA n, 1, 0⟩
/-- TUMB_ENTRY_V.value; R141. -/
def Fld.tumbEntryVValue (n : Nat) : Fld := ⟨Reg.tumbEntryV n, 31, 0⟩
/-- ANAIN_CH_CFG.en; R165. -/
def Fld.anainChCfgEn (n : Nat) : Fld := ⟨Reg.anainChCfg n, 31, 31⟩
/-- ANAIN_CH_CFG.mode; R165. -/
def Fld.anainChCfgMode (n : Nat) : Fld := ⟨Reg.anainChCfg n, 28, 28⟩
/-- ANAIN_CH_CFG.invert; R165. -/
def Fld.anainChCfgInvert (n : Nat) : Fld := ⟨Reg.anainChCfg n, 25, 25⟩
/-- ANAIN_CH_CFG.fset; R165. -/
def Fld.anainChCfgFset (n : Nat) : Fld := ⟨Reg.anainChCfg n, 24, 24⟩
/-- ANAIN_CH_CFG.hpf; R165. -/
def Fld.anainChCfgHpf (n : Nat) : Fld := ⟨Reg.anainChCfg n, 21, 20⟩
/-- ANAIN_CH_CFG.gain; R165. -/
def Fld.anainChCfgGain (n : Nat) : Fld := ⟨Reg.anainChCfg n, 6, 0⟩
/-- ANAIN_CH_STATUS.failed; R166. -/
def Fld.anainChStatusFailed (n : Nat) : Fld := ⟨Reg.anainChStatus n, 31, 31⟩
/-- ANAIN_CH_STATUS.settling; R166. -/
def Fld.anainChStatusSettling (n : Nat) : Fld := ⟨Reg.anainChStatus n, 30, 30⟩
/-- ANAIN_CH_STATUS.rotating; R166. -/
def Fld.anainChStatusRotating (n : Nat) : Fld := ⟨Reg.anainChStatus n, 29, 29⟩
/-- ANAIN_CH_STATUS.cur_gain; R166. -/
def Fld.anainChStatusCurGain (n : Nat) : Fld := ⟨Reg.anainChStatus n, 22, 16⟩
/-- ANAIN_CH_STATUS.out_slice; R166. -/
def Fld.anainChStatusOutSlice (n : Nat) : Fld := ⟨Reg.anainChStatus n, 11, 8⟩
/-- ANAIN_CH_STATUS.retired; R166. -/
def Fld.anainChStatusRetired (n : Nat) : Fld := ⟨Reg.anainChStatus n, 7, 4⟩
/-- ANAIN_CH_EVENTS.failed; R167. -/
def Fld.anainChEventsFailed (n : Nat) : Fld := ⟨Reg.anainChEvents n, 3, 3⟩
/-- ANAIN_CH_EVENTS.retired; R167. -/
def Fld.anainChEventsRetired (n : Nat) : Fld := ⟨Reg.anainChEvents n, 2, 2⟩
/-- ANAIN_CH_EVENTS.overload; R167. -/
def Fld.anainChEventsOverload (n : Nat) : Fld := ⟨Reg.anainChEvents n, 1, 1⟩
/-- ANAIN_CH_EVENTS.gain_done; R167. -/
def Fld.anainChEventsGainDone (n : Nat) : Fld := ⟨Reg.anainChEvents n, 0, 0⟩
/-- MICB_CFG.en; R168. -/
def Fld.micbCfgEn (n : Nat) : Fld := ⟨Reg.micbCfg n, 31, 31⟩
/-- MICB_CFG.volt; R168. -/
def Fld.micbCfgVolt (n : Nat) : Fld := ⟨Reg.micbCfg n, 3, 0⟩
/-- MICB_STATUS.driving; R169. -/
def Fld.micbStatusDriving : Fld := ⟨Reg.micbStatus, 11, 8⟩
/-- MICB_STATUS.tripped; R169. -/
def Fld.micbStatusTripped : Fld := ⟨Reg.micbStatus, 7, 4⟩
/-- MICB_STATUS.limit; R169. -/
def Fld.micbStatusLimit : Fld := ⟨Reg.micbStatus, 3, 0⟩
/-- MICB_EVENTS.tripped; R169. -/
def Fld.micbEventsTripped : Fld := ⟨Reg.micbEvents, 3, 0⟩
/-- ANAIN_CALCTRL.period; R170. -/
def Fld.anainCalctrlPeriod : Fld := ⟨Reg.anainCalctrl, 31, 16⟩
/-- ANAIN_CALCTRL.rot_en; R170. -/
def Fld.anainCalctrlRotEn : Fld := ⟨Reg.anainCalctrl, 7, 0⟩
/-- PDM_CLK_CFG.en; R171. -/
def Fld.pdmClkCfgEn (k : Nat) : Fld := ⟨Reg.pdmClkCfg k, 31, 31⟩
/-- PDM_CLK_CFG.delay; R171. -/
def Fld.pdmClkCfgDelay (k : Nat) : Fld := ⟨Reg.pdmClkCfg k, 5, 4⟩
/-- PDM_CLK_CFG.rate; R171. -/
def Fld.pdmClkCfgRate (k : Nat) : Fld := ⟨Reg.pdmClkCfg k, 0, 0⟩
/-- PDM_CH_CFG.en; R172. -/
def Fld.pdmChCfgEn (c : Nat) : Fld := ⟨Reg.pdmChCfg c, 31, 31⟩
/-- PDM_CH_CFG.invert; R172. -/
def Fld.pdmChCfgInvert (c : Nat) : Fld := ⟨Reg.pdmChCfg c, 25, 25⟩
/-- PDM_CH_CFG.fset; R172. -/
def Fld.pdmChCfgFset (c : Nat) : Fld := ⟨Reg.pdmChCfg c, 24, 24⟩
/-- PDM_CH_CFG.hpf; R172. -/
def Fld.pdmChCfgHpf (c : Nat) : Fld := ⟨Reg.pdmChCfg c, 21, 20⟩
/-- PDM_CH_CFG.boost; R172. -/
def Fld.pdmChCfgBoost (c : Nat) : Fld := ⟨Reg.pdmChCfg c, 2, 0⟩
/-- PDM_SETTLE.frames; R173. -/
def Fld.pdmSettleFrames : Fld := ⟨Reg.pdmSettle, 15, 0⟩
/-- PDM_STATUS.receiving; R173. -/
def Fld.pdmStatusReceiving : Fld := ⟨Reg.pdmStatus, 15, 8⟩
/-- PDM_STATUS.clk_present; R173. -/
def Fld.pdmStatusClkPresent : Fld := ⟨Reg.pdmStatus, 7, 0⟩
/-- PDM_EVENTS.clk_lost; R173. -/
def Fld.pdmEventsClkLost : Fld := ⟨Reg.pdmEvents, 7, 0⟩
/-- OUT_CFG.clr_src; R203. -/
def Fld.outCfgClrSrc (o : Nat) : Fld := ⟨Reg.outCfg o, 12, 12⟩
/-- OUT_CFG.pu_src; R203. -/
def Fld.outCfgPuSrc (o : Nat) : Fld := ⟨Reg.outCfg o, 11, 11⟩
/-- OUT_CFG.hold; R203. -/
def Fld.outCfgHold (o : Nat) : Fld := ⟨Reg.outCfg o, 7, 4⟩
/-- OUT_CFG.refgain; R203. -/
def Fld.outCfgRefgain (o : Nat) : Fld := ⟨Reg.outCfg o, 1, 1⟩
/-- OUT_CFG.fset; R203. -/
def Fld.outCfgFset (o : Nat) : Fld := ⟨Reg.outCfg o, 0, 0⟩
/-- OUT_CODES.pu_code; R204. -/
def Fld.outCodesPuCode (o : Nat) : Fld := ⟨Reg.outCodes o, 31, 16⟩
/-- OUT_CODES.clr_code; R204. -/
def Fld.outCodesClrCode (o : Nat) : Fld := ⟨Reg.outCodes o, 15, 0⟩
/-- OUT_CTRL.run; R205. -/
def Fld.outCtrlRun (o : Nat) : Fld := ⟨Reg.outCtrl o, 0, 0⟩
/-- OUT_STATUS.state; R206. -/
def Fld.outStatusState (o : Nat) : Fld := ⟨Reg.outStatus o, 31, 28⟩
/-- OUT_STATUS.persona; R206. -/
def Fld.outStatusPersona (o : Nat) : Fld := ⟨Reg.outStatus o, 27, 27⟩
/-- OUT_STATUS.holding; R206. -/
def Fld.outStatusHolding (o : Nat) : Fld := ⟨Reg.outStatus o, 26, 26⟩
/-- OUT_STATUS.clr_cause; R206. -/
def Fld.outStatusClrCause (o : Nat) : Fld := ⟨Reg.outStatus o, 25, 22⟩
/-- OUT_STATUS.retired; R206. -/
def Fld.outStatusRetired (o : Nat) : Fld := ⟨Reg.outStatus o, 21, 20⟩
/-- OUT_STATUS.retired_mask; R206. -/
def Fld.outStatusRetiredMask (o : Nat) : Fld := ⟨Reg.outStatus o, 19, 10⟩
/-- OUT_STATUS.out_slice; R206. -/
def Fld.outStatusOutSlice (o : Nat) : Fld := ⟨Reg.outStatus o, 3, 0⟩
/-- OUT_EVENTS.clip; R207. -/
def Fld.outEventsClip (o : Nat) : Fld := ⟨Reg.outEvents o, 4, 4⟩
/-- OUT_EVENTS.failed; R207. -/
def Fld.outEventsFailed (o : Nat) : Fld := ⟨Reg.outEvents o, 3, 3⟩
/-- OUT_EVENTS.retired; R207. -/
def Fld.outEventsRetired (o : Nat) : Fld := ⟨Reg.outEvents o, 2, 2⟩
/-- OUT_EVENTS.hiz; R207. -/
def Fld.outEventsHiz (o : Nat) : Fld := ⟨Reg.outEvents o, 1, 1⟩
/-- OUT_EVENTS.protect; R207. -/
def Fld.outEventsProtect (o : Nat) : Fld := ⟨Reg.outEvents o, 0, 0⟩
/-- OUT_CLRSTAT.pin_low; R208. -/
def Fld.outClrstatPinLow : Fld := ⟨Reg.outClrstat, 31, 31⟩
/-- OUT_CLRSTAT.asserts; R208. -/
def Fld.outClrstatAsserts : Fld := ⟨Reg.outClrstat, 15, 0⟩
/-- OUT_CALCTRL.period; R208. -/
def Fld.outCalctrlPeriod : Fld := ⟨Reg.outCalctrl, 31, 16⟩
/-- OUT_CALCTRL.rot_en; R208. -/
def Fld.outCalctrlRotEn : Fld := ⟨Reg.outCalctrl, 9, 0⟩
/-- HP_PUMP.limit; R208. -/
def Fld.hpPumpLimit : Fld := ⟨Reg.hpPump, 1, 1⟩
/-- HP_PUMP.ready; R208. -/
def Fld.hpPumpReady : Fld := ⟨Reg.hpPump, 0, 0⟩
/-- TONE_CFG.en; R209. -/
def Fld.toneCfgEn (k : Nat) : Fld := ⟨Reg.toneCfg k, 31, 31⟩
/-- TONE_CFG.amp; R209. -/
def Fld.toneCfgAmp (k : Nat) : Fld := ⟨Reg.toneCfg k, 15, 0⟩
/-- TONE_FREQ.inc; R209. -/
def Fld.toneFreqInc (k : Nat) : Fld := ⟨Reg.toneFreq k, 31, 0⟩
/-- TONE_PHASE.phase; R209. -/
def Fld.tonePhasePhase (k : Nat) : Fld := ⟨Reg.tonePhase k, 31, 0⟩
/-- SPK_CFG.clr_src; R232. -/
def Fld.spkCfgClrSrc (n : Nat) : Fld := ⟨Reg.spkCfg n, 12, 12⟩
/-- SPK_CFG.pu_src; R232. -/
def Fld.spkCfgPuSrc (n : Nat) : Fld := ⟨Reg.spkCfg n, 11, 11⟩
/-- SPK_CFG.hold; R232. -/
def Fld.spkCfgHold (n : Nat) : Fld := ⟨Reg.spkCfg n, 7, 4⟩
/-- SPK_CFG.fsp; R232. -/
def Fld.spkCfgFsp (n : Nat) : Fld := ⟨Reg.spkCfg n, 3, 2⟩
/-- SPK_CFG.fset; R232. -/
def Fld.spkCfgFset (n : Nat) : Fld := ⟨Reg.spkCfg n, 0, 0⟩
/-- SPK_CTRL.diag; R233. -/
def Fld.spkCtrlDiag (n : Nat) : Fld := ⟨Reg.spkCtrl n, 4, 4⟩
/-- SPK_CTRL.run; R233. -/
def Fld.spkCtrlRun (n : Nat) : Fld := ⟨Reg.spkCtrl n, 0, 0⟩
/-- SPK_STATUS.state; R234. -/
def Fld.spkStatusState (n : Nat) : Fld := ⟨Reg.spkStatus n, 31, 28⟩
/-- SPK_STATUS.holding; R234. -/
def Fld.spkStatusHolding (n : Nat) : Fld := ⟨Reg.spkStatus n, 26, 26⟩
/-- SPK_STATUS.clr_cause; R234. -/
def Fld.spkStatusClrCause (n : Nat) : Fld := ⟨Reg.spkStatus n, 25, 22⟩
/-- SPK_STATUS.retired; R234. -/
def Fld.spkStatusRetired (n : Nat) : Fld := ⟨Reg.spkStatus n, 21, 20⟩
/-- SPK_STATUS.retired_mask; R234. -/
def Fld.spkStatusRetiredMask (n : Nat) : Fld := ⟨Reg.spkStatus n, 19, 10⟩
/-- SPK_STATUS.hiz_cause.short; R234. -/
def Fld.spkStatusHizCauseShort (n : Nat) : Fld := ⟨Reg.spkStatus n, 9, 9⟩
/-- SPK_STATUS.hiz_cause.pvdd_low; R234. -/
def Fld.spkStatusHizCausePvddLow (n : Nat) : Fld := ⟨Reg.spkStatus n, 8, 8⟩
/-- SPK_STATUS.hiz_cause.pvdd_high; R234. -/
def Fld.spkStatusHizCausePvddHigh (n : Nat) : Fld := ⟨Reg.spkStatus n, 7, 7⟩
/-- SPK_STATUS.hiz_cause.thermal; R234. -/
def Fld.spkStatusHizCauseThermal (n : Nat) : Fld := ⟨Reg.spkStatus n, 6, 6⟩
/-- SPK_STATUS.hiz_cause.stage; R234. -/
def Fld.spkStatusHizCauseStage (n : Nat) : Fld := ⟨Reg.spkStatus n, 5, 5⟩
/-- SPK_STATUS.out_slice; R234. -/
def Fld.spkStatusOutSlice (n : Nat) : Fld := ⟨Reg.spkStatus n, 3, 0⟩
/-- SPK_EVENTS.line; R235. -/
def Fld.spkEventsLine (n : Nat) : Fld := ⟨Reg.spkEvents n, 9, 9⟩
/-- SPK_EVENTS.diag_done; R235. -/
def Fld.spkEventsDiagDone (n : Nat) : Fld := ⟨Reg.spkEvents n, 8, 8⟩
/-- SPK_EVENTS.derate; R235. -/
def Fld.spkEventsDerate (n : Nat) : Fld := ⟨Reg.spkEvents n, 7, 7⟩
/-- SPK_EVENTS.thermal; R235. -/
def Fld.spkEventsThermal (n : Nat) : Fld := ⟨Reg.spkEvents n, 6, 6⟩
/-- SPK_EVENTS.seg_retired; R235. -/
def Fld.spkEventsSegRetired (n : Nat) : Fld := ⟨Reg.spkEvents n, 5, 5⟩
/-- SPK_EVENTS.clip; R235. -/
def Fld.spkEventsClip (n : Nat) : Fld := ⟨Reg.spkEvents n, 4, 4⟩
/-- SPK_EVENTS.failed; R235. -/
def Fld.spkEventsFailed (n : Nat) : Fld := ⟨Reg.spkEvents n, 3, 3⟩
/-- SPK_EVENTS.retired; R235. -/
def Fld.spkEventsRetired (n : Nat) : Fld := ⟨Reg.spkEvents n, 2, 2⟩
/-- SPK_EVENTS.pvdd; R235. -/
def Fld.spkEventsPvdd (n : Nat) : Fld := ⟨Reg.spkEvents n, 1, 1⟩
/-- SPK_EVENTS.short; R235. -/
def Fld.spkEventsShort (n : Nat) : Fld := ⟨Reg.spkEvents n, 0, 0⟩
/-- SPK_SEGP.retired; R236. -/
def Fld.spkSegpRetired (n : Nat) : Fld := ⟨Reg.spkSegp n, 31, 30⟩
/-- SPK_SEGP.in_service; R236. -/
def Fld.spkSegpInService (n : Nat) : Fld := ⟨Reg.spkSegp n, 17, 0⟩
/-- SPK_SEGN.retired; R236. -/
def Fld.spkSegnRetired (n : Nat) : Fld := ⟨Reg.spkSegn n, 31, 30⟩
/-- SPK_SEGN.in_service; R236. -/
def Fld.spkSegnInService (n : Nat) : Fld := ⟨Reg.spkSegn n, 17, 0⟩
/-- SPK_DIAGCFG.open_th; R237. -/
def Fld.spkDiagcfgOpenTh (n : Nat) : Fld := ⟨Reg.spkDiagcfg n, 15, 8⟩
/-- SPK_DIAGCFG.short_th; R237. -/
def Fld.spkDiagcfgShortTh (n : Nat) : Fld := ⟨Reg.spkDiagcfg n, 7, 0⟩
/-- SPK_DIAG.r_meas; R237. -/
def Fld.spkDiagRMeas (n : Nat) : Fld := ⟨Reg.spkDiag n, 31, 16⟩
/-- SPK_DIAG.result; R237. -/
def Fld.spkDiagResult (n : Nat) : Fld := ⟨Reg.spkDiag n, 3, 0⟩
/-- SPK_PILOT.en; R237. -/
def Fld.spkPilotEn (n : Nat) : Fld := ⟨Reg.spkPilot n, 31, 31⟩
/-- SPK_PILOT.gen; R237. -/
def Fld.spkPilotGen (n : Nat) : Fld := ⟨Reg.spkPilot n, 26, 24⟩
/-- SPK_PILOT.count; R237. -/
def Fld.spkPilotCount (n : Nat) : Fld := ⟨Reg.spkPilot n, 19, 16⟩
/-- SPK_PILOT.zhi; R237. -/
def Fld.spkPilotZhi (n : Nat) : Fld := ⟨Reg.spkPilot n, 15, 8⟩
/-- SPK_PILOT.zlo; R237. -/
def Fld.spkPilotZlo (n : Nat) : Fld := ⟨Reg.spkPilot n, 7, 0⟩
/-- SPK_PILOTSTAT.result; R237. -/
def Fld.spkPilotstatResult (n : Nat) : Fld := ⟨Reg.spkPilotstat n, 31, 28⟩
/-- SPK_PILOTSTAT.z; R237. -/
def Fld.spkPilotstatZ (n : Nat) : Fld := ⟨Reg.spkPilotstat n, 15, 0⟩
/-- SPK_LIMITS.ceiling; R237. -/
def Fld.spkLimitsCeiling (n : Nat) : Fld := ⟨Reg.spkLimits n, 31, 24⟩
/-- SPK_LIMITS.derate; R237. -/
def Fld.spkLimitsDerate (n : Nat) : Fld := ⟨Reg.spkLimits n, 15, 8⟩
/-- SPK_PVDD.ready; R238. -/
def Fld.spkPvddReady : Fld := ⟨Reg.spkPvdd, 31, 31⟩
/-- SPK_PVDD.low; R238. -/
def Fld.spkPvddLow : Fld := ⟨Reg.spkPvdd, 30, 30⟩
/-- SPK_PVDD.high; R238. -/
def Fld.spkPvddHigh : Fld := ⟨Reg.spkPvdd, 29, 29⟩
/-- SPK_PVDD.mv; R238. -/
def Fld.spkPvddMv : Fld := ⟨Reg.spkPvdd, 15, 0⟩
/-- SPK_THERM.temp; R238. -/
def Fld.spkThermTemp : Fld := ⟨Reg.spkTherm, 11, 0⟩
/-- SPK_PAIR.par23; R238. -/
def Fld.spkPairPar23 : Fld := ⟨Reg.spkPair, 1, 1⟩
/-- SPK_PAIR.par01; R238. -/
def Fld.spkPairPar01 : Fld := ⟨Reg.spkPair, 0, 0⟩
/-- JD_CFG.en; R255. -/
def Fld.jdCfgEn (k : Nat) : Fld := ⟨Reg.jdCfg k, 31, 31⟩
/-- JD_CFG.pol; R255. -/
def Fld.jdCfgPol (k : Nat) : Fld := ⟨Reg.jdCfg k, 30, 30⟩
/-- JD_CFG.pull; R255. -/
def Fld.jdCfgPull (k : Nat) : Fld := ⟨Reg.jdCfg k, 29, 29⟩
/-- JD_CFG.hs_auto; R255. -/
def Fld.jdCfgHsAuto (k : Nat) : Fld := ⟨Reg.jdCfg k, 28, 28⟩
/-- JD_CFG.hs; R255. -/
def Fld.jdCfgHs (k : Nat) : Fld := ⟨Reg.jdCfg k, 27, 27⟩
/-- JD_CFG.hi_th; R255. -/
def Fld.jdCfgHiTh (k : Nat) : Fld := ⟨Reg.jdCfg k, 23, 20⟩
/-- JD_CFG.lo_th; R255. -/
def Fld.jdCfgLoTh (k : Nat) : Fld := ⟨Reg.jdCfg k, 19, 16⟩
/-- JD_CFG.debounce; R255. -/
def Fld.jdCfgDebounce (k : Nat) : Fld := ⟨Reg.jdCfg k, 8, 0⟩
/-- JD_MUTE.mute_rem; R256. -/
def Fld.jdMuteMuteRem (k : Nat) : Fld := ⟨Reg.jdMute k, 25, 16⟩
/-- JD_MUTE.mute_ins; R256. -/
def Fld.jdMuteMuteIns (k : Nat) : Fld := ⟨Reg.jdMute k, 9, 0⟩
/-- JACK_STATUS.raw; R257. -/
def Fld.jackStatusRaw : Fld := ⟨Reg.jackStatus, 7, 4⟩
/-- JACK_STATUS.inserted; R257. -/
def Fld.jackStatusInserted : Fld := ⟨Reg.jackStatus, 3, 0⟩
/-- JACK_EVENTS.btn_release; R257. -/
def Fld.jackEventsBtnRelease : Fld := ⟨Reg.jackEvents, 13, 12⟩
/-- JACK_EVENTS.btn_press; R257. -/
def Fld.jackEventsBtnPress : Fld := ⟨Reg.jackEvents, 11, 10⟩
/-- JACK_EVENTS.hs_done; R257. -/
def Fld.jackEventsHsDone : Fld := ⟨Reg.jackEvents, 9, 8⟩
/-- JACK_EVENTS.remove; R257. -/
def Fld.jackEventsRemove : Fld := ⟨Reg.jackEvents, 7, 4⟩
/-- JACK_EVENTS.insert; R257. -/
def Fld.jackEventsInsert : Fld := ⟨Reg.jackEvents, 3, 0⟩
/-- HS_CFG.btn_en; R258. -/
def Fld.hsCfgBtnEn (h : Nat) : Fld := ⟨Reg.hsCfg h, 31, 31⟩
/-- HS_CFG.micb; R258. -/
def Fld.hsCfgMicb (h : Nat) : Fld := ⟨Reg.hsCfg h, 27, 26⟩
/-- HS_CFG.thmic; R258. -/
def Fld.hsCfgThmic (h : Nat) : Fld := ⟨Reg.hsCfg h, 23, 16⟩
/-- HS_CFG.th3; R258. -/
def Fld.hsCfgTh3 (h : Nat) : Fld := ⟨Reg.hsCfg h, 15, 8⟩
/-- HS_CFG.btn_db; R258. -/
def Fld.hsCfgBtnDb (h : Nat) : Fld := ⟨Reg.hsCfg h, 5, 0⟩
/-- HS_CTRL.abort; R258. -/
def Fld.hsCtrlAbort (h : Nat) : Fld := ⟨Reg.hsCtrl h, 1, 1⟩
/-- HS_CTRL.start; R258. -/
def Fld.hsCtrlStart (h : Nat) : Fld := ⟨Reg.hsCtrl h, 0, 0⟩
/-- HS_RES.type; R258. -/
def Fld.hsResType (h : Nat) : Fld := ⟨Reg.hsRes h, 31, 28⟩
/-- HS_RES.running; R258. -/
def Fld.hsResRunning (h : Nat) : Fld := ⟨Reg.hsRes h, 27, 27⟩
/-- HS_RES.z; R258. -/
def Fld.hsResZ (h : Nat) : Fld := ⟨Reg.hsRes h, 11, 0⟩
/-- HS_BTNCFG.th3; R258. -/
def Fld.hsBtncfgTh3 (h : Nat) : Fld := ⟨Reg.hsBtncfg h, 31, 24⟩
/-- HS_BTNCFG.th2; R258. -/
def Fld.hsBtncfgTh2 (h : Nat) : Fld := ⟨Reg.hsBtncfg h, 23, 16⟩
/-- HS_BTNCFG.th1; R258. -/
def Fld.hsBtncfgTh1 (h : Nat) : Fld := ⟨Reg.hsBtncfg h, 15, 8⟩
/-- HS_BTNCFG.th0; R258. -/
def Fld.hsBtncfgTh0 (h : Nat) : Fld := ⟨Reg.hsBtncfg h, 7, 0⟩
/-- HS_BTNSTAT.pressed; R258. -/
def Fld.hsBtnstatPressed (h : Nat) : Fld := ⟨Reg.hsBtnstat h, 31, 31⟩
/-- HS_BTNSTAT.button; R258. -/
def Fld.hsBtnstatButton (h : Nat) : Fld := ⟨Reg.hsBtnstat h, 25, 24⟩
/-- HS_BTNSTAT.level; R258. -/
def Fld.hsBtnstatLevel (h : Nat) : Fld := ⟨Reg.hsBtnstat h, 7, 0⟩
/-- SEQ_CFG.servo_en; R259. -/
def Fld.seqCfgServoEn (n : Nat) : Fld := ⟨Reg.seqCfg n, 31, 31⟩
/-- SEQ_CFG.cm; R259. -/
def Fld.seqCfgCm (n : Nat) : Fld := ⟨Reg.seqCfg n, 25, 24⟩
/-- SEQ_CFG.dc; R259. -/
def Fld.seqCfgDc (n : Nat) : Fld := ⟨Reg.seqCfg n, 19, 16⟩
/-- SEQ_CFG.ramp; R259. -/
def Fld.seqCfgRamp (n : Nat) : Fld := ⟨Reg.seqCfg n, 9, 0⟩
/-- SEQ_CTRL.mute; R260. -/
def Fld.seqCtrlMute (n : Nat) : Fld := ⟨Reg.seqCtrl n, 0, 0⟩
/-- SEQ_STATUS.gain; R260. -/
def Fld.seqStatusGain (n : Nat) : Fld := ⟨Reg.seqStatus n, 31, 16⟩
/-- SEQ_STATUS.step; R260. -/
def Fld.seqStatusStep (n : Nat) : Fld := ⟨Reg.seqStatus n, 15, 12⟩
/-- SEQ_STATUS.mute.software; R260. -/
def Fld.seqStatusMuteSoftware (n : Nat) : Fld := ⟨Reg.seqStatus n, 11, 11⟩
/-- SEQ_STATUS.mute.jack; R260. -/
def Fld.seqStatusMuteJack (n : Nat) : Fld := ⟨Reg.seqStatus n, 10, 10⟩
/-- SEQ_STATUS.mute.supply; R260. -/
def Fld.seqStatusMuteSupply (n : Nat) : Fld := ⟨Reg.seqStatus n, 9, 9⟩
/-- SEQ_STATUS.servo; R260. -/
def Fld.seqStatusServo (n : Nat) : Fld := ⟨Reg.seqStatus n, 7, 6⟩
/-- SEQ_TRIM.trim; R260. -/
def Fld.seqTrimTrim (n : Nat) : Fld := ⟨Reg.seqTrim n, 15, 0⟩
/-- SEQ_EVENTS.servo_limit; R261. -/
def Fld.seqEventsServoLimit : Fld := ⟨Reg.seqEvents, 9, 0⟩
/-- PORT_FMT.share; R291. -/
def Fld.portFmtShare (n : Nat) : Fld := ⟨Reg.portFmt n, 23, 23⟩
/-- PORT_FMT.tx_idle; R291. -/
def Fld.portFmtTxIdle (n : Nat) : Fld := ⟨Reg.portFmt n, 22, 22⟩
/-- PORT_FMT.fs_inv; R291. -/
def Fld.portFmtFsInv (n : Nat) : Fld := ⟨Reg.portFmt n, 21, 21⟩
/-- PORT_FMT.bclk_inv; R291. -/
def Fld.portFmtBclkInv (n : Nat) : Fld := ⟨Reg.portFmt n, 20, 20⟩
/-- PORT_FMT.fs_offset; R291. -/
def Fld.portFmtFsOffset (n : Nat) : Fld := ⟨Reg.portFmt n, 19, 19⟩
/-- PORT_FMT.fs_width; R291. -/
def Fld.portFmtFsWidth (n : Nat) : Fld := ⟨Reg.portFmt n, 18, 17⟩
/-- PORT_FMT.format; R291. -/
def Fld.portFmtFormat (n : Nat) : Fld := ⟨Reg.portFmt n, 15, 14⟩
/-- PORT_FMT.dwidth; R291. -/
def Fld.portFmtDwidth (n : Nat) : Fld := ⟨Reg.portFmt n, 11, 10⟩
/-- PORT_FMT.swidth; R291. -/
def Fld.portFmtSwidth (n : Nat) : Fld := ⟨Reg.portFmt n, 9, 8⟩
/-- PORT_FMT.slots; R291. -/
def Fld.portFmtSlots (n : Nat) : Fld := ⟨Reg.portFmt n, 1, 0⟩
/-- PORT_CLK.tx_master; R292. -/
def Fld.portClkTxMaster (n : Nat) : Fld := ⟨Reg.portClk n, 31, 31⟩
/-- PORT_CLK.tx_asrc; R292. -/
def Fld.portClkTxAsrc (n : Nat) : Fld := ⟨Reg.portClk n, 30, 30⟩
/-- PORT_CLK.tx_rate; R292. -/
def Fld.portClkTxRate (n : Nat) : Fld := ⟨Reg.portClk n, 27, 24⟩
/-- PORT_CLK.tx_bdiv; R292. -/
def Fld.portClkTxBdiv (n : Nat) : Fld := ⟨Reg.portClk n, 23, 16⟩
/-- PORT_CLK.rx_master; R292. -/
def Fld.portClkRxMaster (n : Nat) : Fld := ⟨Reg.portClk n, 15, 15⟩
/-- PORT_CLK.rx_asrc; R292. -/
def Fld.portClkRxAsrc (n : Nat) : Fld := ⟨Reg.portClk n, 14, 14⟩
/-- PORT_CLK.rx_rate; R292. -/
def Fld.portClkRxRate (n : Nat) : Fld := ⟨Reg.portClk n, 11, 8⟩
/-- PORT_CLK.rx_bdiv; R292. -/
def Fld.portClkRxBdiv (n : Nat) : Fld := ⟨Reg.portClk n, 7, 0⟩
/-- PORT_PATH.tx_chan; R293. -/
def Fld.portPathTxChan (n : Nat) : Fld := ⟨Reg.portPath n, 29, 24⟩
/-- PORT_PATH.rx_chan; R293. -/
def Fld.portPathRxChan (n : Nat) : Fld := ⟨Reg.portPath n, 21, 16⟩
/-- PORT_PATH.frames; R293. -/
def Fld.portPathFrames (n : Nat) : Fld := ⟨Reg.portPath n, 15, 8⟩
/-- PORT_PATH.pack; R293. -/
def Fld.portPathPack (n : Nat) : Fld := ⟨Reg.portPath n, 5, 4⟩
/-- PORT_PATH.tx_path; R293. -/
def Fld.portPathTxPath (n : Nat) : Fld := ⟨Reg.portPath n, 1, 1⟩
/-- PORT_PATH.rx_path; R293. -/
def Fld.portPathRxPath (n : Nat) : Fld := ⟨Reg.portPath n, 0, 0⟩
/-- PORT_SLOTMASK.tx_mask; R294. -/
def Fld.portSlotmaskTxMask (n : Nat) : Fld := ⟨Reg.portSlotmask n, 31, 16⟩
/-- PORT_SLOTMASK.rx_mask; R294. -/
def Fld.portSlotmaskRxMask (n : Nat) : Fld := ⟨Reg.portSlotmask n, 15, 0⟩
/-- PORT_CTRL.clr_cnt; R295. -/
def Fld.portCtrlClrCnt (n : Nat) : Fld := ⟨Reg.portCtrl n, 2, 2⟩
/-- PORT_CTRL.tx_run; R295. -/
def Fld.portCtrlTxRun (n : Nat) : Fld := ⟨Reg.portCtrl n, 1, 1⟩
/-- PORT_CTRL.rx_run; R295. -/
def Fld.portCtrlRxRun (n : Nat) : Fld := ⟨Reg.portCtrl n, 0, 0⟩
/-- PORT_SILENT.sil_stop; R296. -/
def Fld.portSilentSilStop (n : Nat) : Fld := ⟨Reg.portSilent n, 15, 8⟩
/-- PORT_SILENT.sil_start; R296. -/
def Fld.portSilentSilStart (n : Nat) : Fld := ⟨Reg.portSilent n, 7, 0⟩
/-- PORT_STATUS.tx_state; R297. -/
def Fld.portStatusTxState (n : Nat) : Fld := ⟨Reg.portStatus n, 31, 28⟩
/-- PORT_STATUS.tx_fill; R297. -/
def Fld.portStatusTxFill (n : Nat) : Fld := ⟨Reg.portStatus n, 27, 24⟩
/-- PORT_STATUS.released; R297. -/
def Fld.portStatusReleased (n : Nat) : Fld := ⟨Reg.portStatus n, 20, 20⟩
/-- PORT_STATUS.tx_locked; R297. -/
def Fld.portStatusTxLocked (n : Nat) : Fld := ⟨Reg.portStatus n, 16, 16⟩
/-- PORT_STATUS.rx_state; R297. -/
def Fld.portStatusRxState (n : Nat) : Fld := ⟨Reg.portStatus n, 15, 12⟩
/-- PORT_STATUS.rx_fill; R297. -/
def Fld.portStatusRxFill (n : Nat) : Fld := ⟨Reg.portStatus n, 11, 8⟩
/-- PORT_STATUS.rx_locked; R297. -/
def Fld.portStatusRxLocked (n : Nat) : Fld := ⟨Reg.portStatus n, 0, 0⟩
/-- PORT_EVENTS.restart; R298. -/
def Fld.portEventsRestart (n : Nat) : Fld := ⟨Reg.portEvents n, 8, 8⟩
/-- PORT_EVENTS.stopped; R298. -/
def Fld.portEventsStopped (n : Nat) : Fld := ⟨Reg.portEvents n, 7, 7⟩
/-- PORT_EVENTS.started; R298. -/
def Fld.portEventsStarted (n : Nat) : Fld := ⟨Reg.portEvents n, 6, 6⟩
/-- PORT_EVENTS.mask; R298. -/
def Fld.portEventsMask (n : Nat) : Fld := ⟨Reg.portEvents n, 5, 5⟩
/-- PORT_EVENTS.frame_err; R298. -/
def Fld.portEventsFrameErr (n : Nat) : Fld := ⟨Reg.portEvents n, 4, 4⟩
/-- PORT_EVENTS.tx_over; R298. -/
def Fld.portEventsTxOver (n : Nat) : Fld := ⟨Reg.portEvents n, 3, 3⟩
/-- PORT_EVENTS.tx_under; R298. -/
def Fld.portEventsTxUnder (n : Nat) : Fld := ⟨Reg.portEvents n, 2, 2⟩
/-- PORT_EVENTS.rx_over; R298. -/
def Fld.portEventsRxOver (n : Nat) : Fld := ⟨Reg.portEvents n, 1, 1⟩
/-- PORT_EVENTS.rx_under; R298. -/
def Fld.portEventsRxUnder (n : Nat) : Fld := ⟨Reg.portEvents n, 0, 0⟩
/-- PORT_COUNT0.rx_under; R299. -/
def Fld.portCount0RxUnder (n : Nat) : Fld := ⟨Reg.portCount0 n, 31, 16⟩
/-- PORT_COUNT0.rx_over; R299. -/
def Fld.portCount0RxOver (n : Nat) : Fld := ⟨Reg.portCount0 n, 15, 0⟩
/-- PORT_COUNT1.tx_under; R299. -/
def Fld.portCount1TxUnder (n : Nat) : Fld := ⟨Reg.portCount1 n, 31, 16⟩
/-- PORT_COUNT1.tx_over; R299. -/
def Fld.portCount1TxOver (n : Nat) : Fld := ⟨Reg.portCount1 n, 15, 0⟩
/-- PORT_COUNT2.frame_err; R299. -/
def Fld.portCount2FrameErr (n : Nat) : Fld := ⟨Reg.portCount2 n, 15, 0⟩
/-- PORT_RXFRAME.count; R299. -/
def Fld.portRxframeCount (n : Nat) : Fld := ⟨Reg.portRxframe n, 31, 0⟩
/-- PORT_TXFRAME.count; R299. -/
def Fld.portTxframeCount (n : Nat) : Fld := ⟨Reg.portTxframe n, 31, 0⟩
/-- SPDIF_CFG.rx_asrc; R321. -/
def Fld.spdifCfgRxAsrc : Fld := ⟨Reg.spdifCfg, 31, 31⟩
/-- SPDIF_CFG.tx_asrc; R321. -/
def Fld.spdifCfgTxAsrc : Fld := ⟨Reg.spdifCfg, 30, 30⟩
/-- SPDIF_CFG.rx_np; R321. -/
def Fld.spdifCfgRxNp : Fld := ⟨Reg.spdifCfg, 29, 29⟩
/-- SPDIF_CFG.tx_chnum; R321. -/
def Fld.spdifCfgTxChnum : Fld := ⟨Reg.spdifCfg, 28, 28⟩
/-- SPDIF_CFG.tx_autofs; R321. -/
def Fld.spdifCfgTxAutofs : Fld := ⟨Reg.spdifCfg, 27, 27⟩
/-- SPDIF_CFG.tx_rate; R321. -/
def Fld.spdifCfgTxRate : Fld := ⟨Reg.spdifCfg, 23, 20⟩
/-- SPDIF_CFG.rx_vmode; R321. -/
def Fld.spdifCfgRxVmode : Fld := ⟨Reg.spdifCfg, 19, 18⟩
/-- SPDIF_CTRL.clr_cnt; R322. -/
def Fld.spdifCtrlClrCnt : Fld := ⟨Reg.spdifCtrl, 2, 2⟩
/-- SPDIF_CTRL.tx_run; R322. -/
def Fld.spdifCtrlTxRun : Fld := ⟨Reg.spdifCtrl, 1, 1⟩
/-- SPDIF_CTRL.rx_run; R322. -/
def Fld.spdifCtrlRxRun : Fld := ⟨Reg.spdifCtrl, 0, 0⟩
/-- SPDIF_SILENT.sil_stop; R322. -/
def Fld.spdifSilentSilStop : Fld := ⟨Reg.spdifSilent, 15, 8⟩
/-- SPDIF_SILENT.sil_start; R322. -/
def Fld.spdifSilentSilStart : Fld := ⟨Reg.spdifSilent, 7, 0⟩
/-- SPDIF_STATUS.tx_state; R322. -/
def Fld.spdifStatusTxState : Fld := ⟨Reg.spdifStatus, 31, 28⟩
/-- SPDIF_STATUS.tx_fill; R322. -/
def Fld.spdifStatusTxFill : Fld := ⟨Reg.spdifStatus, 27, 24⟩
/-- SPDIF_STATUS.released; R322. -/
def Fld.spdifStatusReleased : Fld := ⟨Reg.spdifStatus, 20, 20⟩
/-- SPDIF_STATUS.rx_state; R322. -/
def Fld.spdifStatusRxState : Fld := ⟨Reg.spdifStatus, 15, 12⟩
/-- SPDIF_STATUS.rx_fill; R322. -/
def Fld.spdifStatusRxFill : Fld := ⟨Reg.spdifStatus, 11, 8⟩
/-- SPDIF_STATUS.rx_block; R322. -/
def Fld.spdifStatusRxBlock : Fld := ⟨Reg.spdifStatus, 1, 1⟩
/-- SPDIF_STATUS.rx_locked; R322. -/
def Fld.spdifStatusRxLocked : Fld := ⟨Reg.spdifStatus, 0, 0⟩
/-- SPDIF_EVENTS.restart; R322. -/
def Fld.spdifEventsRestart : Fld := ⟨Reg.spdifEvents, 12, 12⟩
/-- SPDIF_EVENTS.np_change; R322. -/
def Fld.spdifEventsNpChange : Fld := ⟨Reg.spdifEvents, 11, 11⟩
/-- SPDIF_EVENTS.rate_mismatch; R322. -/
def Fld.spdifEventsRateMismatch : Fld := ⟨Reg.spdifEvents, 10, 10⟩
/-- SPDIF_EVENTS.parity; R322. -/
def Fld.spdifEventsParity : Fld := ⟨Reg.spdifEvents, 9, 9⟩
/-- SPDIF_EVENTS.cs_change; R322. -/
def Fld.spdifEventsCsChange : Fld := ⟨Reg.spdifEvents, 8, 8⟩
/-- SPDIF_EVENTS.stopped; R322. -/
def Fld.spdifEventsStopped : Fld := ⟨Reg.spdifEvents, 7, 7⟩
/-- SPDIF_EVENTS.started; R322. -/
def Fld.spdifEventsStarted : Fld := ⟨Reg.spdifEvents, 6, 6⟩
/-- SPDIF_EVENTS.frame_err; R322. -/
def Fld.spdifEventsFrameErr : Fld := ⟨Reg.spdifEvents, 4, 4⟩
/-- SPDIF_EVENTS.tx_over; R322. -/
def Fld.spdifEventsTxOver : Fld := ⟨Reg.spdifEvents, 3, 3⟩
/-- SPDIF_EVENTS.tx_under; R322. -/
def Fld.spdifEventsTxUnder : Fld := ⟨Reg.spdifEvents, 2, 2⟩
/-- SPDIF_EVENTS.rx_over; R322. -/
def Fld.spdifEventsRxOver : Fld := ⟨Reg.spdifEvents, 1, 1⟩
/-- SPDIF_EVENTS.rx_under; R322. -/
def Fld.spdifEventsRxUnder : Fld := ⟨Reg.spdifEvents, 0, 0⟩
/-- SPDIF_COUNT0.rx_under; R322. -/
def Fld.spdifCount0RxUnder : Fld := ⟨Reg.spdifCount0, 31, 16⟩
/-- SPDIF_COUNT0.rx_over; R322. -/
def Fld.spdifCount0RxOver : Fld := ⟨Reg.spdifCount0, 15, 0⟩
/-- SPDIF_COUNT1.tx_under; R322. -/
def Fld.spdifCount1TxUnder : Fld := ⟨Reg.spdifCount1, 31, 16⟩
/-- SPDIF_COUNT1.tx_over; R322. -/
def Fld.spdifCount1TxOver : Fld := ⟨Reg.spdifCount1, 15, 0⟩
/-- SPDIF_COUNT2.parity; R322. -/
def Fld.spdifCount2Parity : Fld := ⟨Reg.spdifCount2, 31, 16⟩
/-- SPDIF_COUNT2.frame_err; R322. -/
def Fld.spdifCount2FrameErr : Fld := ⟨Reg.spdifCount2, 15, 0⟩
/-- SPDIF_COUNT3.invalid; R322. -/
def Fld.spdifCount3Invalid : Fld := ⟨Reg.spdifCount3, 31, 16⟩
/-- SPDIF_TXVAL.v_b; R322. -/
def Fld.spdifTxvalVB : Fld := ⟨Reg.spdifTxval, 1, 1⟩
/-- SPDIF_TXVAL.v_a; R322. -/
def Fld.spdifTxvalVA : Fld := ⟨Reg.spdifTxval, 0, 0⟩
/-- SPDIF_RXCSA.cs; R322. -/
def Fld.spdifRxcsaCs (w : Nat) : Fld := ⟨Reg.spdifRxcsa w, 31, 0⟩
/-- SPDIF_RXCSB.cs; R322. -/
def Fld.spdifRxcsbCs (w : Nat) : Fld := ⟨Reg.spdifRxcsb w, 31, 0⟩
/-- SPDIF_TXCS.cs; R322. -/
def Fld.spdifTxcsCs (w : Nat) : Fld := ⟨Reg.spdifTxcs w, 31, 0⟩
/-- SPDIF_NPCFG.relock_mute; R323. -/
def Fld.spdifNpcfgRelockMute : Fld := ⟨Reg.spdifNpcfg, 31, 31⟩
/-- SPDIF_NPCFG.ramp; R323. -/
def Fld.spdifNpcfgRamp : Fld := ⟨Reg.spdifNpcfg, 25, 16⟩
/-- SPDIF_NPCFG.hold; R323. -/
def Fld.spdifNpcfgHold : Fld := ⟨Reg.spdifNpcfg, 10, 0⟩
/-- SPDIF_IECMAP.pairs; R323. -/
def Fld.spdifIecmapPairs (n : Nat) : Fld := ⟨Reg.spdifIecmap n, 7, 0⟩
/-- SPDIF_NPSTAT.used; R323. -/
def Fld.spdifNpstatUsed (k : Nat) : Fld := ⟨Reg.spdifNpstat k, 31, 31⟩
/-- SPDIF_NPSTAT.muted; R323. -/
def Fld.spdifNpstatMuted (k : Nat) : Fld := ⟨Reg.spdifNpstat k, 30, 30⟩
/-- SPDIF_NPSTAT.cause; R323. -/
def Fld.spdifNpstatCause (k : Nat) : Fld := ⟨Reg.spdifNpstat k, 29, 28⟩
/-- SPDIF_NPSTAT.stream; R323. -/
def Fld.spdifNpstatStream (k : Nat) : Fld := ⟨Reg.spdifNpstat k, 26, 24⟩
/-- SPDIF_NPSTAT.pair; R323. -/
def Fld.spdifNpstatPair (k : Nat) : Fld := ⟨Reg.spdifNpstat k, 18, 16⟩
/-- SPDIF_NPSTAT.pcm_ms; R323. -/
def Fld.spdifNpstatPcmMs (k : Nat) : Fld := ⟨Reg.spdifNpstat k, 15, 0⟩
/-- RMON_STATUS.state; R324. -/
def Fld.rmonStatusState (m : Nat) : Fld := ⟨Reg.rmonStatus m, 31, 28⟩
/-- RMON_STATUS.rate; R324. -/
def Fld.rmonStatusRate (m : Nat) : Fld := ⟨Reg.rmonStatus m, 27, 24⟩
/-- RMON_STATUS.period; R324. -/
def Fld.rmonStatusPeriod (m : Nat) : Fld := ⟨Reg.rmonStatus m, 23, 0⟩
/-- RMON_COUNT.glitches; R324. -/
def Fld.rmonCountGlitches (m : Nat) : Fld := ⟨Reg.rmonCount m, 31, 16⟩
/-- RMON_COUNT.stops; R324. -/
def Fld.rmonCountStops (m : Nat) : Fld := ⟨Reg.rmonCount m, 15, 8⟩
/-- RMON_COUNT.rates; R324. -/
def Fld.rmonCountRates (m : Nat) : Fld := ⟨Reg.rmonCount m, 7, 0⟩
/-- RMON_CTRL.clr; R325. -/
def Fld.rmonCtrlClr : Fld := ⟨Reg.rmonCtrl, 12, 0⟩
/-- RMON_EVENTS0.returned; R325. -/
def Fld.rmonEvents0Returned : Fld := ⟨Reg.rmonEvents0, 28, 16⟩
/-- RMON_EVENTS0.stop; R325. -/
def Fld.rmonEvents0Stop : Fld := ⟨Reg.rmonEvents0, 12, 0⟩
/-- RMON_EVENTS1.rate; R325. -/
def Fld.rmonEvents1Rate : Fld := ⟨Reg.rmonEvents1, 28, 16⟩
/-- RMON_EVENTS1.glitch; R325. -/
def Fld.rmonEvents1Glitch : Fld := ⟨Reg.rmonEvents1, 12, 0⟩
/-- ASRC_G_CFG.follow; R326. -/
def Fld.asrcGCfgFollow (g : Nat) : Fld := ⟨Reg.asrcGCfg g, 31, 31⟩
/-- ASRC_G_STATUS.state; R326. -/
def Fld.asrcGStatusState (g : Nat) : Fld := ⟨Reg.asrcGStatus g, 31, 28⟩
/-- ASRC_G_STATUS.count; R326. -/
def Fld.asrcGStatusCount (g : Nat) : Fld := ⟨Reg.asrcGStatus g, 20, 16⟩
/-- ASRC_G_STATUS.first; R326. -/
def Fld.asrcGStatusFirst (g : Nat) : Fld := ⟨Reg.asrcGStatus g, 12, 8⟩
/-- ASRC_G_RATIO.ratio; R326. -/
def Fld.asrcGRatioRatio (g : Nat) : Fld := ⟨Reg.asrcGRatio g, 31, 0⟩
/-- ASRC_G_COUNT.fades; R326. -/
def Fld.asrcGCountFades (g : Nat) : Fld := ⟨Reg.asrcGCount g, 31, 16⟩
/-- ASRC_G_COUNT.acquires; R326. -/
def Fld.asrcGCountAcquires (g : Nat) : Fld := ⟨Reg.asrcGCount g, 15, 0⟩
/-- ASRC_CTRL.clr; R327. -/
def Fld.asrcCtrlClr : Fld := ⟨Reg.asrcCtrl, 13, 0⟩
/-- ASRC_EVENTS.unlock; R327. -/
def Fld.asrcEventsUnlock : Fld := ⟨Reg.asrcEvents, 29, 16⟩
/-- ASRC_EVENTS.lock; R327. -/
def Fld.asrcEventsLock : Fld := ⟨Reg.asrcEvents, 13, 0⟩
/-- USB_CTRL.clr_cnt; R348. -/
def Fld.usbCtrlClrCnt : Fld := ⟨Reg.usbCtrl, 3, 3⟩
/-- USB_CTRL.wake_jack; R348. -/
def Fld.usbCtrlWakeJack : Fld := ⟨Reg.usbCtrl, 2, 2⟩
/-- USB_CTRL.wake_hid; R348. -/
def Fld.usbCtrlWakeHid : Fld := ⟨Reg.usbCtrl, 1, 1⟩
/-- USB_CTRL.discon; R348. -/
def Fld.usbCtrlDiscon : Fld := ⟨Reg.usbCtrl, 0, 0⟩
/-- USB_STATUS.state; R349. -/
def Fld.usbStatusState : Fld := ⟨Reg.usbStatus, 31, 28⟩
/-- USB_STATUS.speed; R349. -/
def Fld.usbStatusSpeed : Fld := ⟨Reg.usbStatus, 27, 27⟩
/-- USB_STATUS.vbus; R349. -/
def Fld.usbStatusVbus : Fld := ⟨Reg.usbStatus, 26, 26⟩
/-- USB_STATUS.rwake; R349. -/
def Fld.usbStatusRwake : Fld := ⟨Reg.usbStatus, 25, 25⟩
/-- USB_STATUS.address; R349. -/
def Fld.usbStatusAddress : Fld := ⟨Reg.usbStatus, 22, 16⟩
/-- USB_STATUS.cap_alt; R349. -/
def Fld.usbStatusCapAlt : Fld := ⟨Reg.usbStatus, 15, 8⟩
/-- USB_STATUS.play_alt; R349. -/
def Fld.usbStatusPlayAlt : Fld := ⟨Reg.usbStatus, 7, 0⟩
/-- USB_RATE.cap_ratio; R350. -/
def Fld.usbRateCapRatio : Fld := ⟨Reg.usbRate, 21, 20⟩
/-- USB_RATE.cap_rate; R350. -/
def Fld.usbRateCapRate : Fld := ⟨Reg.usbRate, 19, 16⟩
/-- USB_RATE.play_ratio; R350. -/
def Fld.usbRatePlayRatio : Fld := ⟨Reg.usbRate, 5, 4⟩
/-- USB_RATE.play_rate; R350. -/
def Fld.usbRatePlayRate : Fld := ⟨Reg.usbRate, 3, 0⟩
/-- USB_FEEDBACK.fb; R351. -/
def Fld.usbFeedbackFb : Fld := ⟨Reg.usbFeedback, 31, 0⟩
/-- USB_FILL.cap_fill; R351. -/
def Fld.usbFillCapFill : Fld := ⟨Reg.usbFill, 31, 16⟩
/-- USB_FILL.play_fill; R351. -/
def Fld.usbFillPlayFill : Fld := ⟨Reg.usbFill, 15, 0⟩
/-- USB_EVENTS.bus_reset; R351. -/
def Fld.usbEventsBusReset : Fld := ⟨Reg.usbEvents, 8, 8⟩
/-- USB_EVENTS.suspend; R351. -/
def Fld.usbEventsSuspend : Fld := ⟨Reg.usbEvents, 7, 7⟩
/-- USB_EVENTS.hid_out; R351. -/
def Fld.usbEventsHidOut : Fld := ⟨Reg.usbEvents, 6, 6⟩
/-- USB_EVENTS.fu; R351. -/
def Fld.usbEventsFu : Fld := ⟨Reg.usbEvents, 5, 5⟩
/-- USB_EVENTS.alt; R351. -/
def Fld.usbEventsAlt : Fld := ⟨Reg.usbEvents, 4, 4⟩
/-- USB_EVENTS.cap_under; R351. -/
def Fld.usbEventsCapUnder : Fld := ⟨Reg.usbEvents, 3, 3⟩
/-- USB_EVENTS.cap_over; R351. -/
def Fld.usbEventsCapOver : Fld := ⟨Reg.usbEvents, 2, 2⟩
/-- USB_EVENTS.play_over; R351. -/
def Fld.usbEventsPlayOver : Fld := ⟨Reg.usbEvents, 1, 1⟩
/-- USB_EVENTS.play_under; R351. -/
def Fld.usbEventsPlayUnder : Fld := ⟨Reg.usbEvents, 0, 0⟩
/-- USB_COUNT0.play_under; R351. -/
def Fld.usbCount0PlayUnder : Fld := ⟨Reg.usbCount0, 31, 16⟩
/-- USB_COUNT0.play_over; R351. -/
def Fld.usbCount0PlayOver : Fld := ⟨Reg.usbCount0, 15, 0⟩
/-- USB_COUNT1.bad_pkt; R351. -/
def Fld.usbCount1BadPkt : Fld := ⟨Reg.usbCount1, 31, 24⟩
/-- USB_COUNT1.cap_under; R351. -/
def Fld.usbCount1CapUnder : Fld := ⟨Reg.usbCount1, 23, 16⟩
/-- USB_COUNT1.cap_over; R351. -/
def Fld.usbCount1CapOver : Fld := ⟨Reg.usbCount1, 15, 0⟩
/-- USB_FUPLAY.mute; R351. -/
def Fld.usbFuplayMute : Fld := ⟨Reg.usbFuplay, 16, 16⟩
/-- USB_FUPLAY.vol; R351. -/
def Fld.usbFuplayVol : Fld := ⟨Reg.usbFuplay, 15, 0⟩
/-- USB_FUCAP.mute; R351. -/
def Fld.usbFucapMute : Fld := ⟨Reg.usbFucap, 16, 16⟩
/-- USB_FUCAP.vol; R351. -/
def Fld.usbFucapVol : Fld := ⟨Reg.usbFucap, 15, 0⟩
/-- USB_HIDIN.report; R351. -/
def Fld.usbHidinReport : Fld := ⟨Reg.usbHidin, 7, 0⟩
/-- USB_HIDOUT.report; R351. -/
def Fld.usbHidoutReport : Fld := ⟨Reg.usbHidout, 2, 0⟩
/-- USB_SOF.frame; R351. -/
def Fld.usbSofFrame : Fld := ⟨Reg.usbSof, 13, 3⟩
/-- USB_SOF.micro; R351. -/
def Fld.usbSofMicro : Fld := ⟨Reg.usbSof, 2, 0⟩
/-- ENG_CTRL.clr_cnt; R381. -/
def Fld.engCtrlClrCnt (n : Nat) : Fld := ⟨Reg.engCtrl n, 4, 4⟩
/-- ENG_CTRL.cmd; R381. -/
def Fld.engCtrlCmd (n : Nat) : Fld := ⟨Reg.engCtrl n, 3, 0⟩
/-- ENG_STATUS.state; R382. -/
def Fld.engStatusState (n : Nat) : Fld := ⟨Reg.engStatus n, 31, 28⟩
/-- ENG_STATUS.fast; R382. -/
def Fld.engStatusFast (n : Nat) : Fld := ⟨Reg.engStatus n, 27, 27⟩
/-- ENG_STATUS.trap; R382. -/
def Fld.engStatusTrap (n : Nat) : Fld := ⟨Reg.engStatus n, 26, 26⟩
/-- ENG_STATUS.loop; R382. -/
def Fld.engStatusLoop (n : Nat) : Fld := ⟨Reg.engStatus n, 25, 25⟩
/-- ENG_STATUS.throttled; R382. -/
def Fld.engStatusThrottled (n : Nat) : Fld := ⟨Reg.engStatus n, 24, 24⟩
/-- ENG_ENTRY.addr; R383. -/
def Fld.engEntryAddr (n : Nat) : Fld := ⟨Reg.engEntry n, 31, 3⟩
/-- ENG_PC.pc; R383. -/
def Fld.engPcPc (n : Nat) : Fld := ⟨Reg.engPc n, 31, 0⟩
/-- ENG_HALTREC0.first; R383. -/
def Fld.engHaltrec0First (n : Nat) : Fld := ⟨Reg.engHaltrec0 n, 31, 24⟩
/-- ENG_HALTREC0.second; R383. -/
def Fld.engHaltrec0Second (n : Nat) : Fld := ⟨Reg.engHaltrec0 n, 23, 16⟩
/-- ENG_HALTREC0.fast; R383. -/
def Fld.engHaltrec0Fast (n : Nat) : Fld := ⟨Reg.engHaltrec0 n, 15, 15⟩
/-- ENG_HALTREC0.situation; R383. -/
def Fld.engHaltrec0Situation (n : Nat) : Fld := ⟨Reg.engHaltrec0 n, 14, 12⟩
/-- ENG_HALTREC1.pc; R383. -/
def Fld.engHaltrec1Pc (n : Nat) : Fld := ⟨Reg.engHaltrec1 n, 31, 0⟩
/-- ENG_HALTREC2.addr; R383. -/
def Fld.engHaltrec2Addr (n : Nat) : Fld := ⟨Reg.engHaltrec2 n, 31, 0⟩
/-- ENG_HALTREC3.loc; R383. -/
def Fld.engHaltrec3Loc (n : Nat) : Fld := ⟨Reg.engHaltrec3 n, 31, 0⟩
/-- ENG_RINGIN.base; R383. -/
def Fld.engRinginBase (n : Nat) : Fld := ⟨Reg.engRingin n, 17, 6⟩
/-- ENG_RINGOUT.base; R383. -/
def Fld.engRingoutBase (n : Nat) : Fld := ⟨Reg.engRingout n, 17, 6⟩
/-- ENG_RINGGEOM.cmaj; R383. -/
def Fld.engRinggeomCmaj (n : Nat) : Fld := ⟨Reg.engRinggeom n, 12, 12⟩
/-- ENG_RINGGEOM.lag; R383. -/
def Fld.engRinggeomLag (n : Nat) : Fld := ⟨Reg.engRinggeom n, 10, 8⟩
/-- ENG_RINGGEOM.depth; R383. -/
def Fld.engRinggeomDepth (n : Nat) : Fld := ⟨Reg.engRinggeom n, 4, 4⟩
/-- ENG_RINGGEOM.blog; R383. -/
def Fld.engRinggeomBlog (n : Nat) : Fld := ⟨Reg.engRinggeom n, 2, 0⟩
/-- ENG_RINGSTAT.out_late; R383. -/
def Fld.engRingstatOutLate (n : Nat) : Fld := ⟨Reg.engRingstat n, 31, 16⟩
/-- ENG_RINGSTAT.in_late; R383. -/
def Fld.engRingstatInLate (n : Nat) : Fld := ⟨Reg.engRingstat n, 15, 0⟩
/-- ENG_DOORBELL.value; R383. -/
def Fld.engDoorbellValue (n : Nat) : Fld := ⟨Reg.engDoorbell n, 31, 0⟩
/-- ENG_LOAD.peak; R383. -/
def Fld.engLoadPeak (n : Nat) : Fld := ⟨Reg.engLoad n, 31, 16⟩
/-- ENG_LOAD.last; R383. -/
def Fld.engLoadLast (n : Nat) : Fld := ⟨Reg.engLoad n, 15, 0⟩
/-- ENG_REGSEL.index; R383. -/
def Fld.engRegselIndex (n : Nat) : Fld := ⟨Reg.engRegsel n, 7, 0⟩
/-- ENG_REGDATA.data; R383. -/
def Fld.engRegdataData (n : Nat) : Fld := ⟨Reg.engRegdata n, 31, 0⟩
/-- WIN_VA.vbase; R404. -/
def Fld.winVaVbase (j : Nat) (s : Nat) : Fld := ⟨Reg.winVa j s, 31, 8⟩
/-- WIN_VA.size; R404. -/
def Fld.winVaSize (j : Nat) (s : Nat) : Fld := ⟨Reg.winVa j s, 7, 4⟩
/-- WIN_VA.s; R404. -/
def Fld.winVaS (j : Nat) (s : Nat) : Fld := ⟨Reg.winVa j s, 3, 3⟩
/-- WIN_VA.x; R404. -/
def Fld.winVaX (j : Nat) (s : Nat) : Fld := ⟨Reg.winVa j s, 2, 2⟩
/-- WIN_VA.w; R404. -/
def Fld.winVaW (j : Nat) (s : Nat) : Fld := ⟨Reg.winVa j s, 1, 1⟩
/-- WIN_VA.r; R404. -/
def Fld.winVaR (j : Nat) (s : Nat) : Fld := ⟨Reg.winVa j s, 0, 0⟩
/-- WIN_PA.pbase; R405. -/
def Fld.winPaPbase (j : Nat) (s : Nat) : Fld := ⟨Reg.winPa j s, 31, 8⟩
/-- MEM_HASHKEY.k; R406. -/
def Fld.memHashkeyK : Fld := ⟨Reg.memHashkey, 3, 0⟩
/-- MEM_SCRUBCFG.en; R406. -/
def Fld.memScrubcfgEn : Fld := ⟨Reg.memScrubcfg, 31, 31⟩
/-- MEM_SCRUBCFG.interval; R406. -/
def Fld.memScrubcfgInterval : Fld := ⟨Reg.memScrubcfg, 4, 0⟩
/-- MEM_CTRL.clr_starve; R407. -/
def Fld.memCtrlClrStarve : Fld := ⟨Reg.memCtrl, 1, 1⟩
/-- MEM_CTRL.clr_ecc; R407. -/
def Fld.memCtrlClrEcc : Fld := ⟨Reg.memCtrl, 0, 0⟩
/-- MEM_EVENTS.wipe; R407. -/
def Fld.memEventsWipe : Fld := ⟨Reg.memEvents, 4, 4⟩
/-- MEM_EVENTS.repair; R407. -/
def Fld.memEventsRepair : Fld := ⟨Reg.memEvents, 3, 3⟩
/-- MEM_EVENTS.starve; R407. -/
def Fld.memEventsStarve : Fld := ⟨Reg.memEvents, 2, 2⟩
/-- MEM_EVENTS.ue; R407. -/
def Fld.memEventsUe : Fld := ⟨Reg.memEvents, 1, 1⟩
/-- MEM_EVENTS.ce; R407. -/
def Fld.memEventsCe : Fld := ⟨Reg.memEvents, 0, 0⟩
/-- MEM_ECCCNT.ce; R408. -/
def Fld.memEcccntCe : Fld := ⟨Reg.memEcccnt, 31, 16⟩
/-- MEM_ECCCNT.ue; R408. -/
def Fld.memEcccntUe : Fld := ⟨Reg.memEcccnt, 15, 0⟩
/-- MEM_CELOC.loc; R408. -/
def Fld.memCelocLoc : Fld := ⟨Reg.memCeloc, 31, 0⟩
/-- MEM_CEINFO.agent; R408. -/
def Fld.memCeinfoAgent : Fld := ⟨Reg.memCeinfo, 31, 24⟩
/-- MEM_CEINFO.cw; R408. -/
def Fld.memCeinfoCw : Fld := ⟨Reg.memCeinfo, 16, 16⟩
/-- MEM_CEINFO.syndrome; R408. -/
def Fld.memCeinfoSyndrome : Fld := ⟨Reg.memCeinfo, 7, 0⟩
/-- MEM_UELOC.loc; R408. -/
def Fld.memUelocLoc : Fld := ⟨Reg.memUeloc, 31, 0⟩
/-- MEM_UEINFO.—; R408. -/
def Fld.memUeinfoInfo : Fld := ⟨Reg.memUeinfo, 31, 0⟩
/-- LBX_STATUS.wiping; R409. -/
def Fld.lbxStatusWiping : Fld := ⟨Reg.lbxStatus, 31, 31⟩
/-- LBX_STATUS.wipes; R409. -/
def Fld.lbxStatusWipes : Fld := ⟨Reg.lbxStatus, 15, 0⟩
/-- MEM_BANK.starve; R409. -/
def Fld.memBankStarve (b : Nat) : Fld := ⟨Reg.memBank b, 31, 16⟩
/-- MEM_BANK.busy; R409. -/
def Fld.memBankBusy (b : Nat) : Fld := ⟨Reg.memBank b, 9, 0⟩
/-- DMA_CH_CFG.halt_link; R429. -/
def Fld.dmaChCfgHaltLink (c : Nat) : Fld := ⟨Reg.dmaChCfg c, 31, 31⟩
/-- DMA_CH_CFG.owner; R429. -/
def Fld.dmaChCfgOwner (c : Nat) : Fld := ⟨Reg.dmaChCfg c, 27, 24⟩
/-- DMA_CH_CFG.timeout; R429. -/
def Fld.dmaChCfgTimeout (c : Nat) : Fld := ⟨Reg.dmaChCfg c, 23, 16⟩
/-- DMA_CH_CFG.wset; R429. -/
def Fld.dmaChCfgWset (c : Nat) : Fld := ⟨Reg.dmaChCfg c, 4, 0⟩
/-- DMA_CH_DESC.addr; R430. -/
def Fld.dmaChDescAddr (c : Nat) : Fld := ⟨Reg.dmaChDesc c, 31, 5⟩
/-- DMA_CH_CTRL.clr_cnt; R430. -/
def Fld.dmaChCtrlClrCnt (c : Nat) : Fld := ⟨Reg.dmaChCtrl c, 4, 4⟩
/-- DMA_CH_CTRL.cmd; R430. -/
def Fld.dmaChCtrlCmd (c : Nat) : Fld := ⟨Reg.dmaChCtrl c, 3, 0⟩
/-- DMA_CH_STATUS.state; R432. -/
def Fld.dmaChStatusState (c : Nat) : Fld := ⟨Reg.dmaChStatus c, 31, 28⟩
/-- DMA_CH_STATUS.inflight; R432. -/
def Fld.dmaChStatusInflight (c : Nat) : Fld := ⟨Reg.dmaChStatus c, 22, 20⟩
/-- DMA_CH_STATUS.tag; R432. -/
def Fld.dmaChStatusTag (c : Nat) : Fld := ⟨Reg.dmaChStatus c, 15, 0⟩
/-- DMA_CH_CURDESC.addr; R432. -/
def Fld.dmaChCurdescAddr (c : Nat) : Fld := ⟨Reg.dmaChCurdesc c, 31, 5⟩
/-- DMA_CH_OFFSET.bytes; R432. -/
def Fld.dmaChOffsetBytes (c : Nat) : Fld := ⟨Reg.dmaChOffset c, 23, 0⟩
/-- DMA_CH_FAULT0.tag; R433. -/
def Fld.dmaChFault0Tag (c : Nat) : Fld := ⟨Reg.dmaChFault0 c, 31, 16⟩
/-- DMA_CH_FAULT0.code; R433. -/
def Fld.dmaChFault0Code (c : Nat) : Fld := ⟨Reg.dmaChFault0 c, 7, 0⟩
/-- DMA_CH_FAULT1.desc; R433. -/
def Fld.dmaChFault1Desc (c : Nat) : Fld := ⟨Reg.dmaChFault1 c, 31, 0⟩
/-- DMA_CH_FAULT2.offset; R433. -/
def Fld.dmaChFault2Offset (c : Nat) : Fld := ⟨Reg.dmaChFault2 c, 23, 0⟩
/-- DMA_CH_FAULT3.addr; R433. -/
def Fld.dmaChFault3Addr (c : Nat) : Fld := ⟨Reg.dmaChFault3 c, 31, 0⟩
/-- DMA_CH_FAULT4.loc; R433. -/
def Fld.dmaChFault4Loc (c : Nat) : Fld := ⟨Reg.dmaChFault4 c, 31, 0⟩
/-- DMA_CH_EVENTS.wait_desc; R434. -/
def Fld.dmaChEventsWaitDesc (c : Nat) : Fld := ⟨Reg.dmaChEvents c, 4, 4⟩
/-- DMA_CH_EVENTS.tumb_skip; R434. -/
def Fld.dmaChEventsTumbSkip (c : Nat) : Fld := ⟨Reg.dmaChEvents c, 3, 3⟩
/-- DMA_CH_EVENTS.stall; R434. -/
def Fld.dmaChEventsStall (c : Nat) : Fld := ⟨Reg.dmaChEvents c, 2, 2⟩
/-- DMA_CH_EVENTS.fault; R434. -/
def Fld.dmaChEventsFault (c : Nat) : Fld := ⟨Reg.dmaChEvents c, 1, 1⟩
/-- DMA_CH_EVENTS.done; R434. -/
def Fld.dmaChEventsDone (c : Nat) : Fld := ⟨Reg.dmaChEvents c, 0, 0⟩
/-- DMA_CH_COUNT.descs; R434. -/
def Fld.dmaChCountDescs (c : Nat) : Fld := ⟨Reg.dmaChCount c, 31, 16⟩
/-- DMA_CH_COUNT.stalls; R434. -/
def Fld.dmaChCountStalls (c : Nat) : Fld := ⟨Reg.dmaChCount c, 15, 0⟩
/-- DMA_INFLIGHT.beats; R435. -/
def Fld.dmaInflightBeats : Fld := ⟨Reg.dmaInflight, 7, 0⟩
/-- DMA_ACTIVE.active; R435. -/
def Fld.dmaActiveActive (w : Nat) : Fld := ⟨Reg.dmaActive w, 31, 0⟩
/-- DMA_FAULTED.faulted; R435. -/
def Fld.dmaFaultedFaulted (w : Nat) : Fld := ⟨Reg.dmaFaulted w, 31, 0⟩
/-- INTC_CTRL.hold; R451. -/
def Fld.intcCtrlHold : Fld := ⟨Reg.intcCtrl, 0, 0⟩
/-- INTC_STATUS.spurious; R451. -/
def Fld.intcStatusSpurious : Fld := ⟨Reg.intcStatus, 31, 16⟩
/-- INTC_HALTEV.halted; R452. -/
def Fld.intcHaltevHalted : Fld := ⟨Reg.intcHaltev, 15, 0⟩
/-- INTC_SWSET.engine; R452. -/
def Fld.intcSwsetEngine : Fld := ⟨Reg.intcSwset, 19, 16⟩
/-- INTC_SWSET.index; R452. -/
def Fld.intcSwsetIndex : Fld := ⟨Reg.intcSwset, 4, 0⟩
/-- EXTINT.type; R453. -/
def Fld.extintType (k : Nat) : Fld := ⟨Reg.extint k, 9, 9⟩
/-- EXTINT.pol; R453. -/
def Fld.extintPol (k : Nat) : Fld := ⟨Reg.extint k, 8, 8⟩
/-- EXTINT.filter; R453. -/
def Fld.extintFilter (k : Nat) : Fld := ⟨Reg.extint k, 7, 0⟩
/-- INTC_SRC_CFG.prio; R454. -/
def Fld.intcSrcCfgPrio (i : Nat) : Fld := ⟨Reg.intcSrcCfg i, 31, 29⟩
/-- INTC_SRC_CFG.fast; R454. -/
def Fld.intcSrcCfgFast (i : Nat) : Fld := ⟨Reg.intcSrcCfg i, 28, 28⟩
/-- INTC_SRC_CFG.target; R454. -/
def Fld.intcSrcCfgTarget (i : Nat) : Fld := ⟨Reg.intcSrcCfg i, 20, 16⟩
/-- INTC_SRC_CFG.edge; R454. -/
def Fld.intcSrcCfgEdge (i : Nat) : Fld := ⟨Reg.intcSrcCfg i, 1, 1⟩
/-- INTC_SRC_COAL.count; R454. -/
def Fld.intcSrcCoalCount (i : Nat) : Fld := ⟨Reg.intcSrcCoal i, 23, 16⟩
/-- INTC_SRC_COAL.time; R454. -/
def Fld.intcSrcCoalTime (i : Nat) : Fld := ⟨Reg.intcSrcCoal i, 15, 0⟩
/-- INTC_T_CLAIM.id; R457. -/
def Fld.intcTClaimId (t : Nat) : Fld := ⟨Reg.intcTClaim t, 9, 0⟩
/-- INTC_T_THRESH.thresh; R457. -/
def Fld.intcTThreshThresh (t : Nat) : Fld := ⟨Reg.intcTThresh t, 2, 0⟩
/-- INTC_T_PRIVEN.fast; R457. -/
def Fld.intcTPrivenFast (t : Nat) : Fld := ⟨Reg.intcTPriven t, 24, 16⟩
/-- INTC_T_PRIVEN.en; R457. -/
def Fld.intcTPrivenEn (t : Nat) : Fld := ⟨Reg.intcTPriven t, 8, 0⟩
/-- INTC_T_STATUS.ready; R457. -/
def Fld.intcTStatusReady (t : Nat) : Fld := ⟨Reg.intcTStatus t, 31, 31⟩
/-- INTC_T_STATUS.next; R457. -/
def Fld.intcTStatusNext (t : Nat) : Fld := ⟨Reg.intcTStatus t, 9, 0⟩
/-- INTC_T_FCLAIM.id; R457. -/
def Fld.intcTFclaimId (t : Nat) : Fld := ⟨Reg.intcTFclaim t, 9, 0⟩
/-- INTC_T_FTHRESH.thresh; R457. -/
def Fld.intcTFthreshThresh (t : Nat) : Fld := ⟨Reg.intcTFthresh t, 2, 0⟩
/-- INTC_T_FSTATUS.ready; R457. -/
def Fld.intcTFstatusReady (t : Nat) : Fld := ⟨Reg.intcTFstatus t, 31, 31⟩
/-- INTC_T_FSTATUS.next; R457. -/
def Fld.intcTFstatusNext (t : Nat) : Fld := ⟨Reg.intcTFstatus t, 9, 0⟩
/-- LINK_CFG.root; R487. -/
def Fld.linkCfgRoot : Fld := ⟨Reg.linkCfg, 31, 31⟩
/-- LINK_CFG.id_host; R487. -/
def Fld.linkCfgIdHost : Fld := ⟨Reg.linkCfg, 30, 30⟩
/-- LINK_CFG.l; R487. -/
def Fld.linkCfgL : Fld := ⟨Reg.linkCfg, 21, 16⟩
/-- LINK_CFG.node_id; R487. -/
def Fld.linkCfgNodeId : Fld := ⟨Reg.linkCfg, 15, 0⟩
/-- LINK_NODEID.valid; R487. -/
def Fld.linkNodeidValid : Fld := ⟨Reg.linkNodeid, 31, 31⟩
/-- LINK_NODEID.id; R487. -/
def Fld.linkNodeidId : Fld := ⟨Reg.linkNodeid, 15, 0⟩
/-- LINK_STATUS.state; R487. -/
def Fld.linkStatusState : Fld := ⟨Reg.linkStatus, 31, 28⟩
/-- LINK_STATUS.root_lost; R487. -/
def Fld.linkStatusRootLost : Fld := ⟨Reg.linkStatus, 27, 27⟩
/-- LINK_STATUS.hops; R487. -/
def Fld.linkStatusHops : Fld := ⟨Reg.linkStatus, 26, 22⟩
/-- LINK_STATUS.l; R487. -/
def Fld.linkStatusL : Fld := ⟨Reg.linkStatus, 21, 16⟩
/-- LINK_POS.path; R487. -/
def Fld.linkPosPath : Fld := ⟨Reg.linkPos, 23, 0⟩
/-- LINK_EVENTS.partner_idle; R487. -/
def Fld.linkEventsPartnerIdle : Fld := ⟨Reg.linkEvents, 9, 9⟩
/-- LINK_EVENTS.wake; R487. -/
def Fld.linkEventsWake : Fld := ⟨Reg.linkEvents, 8, 8⟩
/-- LINK_EVENTS.rejoin; R487. -/
def Fld.linkEventsRejoin : Fld := ⟨Reg.linkEvents, 7, 7⟩
/-- LINK_EVENTS.late; R487. -/
def Fld.linkEventsLate : Fld := ⟨Reg.linkEvents, 6, 6⟩
/-- LINK_EVENTS.tx_done; R487. -/
def Fld.linkEventsTxDone : Fld := ⟨Reg.linkEvents, 5, 5⟩
/-- LINK_EVENTS.rx_msg; R487. -/
def Fld.linkEventsRxMsg : Fld := ⟨Reg.linkEvents, 4, 4⟩
/-- LINK_EVENTS.map; R487. -/
def Fld.linkEventsMap : Fld := ⟨Reg.linkEvents, 3, 3⟩
/-- LINK_EVENTS.mismatch; R487. -/
def Fld.linkEventsMismatch : Fld := ⟨Reg.linkEvents, 2, 2⟩
/-- LINK_EVENTS.joined; R487. -/
def Fld.linkEventsJoined : Fld := ⟨Reg.linkEvents, 1, 1⟩
/-- LINK_EVENTS.root_loss; R487. -/
def Fld.linkEventsRootLoss : Fld := ⟨Reg.linkEvents, 0, 0⟩
/-- LINK_COUNT0.auth; R487. -/
def Fld.linkCount0Auth : Fld := ⟨Reg.linkCount0, 31, 16⟩
/-- LINK_COUNT0.dropped; R487. -/
def Fld.linkCount0Dropped : Fld := ⟨Reg.linkCount0, 15, 0⟩
/-- LINK_COUNT1.late; R487. -/
def Fld.linkCount1Late : Fld := ⟨Reg.linkCount1, 31, 16⟩
/-- LINK_COUNT1.rejoins; R487. -/
def Fld.linkCount1Rejoins : Fld := ⟨Reg.linkCount1, 15, 0⟩
/-- LINK_CTRL.clr_cnt; R487. -/
def Fld.linkCtrlClrCnt : Fld := ⟨Reg.linkCtrl, 0, 0⟩
/-- LINK_TXCTRL.busy; R488. -/
def Fld.linkTxctrlBusy : Fld := ⟨Reg.linkTxctrl, 31, 31⟩
/-- LINK_TXCTRL.send; R488. -/
def Fld.linkTxctrlSend : Fld := ⟨Reg.linkTxctrl, 0, 0⟩
/-- LINK_RXSTAT.count; R488. -/
def Fld.linkRxstatCount : Fld := ⟨Reg.linkRxstat, 31, 28⟩
/-- LINK_RXSTAT.pop; R488. -/
def Fld.linkRxstatPop : Fld := ⟨Reg.linkRxstat, 0, 0⟩
/-- LINK_TXMSG.data; R488. -/
def Fld.linkTxmsgData (w : Nat) : Fld := ⟨Reg.linkTxmsg w, 31, 0⟩
/-- LINK_RXMSG.data; R488. -/
def Fld.linkRxmsgData (w : Nat) : Fld := ⟨Reg.linkRxmsg w, 31, 0⟩
/-- LINK_PORT_CFG.used; R489. -/
def Fld.linkPortCfgUsed (p : Nat) : Fld := ⟨Reg.linkPortCfg p, 31, 31⟩
/-- LINK_PORT_CFG.map; R489. -/
def Fld.linkPortCfgMap (p : Nat) : Fld := ⟨Reg.linkPortCfg p, 15, 0⟩
/-- LINK_PORT_CTRL.wake; R489. -/
def Fld.linkPortCtrlWake (p : Nat) : Fld := ⟨Reg.linkPortCtrl p, 1, 1⟩
/-- LINK_PORT_CTRL.idle; R489. -/
def Fld.linkPortCtrlIdle (p : Nat) : Fld := ⟨Reg.linkPortCtrl p, 0, 0⟩
/-- LINK_PORT_STATUS.state; R489. -/
def Fld.linkPortStatusState (p : Nat) : Fld := ⟨Reg.linkPortStatus p, 31, 28⟩
/-- LINK_PORT_STATUS.map_ok; R489. -/
def Fld.linkPortStatusMapOk (p : Nat) : Fld := ⟨Reg.linkPortStatus p, 27, 27⟩
/-- LINK_PORT_STATUS.partner_joined; R489. -/
def Fld.linkPortStatusPartnerJoined (p : Nat) : Fld := ⟨Reg.linkPortStatus p, 26, 26⟩
/-- LINK_PORT_STATUS.partner; R489. -/
def Fld.linkPortStatusPartner (p : Nat) : Fld := ⟨Reg.linkPortStatus p, 15, 0⟩
/-- LINK_PORT_DELAY.ps; R489. -/
def Fld.linkPortDelayPs (p : Nat) : Fld := ⟨Reg.linkPortDelay p, 31, 0⟩
/-- LINK_PORT_OFFSET.ps; R489. -/
def Fld.linkPortOffsetPs (p : Nat) : Fld := ⟨Reg.linkPortOffset p, 31, 0⟩
/-- LINK_PORT_COUNT.crc; R489. -/
def Fld.linkPortCountCrc (p : Nat) : Fld := ⟨Reg.linkPortCount p, 31, 16⟩
/-- LINK_PORT_COUNT.code; R489. -/
def Fld.linkPortCountCode (p : Nat) : Fld := ⟨Reg.linkPortCount p, 15, 0⟩
/-- LINK_TXSLOT.en; R490. -/
def Fld.linkTxslotEn (s : Nat) (p : Nat) : Fld := ⟨Reg.linkTxslot s p, 31, 31⟩
/-- LINK_TXSLOT.fwd; R490. -/
def Fld.linkTxslotFwd (s : Nat) (p : Nat) : Fld := ⟨Reg.linkTxslot s p, 30, 30⟩
/-- LINK_TXSLOT.port; R490. -/
def Fld.linkTxslotPort (s : Nat) (p : Nat) : Fld := ⟨Reg.linkTxslot s p, 25, 24⟩
/-- LINK_TXSLOT.index; R490. -/
def Fld.linkTxslotIndex (s : Nat) (p : Nat) : Fld := ⟨Reg.linkTxslot s p, 8, 0⟩
/-- LINK_RXCH.en; R490. -/
def Fld.linkRxchEn (c : Nat) : Fld := ⟨Reg.linkRxch c, 31, 31⟩
/-- LINK_RXCH.loop; R490. -/
def Fld.linkRxchLoop (c : Nat) : Fld := ⟨Reg.linkRxch c, 30, 30⟩
/-- LINK_RXCH.port; R490. -/
def Fld.linkRxchPort (c : Nat) : Fld := ⟨Reg.linkRxch c, 25, 24⟩
/-- LINK_RXCH.index; R490. -/
def Fld.linkRxchIndex (c : Nat) : Fld := ⟨Reg.linkRxch c, 8, 0⟩
/-- HINGE_CFG.present; R513. -/
def Fld.hingeCfgPresent : Fld := ⟨Reg.hingeCfg, 31, 31⟩
/-- HINGE_CFG.wdt_hb; R513. -/
def Fld.hingeCfgWdtHb : Fld := ⟨Reg.hingeCfg, 30, 30⟩
/-- HINGE_CFG.crc_thresh; R513. -/
def Fld.hingeCfgCrcThresh : Fld := ⟨Reg.hingeCfg, 23, 16⟩
/-- HINGE_CFG.pair_wait; R513. -/
def Fld.hingeCfgPairWait : Fld := ⟨Reg.hingeCfg, 9, 0⟩
/-- HINGE_CTRL.key; R513. -/
def Fld.hingeCtrlKey : Fld := ⟨Reg.hingeCtrl, 31, 16⟩
/-- HINGE_CTRL.clr_cnt; R513. -/
def Fld.hingeCtrlClrCnt : Fld := ⟨Reg.hingeCtrl, 3, 3⟩
/-- HINGE_CTRL.cmd; R513. -/
def Fld.hingeCtrlCmd : Fld := ⟨Reg.hingeCtrl, 2, 0⟩
/-- HINGE_STATUS.role; R514. -/
def Fld.hingeStatusRole : Fld := ⟨Reg.hingeStatus, 31, 30⟩
/-- HINGE_STATUS.fresh; R514. -/
def Fld.hingeStatusFresh : Fld := ⟨Reg.hingeStatus, 29, 29⟩
/-- HINGE_STATUS.dropped; R514. -/
def Fld.hingeStatusDropped : Fld := ⟨Reg.hingeStatus, 28, 28⟩
/-- HINGE_STATUS.armed; R514. -/
def Fld.hingeStatusArmed : Fld := ⟨Reg.hingeStatus, 27, 27⟩
/-- HINGE_STATUS.hold; R514. -/
def Fld.hingeStatusHold : Fld := ⟨Reg.hingeStatus, 26, 26⟩
/-- HINGE_STATUS.side; R514. -/
def Fld.hingeStatusSide : Fld := ⟨Reg.hingeStatus, 25, 25⟩
/-- HINGE_STATUS.synced; R514. -/
def Fld.hingeStatusSynced : Fld := ⟨Reg.hingeStatus, 24, 24⟩
/-- HINGE_STATUS.partner; R514. -/
def Fld.hingeStatusPartner : Fld := ⟨Reg.hingeStatus, 23, 23⟩
/-- HINGE_STATUS.partner_role; R514. -/
def Fld.hingeStatusPartnerRole : Fld := ⟨Reg.hingeStatus, 22, 20⟩
/-- HINGE_STATUS.refuse; R514. -/
def Fld.hingeStatusRefuse : Fld := ⟨Reg.hingeStatus, 19, 16⟩
/-- HINGE_STATUS.miss; R514. -/
def Fld.hingeStatusMiss : Fld := ⟨Reg.hingeStatus, 2, 0⟩
/-- HINGE_EVENTS.resync; R515. -/
def Fld.hingeEventsResync : Fld := ⟨Reg.hingeEvents, 7, 7⟩
/-- HINGE_EVENTS.dropped; R515. -/
def Fld.hingeEventsDropped : Fld := ⟨Reg.hingeEvents, 6, 6⟩
/-- HINGE_EVENTS.crc; R515. -/
def Fld.hingeEventsCrc : Fld := ⟨Reg.hingeEvents, 5, 5⟩
/-- HINGE_EVENTS.hinge_lost; R515. -/
def Fld.hingeEventsHingeLost : Fld := ⟨Reg.hingeEvents, 4, 4⟩
/-- HINGE_EVENTS.partner_lost; R515. -/
def Fld.hingeEventsPartnerLost : Fld := ⟨Reg.hingeEvents, 3, 3⟩
/-- HINGE_EVENTS.refused; R515. -/
def Fld.hingeEventsRefused : Fld := ⟨Reg.hingeEvents, 2, 2⟩
/-- HINGE_EVENTS.paired; R515. -/
def Fld.hingeEventsPaired : Fld := ⟨Reg.hingeEvents, 1, 1⟩
/-- HINGE_EVENTS.failover; R515. -/
def Fld.hingeEventsFailover : Fld := ⟨Reg.hingeEvents, 0, 0⟩
/-- HINGE_COUNT0.refusals; R516. -/
def Fld.hingeCount0Refusals : Fld := ⟨Reg.hingeCount0, 31, 16⟩
/-- HINGE_COUNT0.takeovers; R516. -/
def Fld.hingeCount0Takeovers : Fld := ⟨Reg.hingeCount0, 15, 0⟩
/-- HINGE_COUNT1.mismatch; R516. -/
def Fld.hingeCount1Mismatch : Fld := ⟨Reg.hingeCount1, 31, 16⟩
/-- HINGE_COUNT1.resyncs; R516. -/
def Fld.hingeCount1Resyncs : Fld := ⟨Reg.hingeCount1, 15, 0⟩
/-- HINGE_COUNT2.missed; R516. -/
def Fld.hingeCount2Missed : Fld := ⟨Reg.hingeCount2, 31, 16⟩
/-- HINGE_COUNT2.crc; R516. -/
def Fld.hingeCount2Crc : Fld := ⟨Reg.hingeCount2, 15, 0⟩
/-- HINGE_CRCSEL.en; R516. -/
def Fld.hingeCrcselEn (j : Nat) : Fld := ⟨Reg.hingeCrcsel j, 31, 31⟩
/-- HINGE_CRCSEL.src; R516. -/
def Fld.hingeCrcselSrc (j : Nat) : Fld := ⟨Reg.hingeCrcsel j, 9, 0⟩
/-- HINGE_CRCSTAT.consec; R516. -/
def Fld.hingeCrcstatConsec : Fld := ⟨Reg.hingeCrcstat, 31, 24⟩
/-- HINGE_CRCSTAT.mask; R516. -/
def Fld.hingeCrcstatMask : Fld := ⟨Reg.hingeCrcstat, 7, 0⟩
/-- HINGE_PREV.revid; R516. -/
def Fld.hingePrevRevid : Fld := ⟨Reg.hingePrev, 31, 0⟩
/-- HINGE_PDELAY.ps; R516. -/
def Fld.hingePdelayPs : Fld := ⟨Reg.hingePdelay, 31, 0⟩
/-- KT_LIKENESS0.like_lo; R538. -/
def Fld.ktLikeness0LikeLo : Fld := ⟨Reg.ktLikeness0, 31, 0⟩
/-- KT_LIKENESS1.like_hi; R538. -/
def Fld.ktLikeness1LikeHi : Fld := ⟨Reg.ktLikeness1, 31, 0⟩
/-- KT_ROOTHASH.hash; R538. -/
def Fld.ktRoothashHash (w : Nat) : Fld := ⟨Reg.ktRoothash w, 31, 0⟩
/-- KT_MINVER.version; R538. -/
def Fld.ktMinverVersion : Fld := ⟨Reg.ktMinver, 31, 0⟩
/-- KT_LIFECYCLE.state; R538. -/
def Fld.ktLifecycleState : Fld := ⟨Reg.ktLifecycle, 1, 0⟩
/-- KT_TWINROLE.role; R538. -/
def Fld.ktTwinroleRole : Fld := ⟨Reg.ktTwinrole, 1, 0⟩
/-- KT_PERSONA.persona; R538. -/
def Fld.ktPersonaPersona (n : Nat) : Fld := ⟨Reg.ktPersona n, 0, 0⟩
/-- KT_PUCODE.code; R538. -/
def Fld.ktPucodeCode (n : Nat) : Fld := ⟨Reg.ktPucode n, 15, 0⟩
/-- KT_CEIL.ceiling; R538. -/
def Fld.ktCeilCeiling (n : Nat) : Fld := ⟨Reg.ktCeil n, 7, 0⟩
/-- KT_I2CBASE.base; R538. -/
def Fld.ktI2cbaseBase : Fld := ⟨Reg.ktI2cbase, 15, 0⟩
/-- KT_BOOTORDER.order; R538. -/
def Fld.ktBootorderOrder : Fld := ⟨Reg.ktBootorder, 15, 0⟩
/-- KT_SECRET.secret; R538. -/
def Fld.ktSecretSecret : Fld := ⟨Reg.ktSecret, 31, 0⟩
/-- KT_STATUS.busy; R539. -/
def Fld.ktStatusBusy : Fld := ⟨Reg.ktStatus, 31, 31⟩
/-- KT_STATUS.setting; R539. -/
def Fld.ktStatusSetting : Fld := ⟨Reg.ktStatus, 20, 16⟩
/-- KT_STATUS.result; R539. -/
def Fld.ktStatusResult : Fld := ⟨Reg.ktStatus, 10, 8⟩
/-- KT_STATUS.lifecycle; R539. -/
def Fld.ktStatusLifecycle : Fld := ⟨Reg.ktStatus, 1, 0⟩
/-- KT_BOOTCNT.count; R539. -/
def Fld.ktBootcntCount : Fld := ⟨Reg.ktBootcnt, 23, 0⟩
/-- KT_TAMPER.cause; R539. -/
def Fld.ktTamperCause : Fld := ⟨Reg.ktTamper, 17, 16⟩
/-- KT_TAMPER.count; R539. -/
def Fld.ktTamperCount : Fld := ⟨Reg.ktTamper, 15, 0⟩
/-- KT_EVENTS.tamper; R539. -/
def Fld.ktEventsTamper : Fld := ⟨Reg.ktEvents, 0, 0⟩
/-- KT_USE.budget; R539. -/
def Fld.ktUseBudget (i : Nat) : Fld := ⟨Reg.ktUse i, 15, 8⟩
/-- KT_USE.spent; R539. -/
def Fld.ktUseSpent (i : Nat) : Fld := ⟨Reg.ktUse i, 7, 0⟩
/-- KT_RECSEL.turn; R539. -/
def Fld.ktRecselTurn : Fld := ⟨Reg.ktRecsel, 12, 8⟩
/-- KT_RECSEL.setting; R539. -/
def Fld.ktRecselSetting : Fld := ⟨Reg.ktRecsel, 4, 0⟩
/-- KT_REC.used; R539. -/
def Fld.ktRecUsed : Fld := ⟨Reg.ktRec, 31, 31⟩
/-- KT_REC.sealed; R539. -/
def Fld.ktRecSealed : Fld := ⟨Reg.ktRec, 30, 30⟩
/-- KT_REC.stamp; R539. -/
def Fld.ktRecStamp : Fld := ⟨Reg.ktRec, 23, 0⟩
/-- KT_RECVAL.value; R539. -/
def Fld.ktRecvalValue : Fld := ⟨Reg.ktRecval, 31, 0⟩
/-- REP_CFG.burn; R540. -/
def Fld.repCfgBurn : Fld := ⟨Reg.repCfg, 1, 0⟩
/-- REP_STATUS.burning; R540. -/
def Fld.repStatusBurning : Fld := ⟨Reg.repStatus, 31, 31⟩
/-- REP_STATUS.full; R540. -/
def Fld.repStatusFull : Fld := ⟨Reg.repStatus, 30, 30⟩
/-- REP_STATUS.lbx_fail; R540. -/
def Fld.repStatusLbxFail : Fld := ⟨Reg.repStatus, 29, 29⟩
/-- REP_STATUS.spk_deferred; R540. -/
def Fld.repStatusSpkDeferred : Fld := ⟨Reg.repStatus, 28, 28⟩
/-- REP_STATUS.used; R540. -/
def Fld.repStatusUsed : Fld := ⟨Reg.repStatus, 25, 16⟩
/-- REP_STATUS.soft; R540. -/
def Fld.repStatusSoft : Fld := ⟨Reg.repStatus, 15, 0⟩
/-- REP_EVENTS.turn_lost; R540. -/
def Fld.repEventsTurnLost : Fld := ⟨Reg.repEvents, 6, 6⟩
/-- REP_EVENTS.turn_done; R540. -/
def Fld.repEventsTurnDone : Fld := ⟨Reg.repEvents, 5, 5⟩
/-- REP_EVENTS.swap_done; R540. -/
def Fld.repEventsSwapDone : Fld := ⟨Reg.repEvents, 4, 4⟩
/-- REP_EVENTS.tile_fail; R540. -/
def Fld.repEventsTileFail : Fld := ⟨Reg.repEvents, 3, 3⟩
/-- REP_EVENTS.full; R540. -/
def Fld.repEventsFull : Fld := ⟨Reg.repEvents, 2, 2⟩
/-- REP_EVENTS.burned; R540. -/
def Fld.repEventsBurned : Fld := ⟨Reg.repEvents, 1, 1⟩
/-- REP_EVENTS.soft; R540. -/
def Fld.repEventsSoft : Fld := ⟨Reg.repEvents, 0, 0⟩
/-- REP_CTRL.key; R540. -/
def Fld.repCtrlKey : Fld := ⟨Reg.repCtrl, 31, 16⟩
/-- REP_CTRL.tile; R540. -/
def Fld.repCtrlTile : Fld := ⟨Reg.repCtrl, 7, 4⟩
/-- REP_CTRL.cmd; R540. -/
def Fld.repCtrlCmd : Fld := ⟨Reg.repCtrl, 3, 0⟩
/-- REP_LAST.loc; R540. -/
def Fld.repLastLoc : Fld := ⟨Reg.repLast, 31, 0⟩
/-- REP_LASTINFO.info; R540. -/
def Fld.repLastinfoInfo : Fld := ⟨Reg.repLastinfo, 31, 0⟩
/-- REP_TILEFAIL.failing; R540. -/
def Fld.repTilefailFailing : Fld := ⟨Reg.repTilefail, 15, 0⟩
/-- REP_ENTRY_LOC.loc; R540. -/
def Fld.repEntryLocLoc (k : Nat) : Fld := ⟨Reg.repEntryLoc k, 31, 0⟩
/-- REP_ENTRY_INFO.info; R540. -/
def Fld.repEntryInfoInfo (k : Nat) : Fld := ⟨Reg.repEntryInfo k, 31, 0⟩
/-- VIOL_CNT.count; R541. -/
def Fld.violCntCount (i : Nat) : Fld := ⟨Reg.violCnt i, 15, 0⟩
/-- VIOL_LAST.category; R541. -/
def Fld.violLastCategory : Fld := ⟨Reg.violLast, 31, 28⟩
/-- VIOL_LAST.agent; R541. -/
def Fld.violLastAgent : Fld := ⟨Reg.violLast, 27, 23⟩
/-- VIOL_LASTADDR.addr; R541. -/
def Fld.violLastaddrAddr : Fld := ⟨Reg.violLastaddr, 31, 0⟩
/-- SYS_RSTCAUSE.history; R565. -/
def Fld.sysRstcauseHistory : Fld := ⟨Reg.sysRstcause, 23, 16⟩
/-- SYS_RSTCAUSE.supply; R565. -/
def Fld.sysRstcauseSupply : Fld := ⟨Reg.sysRstcause, 10, 8⟩
/-- SYS_RSTCAUSE.last; R565. -/
def Fld.sysRstcauseLast : Fld := ⟨Reg.sysRstcause, 2, 0⟩
/-- SYS_RSTCTRL.key; R565. -/
def Fld.sysRstctrlKey : Fld := ⟨Reg.sysRstctrl, 31, 16⟩
/-- SYS_RSTCTRL.cmd; R565. -/
def Fld.sysRstctrlCmd : Fld := ⟨Reg.sysRstctrl, 3, 0⟩
/-- SYS_WDTCFG.en; R565. -/
def Fld.sysWdtcfgEn : Fld := ⟨Reg.sysWdtcfg, 31, 31⟩
/-- SYS_WDTCFG.pre; R565. -/
def Fld.sysWdtcfgPre : Fld := ⟨Reg.sysWdtcfg, 30, 16⟩
/-- SYS_WDTCFG.timeout; R565. -/
def Fld.sysWdtcfgTimeout : Fld := ⟨Reg.sysWdtcfg, 15, 0⟩
/-- SYS_WDTKICK.key; R565. -/
def Fld.sysWdtkickKey : Fld := ⟨Reg.sysWdtkick, 31, 16⟩
/-- SYS_WDTEV.pre; R565. -/
def Fld.sysWdtevPre : Fld := ⟨Reg.sysWdtev, 16, 16⟩
/-- SYS_WDTEV.remain; R565. -/
def Fld.sysWdtevRemain : Fld := ⟨Reg.sysWdtev, 15, 0⟩
/-- PWR_TARGET.target; R566. -/
def Fld.pwrTargetTarget (w : Nat) : Fld := ⟨Reg.pwrTarget w, 31, 0⟩
/-- PWR_STATE.state; R566. -/
def Fld.pwrStateState (w : Nat) : Fld := ⟨Reg.pwrState w, 31, 0⟩
/-- PWR_TXN.busy; R566. -/
def Fld.pwrTxnBusy : Fld := ⟨Reg.pwrTxn, 31, 31⟩
/-- PWR_TXN.phase; R566. -/
def Fld.pwrTxnPhase : Fld := ⟨Reg.pwrTxn, 30, 28⟩
/-- PWR_TXN.result; R566. -/
def Fld.pwrTxnResult : Fld := ⟨Reg.pwrTxn, 27, 26⟩
/-- PWR_TXN.reason; R566. -/
def Fld.pwrTxnReason : Fld := ⟨Reg.pwrTxn, 25, 24⟩
/-- PWR_TXN.domain; R566. -/
def Fld.pwrTxnDomain : Fld := ⟨Reg.pwrTxn, 21, 16⟩
/-- PWR_TXN.refusals; R566. -/
def Fld.pwrTxnRefusals : Fld := ⟨Reg.pwrTxn, 15, 0⟩
/-- PWR_SHACKLE.held; R566. -/
def Fld.pwrShackleHeld (w : Nat) : Fld := ⟨Reg.pwrShackle w, 31, 0⟩
/-- PWR_CLKSEL.pll; R566. -/
def Fld.pwrClkselPll (w : Nat) : Fld := ⟨Reg.pwrClksel w, 31, 0⟩
/-- PWR_SLEEPCFG.pll_off; R566. -/
def Fld.pwrSleepcfgPllOff : Fld := ⟨Reg.pwrSleepcfg, 31, 31⟩
/-- PWR_SLEEPCFG.fast_off; R566. -/
def Fld.pwrSleepcfgFastOff : Fld := ⟨Reg.pwrSleepcfg, 30, 30⟩
/-- PWR_SLEEPCFG.qtime; R566. -/
def Fld.pwrSleepcfgQtime : Fld := ⟨Reg.pwrSleepcfg, 15, 0⟩
/-- PWR_WAKECFG.en; R566. -/
def Fld.pwrWakecfgEn : Fld := ⟨Reg.pwrWakecfg, 5, 0⟩
/-- PWR_WAKESTATE.state; R566. -/
def Fld.pwrWakestateState (w : Nat) : Fld := ⟨Reg.pwrWakestate w, 31, 0⟩
/-- PWR_WAKESRC.src; R566. -/
def Fld.pwrWakesrcSrc : Fld := ⟨Reg.pwrWakesrc, 5, 0⟩
/-- PWR_EVENTS.clk; R566. -/
def Fld.pwrEventsClk : Fld := ⟨Reg.pwrEvents, 3, 3⟩
/-- PWR_EVENTS.wake; R566. -/
def Fld.pwrEventsWake : Fld := ⟨Reg.pwrEvents, 2, 2⟩
/-- PWR_EVENTS.refused; R566. -/
def Fld.pwrEventsRefused : Fld := ⟨Reg.pwrEvents, 1, 1⟩
/-- PWR_EVENTS.done; R566. -/
def Fld.pwrEventsDone : Fld := ⟨Reg.pwrEvents, 0, 0⟩
/-- MON_SUPPLY0.io33; R567. -/
def Fld.monSupply0Io33 : Fld := ⟨Reg.monSupply0, 31, 16⟩
/-- MON_SUPPLY0.avdd18; R567. -/
def Fld.monSupply0Avdd18 : Fld := ⟨Reg.monSupply0, 15, 0⟩
/-- MON_SUPPLY1.core; R567. -/
def Fld.monSupply1Core : Fld := ⟨Reg.monSupply1, 15, 0⟩
/-- MON_SUPEV.recovered; R567. -/
def Fld.monSupevRecovered : Fld := ⟨Reg.monSupev, 7, 4⟩
/-- MON_SUPEV.warn; R567. -/
def Fld.monSupevWarn : Fld := ⟨Reg.monSupev, 3, 0⟩
/-- MON_SUPSTAT.muting; R567. -/
def Fld.monSupstatMuting : Fld := ⟨Reg.monSupstat, 7, 4⟩
/-- MON_SUPSTAT.below; R567. -/
def Fld.monSupstatBelow : Fld := ⟨Reg.monSupstat, 3, 0⟩
/-- MON_CFG.auto_resume; R567. -/
def Fld.monCfgAutoResume : Fld := ⟨Reg.monCfg, 0, 0⟩
/-- MON_CTRL.resume; R567. -/
def Fld.monCtrlResume : Fld := ⟨Reg.monCtrl, 0, 0⟩
/-- MON_SUPCNT.pvdd; R567. -/
def Fld.monSupcntPvdd : Fld := ⟨Reg.monSupcnt, 31, 24⟩
/-- MON_SUPCNT.avdd18; R567. -/
def Fld.monSupcntAvdd18 : Fld := ⟨Reg.monSupcnt, 23, 16⟩
/-- MON_SUPCNT.io33; R567. -/
def Fld.monSupcntIo33 : Fld := ⟨Reg.monSupcnt, 15, 8⟩
/-- MON_SUPCNT.core; R567. -/
def Fld.monSupcntCore : Fld := ⟨Reg.monSupcnt, 7, 0⟩
/-- MON_THERM.die1; R567. -/
def Fld.monThermDie1 : Fld := ⟨Reg.monTherm, 27, 16⟩
/-- MON_THERM.die0; R567. -/
def Fld.monThermDie0 : Fld := ⟨Reg.monTherm, 11, 0⟩
/-- MON_THEV.shutdown; R567. -/
def Fld.monThevShutdown : Fld := ⟨Reg.monThev, 4, 4⟩
/-- MON_THEV.throttle; R567. -/
def Fld.monThevThrottle : Fld := ⟨Reg.monThev, 3, 3⟩
/-- MON_THEV.warn; R567. -/
def Fld.monThevWarn : Fld := ⟨Reg.monThev, 2, 0⟩
/-- HOSTIF_I2CCFG.mode; R586. -/
def Fld.hostifI2ccfgMode : Fld := ⟨Reg.hostifI2ccfg, 31, 31⟩
/-- HOSTIF_I2CCFG.crc; R586. -/
def Fld.hostifI2ccfgCrc : Fld := ⟨Reg.hostifI2ccfg, 30, 30⟩
/-- HOSTIF_I2CCFG.stuck; R586. -/
def Fld.hostifI2ccfgStuck : Fld := ⟨Reg.hostifI2ccfg, 6, 0⟩
/-- HOSTIF_I2CCRC.crc; R586. -/
def Fld.hostifI2ccrcCrc : Fld := ⟨Reg.hostifI2ccrc, 3, 0⟩
/-- HOSTIF_I2CCNT.abort; R586. -/
def Fld.hostifI2ccntAbort : Fld := ⟨Reg.hostifI2ccnt, 31, 16⟩
/-- HOSTIF_I2CCNT.stuck; R586. -/
def Fld.hostifI2ccntStuck : Fld := ⟨Reg.hostifI2ccnt, 15, 0⟩
/-- HOSTIF_SPICFG.crc; R586. -/
def Fld.hostifSpicfgCrc : Fld := ⟨Reg.hostifSpicfg, 1, 1⟩
/-- HOSTIF_SPICFG.dummy; R586. -/
def Fld.hostifSpicfgDummy : Fld := ⟨Reg.hostifSpicfg, 0, 0⟩
/-- HOSTIF_EVENTS.qspi_done; R586. -/
def Fld.hostifEventsQspiDone : Fld := ⟨Reg.hostifEvents, 6, 6⟩
/-- HOSTIF_EVENTS.spi_over; R586. -/
def Fld.hostifEventsSpiOver : Fld := ⟨Reg.hostifEvents, 5, 5⟩
/-- HOSTIF_EVENTS.spi_frame; R586. -/
def Fld.hostifEventsSpiFrame : Fld := ⟨Reg.hostifEvents, 4, 4⟩
/-- HOSTIF_EVENTS.i2c_crc; R586. -/
def Fld.hostifEventsI2cCrc : Fld := ⟨Reg.hostifEvents, 3, 3⟩
/-- HOSTIF_EVENTS.i2c_stuck; R586. -/
def Fld.hostifEventsI2cStuck : Fld := ⟨Reg.hostifEvents, 2, 2⟩
/-- HOSTIF_EVENTS.i2c_abort; R586. -/
def Fld.hostifEventsI2cAbort : Fld := ⟨Reg.hostifEvents, 1, 1⟩
/-- HOSTIF_I2CNOW.base; R586. -/
def Fld.hostifI2cnowBase : Fld := ⟨Reg.hostifI2cnow, 15, 0⟩
/-- QSPI_CFG.div; R587. -/
def Fld.qspiCfgDiv : Fld := ⟨Reg.qspiCfg, 3, 0⟩
/-- QSPI_CMD.go; R587. -/
def Fld.qspiCmdGo : Fld := ⟨Reg.qspiCmd, 31, 31⟩
/-- QSPI_CMD.busy; R587. -/
def Fld.qspiCmdBusy : Fld := ⟨Reg.qspiCmd, 30, 30⟩
/-- QSPI_CMD.dir; R587. -/
def Fld.qspiCmdDir : Fld := ⟨Reg.qspiCmd, 29, 29⟩
/-- QSPI_CMD.quad; R587. -/
def Fld.qspiCmdQuad : Fld := ⟨Reg.qspiCmd, 28, 28⟩
/-- QSPI_CMD.alen; R587. -/
def Fld.qspiCmdAlen : Fld := ⟨Reg.qspiCmd, 27, 26⟩
/-- QSPI_CMD.dummy; R587. -/
def Fld.qspiCmdDummy : Fld := ⟨Reg.qspiCmd, 25, 22⟩
/-- QSPI_CMD.len; R587. -/
def Fld.qspiCmdLen : Fld := ⟨Reg.qspiCmd, 8, 0⟩
/-- QSPI_OPC.opcode; R587. -/
def Fld.qspiOpcOpcode : Fld := ⟨Reg.qspiOpc, 7, 0⟩
/-- QSPI_ADDR.addr; R587. -/
def Fld.qspiAddrAddr : Fld := ⟨Reg.qspiAddr, 31, 0⟩
/-- QSPI_DATA.data; R587. -/
def Fld.qspiDataData (w : Nat) : Fld := ⟨Reg.qspiData w, 31, 0⟩

end Sys2Proof.Machine
end

