-- ==== Sys2Proof/Machine/Bits.lean ====
section
/-! DEFINITION. Bit fields of words (R2): reading and writing bits hi:lo, single bits, sign extension and the
little-endian byte order of registers and memory words. -/
namespace Sys2Proof.Machine

/-- Bits hi:lo of a number, with `w` their count. -/
def bitsOf (n lo w : Nat) : Nat := n / 2 ^ lo % 2 ^ w

/-- `n` with bits `lo + w - 1 : lo` replaced by the low `w` bits of `v`. -/
def setBits (n lo w v : Nat) : Nat := n - bitsOf n lo w * 2 ^ lo + v % 2 ^ w * 2 ^ lo

/-- Bit `i` of a number. -/
def bitOf (n i : Nat) : Bool := n / 2 ^ i % 2 == 1

/-- `n` with bit `i` set. -/
def orBit (n i : Nat) : Nat := if bitOf n i then n else n + 2 ^ i

/-- `n` with bit `i` clear. -/
def clrBit (n i : Nat) : Nat := if bitOf n i then n - 2 ^ i else n

/-- The field's value in a word. -/
def Fld.of (f : Fld) (w : Word) : Nat := bitsOf w.toNat f.lo f.width

/-- The word with the field set to `v`. -/
def Fld.into (f : Fld) (w : Word) (v : Nat) : Word := BitVec.ofNat 32 (setBits w.toNat f.lo f.width v)

/-- The signed value of the low `w` bits (two's complement). -/
def sgn (w n : Nat) : Int := let m := n % 2 ^ w; if m < 2 ^ (w - 1) then (m : Int) else (m : Int) - 2 ^ w

/-- The low `w` bits of an integer as a number. -/
def unsg (w : Nat) (i : Int) : Nat := (i % (2 ^ w : Int)).toNat

/-- Saturate to a signed range of `w` bits. -/
def satS (w : Nat) (i : Int) : Int :=
  if i < -(2 ^ (w - 1) : Int) then -(2 ^ (w - 1) : Int) else if i > 2 ^ (w - 1) - 1 then 2 ^ (w - 1) - 1 else i

/-- The bytes of a number, least significant first (R2). -/
def leBytes : Nat → Nat → List Byte
  | 0, _ => []
  | k + 1, n => BitVec.ofNat 8 n :: leBytes k (n / 256)

/-- The number that bytes spell, least significant first (R2). -/
def leNat : List Byte → Nat
  | [] => 0
  | b :: bs => b.toNat + 256 * leNat bs

/-- The bytes of a number, most significant first (keys and digests, R39). -/
def beBytes (k n : Nat) : List Byte := (leBytes k n).reverse

/-- The number that bytes spell, most significant first. -/
def beNat (bs : List Byte) : Nat := leNat bs.reverse

/-- The number of bits set among the low `w`. -/
def popcount (w n : Nat) : Nat := ((List.range w).filter (bitOf n)).length

/-- The indices below `w` of the bits set. -/
def bitList (w n : Nat) : List Nat := (List.range w).filter (bitOf n)

end Sys2Proof.Machine
end

