-- ==== Sys2Proof/Machine/Fp32.lean ====
section
/-! DEFINITION. fp32 arithmetic of the engines (R360, R363, R364): IEEE 754 binary32, round to nearest even, subnormal inputs
read as zero and subnormal results flushed to zero, every NaN result 0x7FC00000. Exact values are a sign, a natural mantissa
and a power of two. -/
namespace Sys2Proof.Machine

/-- The NaN that every operation delivers (R364). -/
abbrev fpNaN : Word := 0x7FC00000

/-- What an fp32 bit pattern stands for, subnormals read as zero (R364). -/
inductive Fp where
  | nan
  | inf (neg : Bool)
  /-- `(-1)^neg * m * 2^e`. -/
  | fin (neg : Bool) (m : Nat) (e : Int)
  deriving DecidableEq, Repr

/-- Decode a bit pattern (R364). -/
def Fp.of (w : Word) : Fp :=
  let n := w.toNat
  let s := bitOf n 31
  let ex := bitsOf n 23 8
  let f := bitsOf n 0 23
  if ex = 255 then (if f = 0 then .inf s else .nan)
  else if ex = 0 then .fin s 0 0
  else .fin s (2 ^ 23 + f) ((ex : Int) - 150)

/-- An infinity. -/
def fpInf (neg : Bool) : Word := if neg then 0xFF800000 else 0x7F800000

/-- A zero. -/
def fpZero (neg : Bool) : Word := if neg then 0x80000000 else 0

/-- `n / 2^k` rounded to nearest, ties to even. -/
def roundShift (n k : Nat) : Nat :=
  let q := n / 2 ^ k
  let r := n % 2 ^ k
  if k = 0 then n
  else if r < 2 ^ (k - 1) then q
  else if r > 2 ^ (k - 1) then q + 1
  else if q % 2 = 0 then q else q + 1

/-- The binary32 nearest to `(-1)^neg * n * 2^e` (R364): a result that is subnormal after rounding is flushed. -/
def fpRound (neg : Bool) (n : Nat) (e : Int) : Word :=
  if n = 0 then fpZero neg
  else
    let q : Int := max (e + Nat.log2 n - 23) (-149)
    let m := if e < q then roundShift n (q - e).toNat else n * 2 ^ (e - q).toNat
    if m < 2 ^ 23 then fpZero neg
    else
      let b := ((q + 149).toNat) * 2 ^ 23 + m
      if 255 * 2 ^ 23 ≤ b then fpInf neg else BitVec.ofNat 32 ((if neg then 2 ^ 31 else 0) + b)

/-- The signed mantissa of a finite value at exponent `e`, which is at most its own. -/
def fpAt (neg : Bool) (m : Nat) (e0 e : Int) : Int :=
  let v : Int := ((m * 2 ^ (e0 - e).toNat : Nat) : Int)
  if neg then -v else v

/-- Sum of two decoded values. An exact zero is negative only when both are. -/
def Fp.add (a b : Fp) : Word :=
  match a, b with
  | .nan, _ => fpNaN
  | _, .nan => fpNaN
  | .inf s, .inf t => if s = t then fpInf s else fpNaN
  | .inf s, _ => fpInf s
  | _, .inf t => fpInf t
  | .fin s m e, .fin t n f =>
    let g := min e f
    let v := fpAt s m e g + fpAt t n f g
    if v = 0 then fpZero (s && t) else fpRound (decide (v < 0)) v.natAbs g

/-- The opposite. -/
def Fp.neg : Fp → Fp
  | .nan => .nan
  | .inf s => .inf (!s)
  | .fin s m e => .fin (!s) m e

/-- The exact product. -/
def Fp.times (a b : Fp) : Fp :=
  match a, b with
  | .nan, _ => .nan
  | _, .nan => .nan
  | .inf s, .inf t => .inf (s != t)
  | .inf s, .fin t n _ => if n = 0 then .nan else .inf (s != t)
  | .fin s m _, .inf t => if m = 0 then .nan else .inf (s != t)
  | .fin s m e, .fin t n f => .fin (s != t) (m * n) (e + f)

/-- A decoded value as a bit pattern. -/
def Fp.word : Fp → Word
  | .nan => fpNaN
  | .inf s => fpInf s
  | .fin s m e => fpRound s m e

/-- FADD, FSUB, FMUL and the fused multiply-adds `c + a*b` and `c - a*b` (R360, R363). -/
def fadd (a b : Word) : Word := (Fp.of a).add (Fp.of b)
def fsub (a b : Word) : Word := (Fp.of a).add (Fp.of b).neg
def fmul (a b : Word) : Word := ((Fp.of a).times (Fp.of b)).word
def ffma (c a b : Word) : Word := (Fp.of c).add ((Fp.of a).times (Fp.of b))
def ffms (c a b : Word) : Word := (Fp.of c).add ((Fp.of a).times (Fp.of b)).neg

/-- The place of a number in the order of fp32 values, zeros alike; none for NaN. -/
def fpKey (w : Word) : Option Int :=
  match Fp.of w with
  | .nan => none
  | .fin _ 0 _ => some 0
  | _ => some (if bitOf w.toNat 31 then -((w.toNat % 2 ^ 31 : Nat) : Int) else ((w.toNat : Nat) : Int))

/-- FCMPLT and FCMPEQ: false on NaN (R360, R364). -/
def flt (a b : Word) : Bool := match fpKey a, fpKey b with
  | some x, some y => decide (x < y)
  | _, _ => false
def feq (a b : Word) : Bool := match fpKey a, fpKey b with
  | some x, some y => decide (x = y)
  | _, _ => false

/-- A signed integer times `2^e` as fp32. -/
def fpOfInt (i : Int) (e : Int) : Word := fpRound (decide (i < 0)) i.natAbs e

/-- FCVTQ and FCVTI (R360, R363). -/
def fcvtq (a : Word) : Word := fpOfInt a.toInt (-31)
def fcvti (a : Word) : Word := fpOfInt a.toInt 0

/-- A finite value times `2^k` as the nearest integer, ties to even, saturated to 32 bits signed. -/
def fpToInt (neg : Bool) (m : Nat) (e : Int) : Word :=
  let r := if e < 0 then roundShift m (-e).toNat else m * 2 ^ e.toNat
  BitVec.ofInt 32 (satS 32 (if neg then -(r : Int) else r))

/-- fp32 times `2^k` to a signed integer, round to nearest even, saturating; `bad` for NaN. -/
def fpInt (k : Int) (bad : Word) (a : Word) : Word :=
  match Fp.of a with
  | .nan => bad
  | .inf s => if s then 0x80000000 else 0x7FFFFFFF
  | .fin s m e => fpToInt s m (e + k)

/-- QCVTF (R363: NaN to 0). -/
def qcvtf (a : Word) : Word := fpInt 31 0 a

/-- ICVTF (R360); `free` for NaN, whose result the spec does not state (DESIGN CHOICE, log 41). -/
def icvtf (free : Word) (a : Word) : Word := fpInt 0 free a

/-- The value with its NaNs and subnormals as an operation delivers them (R364). -/
def fpClean (a : Word) : Word := (Fp.of a).word

/-- VFABS and VFNEG (R363). -/
def fabs (a : Word) : Word := match Fp.of a with
  | .fin _ m e => Fp.word (.fin false m e)
  | .inf _ => fpInf false
  | .nan => fpNaN
def fneg (a : Word) : Word := (Fp.of a).neg.word

/-- VFMIN and VFMAX (R363). IEEE 754 leaves open which zero is the smaller and what one NaN operand gives; the spec does not say:
those results are free (DESIGN CHOICE, log 41). -/
def fpick (less : Bool) (free : Word) (a b : Word) : Word :=
  match fpKey a, fpKey b with
  | none, none => fpNaN
  | some x, some y =>
    if x = y then (if fpClean a = fpClean b then fpClean a else fpZero (bitOf free.toNat 0))
    else if decide (x < y) == less then fpClean a else fpClean b
  | _, _ => free

/-- Integer square root of a number below `2^(2*k)`. -/
def isqrt (k n : Nat) : Nat := (List.range k).foldr (fun i r => if (r + 2 ^ i) * (r + 2 ^ i) ≤ n then r + 2 ^ i else r) 0

/-- The sign and exact magnitude of a normal bit pattern; none otherwise. -/
def fpNormal (w : Word) : Option (Bool × Nat × Int) :=
  match Fp.of w with
  | .fin s m e => if m = 0 then none else some (s, m, e)
  | _ => none

/-- `x * 2^e` lies strictly between `lo / 2^24` and `hi / 2^24`. -/
def between (lo hi x : Nat) (e : Int) : Bool :=
  if e < -24 then
    let k := (-24 - e).toNat
    decide (lo * 2 ^ k < x) && decide (x < hi * 2 ^ k)
  else
    let y := x * 2 ^ (e + 24).toNat
    decide (lo < y) && decide (y < hi)

/-- VFRCP (R363): an estimate with a relative error below `2^-12`. The estimate is the free value `free` where it meets that
bound, and otherwise the nearest value (log 3). -/
def frcp (free : Word) (a : Word) : Word :=
  match Fp.of a with
  | .nan => fpNaN
  | .inf s => fpZero s
  | .fin s m e =>
    if m = 0 then fpInf s
    else
      let q := 2 ^ 80 / m
      let exact := fpRound s (2 * q + if q * m = 2 ^ 80 then 0 else 1) (-e - 81)
      match fpNormal free with
      | some (t, n, f) => if t = s && between 16773120 16781312 (m * n) (e + f) then free else exact
      | none => exact

/-- VFRSQ (R363), as `frcp`; of a negative number NaN, of a zero the infinity of its sign (R364). -/
def frsq (free : Word) (a : Word) : Word :=
  match Fp.of a with
  | .nan => fpNaN
  | .inf s => if s then fpNaN else 0
  | .fin s m e =>
    if m = 0 then fpInf s
    else if s then fpNaN
    else
      let (m', e') := if e % 2 = 0 then (m, e) else (2 * m, e - 1)
      let q := isqrt 61 (2 ^ 120 / m')
      let exact := fpRound false (2 * q + if q * q * m' = 2 ^ 120 then 0 else 1) (-(e' / 2) - 61)
      match fpNormal free with
      | some (t, n, f) => if !t && between 16769025 16785409 (m * n * n) (e + 2 * f) then free else exact
      | none => exact

end Sys2Proof.Machine
end

