-- ==== Sys2Proof/Machine/Operands.lean ====
section
/-! DEFINITION. The operand forms of a bundle's two instructions (R356 to R363): fields, which encodings are legal, and the
registers that each instruction writes. A bundle is a number of 64 bits, the scalar word in its low half. -/
namespace Sys2Proof.Machine

/-- The scalar-slot and vector-slot instructions of a bundle (R356). -/
def scalarOf (b : Nat) : Nat := bitsOf b 0 32
def vectorOf (b : Nat) : Nat := bitsOf b 32 32

/-- Fields common to the formats (R357). -/
def opOf (w : Nat) : Nat := bitsOf w 26 6
def pgOf (w : Nat) : Nat := bitsOf w 1 3
def piOf (w : Nat) : Bool := bitOf w 0

/-- Fields of SR and SI (R357). -/
def rdOf (w : Nat) : Nat := bitsOf w 21 5
def raOf (w : Nat) : Nat := bitsOf w 16 5
def rbOf (w : Nat) : Nat := bitsOf w 11 5
def fnOf (w : Nat) : Nat := bitsOf w 4 7
def immOf (w : Nat) : Nat := bitsOf w 4 12

/-- Fields of SU: the half and imm16 (R357). -/
def halfOf (w : Nat) : Bool := bitOf w 20
def imm16Of (w : Nat) : Nat := bitsOf w 4 16

/-- The displacement of SB in bytes (R357). -/
def offOf (w : Nat) : Int := 8 * sgn 22 (bitsOf w 4 22)

/-- Fields of SL: the register that holds the count, and the length of the body in bundles (R357). -/
def loopRaOf (w : Nat) : Nat := bitsOf w 21 5
def loopLenOf (w : Nat) : Nat := bitsOf w 12 9 + 1

/-- Fields of VR and VS (R357). -/
def vdOf (w : Nat) : Nat := bitsOf w 22 4
def vaOf (w : Nat) : Nat := bitsOf w 18 4
def vbOf (w : Nat) : Nat := bitsOf w 14 4
def sbOf (w : Nat) : Nat := bitsOf w 13 5
def imm9Of (w : Nat) : Nat := bitsOf w 4 9

/-- What an ALU function writes (R360): nothing, a scalar register or a predicate; none for an fn not listed. -/
def aluWrites (fn : Nat) : Option Nat :=
  if fn = 0 then some 0
  else if (1 ≤ fn ∧ fn ≤ 0x0E) ∨ (0x10 ≤ fn ∧ fn ≤ 0x13) ∨ (0x20 ≤ fn ∧ fn ≤ 0x23) ∨ (0x28 ≤ fn ∧ fn ≤ 0x2B) ∨ fn = 0x35 then some 1
  else if (0x18 ≤ fn ∧ fn ≤ 0x1A) ∨ fn = 0x24 ∨ fn = 0x25 ∨ (0x30 ≤ fn ∧ fn ≤ 0x34) then some 2
  else none

/-- A register that an instruction writes. -/
inductive Dest where
  | none
  | s (i : Nat)
  | p (i : Nat)
  | v (i : Nat)
  deriving DecidableEq, Repr

/-- The register that the scalar instruction names as its destination (R356, R359, R360). -/
def scalarDest (w : Nat) : Dest :=
  let op := opOf w
  let rd := rdOf w
  if op = 0 then (match aluWrites (fnOf w) with
    | some 1 => .s rd
    | some 2 => .p rd
    | _ => .none)
  else if op ≤ 0x07 ∨ op = 0x0A ∨ (0x10 ≤ op ∧ op ≤ 0x14) ∨ op = 0x1E ∨ op = 0x1F ∨ op = 0x22 ∨ op = 0x25 then .s rd
  else if op = 0x08 ∨ op = 0x09 then .p rd
  else if op = 0x18 ∨ op = 0x1A ∨ op = 0x1C then .v (rd % 16)
  else if op = 0x21 then .s 31
  else .none

/-- The register that the vector instruction names as its destination (R356, R363). -/
def vectorDest (w : Nat) : Dest :=
  let op := opOf w
  if op = 0 then .none
  else if op = 0x0A ∨ op = 0x0B ∨ op = 0x1E then .p (vdOf w)
  else if op = 0x23 then .s (sbOf w)
  else .v (vdOf w)

/-- The scalar word is a listed encoding with its required zeros (R357, R358). An unlisted fn of an instruction without one, and
the number of an absent control register, count as unlisted (DEDUCED, log 42). -/
def scalarLegal (w : Nat) : Bool :=
  let op := opOf w
  let rd := rdOf w
  if op = 0 then (match aluWrites (fnOf w) with
    | some 2 => decide (rd < 8)
    | some _ => true
    | none => false)
  else if op ≤ 0x04 then true
  else if op ≤ 0x07 then decide (immOf w < 32)
  else if op ≤ 0x09 then decide (rd < 8)
  else if op = 0x0A then true
  else if 0x10 ≤ op ∧ op ≤ 0x17 then true
  else if 0x18 ≤ op ∧ op ≤ 0x1D then decide (rd < 16)
  else if op = 0x1E ∨ op = 0x1F ∨ op = 0x22 then decide (fnOf w = 0)
  else if op = 0x20 ∨ op = 0x21 then true
  else if op = 0x23 then decide (bitsOf w 4 8 = 0)
  else if op = 0x24 then decide (fnOf w ≤ 6)
  else if op = 0x25 then decide (fnOf w = 0 ∧ rbOf w < 16)
  else if op = 0x26 then decide (fnOf w = 0 ∧ rd < 16)
  else false

/-- The vector word is a listed encoding with its required zeros (R357, R358, R363). -/
def vectorLegal (w : Nat) : Bool :=
  let op := opOf w
  if op = 0 then true
  else if op = 0x0A ∨ op = 0x0B ∨ op = 0x1E then decide (bitsOf w 4 10 = 0 ∧ vdOf w < 8)
  else if op ≤ 0x1E then decide (op ≠ 0x17 ∧ bitsOf w 4 10 = 0)
  else if 0x20 ≤ op ∧ op ≤ 0x22 then decide (imm9Of w = 0)
  else if op = 0x23 then decide (imm9Of w < 8 ∧ vdOf w = 0)
  else if op = 0x24 then decide (imm9Of w < 8)
  else false

/-- Both slots write the same register (R356); s0 and p0 discard writes and make no clash (DEDUCED, log 42). -/
def clash (a b : Dest) : Bool :=
  match a, b with
  | .s i, .s j => i == j && i != 0
  | .p i, .p j => i == j && i != 0
  | .v i, .v j => i == j
  | _, _ => false

/-- The bundle is legal as it is encoded (R356, R358). -/
def bundleLegal (b : Nat) : Bool :=
  scalarLegal (scalarOf b) && vectorLegal (vectorOf b) && !clash (scalarDest (scalarOf b)) (vectorDest (vectorOf b))

/-- The shape of a memory instruction of the scalar slot (R359): bytes, and whether it loads. -/
def memShape (op : Nat) : Option (Nat × Bool) :=
  if op = 0x10 then some (4, true)
  else if op = 0x11 ∨ op = 0x12 then some (2, true)
  else if op = 0x13 ∨ op = 0x14 then some (1, true)
  else if op = 0x15 then some (4, false)
  else if op = 0x16 then some (2, false)
  else if op = 0x17 then some (1, false)
  else if op = 0x18 then some (32, true)
  else if op = 0x19 then some (32, false)
  else if op = 0x1A ∨ op = 0x1C then some (16, true)
  else if op = 0x1B ∨ op = 0x1D then some (16, false)
  else none

/-- The byte offset of a memory instruction (R359). -/
def memOff (w : Nat) : Int := (if 0x18 ≤ opOf w then 16 else 1) * sgn 12 (immOf w)

end Sys2Proof.Machine
end

