-- ==== Sys2Proof/Machine/Flags.lean ====
section
/-! DEFINITION. The predicates and the lanes of the engines (R354): effective masks, what compares write, and the results of the
scalar ALU and of the vector unit (R360, R363). `free` gives the values that the spec does not state (log 41). -/
namespace Sys2Proof.Machine

/-- The effective mask of an instruction (R354): p[pg], inverted where pi is 1. -/
def effMask (p : Nat) (inv : Bool) : Nat := (p ^^^ (if inv then 0xFFFF else 0)) % 2 ^ 16

/-- What a scalar compare writes to its destination: all 16 bits (R354). -/
def allBits (b : Bool) : Nat := if b then 0xFFFF else 0

/-- Lane `i` of 32 bits and lane `j` of 16 bits of a vector register (R353). -/
def lane32 (v i : Nat) : Word := BitVec.ofNat 32 (bitsOf v (32 * i) 32)
def lane16 (v j : Nat) : Int := sgn 16 (bitsOf v (16 * j) 16)

/-- `old` with the 32-bit lanes that the mask enables (bit 2i) replaced (R354). -/
def put32 (m old : Nat) (f : Nat → Word) : Nat :=
  (List.range 8).foldl (fun v i => if bitOf m (2 * i) then setBits v (32 * i) 32 (f i).toNat else v) old

/-- `old` with the 16-bit lanes that the mask enables (bit j) replaced (R354). -/
def put16 (m old : Nat) (f : Nat → Int) : Nat :=
  (List.range 16).foldl (fun v j => if bitOf m j then setBits v (16 * j) 16 (unsg 16 (f j)) else v) old

/-- A vector fp32 compare: bits 2i and 2i + 1 of each enabled lane (R354). -/
def cmp32 (m old : Nat) (f : Nat → Bool) : Nat :=
  (List.range 8).foldl (fun p i => if bitOf m (2 * i) then setBits p (2 * i) 2 (if f i then 3 else 0) else p) old

/-- A 16-bit compare: bit j of each enabled lane (R354). -/
def cmp16 (m old : Nat) (f : Nat → Bool) : Nat :=
  (List.range 16).foldl (fun p j => if bitOf m j then setBits p j 1 (if f j then 1 else 0) else p) old

/-- Signed saturation to 32 bits. -/
def sat32 (i : Int) : Word := BitVec.ofInt 32 (satS 32 i)

/-- The scalar result of ALU function `fn` (R360), with `d` the old value of rd, `pa` the predicate named in ra. -/
def aluWord (free : Word) (fn : Nat) (d a b : Word) (pa : Nat) : Word :=
  match fn with
  | 0x01 => a + b
  | 0x02 => a - b
  | 0x03 => a &&& b
  | 0x04 => a ||| b
  | 0x05 => a ^^^ b
  | 0x06 => a <<< (b.toNat % 32)
  | 0x07 => a >>> (b.toNat % 32)
  | 0x08 => a.sshiftRight (b.toNat % 32)
  | 0x09 => sat32 (a.toInt + b.toInt)
  | 0x0A => sat32 (a.toInt - b.toInt)
  | 0x0B => if a.toInt ≤ b.toInt then a else b
  | 0x0C => if a.toInt ≤ b.toInt then b else a
  | 0x0D => if a.toNat ≤ b.toNat then a else b
  | 0x0E => if a.toNat ≤ b.toNat then b else a
  | 0x10 => a * b
  | 0x11 => BitVec.ofInt 32 (a.toInt * b.toInt / 2 ^ 32)
  | 0x12 => BitVec.ofNat 32 (a.toNat * b.toNat / 2 ^ 32)
  | 0x13 => sat32 ((a.toInt * b.toInt + 2 ^ 30) / 2 ^ 31)
  | 0x20 => fadd a b
  | 0x21 => fsub a b
  | 0x22 => fmul a b
  | 0x23 => ffma d a b
  | 0x28 => fcvtq a
  | 0x29 => qcvtf a
  | 0x2A => fcvti a
  | 0x2B => icvtf free a
  | 0x35 => BitVec.ofNat 32 pa
  | _ => d

/-- The predicate result of ALU function `fn` (R360). -/
def aluPred (fn : Nat) (a b : Word) (pa pb : Nat) : Nat :=
  match fn with
  | 0x18 => allBits (a == b)
  | 0x19 => allBits (decide (a.toInt < b.toInt))
  | 0x1A => allBits (decide (a.toNat < b.toNat))
  | 0x24 => allBits (flt a b)
  | 0x25 => allBits (feq a b)
  | 0x30 => pa &&& pb
  | 0x31 => pa ||| pb
  | 0x32 => pa ^^^ pb
  | 0x33 => pa &&& (pb ^^^ 0xFFFF)
  | 0x34 => a.toNat % 2 ^ 16
  | _ => 0

/-- The result of an immediate instruction 0x01 to 0x07 and of MOVI (R359), with `d` the old value of rd. -/
def immWord (w : Nat) (d a : Word) : Word :=
  let k := immOf w
  match opOf w with
  | 0x01 => a + BitVec.ofInt 32 (sgn 12 k)
  | 0x02 => a &&& BitVec.ofNat 32 k
  | 0x03 => a ||| BitVec.ofNat 32 k
  | 0x04 => a ^^^ BitVec.ofNat 32 k
  | 0x05 => a <<< k
  | 0x06 => a >>> k
  | 0x07 => a.sshiftRight k
  | 0x0A =>
    if halfOf w then BitVec.ofNat 32 (setBits d.toNat 16 16 (imm16Of w)) else BitVec.ofInt 32 (sgn 16 (imm16Of w))
  | _ => d

/-- VFHSUM (R363). -/
def hsum (a : Nat) : Word :=
  let l (i : Nat) : Word := lane32 a i
  fadd (fadd (fadd (l 0) (l 1)) (fadd (l 2) (l 3))) (fadd (fadd (l 4) (l 5)) (fadd (l 6) (l 7)))

/-- The 32-bit lane `i` that a vector instruction makes (R363), from the old vd, va, vb and sb. -/
def lane32Of (free : Nat → Word) (w d a b : Nat) (sb : Word) (i : Nat) : Word :=
  let x := lane32 a i
  let y := lane32 b i
  let z := lane32 d i
  match opOf w with
  | 0x01 => fadd x y
  | 0x02 => fsub x y
  | 0x03 => fmul x y
  | 0x04 => ffma z x y
  | 0x05 => ffms z x y
  | 0x06 => fpick true (free i) x y
  | 0x07 => fpick false (free i) x y
  | 0x08 => fabs x
  | 0x09 => fneg x
  | 0x0C => fcvtq x
  | 0x0D => qcvtf x
  | 0x0E => frcp (free i) x
  | 0x0F => frsq (free i) x
  | 0x10 => if i = 0 then hsum a else 0
  | 0x11 => if i = 0 then lane32 b 7 else lane32 a (i - 1)
  | 0x12 => if i = 7 then lane32 b 0 else lane32 a (i + 1)
  | 0x13 => x &&& y
  | 0x14 => x ||| y
  | 0x15 => x ^^^ y
  | 0x16 => x
  | 0x20 => ffma z x sb
  | 0x21 => fmul x sb
  | 0x22 => sb
  | 0x24 => if i = imm9Of w then sb else z
  | _ => z

/-- The 16-bit lane `j` that a vector instruction makes (R363). -/
def lane16Of (w d a b j : Nat) : Int :=
  let x := lane16 a j
  let y := lane16 b j
  match opOf w with
  | 0x18 => x + y
  | 0x19 => x - y
  | 0x1A => satS 16 (x + y)
  | 0x1B => satS 16 (x - y)
  | 0x1C => satS 16 ((x * y + 2 ^ 14) / 2 ^ 15)
  | 0x1D => satS 16 (lane16 d j + (x * y + 2 ^ 14) / 2 ^ 15)
  | _ => lane16 d j

/-- A vector instruction works on 16-bit lanes (R363). -/
def isH (op : Nat) : Bool := decide (0x18 ≤ op ∧ op ≤ 0x1E)

/-- The new vd under mask `m` (R354, R363). -/
def vectorResult (free : Nat → Word) (w m d a b : Nat) (sb : Word) : Nat :=
  if isH (opOf w) then put16 m d (lane16Of w d a b) else put32 m d (lane32Of free w d a b sb)

/-- The new pd of a vector compare under mask `m` (R354, R363). -/
def vectorPred (w m old a b : Nat) : Nat :=
  if opOf w = 0x0A then cmp32 m old (fun i => flt (lane32 a i) (lane32 b i))
  else if opOf w = 0x0B then cmp32 m old (fun i => feq (lane32 a i) (lane32 b i))
  else cmp16 m old (fun j => decide (lane16 a j < lane16 b j))

end Sys2Proof.Machine
end

