-- ==== Sys2Proof/Machine/Crypto.lean ====
section
/-! DEFINITION. The ciphers and checks that the spec names: SHA-256, HMAC and HKDF (R40, R42), AES-256 with GCM (R41) and CMAC
(R476), ECDSA over P-256 (R40), CRC-32 (R461), CRC-16 and CRC-8. The algorithms are those of their standards (log 6). -/
namespace Sys2Proof.Machine

/-! ### SHA-256 -/

/-- Round constants. -/
def shaK : List Nat :=
  [0x428a2f98, 0x71374491, 0xb5c0fbcf, 0xe9b5dba5, 0x3956c25b, 0x59f111f1, 0x923f82a4, 0xab1c5ed5] ++
  [0xd807aa98, 0x12835b01, 0x243185be, 0x550c7dc3, 0x72be5d74, 0x80deb1fe, 0x9bdc06a7, 0xc19bf174] ++
  [0xe49b69c1, 0xefbe4786, 0x0fc19dc6, 0x240ca1cc, 0x2de92c6f, 0x4a7484aa, 0x5cb0a9dc, 0x76f988da] ++
  [0x983e5152, 0xa831c66d, 0xb00327c8, 0xbf597fc7, 0xc6e00bf3, 0xd5a79147, 0x06ca6351, 0x14292967] ++
  [0x27b70a85, 0x2e1b2138, 0x4d2c6dfc, 0x53380d13, 0x650a7354, 0x766a0abb, 0x81c2c92e, 0x92722c85] ++
  [0xa2bfe8a1, 0xa81a664b, 0xc24b8b70, 0xc76c51a3, 0xd192e819, 0xd6990624, 0xf40e3585, 0x106aa070] ++
  [0x19a4c116, 0x1e376c08, 0x2748774c, 0x34b0bcb5, 0x391c0cb3, 0x4ed8aa4a, 0x5b9cca4f, 0x682e6ff3] ++
  [0x748f82ee, 0x78a5636f, 0x84c87814, 0x8cc70208, 0x90befffa, 0xa4506ceb, 0xbef9a3f7, 0xc67178f2]

/-- Initial hash value. -/
def shaH : List Word :=
  [0x6a09e667, 0xbb67ae85, 0x3c6ef372, 0xa54ff53a, 0x510e527f, 0x9b05688c, 0x1f83d9ab, 0x5be0cd19]

/-- Message schedule: `n` more words after those of `w`. -/
def shaSched : Nat → List Word → List Word
  | 0, w => w
  | n + 1, w =>
    let i := w.length
    let g (k : Nat) : Word := w.getD (i - k) 0
    let s0 := (g 15).rotateRight 7 ^^^ (g 15).rotateRight 18 ^^^ (g 15) >>> 3
    let s1 := (g 2).rotateRight 17 ^^^ (g 2).rotateRight 19 ^^^ (g 2) >>> 10
    shaSched n (w ++ [g 16 + s0 + g 7 + s1])

/-- One round. -/
def shaRound (h : List Word) (kw : Word) : List Word :=
  match h with
  | [a, b, c, d, e, f, g, hh] =>
    let s1 := e.rotateRight 6 ^^^ e.rotateRight 11 ^^^ e.rotateRight 25
    let ch := (e &&& f) ^^^ (~~~e &&& g)
    let t1 := hh + s1 + ch + kw
    let s0 := a.rotateRight 2 ^^^ a.rotateRight 13 ^^^ a.rotateRight 22
    let maj := (a &&& b) ^^^ (a &&& c) ^^^ (b &&& c)
    [t1 + s0 + maj, a, b, c, d + t1, e, f, g]
  | _ => h

/-- Groups of `n` bytes, `k` of them. -/
def groupsOf (n : Nat) : Nat → List Byte → List (List Byte)
  | 0, _ => []
  | k + 1, bs => bs.take n :: groupsOf n k (bs.drop n)

/-- One 64-byte block. -/
def shaBlock (h : List Word) (b : List Byte) : List Word :=
  let w := shaSched 48 ((groupsOf 4 16 b).map (fun x => BitVec.ofNat 32 (beNat x)))
  let r := (w.zip shaK).foldl (fun h e => shaRound h (e.1 + BitVec.ofNat 32 e.2)) h
  h.zipWith (· + ·) r

/-- The SHA-256 digest of bytes. -/
def sha256 (m : List Byte) : List Byte :=
  let z := (119 - m.length % 64) % 64
  let p := m ++ [0x80] ++ List.replicate z 0 ++ beBytes 8 (8 * m.length)
  ((groupsOf 64 (p.length / 64) p).foldl shaBlock shaH).flatMap (fun w => beBytes 4 w.toNat)

/-- HMAC-SHA-256. -/
def hmac (key m : List Byte) : List Byte :=
  let k0 := if 64 < key.length then sha256 key else key
  let k := k0 ++ List.replicate (64 - k0.length) 0
  sha256 (k.map (· ^^^ 0x5c) ++ sha256 (k.map (· ^^^ 0x36) ++ m))

/-- HKDF-SHA-256 of 32 bytes (R42): salt, input keying material, info. -/
def hkdf32 (salt ikm info : List Byte) : List Byte := hmac (hmac salt ikm) (info ++ [1])

/-! ### AES-256 -/

/-- Doubling in the field of AES. -/
def xtime (a : Nat) : Nat := if 128 ≤ a then (2 * a) % 256 ^^^ 0x1b else 2 * a

/-- Product in the field of AES, `n` bits of `b`. -/
def gmul : Nat → Nat → Nat → Nat
  | 0, _, _ => 0
  | n + 1, a, b => (if b % 2 = 1 then a else 0) ^^^ gmul n (xtime a) (b / 2)

/-- The S-box: the inverse, then the affine map. -/
def sbox (x : Nat) : Nat :=
  let m := gmul 8
  let sq (a : Nat) : Nat := m a a
  let x2 := sq x
  let x4 := sq x2
  let x8 := sq x4
  let x16 := sq x8
  let x32 := sq x16
  let x64 := sq x32
  let i := m (m (m x2 x4) (m x8 x16)) (m (m x32 x64) (sq x64))
  let rot (k : Nat) : Nat := (i * 2 ^ k) % 256 + i * 2 ^ k / 256
  i ^^^ rot 1 ^^^ rot 2 ^^^ rot 3 ^^^ rot 4 ^^^ 0x63

/-- The S-box as a list. -/
def sboxTable : List Nat := (List.range 256).map sbox

/-- Exclusive or of lists. -/
def xorL (a b : List Nat) : List Nat := a.zipWith (· ^^^ ·) b

/-- Key schedule of AES-256: `n` more words of four bytes; `t` the S-box. -/
def aesSched (t : List Nat) : Nat → List (List Nat) → Nat → List (List Nat)
  | 0, w, _ => w
  | n + 1, w, rc =>
    let i := w.length
    let prev := w.getD (i - 1) []
    let sub (l : List Nat) : List Nat := l.map (fun b => t.getD b 0)
    let tmp := if i % 8 = 0 then xorL (sub (prev.drop 1 ++ prev.take 1)) [rc, 0, 0, 0]
      else if i % 8 = 4 then sub prev else prev
    aesSched t n (w ++ [xorL (w.getD (i - 8) []) tmp]) (if i % 8 = 0 then xtime rc else rc)

/-- The column mix of four bytes. -/
def mixCol (c : List Nat) : List Nat :=
  match c with
  | [a, b, x, y] =>
    let m3 (n : Nat) : Nat := xtime n ^^^ n
    [xtime a ^^^ m3 b ^^^ x ^^^ y, a ^^^ xtime b ^^^ m3 x ^^^ y, a ^^^ b ^^^ xtime x ^^^ m3 y, m3 a ^^^ b ^^^ x ^^^ xtime y]
  | _ => c

/-- Groups of four numbers. -/
def fours : Nat → List Nat → List (List Nat)
  | 0, _ => []
  | k + 1, l => l.take 4 :: fours k (l.drop 4)

/-- Encrypt one block of 16 bytes under a 32-byte key. -/
def aes256 (key blk : List Byte) : List Byte :=
  let t := sboxTable
  let ks := (aesSched t 52 (fours 8 (key.map (·.toNat))) 1).flatten
  let rk (r : Nat) : List Nat := (ks.drop (16 * r)).take 16
  let shift (s : List Nat) : List Nat := (List.range 16).map (fun i => s.getD ((i + 4 * (i % 4)) % 16) 0)
  let sub (s : List Nat) : List Nat := shift (s.map (fun b => t.getD b 0))
  let s0 := xorL (blk.map (·.toNat)) (rk 0)
  let s := (List.range 13).foldl (fun s r => xorL ((fours 4 (sub s)).flatMap mixCol) (rk (r + 1))) s0
  (xorL (sub s) (rk 14)).map (BitVec.ofNat 8)

/-- Doubling in GF(2^128) of CMAC. -/
def cmacDbl (n : Nat) : Nat := (2 * n) % 2 ^ 128 ^^^ (if 2 ^ 127 ≤ n then 0x87 else 0)

/-- AES-256-CMAC (R476). -/
def cmac (key m : List Byte) : List Byte :=
  let enc (n : Nat) : Nat := beNat (aes256 key (beBytes 16 n))
  let k1 := cmacDbl (enc 0)
  let n := max 1 ((m.length + 15) / 16)
  let last := m.drop (16 * (n - 1))
  let lastN := if last.length = 16 then beNat last ^^^ k1
    else beNat (last ++ [0x80] ++ List.replicate (15 - last.length) 0) ^^^ cmacDbl k1
  let x := (groupsOf 16 (n - 1) m).foldl (fun x b => enc (x ^^^ beNat b)) 0
  beBytes 16 (enc (x ^^^ lastN))

/-- Product in GF(2^128) of GCM, `n` bits of `x` from the most significant. -/
def gcmMul : Nat → Nat → Nat → Nat → Nat
  | 0, _, _, z => z
  | n + 1, x, v, z =>
    let z := if 2 ^ 127 ≤ x then z ^^^ v else z
    let v := if v % 2 = 1 then v / 2 ^^^ (0xE1 * 2 ^ 120) else v / 2
    gcmMul n (x * 2 % 2 ^ 128) v z

/-- GHASH over data padded to blocks. -/
def ghash (h : Nat) (bs : List Byte) : Nat :=
  (groupsOf 16 (bs.length / 16) bs).foldl (fun y b => gcmMul 128 (y ^^^ beNat b) h 0) 0

/-- Zeros up to a multiple of 16 bytes. -/
def padTo16 (bs : List Byte) : List Byte := bs ++ List.replicate ((16 - bs.length % 16) % 16) 0

/-- The counter block `i` of GCM, encrypted: block 0 for the tag, from 1 for the text. -/
def gcmBlock (key iv : List Byte) (i : Nat) : List Byte := aes256 key (iv ++ beBytes 4 (i + 1))

/-- GCM's text from block `start` of the stream on: decryption and encryption are the same. -/
def gcmCtr (key iv : List Byte) (start : Nat) (ct : List Byte) : List Byte :=
  (List.range ((ct.length + 15) / 16)).flatMap (fun i =>
    ((ct.drop (16 * i)).take 16).zipWith (· ^^^ ·) (gcmBlock key iv (start + i + 1)))

/-- The tag of AES-256-GCM over additional data and cipher text (R41). -/
def gcmTag (key iv aad ct : List Byte) : List Byte :=
  let h := beNat (aes256 key (List.replicate 16 0))
  let s := ghash h (padTo16 aad ++ padTo16 ct ++ beBytes 8 (8 * aad.length) ++ beBytes 8 (8 * ct.length))
  beBytes 16 (s ^^^ beNat (gcmBlock key iv 0))

/-! ### ECDSA over P-256 -/

/-- The curve: prime, order, coefficient b and the base point. -/
def p256p : Nat := 0xffffffff00000001000000000000000000000000ffffffffffffffffffffffff
def p256n : Nat := 0xffffffff00000000ffffffffffffffffbce6faada7179e84f3b9cac2fc632551
def p256b : Nat := 0x5ac635d8aa3a93e7b3ebbd55769886bc651d06b0cc53b0f63bce3c3e27d2604b
def p256g : Nat × Nat :=
  (0x6b17d1f2e12c4247f8bce6e563a440f277037d812deb33a0f4a13945d898c296,
   0x4fe342e2fe1a7f9b8ee7eb4a7c0f9e162bce33576b315ececbb6406837bf51f5)

/-- `a ^ e mod m`, `n` bits of `e`. -/
def powMod : Nat → Nat → Nat → Nat → Nat
  | 0, _, _, _ => 1
  | n + 1, a, e, m => (if e % 2 = 1 then a else 1) * powMod n (a * a % m) (e / 2) m % m

/-- Inverse modulo a prime of 256 bits. -/
def invMod (a m : Nat) : Nat := powMod 256 (a % m) (m - 2) m

/-- Sum of two points; none is the point at infinity. -/
def ecAdd (P Q : Option (Nat × Nat)) : Option (Nat × Nat) :=
  match P, Q with
  | none, _ => Q
  | _, none => P
  | some (x1, y1), some (x2, y2) =>
    let p := p256p
    if x1 = x2 ∧ (y1 + y2) % p = 0 then none
    else
      let l := if x1 = x2 then (3 * x1 * x1 + p - 3) * invMod (2 * y1) p % p
        else (y2 + p - y1) * invMod (x2 + p - x1) p % p
      let x := (l * l + 2 * p - x1 - x2) % p
      some (x, (l * (x1 + p - x) + p - y1) % p)

/-- `k` times a point, `n` bits of `k`. -/
def ecMul : Nat → Nat → Option (Nat × Nat) → Option (Nat × Nat)
  | 0, _, _ => none
  | n + 1, k, P => ecAdd (if k % 2 = 1 then P else none) (ecMul n (k / 2) (ecAdd P P))

/-- ECDSA over P-256 (R40): public key X, Y and signature r, s, each 32 bytes, on a digest. -/
def ecdsaOk (pub sig digest : List Byte) : Bool :=
  let x := beNat (pub.take 32)
  let y := beNat (pub.drop 32)
  let r := beNat (sig.take 32)
  let s := beNat (sig.drop 32)
  let p := p256p
  let n := p256n
  let onCurve := decide (x < p) && decide (y < p) && y * y % p == (x * x * x + (p - 3) * x + p256b) % p
  if !onCurve || r == 0 || s == 0 || decide (n ≤ r) || decide (n ≤ s) then false
  else
    let w := invMod s n
    let e := beNat digest
    match ecAdd (ecMul 256 (e * w % n) (some p256g)) (ecMul 256 (r * w % n) (some (x, y))) with
    | some (x1, _) => x1 % n == r
    | none => false

/-! ### Cyclic redundancy checks -/

/-- A reflected CRC step of one byte. -/
def crcStepR (poly : Nat) : Nat → Nat → Nat
  | 0, c => c
  | n + 1, c => crcStepR poly n (if c % 2 = 1 then c / 2 ^^^ poly else c / 2)

/-- CRC-32 of IEEE 802.3 (R461). -/
def crc32 (bs : List Byte) : Nat :=
  bs.foldl (fun c b => crcStepR 0xEDB88320 8 (c ^^^ b.toNat)) 0xFFFFFFFF ^^^ 0xFFFFFFFF

/-- A CRC step of one byte, most significant bit first, `w` bits wide. -/
def crcStep (w poly : Nat) : Nat → Nat → Nat
  | 0, c => c
  | n + 1, c => crcStep w poly n ((if 2 ^ (w - 1) ≤ c then (2 * c) % 2 ^ w ^^^ poly else 2 * c))

/-- CRC-16 with polynomial 0x1021, initial 0xFFFF. -/
def crc16 (bs : List Byte) : Nat := bs.foldl (fun c b => crcStep 16 0x1021 8 (c ^^^ b.toNat * 256)) 0xFFFF

/-- CRC-8 with polynomial 0x07, initial 0. -/
def crc8 (bs : List Byte) : Nat := bs.foldl (fun c b => crcStep 8 0x07 8 (c ^^^ b.toNat)) 0

end Sys2Proof.Machine
end

