-- ==== Sys2Proof/Machine/RegTable.lean ====
section
/-! DEFINITION. The register table: every register of spec/'s register tables with its address (a base and up to two
strides), its hardware value (the Reset column of R8; for a field marked K the hardware value underneath it) and, per
access code of R7, the mask of its bits; `k` is the mask of the bits marked K in the Reset column (R8). A bit in no access
mask is reserved or read-only (R9). -/
namespace Sys2Proof.Machine

/-- One register, or an array of registers: element `(i, j)` lies at `base + stride*i + stride2*j`. -/
structure RegRow where
  name : String
  base : Nat
  stride : Nat
  count : Nat
  stride2 : Nat
  count2 : Nat
  hw : Nat
  rw : Nat
  w1c : Nat
  rwt : Nat
  kt : Nat
  wo : Nat
  k : Nat
  deriving DecidableEq, Repr

/-- The registers of chapter 00_scope.md. -/
def regRows00 : List RegRow := [
  ⟨"SYS_PARTID", 0x800000, 0x0, 1, 0x0, 1, 0x9616, 0x0, 0x0, 0x0, 0x0, 0x0, 0x0⟩,
  ⟨"SYS_REVID", 0x800004, 0x0, 1, 0x0, 1, 0x1101010, 0x0, 0x0, 0x0, 0x0, 0x0, 0x0⟩]

/-- The registers of chapter 01_architecture.md. -/
def regRows01 : List RegRow := [
  ⟨"SYS_TILEMAP", 0x800010, 0x4, 2, 0x0, 1, 0x32103210, 0x0, 0x0, 0x0, 0x0, 0x0, 0x0⟩]

/-- The registers of chapter 02_keyplan.md. -/
def regRows02 : List RegRow := [
  ⟨"BOOT_STATUS", 0x8E8000, 0x0, 1, 0x0, 1, 0x80000000, 0x0, 0x0, 0x0, 0x0, 0x0, 0x0⟩,
  ⟨"BOOT_RESULT", 0x8E8004, 0x4, 4, 0x0, 1, 0xFFFF00FF, 0x0, 0x0, 0x0, 0x0, 0x0, 0x0⟩,
  ⟨"BOOT_CTRL", 0x8E8020, 0x0, 1, 0x0, 1, 0x0, 0x0, 0x0, 0x0, 0x0, 0xFFFF00FF, 0x0⟩,
  ⟨"BOOT_HOSTDATA", 0x8E8024, 0x0, 1, 0x0, 1, 0x0, 0x0, 0x0, 0x0, 0x0, 0xFFFFFFFF, 0x0⟩,
  ⟨"BOOT_LIVESTAT", 0x8E8028, 0x0, 1, 0x0, 1, 0xFF, 0x0, 0x0, 0x0, 0x0, 0x0, 0x0⟩,
  ⟨"BOOT_RUNVER", 0x8E802C, 0x0, 1, 0x0, 1, 0x0, 0x0, 0x0, 0x0, 0x0, 0x0, 0x0⟩,
  ⟨"BOOT_RUNLIKE0", 0x8E8030, 0x0, 1, 0x0, 1, 0x0, 0x0, 0x0, 0x0, 0x0, 0x0, 0x0⟩,
  ⟨"BOOT_RUNLIKE1", 0x8E8034, 0x0, 1, 0x0, 1, 0x0, 0x0, 0x0, 0x0, 0x0, 0x0, 0x0⟩,
  ⟨"BOOT_RUNHASH", 0x8E8040, 0x4, 8, 0x0, 1, 0x0, 0x0, 0x0, 0x0, 0x0, 0x0, 0x0⟩]

/-- The registers of chapter 03_clocks.md. -/
def regRows03 : List RegRow := [
  ⟨"CLK_PLLCFG", 0x810000, 0x0, 1, 0x0, 1, 0x78, 0x800701FF, 0x0, 0x0, 0x0, 0x0, 0x0⟩,
  ⟨"CLK_PLLFRAC", 0x810004, 0x0, 1, 0x0, 1, 0x0, 0xFFFFFF, 0x0, 0x0, 0x0, 0x0, 0x0⟩,
  ⟨"CLK_REFSEL", 0x810008, 0x0, 1, 0x0, 1, 0x200, 0x377, 0x0, 0x0, 0x0, 0x0, 0x0⟩,
  ⟨"CLK_CTRL", 0x81000C, 0x0, 1, 0x0, 1, 0x0, 0x0, 0x0, 0x0, 0x0, 0x3, 0x0⟩,
  ⟨"CLK_PLAN", 0x810010, 0x0, 1, 0x0, 1, 0x0, 0x0, 0x0, 0x0, 0x0, 0x0, 0x0⟩,
  ⟨"CLK_STATUS", 0x810014, 0x0, 1, 0x0, 1, 0x0, 0x0, 0x0, 0x0, 0x0, 0x0, 0x0⟩,
  ⟨"CLK_EVENTS", 0x810018, 0x0, 1, 0x0, 1, 0x0, 0x0, 0x3F, 0x0, 0x0, 0x0, 0x0⟩,
  ⟨"CLK_REFMON", 0x81001C, 0x0, 1, 0x0, 1, 0x0, 0x0, 0x0, 0x0, 0x0, 0x0, 0x0⟩]

/-- The registers of chapter 04_keyway.md. -/
def regRows04 : List RegRow := [
  ⟨"KEY_STATUS", 0x850000, 0x0, 1, 0x0, 1, 0x0, 0x0, 0x0, 0x0, 0x0, 0x0, 0x0⟩,
  ⟨"KEY_FRAMECNT", 0x850004, 0x0, 1, 0x0, 1, 0x0, 0x0, 0x0, 0x0, 0x0, 0x0, 0x0⟩,
  ⟨"KEY_USAGE", 0x850008, 0x0, 1, 0x0, 1, 0x0, 0x0, 0x0, 0x0, 0x0, 0x0, 0x0⟩,
  ⟨"KEY_FADE", 0x85000C, 0x0, 1, 0x0, 1, 0x0, 0x0, 0x0, 0x0, 0x0, 0x0, 0x0⟩,
  ⟨"KEY_XPPAGE", 0x850010, 0x0, 1, 0x0, 1, 0x0, 0x0, 0x0, 0x3, 0x0, 0x0, 0x0⟩,
  ⟨"KEY_EVENTS", 0x850014, 0x0, 1, 0x0, 1, 0x0, 0x0, 0x7, 0x0, 0x0, 0x0, 0x0⟩,
  ⟨"KEY_REFUSE", 0x850018, 0x0, 1, 0x0, 1, 0x0, 0x0, 0x0, 0x0, 0x0, 0x0, 0x0⟩,
  ⟨"KEY_SAT", 0x850020, 0x4, 4, 0x0, 1, 0x0, 0x0, 0xFFFFFFFF, 0x0, 0x0, 0x0, 0x0⟩,
  ⟨"KEY_ROUTE", 0x851000, 0x4, 512, 0x0, 1, 0x0, 0x0, 0x0, 0x83FF03FF, 0x0, 0x0, 0x83FF03FF⟩,
  ⟨"KEY_XPCFG", 0x854000, 0x8, 2048, 0x100000000, 4, 0x3FF, 0x0, 0x0, 0x87FFFFFF, 0x0, 0x0, 0x87FFFFFF⟩,
  ⟨"KEY_XPGAIN", 0x854004, 0x8, 2048, 0x100000000, 4, 0x0, 0x0, 0x0, 0xFFFFFFFF, 0x0, 0x0, 0xFFFFFFFF⟩,
  ⟨"TUMB_CTRL", 0x858000, 0x0, 1, 0x0, 1, 0x0, 0x0, 0x0, 0x0, 0x0, 0xF, 0x0⟩,
  ⟨"TUMB_STATUS", 0x858004, 0x0, 1, 0x0, 1, 0x0, 0x0, 0x0, 0x0, 0x0, 0x0, 0x0⟩,
  ⟨"TUMB_ATFRAME", 0x858008, 0x0, 1, 0x0, 1, 0x0, 0xFFFFFFFF, 0x0, 0x0, 0x0, 0x0, 0x0⟩,
  ⟨"TUMB_LASTCOMMIT", 0x85800C, 0x0, 1, 0x0, 1, 0x0, 0x0, 0x0, 0x0, 0x0, 0x0, 0x0⟩,
  ⟨"TUMB_COMMITS", 0x858010, 0x0, 1, 0x0, 1, 0x0, 0x0, 0x0, 0x0, 0x0, 0x0, 0x0⟩,
  ⟨"TUMB_ENTRY_A", 0x858400, 0x8, 256, 0x0, 1, 0x0, 0x0, 0x0, 0x0, 0x0, 0x0, 0x0⟩,
  ⟨"TUMB_ENTRY_V", 0x858404, 0x8, 256, 0x0, 1, 0x0, 0x0, 0x0, 0x0, 0x0, 0x0, 0x0⟩]

/-- The registers of chapter 05_inputs.md. -/
def regRows05 : List RegRow := [
  ⟨"ANAIN_CH_CFG", 0x880000, 0x20, 8, 0x0, 1, 0x10100000, 0x0, 0x0, 0x9330007F, 0x0, 0x0, 0x9330007F⟩,
  ⟨"ANAIN_CH_STATUS", 0x880004, 0x20, 8, 0x0, 1, 0xFF0, 0x0, 0x0, 0x0, 0x0, 0x0, 0x0⟩,
  ⟨"ANAIN_CH_EVENTS", 0x880008, 0x20, 8, 0x0, 1, 0x0, 0x0, 0xF, 0x0, 0x0, 0x0, 0x0⟩,
  ⟨"MICB_CFG", 0x880100, 0x4, 4, 0x0, 1, 0x0, 0x0, 0x0, 0x8000000F, 0x0, 0x0, 0x8000000F⟩,
  ⟨"MICB_STATUS", 0x880110, 0x0, 1, 0x0, 1, 0x0, 0x0, 0x0, 0x0, 0x0, 0x0, 0x0⟩,
  ⟨"MICB_EVENTS", 0x880114, 0x0, 1, 0x0, 1, 0x0, 0x0, 0xF, 0x0, 0x0, 0x0, 0x0⟩,
  ⟨"ANAIN_CALCTRL", 0x880120, 0x0, 1, 0x0, 1, 0x12C000FF, 0xFFFF00FF, 0x0, 0x0, 0x0, 0x0, 0x0⟩,
  ⟨"PDM_CLK_CFG", 0x870000, 0x4, 8, 0x0, 1, 0x0, 0x80000031, 0x0, 0x0, 0x0, 0x0, 0x80000031⟩,
  ⟨"PDM_CH_CFG", 0x870100, 0x4, 32, 0x0, 1, 0x100000, 0x0, 0x0, 0x83300007, 0x0, 0x0, 0x83300007⟩,
  ⟨"PDM_SETTLE", 0x870200, 0x0, 1, 0x0, 1, 0x1E0, 0xFFFF, 0x0, 0x0, 0x0, 0x0, 0x0⟩,
  ⟨"PDM_STATUS", 0x870204, 0x0, 1, 0x0, 1, 0x0, 0x0, 0x0, 0x0, 0x0, 0x0, 0x0⟩,
  ⟨"PDM_EVENTS", 0x870208, 0x0, 1, 0x0, 1, 0x0, 0x0, 0xFF, 0x0, 0x0, 0x0, 0x0⟩]

/-- The registers of chapter 06_line_headphone.md. -/
def regRows06 : List RegRow := [
  ⟨"LO_CFG", 0x890000, 0x40, 4, 0x0, 1, 0x30, 0x0, 0x0, 0x18F3, 0x0, 0x0, 0x18F3⟩,
  ⟨"HP_CFG", 0x891000, 0x40, 2, 0x0, 1, 0x30, 0x0, 0x0, 0x18F1, 0x0, 0x0, 0x18F1⟩,
  ⟨"LO_CODES", 0x890004, 0x40, 4, 0x0, 1, 0x0, 0x0, 0x0, 0xFFFFFFFF, 0x0, 0x0, 0xFFFFFFFF⟩,
  ⟨"HP_CODES", 0x891004, 0x40, 2, 0x0, 1, 0x0, 0x0, 0x0, 0xFFFFFFFF, 0x0, 0x0, 0xFFFFFFFF⟩,
  ⟨"SPK_CODES", 0x892004, 0x40, 4, 0x0, 1, 0x0, 0x0, 0x0, 0xFFFFFFFF, 0x0, 0x0, 0xFFFFFFFF⟩,
  ⟨"LO_CTRL", 0x890008, 0x40, 4, 0x0, 1, 0x0, 0x1, 0x0, 0x0, 0x0, 0x0, 0x0⟩,
  ⟨"HP_CTRL", 0x891008, 0x40, 2, 0x0, 1, 0x0, 0x1, 0x0, 0x0, 0x0, 0x0, 0x0⟩,
  ⟨"LO_STATUS", 0x89000C, 0x40, 4, 0x0, 1, 0xF, 0x0, 0x0, 0x0, 0x0, 0x0, 0x0⟩,
  ⟨"HP_STATUS", 0x89100C, 0x40, 2, 0x0, 1, 0xF, 0x0, 0x0, 0x0, 0x0, 0x0, 0x0⟩,
  ⟨"LO_EVENTS", 0x890010, 0x40, 4, 0x0, 1, 0x0, 0x0, 0x1F, 0x0, 0x0, 0x0, 0x0⟩,
  ⟨"HP_EVENTS", 0x891010, 0x40, 2, 0x0, 1, 0x0, 0x0, 0x1F, 0x0, 0x0, 0x0, 0x0⟩,
  ⟨"OUT_CLRSTAT", 0x890F00, 0x0, 1, 0x0, 1, 0x0, 0x0, 0x0, 0x0, 0x0, 0x0, 0x0⟩,
  ⟨"OUT_CALCTRL", 0x890F04, 0x0, 1, 0x0, 1, 0x12C003FF, 0xFFFF03FF, 0x0, 0x0, 0x0, 0x0, 0x0⟩,
  ⟨"HP_PUMP", 0x891100, 0x0, 1, 0x0, 1, 0x0, 0x0, 0x0, 0x0, 0x0, 0x0, 0x0⟩,
  ⟨"TONE_CFG", 0x893000, 0x10, 8, 0x0, 1, 0x0, 0x0, 0x0, 0x8000FFFF, 0x0, 0x0, 0x8000FFFF⟩,
  ⟨"TONE_FREQ", 0x893004, 0x10, 8, 0x0, 1, 0x0, 0x0, 0x0, 0xFFFFFFFF, 0x0, 0x0, 0xFFFFFFFF⟩,
  ⟨"TONE_PHASE", 0x893008, 0x10, 8, 0x0, 1, 0x0, 0x0, 0x0, 0xFFFFFFFF, 0x0, 0x0, 0xFFFFFFFF⟩]

/-- The registers of chapter 07_speaker_stages.md. -/
def regRows07 : List RegRow := [
  ⟨"SPK_CFG", 0x892000, 0x40, 4, 0x0, 1, 0x30, 0x0, 0x0, 0x18FD, 0x0, 0x0, 0x18FD⟩,
  ⟨"SPK_CTRL", 0x892008, 0x40, 4, 0x0, 1, 0x0, 0x1, 0x0, 0x0, 0x0, 0x10, 0x0⟩,
  ⟨"SPK_STATUS", 0x89200C, 0x40, 4, 0x0, 1, 0xF, 0x0, 0x0, 0x0, 0x0, 0x0, 0x0⟩,
  ⟨"SPK_EVENTS", 0x892010, 0x40, 4, 0x0, 1, 0x0, 0x0, 0x3FF, 0x0, 0x0, 0x0, 0x0⟩,
  ⟨"SPK_SEGP", 0x892014, 0x40, 4, 0x0, 1, 0xFFFF, 0x0, 0x0, 0x0, 0x0, 0x0, 0x0⟩,
  ⟨"SPK_SEGN", 0x892018, 0x40, 4, 0x0, 1, 0xFFFF, 0x0, 0x0, 0x0, 0x0, 0x0, 0x0⟩,
  ⟨"SPK_DIAGCFG", 0x89201C, 0x40, 4, 0x0, 1, 0x2810, 0xFFFF, 0x0, 0x0, 0x0, 0x0, 0x0⟩,
  ⟨"SPK_DIAG", 0x892020, 0x40, 4, 0x0, 1, 0xF, 0x0, 0x0, 0x0, 0x0, 0x0, 0x0⟩,
  ⟨"SPK_PILOT", 0x892024, 0x40, 4, 0x0, 1, 0x31004, 0x870FFFFF, 0x0, 0x0, 0x0, 0x0, 0x0⟩,
  ⟨"SPK_PILOTSTAT", 0x892028, 0x40, 4, 0x0, 1, 0x0, 0x0, 0x0, 0x0, 0x0, 0x0, 0x0⟩,
  ⟨"SPK_LIMITS", 0x89202C, 0x40, 4, 0x0, 1, 0x0, 0x0, 0x0, 0x0, 0x0, 0x0, 0x0⟩,
  ⟨"SPK_PVDD", 0x892F00, 0x0, 1, 0x0, 1, 0x0, 0x0, 0x0, 0x0, 0x0, 0x0, 0x0⟩,
  ⟨"SPK_THERM", 0x892F04, 0x0, 1, 0x0, 1, 0x0, 0x0, 0x0, 0x0, 0x0, 0x0, 0x0⟩,
  ⟨"SPK_PAIR", 0x892F08, 0x0, 1, 0x0, 1, 0x0, 0x0, 0x0, 0x0, 0x0, 0x0, 0x3⟩]

/-- The registers of chapter 08_pop_and_jack.md. -/
def regRows08 : List RegRow := [
  ⟨"JD_CFG", 0x8A0000, 0x8, 4, 0x0, 1, 0x20A60064, 0xF8FF01FF, 0x0, 0x0, 0x0, 0x0, 0xF8FF01FF⟩,
  ⟨"JD_MUTE", 0x8A0004, 0x8, 4, 0x0, 1, 0x0, 0x3FF03FF, 0x0, 0x0, 0x0, 0x0, 0x3FF03FF⟩,
  ⟨"JACK_STATUS", 0x8A0040, 0x0, 1, 0x0, 1, 0x0, 0x0, 0x0, 0x0, 0x0, 0x0, 0x0⟩,
  ⟨"JACK_EVENTS", 0x8A0044, 0x0, 1, 0x0, 1, 0x0, 0x0, 0x3FFF, 0x0, 0x0, 0x0, 0x0⟩,
  ⟨"HS_CFG", 0x8A0060, 0x20, 2, 0x0, 1, 0x32081E, 0x8CFFFF3F, 0x0, 0x0, 0x0, 0x0, 0x8CFFFF3F⟩,
  ⟨"HS_CTRL", 0x8A0064, 0x20, 2, 0x0, 1, 0x0, 0x0, 0x0, 0x0, 0x0, 0x3, 0x0⟩,
  ⟨"HS_RES", 0x8A0068, 0x20, 2, 0x0, 1, 0x0, 0x0, 0x0, 0x0, 0x0, 0x0, 0x0⟩,
  ⟨"HS_BTNCFG", 0x8A006C, 0x20, 2, 0x0, 1, 0xB0603010, 0xFFFFFFFF, 0x0, 0x0, 0x0, 0x0, 0xFFFFFFFF⟩,
  ⟨"HS_BTNSTAT", 0x8A0070, 0x20, 2, 0x0, 1, 0x0, 0x0, 0x0, 0x0, 0x0, 0x0, 0x0⟩,
  ⟨"SEQ_CFG", 0x8A0100, 0x10, 10, 0x0, 1, 0x810300EF, 0x0, 0x0, 0x830F03FF, 0x0, 0x0, 0x830F03FF⟩,
  ⟨"SEQ_CTRL", 0x8A0104, 0x10, 10, 0x0, 1, 0x0, 0x1, 0x0, 0x0, 0x0, 0x0, 0x0⟩,
  ⟨"SEQ_STATUS", 0x8A0108, 0x10, 10, 0x0, 1, 0x0, 0x0, 0x0, 0x0, 0x0, 0x0, 0x0⟩,
  ⟨"SEQ_TRIM", 0x8A010C, 0x10, 10, 0x0, 1, 0x0, 0x0, 0x0, 0x0, 0x0, 0x0, 0x0⟩,
  ⟨"SEQ_EVENTS", 0x8A01A0, 0x0, 1, 0x0, 1, 0x0, 0x0, 0x3FF, 0x0, 0x0, 0x0, 0x0⟩]

/-- The registers of chapter 09_serial_ports.md. -/
def regRows09 : List RegRow := [
  ⟨"PORT_FMT", 0x860000, 0x1000, 6, 0x0, 1, 0x0, 0x0, 0x0, 0x0, 0x0, 0x0, 0xFECF03⟩,
  ⟨"PORT_CLK", 0x860004, 0x1000, 6, 0x0, 1, 0x0, 0x0, 0x0, 0x0, 0x0, 0x0, 0xCFFFCFFF⟩,
  ⟨"PORT_PATH", 0x860008, 0x1000, 6, 0x0, 1, 0x0, 0x0, 0x0, 0x0, 0x0, 0x0, 0x3F3FFF33⟩,
  ⟨"PORT_SLOTMASK", 0x86000C, 0x1000, 6, 0x0, 1, 0x0, 0x0, 0x0, 0xFFFFFFFF, 0x0, 0x0, 0xFFFFFFFF⟩,
  ⟨"PORT_CTRL", 0x860010, 0x1000, 6, 0x0, 1, 0x0, 0x3, 0x0, 0x0, 0x0, 0x4, 0x0⟩,
  ⟨"PORT_SILENT", 0x860014, 0x1000, 6, 0x0, 1, 0x1010, 0xFFFF, 0x0, 0x0, 0x0, 0x0, 0xFFFF⟩,
  ⟨"PORT_STATUS", 0x860018, 0x1000, 6, 0x0, 1, 0x0, 0x0, 0x0, 0x0, 0x0, 0x0, 0x0⟩,
  ⟨"PORT_EVENTS", 0x86001C, 0x1000, 6, 0x0, 1, 0x0, 0x0, 0x1FF, 0x0, 0x0, 0x0, 0x0⟩,
  ⟨"PORT_COUNT0", 0x860020, 0x1000, 6, 0x0, 1, 0x0, 0x0, 0x0, 0x0, 0x0, 0x0, 0x0⟩,
  ⟨"PORT_COUNT1", 0x860024, 0x1000, 6, 0x0, 1, 0x0, 0x0, 0x0, 0x0, 0x0, 0x0, 0x0⟩,
  ⟨"PORT_COUNT2", 0x860028, 0x1000, 6, 0x0, 1, 0x0, 0x0, 0x0, 0x0, 0x0, 0x0, 0x0⟩,
  ⟨"PORT_RXFRAME", 0x86002C, 0x1000, 6, 0x0, 1, 0x0, 0x0, 0x0, 0x0, 0x0, 0x0, 0x0⟩,
  ⟨"PORT_TXFRAME", 0x860030, 0x1000, 6, 0x0, 1, 0x0, 0x0, 0x0, 0x0, 0x0, 0x0, 0x0⟩]

/-- The registers of chapter 10_spdif_asrc.md. -/
def regRows10 : List RegRow := [
  ⟨"SPDIF_CFG", 0x868000, 0x0, 1, 0x0, 1, 0x0, 0x0, 0x0, 0x0, 0x0, 0x0, 0xF8FC0000⟩,
  ⟨"SPDIF_CTRL", 0x868004, 0x0, 1, 0x0, 1, 0x0, 0x3, 0x0, 0x0, 0x0, 0x4, 0x0⟩,
  ⟨"SPDIF_SILENT", 0x868008, 0x0, 1, 0x0, 1, 0x1010, 0xFFFF, 0x0, 0x0, 0x0, 0x0, 0xFFFF⟩,
  ⟨"SPDIF_STATUS", 0x86800C, 0x0, 1, 0x0, 1, 0x0, 0x0, 0x0, 0x0, 0x0, 0x0, 0x0⟩,
  ⟨"SPDIF_EVENTS", 0x868010, 0x0, 1, 0x0, 1, 0x0, 0x0, 0x1FDF, 0x0, 0x0, 0x0, 0x0⟩,
  ⟨"SPDIF_COUNT0", 0x868014, 0x0, 1, 0x0, 1, 0x0, 0x0, 0x0, 0x0, 0x0, 0x0, 0x0⟩,
  ⟨"SPDIF_COUNT1", 0x868018, 0x0, 1, 0x0, 1, 0x0, 0x0, 0x0, 0x0, 0x0, 0x0, 0x0⟩,
  ⟨"SPDIF_COUNT2", 0x86801C, 0x0, 1, 0x0, 1, 0x0, 0x0, 0x0, 0x0, 0x0, 0x0, 0x0⟩,
  ⟨"SPDIF_COUNT3", 0x868020, 0x0, 1, 0x0, 1, 0x0, 0x0, 0x0, 0x0, 0x0, 0x0, 0x0⟩,
  ⟨"SPDIF_TXVAL", 0x868024, 0x0, 1, 0x0, 1, 0x0, 0x3, 0x0, 0x0, 0x0, 0x0, 0x0⟩,
  ⟨"SPDIF_RXCSA", 0x868040, 0x4, 6, 0x0, 1, 0x0, 0x0, 0x0, 0x0, 0x0, 0x0, 0x0⟩,
  ⟨"SPDIF_RXCSB", 0x868060, 0x4, 6, 0x0, 1, 0x0, 0x0, 0x0, 0x0, 0x0, 0x0, 0x0⟩,
  ⟨"SPDIF_TXCS", 0x868080, 0x4, 6, 0x0, 1, 0x0, 0x0, 0x0, 0xFFFFFFFF, 0x0, 0x0, 0xFFFFFFFF⟩,
  ⟨"SPDIF_NPCFG", 0x8680A0, 0x0, 1, 0x0, 1, 0x81E001F4, 0x83FF07FF, 0x0, 0x0, 0x0, 0x0, 0x83FF07FF⟩,
  ⟨"SPDIF_IECMAP", 0x8680C0, 0x4, 6, 0x0, 1, 0x0, 0x0, 0x0, 0x0, 0x0, 0x0, 0xFF⟩,
  ⟨"SPDIF_NPSTAT", 0x8680E0, 0x4, 8, 0x0, 1, 0x0, 0x0, 0x0, 0x0, 0x0, 0x0, 0x0⟩,
  ⟨"RMON_STATUS", 0x869000, 0x10, 13, 0x0, 1, 0xF000000, 0x0, 0x0, 0x0, 0x0, 0x0, 0x0⟩,
  ⟨"RMON_COUNT", 0x869004, 0x10, 13, 0x0, 1, 0x0, 0x0, 0x0, 0x0, 0x0, 0x0, 0x0⟩,
  ⟨"RMON_CTRL", 0x8690F0, 0x0, 1, 0x0, 1, 0x0, 0x0, 0x0, 0x0, 0x0, 0x1FFF, 0x0⟩,
  ⟨"RMON_EVENTS0", 0x8690F4, 0x0, 1, 0x0, 1, 0x0, 0x0, 0x1FFF1FFF, 0x0, 0x0, 0x0, 0x0⟩,
  ⟨"RMON_EVENTS1", 0x8690F8, 0x0, 1, 0x0, 1, 0x0, 0x0, 0x1FFF1FFF, 0x0, 0x0, 0x0, 0x0⟩,
  ⟨"ASRC_G_CFG", 0x878000, 0x10, 14, 0x0, 1, 0x80000000, 0x80000000, 0x0, 0x0, 0x0, 0x0, 0x80000000⟩,
  ⟨"ASRC_G_STATUS", 0x878004, 0x10, 14, 0x0, 1, 0x0, 0x0, 0x0, 0x0, 0x0, 0x0, 0x0⟩,
  ⟨"ASRC_G_RATIO", 0x878008, 0x10, 14, 0x0, 1, 0x0, 0x0, 0x0, 0x0, 0x0, 0x0, 0x0⟩,
  ⟨"ASRC_G_COUNT", 0x87800C, 0x10, 14, 0x0, 1, 0x0, 0x0, 0x0, 0x0, 0x0, 0x0, 0x0⟩,
  ⟨"ASRC_CTRL", 0x8780F0, 0x0, 1, 0x0, 1, 0x0, 0x0, 0x0, 0x0, 0x0, 0x3FFF, 0x0⟩,
  ⟨"ASRC_EVENTS", 0x8780F4, 0x0, 1, 0x0, 1, 0x0, 0x0, 0x3FFF3FFF, 0x0, 0x0, 0x0, 0x0⟩]

/-- The registers of chapter 11_usb_audio.md. -/
def regRows11 : List RegRow := [
  ⟨"USB_CTRL", 0x8D0000, 0x0, 1, 0x0, 1, 0x0, 0x7, 0x0, 0x0, 0x0, 0x8, 0x0⟩,
  ⟨"USB_STATUS", 0x8D0004, 0x0, 1, 0x0, 1, 0x0, 0x0, 0x0, 0x0, 0x0, 0x0, 0x0⟩,
  ⟨"USB_RATE", 0x8D0008, 0x0, 1, 0x0, 1, 0x0, 0x0, 0x0, 0x0, 0x0, 0x0, 0x0⟩,
  ⟨"USB_FEEDBACK", 0x8D000C, 0x0, 1, 0x0, 1, 0x0, 0x0, 0x0, 0x0, 0x0, 0x0, 0x0⟩,
  ⟨"USB_FILL", 0x8D0010, 0x0, 1, 0x0, 1, 0x0, 0x0, 0x0, 0x0, 0x0, 0x0, 0x0⟩,
  ⟨"USB_EVENTS", 0x8D0014, 0x0, 1, 0x0, 1, 0x0, 0x0, 0x1FF, 0x0, 0x0, 0x0, 0x0⟩,
  ⟨"USB_COUNT0", 0x8D0018, 0x0, 1, 0x0, 1, 0x0, 0x0, 0x0, 0x0, 0x0, 0x0, 0x0⟩,
  ⟨"USB_COUNT1", 0x8D001C, 0x0, 1, 0x0, 1, 0x0, 0x0, 0x0, 0x0, 0x0, 0x0, 0x0⟩,
  ⟨"USB_FUPLAY", 0x8D0020, 0x0, 1, 0x0, 1, 0x0, 0x0, 0x0, 0x0, 0x0, 0x0, 0x0⟩,
  ⟨"USB_FUCAP", 0x8D0024, 0x0, 1, 0x0, 1, 0x0, 0x0, 0x0, 0x0, 0x0, 0x0, 0x0⟩,
  ⟨"USB_HIDIN", 0x8D0028, 0x0, 1, 0x0, 1, 0x0, 0xFF, 0x0, 0x0, 0x0, 0x0, 0x0⟩,
  ⟨"USB_HIDOUT", 0x8D002C, 0x0, 1, 0x0, 1, 0x0, 0x0, 0x0, 0x0, 0x0, 0x0, 0x0⟩,
  ⟨"USB_SOF", 0x8D0030, 0x0, 1, 0x0, 1, 0x0, 0x0, 0x0, 0x0, 0x0, 0x0, 0x0⟩]

/-- The registers of chapter 12_yelnik_engines.md. -/
def regRows12 : List RegRow := [
  ⟨"ENG_CTRL", 0xA00000, 0x1000, 16, 0x0, 1, 0x0, 0x0, 0x0, 0x0, 0x0, 0x1F, 0x0⟩,
  ⟨"ENG_STATUS", 0xA00004, 0x1000, 16, 0x0, 1, 0x0, 0x0, 0x0, 0x0, 0x0, 0x0, 0x0⟩,
  ⟨"ENG_ENTRY", 0xA00008, 0x1000, 16, 0x0, 1, 0x0, 0xFFFFFFF8, 0x0, 0x0, 0x0, 0x0, 0xFFFFFFF8⟩,
  ⟨"ENG_PC", 0xA0000C, 0x1000, 16, 0x0, 1, 0x0, 0x0, 0x0, 0x0, 0x0, 0x0, 0x0⟩,
  ⟨"ENG_HALTREC0", 0xA00010, 0x1000, 16, 0x0, 1, 0x0, 0x0, 0x0, 0x0, 0x0, 0x0, 0x0⟩,
  ⟨"ENG_HALTREC1", 0xA00014, 0x1000, 16, 0x0, 1, 0x0, 0x0, 0x0, 0x0, 0x0, 0x0, 0x0⟩,
  ⟨"ENG_HALTREC2", 0xA00018, 0x1000, 16, 0x0, 1, 0x0, 0x0, 0x0, 0x0, 0x0, 0x0, 0x0⟩,
  ⟨"ENG_HALTREC3", 0xA0001C, 0x1000, 16, 0x0, 1, 0x0, 0x0, 0x0, 0x0, 0x0, 0x0, 0x0⟩,
  ⟨"ENG_RINGIN", 0xA00020, 0x1000, 16, 0x0, 1, 0x3C000, 0x3FFC0, 0x0, 0x0, 0x0, 0x0, 0x3FFC0⟩,
  ⟨"ENG_RINGOUT", 0xA00024, 0x1000, 16, 0x0, 1, 0x3E000, 0x3FFC0, 0x0, 0x0, 0x0, 0x0, 0x3FFC0⟩,
  ⟨"ENG_RINGGEOM", 0xA00028, 0x1000, 16, 0x0, 1, 0x204, 0x1717, 0x0, 0x0, 0x0, 0x0, 0x1717⟩,
  ⟨"ENG_RINGSTAT", 0xA0002C, 0x1000, 16, 0x0, 1, 0x0, 0x0, 0x0, 0x0, 0x0, 0x0, 0x0⟩,
  ⟨"ENG_DOORBELL", 0xA00030, 0x1000, 16, 0x0, 1, 0x0, 0xFFFFFFFF, 0x0, 0x0, 0x0, 0x0, 0x0⟩,
  ⟨"ENG_LOAD", 0xA00034, 0x1000, 16, 0x0, 1, 0x0, 0x0, 0x0, 0x0, 0x0, 0x0, 0x0⟩,
  ⟨"ENG_REGSEL", 0xA00038, 0x1000, 16, 0x0, 1, 0x0, 0xFF, 0x0, 0x0, 0x0, 0x0, 0x0⟩,
  ⟨"ENG_REGDATA", 0xA0003C, 0x1000, 16, 0x0, 1, 0x0, 0xFFFFFFFF, 0x0, 0x0, 0x0, 0x0, 0x0⟩]

/-- The registers of chapter 13_memory.md. -/
def regRows13 : List RegRow := [
  ⟨"WIN_VA", 0x848000, 0x8, 16, 0x80, 64, 0x0, 0xFFFFFFFF, 0x0, 0x0, 0x0, 0x0, 0xFFFFFFFF⟩,
  ⟨"WIN_PA", 0x848004, 0x8, 16, 0x80, 64, 0x0, 0xFFFFFF00, 0x0, 0x0, 0x0, 0x0, 0xFFFFFF00⟩,
  ⟨"MEM_HASHKEY", 0x84A000, 0x0, 1, 0x0, 1, 0x0, 0x0, 0x0, 0x0, 0x0, 0x0, 0xF⟩,
  ⟨"MEM_SCRUBCFG", 0x84A004, 0x0, 1, 0x0, 1, 0x8000000E, 0x8000001F, 0x0, 0x0, 0x0, 0x0, 0x0⟩,
  ⟨"MEM_CTRL", 0x84A008, 0x0, 1, 0x0, 1, 0x0, 0x0, 0x0, 0x0, 0x0, 0x3, 0x0⟩,
  ⟨"MEM_EVENTS", 0x84A00C, 0x0, 1, 0x0, 1, 0x0, 0x0, 0x1F, 0x0, 0x0, 0x0, 0x0⟩,
  ⟨"MEM_ECCCNT", 0x84A010, 0x0, 1, 0x0, 1, 0x0, 0x0, 0x0, 0x0, 0x0, 0x0, 0x0⟩,
  ⟨"MEM_CELOC", 0x84A014, 0x0, 1, 0x0, 1, 0x0, 0x0, 0x0, 0x0, 0x0, 0x0, 0x0⟩,
  ⟨"MEM_CEINFO", 0x84A018, 0x0, 1, 0x0, 1, 0x0, 0x0, 0x0, 0x0, 0x0, 0x0, 0x0⟩,
  ⟨"MEM_UELOC", 0x84A01C, 0x0, 1, 0x0, 1, 0x0, 0x0, 0x0, 0x0, 0x0, 0x0, 0x0⟩,
  ⟨"MEM_UEINFO", 0x84A020, 0x0, 1, 0x0, 1, 0x0, 0x0, 0x0, 0x0, 0x0, 0x0, 0x0⟩,
  ⟨"LBX_STATUS", 0x84A024, 0x0, 1, 0x0, 1, 0x0, 0x0, 0x0, 0x0, 0x0, 0x0, 0x0⟩,
  ⟨"MEM_BANK", 0x84A100, 0x4, 32, 0x0, 1, 0x0, 0x0, 0x0, 0x0, 0x0, 0x0, 0x0⟩]

/-- The registers of chapter 14_dma_faults.md. -/
def regRows14 : List RegRow := [
  ⟨"DMA_CH_CFG", 0x840000, 0x40, 64, 0x0, 1, 0x0, 0x8FFF001F, 0x0, 0x0, 0x0, 0x0, 0x8FFF001F⟩,
  ⟨"DMA_CH_DESC", 0x840004, 0x40, 64, 0x0, 1, 0x0, 0xFFFFFFE0, 0x0, 0x0, 0x0, 0x0, 0x0⟩,
  ⟨"DMA_CH_CTRL", 0x840008, 0x40, 64, 0x0, 1, 0x0, 0x0, 0x0, 0x0, 0x0, 0x1F, 0x0⟩,
  ⟨"DMA_CH_STATUS", 0x84000C, 0x40, 64, 0x0, 1, 0x0, 0x0, 0x0, 0x0, 0x0, 0x0, 0x0⟩,
  ⟨"DMA_CH_CURDESC", 0x840010, 0x40, 64, 0x0, 1, 0x0, 0x0, 0x0, 0x0, 0x0, 0x0, 0x0⟩,
  ⟨"DMA_CH_OFFSET", 0x840014, 0x40, 64, 0x0, 1, 0x0, 0x0, 0x0, 0x0, 0x0, 0x0, 0x0⟩,
  ⟨"DMA_CH_FAULT0", 0x840018, 0x40, 64, 0x0, 1, 0x0, 0x0, 0x0, 0x0, 0x0, 0x0, 0x0⟩,
  ⟨"DMA_CH_FAULT1", 0x84001C, 0x40, 64, 0x0, 1, 0x0, 0x0, 0x0, 0x0, 0x0, 0x0, 0x0⟩,
  ⟨"DMA_CH_FAULT2", 0x840020, 0x40, 64, 0x0, 1, 0x0, 0x0, 0x0, 0x0, 0x0, 0x0, 0x0⟩,
  ⟨"DMA_CH_FAULT3", 0x840024, 0x40, 64, 0x0, 1, 0x0, 0x0, 0x0, 0x0, 0x0, 0x0, 0x0⟩,
  ⟨"DMA_CH_FAULT4", 0x840028, 0x40, 64, 0x0, 1, 0x0, 0x0, 0x0, 0x0, 0x0, 0x0, 0x0⟩,
  ⟨"DMA_CH_EVENTS", 0x84002C, 0x40, 64, 0x0, 1, 0x0, 0x0, 0x1F, 0x0, 0x0, 0x0, 0x0⟩,
  ⟨"DMA_CH_COUNT", 0x840030, 0x40, 64, 0x0, 1, 0x0, 0x0, 0x0, 0x0, 0x0, 0x0, 0x0⟩,
  ⟨"DMA_INFLIGHT", 0x841000, 0x0, 1, 0x0, 1, 0x0, 0x0, 0x0, 0x0, 0x0, 0x0, 0x0⟩,
  ⟨"DMA_ACTIVE", 0x841004, 0x4, 2, 0x0, 1, 0x0, 0x0, 0x0, 0x0, 0x0, 0x0, 0x0⟩,
  ⟨"DMA_FAULTED", 0x84100C, 0x4, 2, 0x0, 1, 0x0, 0x0, 0x0, 0x0, 0x0, 0x0, 0x0⟩]

/-- The registers of chapter 15_interrupts.md. -/
def regRows15 : List RegRow := [
  ⟨"INTC_CTRL", 0x830000, 0x0, 1, 0x0, 1, 0x0, 0x1, 0x0, 0x0, 0x0, 0x0, 0x0⟩,
  ⟨"INTC_STATUS", 0x830004, 0x0, 1, 0x0, 1, 0x0, 0x0, 0x0, 0x0, 0x0, 0x0, 0x0⟩,
  ⟨"INTC_HALTEV", 0x830008, 0x0, 1, 0x0, 1, 0x0, 0x0, 0xFFFF, 0x0, 0x0, 0x0, 0x0⟩,
  ⟨"INTC_SWSET", 0x83000C, 0x0, 1, 0x0, 1, 0x0, 0x0, 0x0, 0x0, 0x0, 0xF001F, 0x0⟩,
  ⟨"EXTINT", 0x830100, 0x4, 16, 0x0, 1, 0x0, 0x3FF, 0x0, 0x0, 0x0, 0x0, 0x3FF⟩,
  ⟨"INTC_SRC_CFG", 0x831200, 0x8, 448, 0x0, 1, 0x100000, 0xF01F0000, 0x0, 0x0, 0x0, 0x0, 0xF01F0000⟩,
  ⟨"INTC_SRC_COAL", 0x831204, 0x8, 448, 0x0, 1, 0x10000, 0xFFFFFF, 0x0, 0x0, 0x0, 0x0, 0xFFFFFF⟩,
  ⟨"INTC_T_CLAIM", 0x833000, 0x40, 18, 0x0, 1, 0x0, 0x3FF, 0x0, 0x0, 0x0, 0x0, 0x0⟩,
  ⟨"INTC_T_THRESH", 0x833004, 0x40, 18, 0x0, 1, 0x0, 0x7, 0x0, 0x0, 0x0, 0x0, 0x7⟩,
  ⟨"INTC_T_PRIVEN", 0x833008, 0x40, 16, 0x0, 1, 0x0, 0x1FF01FF, 0x0, 0x0, 0x0, 0x0, 0x1FF01FF⟩,
  ⟨"INTC_T_PRIVEN", 0x833408, 0x40, 2, 0x0, 1, 0x0, 0x1FF, 0x0, 0x0, 0x0, 0x0, 0x1FF⟩,
  ⟨"INTC_T_STATUS", 0x83300C, 0x40, 18, 0x0, 1, 0x3FF, 0x0, 0x0, 0x0, 0x0, 0x0, 0x0⟩,
  ⟨"INTC_T_FCLAIM", 0x833010, 0x40, 16, 0x0, 1, 0x0, 0x3FF, 0x0, 0x0, 0x0, 0x0, 0x0⟩,
  ⟨"INTC_T_FTHRESH", 0x833014, 0x40, 16, 0x0, 1, 0x0, 0x7, 0x0, 0x0, 0x0, 0x0, 0x7⟩,
  ⟨"INTC_T_FSTATUS", 0x833018, 0x40, 16, 0x0, 1, 0x3FF, 0x0, 0x0, 0x0, 0x0, 0x0, 0x0⟩,
  ⟨"INTC_PCFG", 0x834000, 0x8, 48, 0x200, 16, 0x0, 0xF0000000, 0x0, 0x0, 0x0, 0x0, 0xF0000000⟩,
  ⟨"INTC_PCOAL", 0x834004, 0x8, 48, 0x200, 16, 0x10000, 0xFFFFFF, 0x0, 0x0, 0x0, 0x0, 0xFFFFFF⟩,
  ⟨"INTC_PEND", 0x832000, 0x4, 16, 0x0, 1, 0x0, 0x0, 0x0, 0x0, 0x0, 0x0, 0x0⟩,
  ⟨"INTC_ACT", 0x832040, 0x4, 16, 0x0, 1, 0x0, 0x0, 0x0, 0x0, 0x0, 0x0, 0x0⟩,
  ⟨"INTC_E_PEND", 0x832100, 0x4, 2, 0x10, 16, 0x0, 0x0, 0x0, 0x0, 0x0, 0x0, 0x0⟩,
  ⟨"INTC_E_ACT", 0x832108, 0x4, 2, 0x10, 16, 0x0, 0x0, 0x0, 0x0, 0x0, 0x0, 0x0⟩]

/-- The registers of chapter 16_wokin_link.md. -/
def regRows16 : List RegRow := [
  ⟨"LINK_CFG", 0x8B0000, 0x0, 1, 0x0, 1, 0x0, 0x0, 0x0, 0x0, 0x0, 0x0, 0xC03FFFFF⟩,
  ⟨"LINK_NODEID", 0x8B0004, 0x0, 1, 0x0, 1, 0x0, 0xFFFF, 0x0, 0x0, 0x0, 0x0, 0x0⟩,
  ⟨"LINK_STATUS", 0x8B0008, 0x0, 1, 0x0, 1, 0x0, 0x0, 0x0, 0x0, 0x0, 0x0, 0x0⟩,
  ⟨"LINK_POS", 0x8B000C, 0x0, 1, 0x0, 1, 0x0, 0x0, 0x0, 0x0, 0x0, 0x0, 0x0⟩,
  ⟨"LINK_EVENTS", 0x8B0010, 0x0, 1, 0x0, 1, 0x0, 0x0, 0x3FF, 0x0, 0x0, 0x0, 0x0⟩,
  ⟨"LINK_COUNT0", 0x8B0014, 0x0, 1, 0x0, 1, 0x0, 0x0, 0x0, 0x0, 0x0, 0x0, 0x0⟩,
  ⟨"LINK_COUNT1", 0x8B0018, 0x0, 1, 0x0, 1, 0x0, 0x0, 0x0, 0x0, 0x0, 0x0, 0x0⟩,
  ⟨"LINK_CTRL", 0x8B001C, 0x0, 1, 0x0, 1, 0x0, 0x0, 0x0, 0x0, 0x0, 0x1, 0x0⟩,
  ⟨"LINK_TXCTRL", 0x8B0020, 0x0, 1, 0x0, 1, 0x0, 0x0, 0x0, 0x0, 0x0, 0x1, 0x0⟩,
  ⟨"LINK_RXSTAT", 0x8B0024, 0x0, 1, 0x0, 1, 0x0, 0x0, 0x0, 0x0, 0x0, 0x1, 0x0⟩,
  ⟨"LINK_TXMSG", 0x8B0200, 0x4, 20, 0x0, 1, 0x0, 0xFFFFFFFF, 0x0, 0x0, 0x0, 0x0, 0x0⟩,
  ⟨"LINK_RXMSG", 0x8B0300, 0x4, 20, 0x0, 1, 0x0, 0x0, 0x0, 0x0, 0x0, 0x0, 0x0⟩,
  ⟨"LINK_PORT_CFG", 0x8B0100, 0x20, 3, 0x0, 1, 0x0, 0x0, 0x0, 0x0, 0x0, 0x0, 0x8000FFFF⟩,
  ⟨"LINK_PORT_CTRL", 0x8B0104, 0x20, 3, 0x0, 1, 0x0, 0x1, 0x0, 0x0, 0x0, 0x2, 0x0⟩,
  ⟨"LINK_PORT_STATUS", 0x8B0108, 0x20, 3, 0x0, 1, 0x0, 0x0, 0x0, 0x0, 0x0, 0x0, 0x0⟩,
  ⟨"LINK_PORT_DELAY", 0x8B010C, 0x20, 3, 0x0, 1, 0x0, 0x0, 0x0, 0x0, 0x0, 0x0, 0x0⟩,
  ⟨"LINK_PORT_OFFSET", 0x8B0110, 0x20, 3, 0x0, 1, 0x0, 0x0, 0x0, 0x0, 0x0, 0x0, 0x0⟩,
  ⟨"LINK_PORT_COUNT", 0x8B0114, 0x20, 3, 0x0, 1, 0x0, 0x0, 0x0, 0x0, 0x0, 0x0, 0x0⟩,
  ⟨"LINK_TXSLOT", 0x8B4000, 0x4, 448, 0x800, 3, 0x0, 0x0, 0x0, 0x0, 0x0, 0x0, 0xC30001FF⟩,
  ⟨"LINK_RXCH", 0x8B6000, 0x4, 256, 0x0, 1, 0x0, 0x0, 0x0, 0x0, 0x0, 0x0, 0xC30001FF⟩]

/-- The registers of chapter 17_twin.md. -/
def regRows17 : List RegRow := [
  ⟨"HINGE_CFG", 0x8C0000, 0x0, 1, 0x0, 1, 0xFA, 0x0, 0x0, 0x0, 0x0, 0x0, 0xC0FF03FF⟩,
  ⟨"HINGE_CTRL", 0x8C0004, 0x0, 1, 0x0, 1, 0x0, 0x0, 0x0, 0x0, 0x0, 0xFFFF000F, 0x0⟩,
  ⟨"HINGE_STATUS", 0x8C0008, 0x0, 1, 0x0, 1, 0x400000, 0x0, 0x0, 0x0, 0x0, 0x0, 0x0⟩,
  ⟨"HINGE_EVENTS", 0x8C000C, 0x0, 1, 0x0, 1, 0x0, 0x0, 0xFF, 0x0, 0x0, 0x0, 0x0⟩,
  ⟨"HINGE_COUNT0", 0x8C0010, 0x0, 1, 0x0, 1, 0x0, 0x0, 0x0, 0x0, 0x0, 0x0, 0x0⟩,
  ⟨"HINGE_COUNT1", 0x8C0014, 0x0, 1, 0x0, 1, 0x0, 0x0, 0x0, 0x0, 0x0, 0x0, 0x0⟩,
  ⟨"HINGE_COUNT2", 0x8C0018, 0x0, 1, 0x0, 1, 0x0, 0x0, 0x0, 0x0, 0x0, 0x0, 0x0⟩,
  ⟨"HINGE_CRCSEL", 0x8C0040, 0x4, 8, 0x0, 1, 0x0, 0x0, 0x0, 0x0, 0x0, 0x0, 0x800003FF⟩,
  ⟨"HINGE_CRCSTAT", 0x8C0060, 0x0, 1, 0x0, 1, 0x0, 0x0, 0x0, 0x0, 0x0, 0x0, 0x0⟩,
  ⟨"HINGE_PREV", 0x8C0064, 0x0, 1, 0x0, 1, 0x0, 0x0, 0x0, 0x0, 0x0, 0x0, 0x0⟩,
  ⟨"HINGE_PDELAY", 0x8C0068, 0x0, 1, 0x0, 1, 0x0, 0x0, 0x0, 0x0, 0x0, 0x0, 0x0⟩]

/-- The registers of chapter 18_repair_turns_lifecycle.md. -/
def regRows18 : List RegRow := [
  ⟨"KT_LIKENESS0", 0x8F0000, 0x0, 1, 0x0, 1, 0x0, 0x0, 0x0, 0x0, 0xFFFFFFFF, 0x0, 0x0⟩,
  ⟨"KT_LIKENESS1", 0x8F0004, 0x0, 1, 0x0, 1, 0x0, 0x0, 0x0, 0x0, 0xFFFFFFFF, 0x0, 0x0⟩,
  ⟨"KT_ROOTHASH", 0x8F0010, 0x4, 8, 0x0, 1, 0x0, 0x0, 0x0, 0x0, 0xFFFFFFFF, 0x0, 0x0⟩,
  ⟨"KT_MINVER", 0x8F0030, 0x0, 1, 0x0, 1, 0x0, 0x0, 0x0, 0x0, 0xFFFFFFFF, 0x0, 0x0⟩,
  ⟨"KT_LIFECYCLE", 0x8F0034, 0x0, 1, 0x0, 1, 0x0, 0x0, 0x0, 0x0, 0x3, 0x0, 0x0⟩,
  ⟨"KT_TWINROLE", 0x8F0038, 0x0, 1, 0x0, 1, 0x0, 0x0, 0x0, 0x0, 0x3, 0x0, 0x0⟩,
  ⟨"KT_PERSONA", 0x8F0040, 0x4, 4, 0x0, 1, 0x0, 0x0, 0x0, 0x0, 0x1, 0x0, 0x0⟩,
  ⟨"KT_PUCODE", 0x8F0060, 0x4, 10, 0x0, 1, 0x0, 0x0, 0x0, 0x0, 0xFFFF, 0x0, 0x0⟩,
  ⟨"KT_CEIL", 0x8F0090, 0x4, 4, 0x0, 1, 0x0, 0x0, 0x0, 0x0, 0xFF, 0x0, 0x0⟩,
  ⟨"KT_I2CBASE", 0x8F00A0, 0x0, 1, 0x0, 1, 0x0, 0x0, 0x0, 0x0, 0xFFFF, 0x0, 0x0⟩,
  ⟨"KT_BOOTORDER", 0x8F00A4, 0x0, 1, 0x0, 1, 0x0, 0x0, 0x0, 0x0, 0xFFFF, 0x0, 0x0⟩,
  ⟨"KT_SECRET", 0x8F00A8, 0x0, 1, 0x0, 1, 0x0, 0x0, 0x0, 0x0, 0xFFFFFFFF, 0x0, 0x0⟩,
  ⟨"KT_STATUS", 0x8F0100, 0x0, 1, 0x0, 1, 0x0, 0x0, 0x0, 0x0, 0x0, 0x0, 0x0⟩,
  ⟨"KT_BOOTCNT", 0x8F0104, 0x0, 1, 0x0, 1, 0x0, 0x0, 0x0, 0x0, 0x0, 0x0, 0x0⟩,
  ⟨"KT_TAMPER", 0x8F0110, 0x0, 1, 0x0, 1, 0x0, 0x0, 0x0, 0x0, 0x0, 0x0, 0x0⟩,
  ⟨"KT_EVENTS", 0x8F0114, 0x0, 1, 0x0, 1, 0x0, 0x0, 0x1, 0x0, 0x0, 0x0, 0x0⟩,
  ⟨"KT_USE", 0x8F0200, 0x4, 26, 0x0, 1, 0x0, 0x0, 0x0, 0x0, 0x0, 0x0, 0x0⟩,
  ⟨"KT_RECSEL", 0x8F0300, 0x0, 1, 0x0, 1, 0x0, 0x1F1F, 0x0, 0x0, 0x0, 0x0, 0x0⟩,
  ⟨"KT_REC", 0x8F0304, 0x0, 1, 0x0, 1, 0x0, 0x0, 0x0, 0x0, 0x0, 0x0, 0x0⟩,
  ⟨"KT_RECVAL", 0x8F0308, 0x0, 1, 0x0, 1, 0x0, 0x0, 0x0, 0x0, 0x0, 0x0, 0x0⟩,
  ⟨"REP_CFG", 0x8F8000, 0x0, 1, 0x0, 1, 0x2, 0x3, 0x0, 0x0, 0x0, 0x0, 0x3⟩,
  ⟨"REP_STATUS", 0x8F8004, 0x0, 1, 0x0, 1, 0x0, 0x0, 0x0, 0x0, 0x0, 0x0, 0x0⟩,
  ⟨"REP_EVENTS", 0x8F8008, 0x0, 1, 0x0, 1, 0x0, 0x0, 0x7F, 0x0, 0x0, 0x0, 0x0⟩,
  ⟨"REP_CTRL", 0x8F800C, 0x0, 1, 0x0, 1, 0x0, 0x0, 0x0, 0x0, 0x0, 0xFFFF00FF, 0x0⟩,
  ⟨"REP_LAST", 0x8F8010, 0x0, 1, 0x0, 1, 0x0, 0x0, 0x0, 0x0, 0x0, 0x0, 0x0⟩,
  ⟨"REP_LASTINFO", 0x8F8014, 0x0, 1, 0x0, 1, 0x0, 0x0, 0x0, 0x0, 0x0, 0x0, 0x0⟩,
  ⟨"REP_TILEFAIL", 0x8F8018, 0x0, 1, 0x0, 1, 0x0, 0x0, 0x0, 0x0, 0x0, 0x0, 0x0⟩,
  ⟨"REP_ENTRY_LOC", 0x8F9000, 0x8, 512, 0x0, 1, 0x0, 0x0, 0x0, 0x0, 0x0, 0x0, 0x0⟩,
  ⟨"REP_ENTRY_INFO", 0x8F9004, 0x8, 512, 0x0, 1, 0x0, 0x0, 0x0, 0x0, 0x0, 0x0, 0x0⟩,
  ⟨"VIOL_CNT", 0x908000, 0x4, 16, 0x0, 1, 0x0, 0xFFFF, 0x0, 0x0, 0x0, 0x0, 0x0⟩,
  ⟨"VIOL_LAST", 0x908040, 0x0, 1, 0x0, 1, 0x0, 0x0, 0x0, 0x0, 0x0, 0x0, 0x0⟩,
  ⟨"VIOL_LASTADDR", 0x908044, 0x0, 1, 0x0, 1, 0x0, 0x0, 0x0, 0x0, 0x0, 0x0, 0x0⟩]

/-- The registers of chapter 19_power_reset.md. -/
def regRows19 : List RegRow := [
  ⟨"SYS_RSTCAUSE", 0x800020, 0x0, 1, 0x0, 1, 0x10000, 0x0, 0x0, 0x0, 0x0, 0x0, 0x0⟩,
  ⟨"SYS_RSTCTRL", 0x800024, 0x0, 1, 0x0, 1, 0x0, 0x0, 0x0, 0x0, 0x0, 0xFFFF000F, 0x0⟩,
  ⟨"SYS_WDTCFG", 0x800028, 0x0, 1, 0x0, 1, 0x6403E8, 0xFFFFFFFF, 0x0, 0x0, 0x0, 0x0, 0xFFFFFFFF⟩,
  ⟨"SYS_WDTKICK", 0x80002C, 0x0, 1, 0x0, 1, 0x0, 0x0, 0x0, 0x0, 0x0, 0xFFFF0000, 0x0⟩,
  ⟨"SYS_WDTEV", 0x800030, 0x0, 1, 0x0, 1, 0x0, 0x0, 0x10000, 0x0, 0x0, 0x0, 0x0⟩,
  ⟨"PWR_TARGET", 0x820000, 0x4, 3, 0x0, 1, 0xAAAAAAAA, 0xFFFFFFFF, 0x0, 0x0, 0x0, 0x0, 0xFFFFFFFF⟩,
  ⟨"PWR_STATE", 0x820010, 0x4, 3, 0x0, 1, 0x0, 0x0, 0x0, 0x0, 0x0, 0x0, 0x0⟩,
  ⟨"PWR_TXN", 0x820020, 0x0, 1, 0x0, 1, 0x0, 0x0, 0x0, 0x0, 0x0, 0x0, 0x0⟩,
  ⟨"PWR_SHACKLE", 0x820030, 0x4, 2, 0x0, 1, 0x0, 0x0, 0xFFFFFFFF, 0x0, 0x0, 0x0, 0x0⟩,
  ⟨"PWR_CLKSEL", 0x820038, 0x4, 2, 0x0, 1, 0x0, 0xFFFFFFFF, 0x0, 0x0, 0x0, 0x0, 0x0⟩,
  ⟨"PWR_SLEEPCFG", 0x820040, 0x0, 1, 0x0, 1, 0x3E8, 0xC000FFFF, 0x0, 0x0, 0x0, 0x0, 0xC000FFFF⟩,
  ⟨"PWR_WAKECFG", 0x820044, 0x0, 1, 0x0, 1, 0x0, 0x3F, 0x0, 0x0, 0x0, 0x0, 0x0⟩,
  ⟨"PWR_WAKESTATE", 0x820050, 0x4, 3, 0x0, 1, 0xAAAAAAAA, 0xFFFFFFFF, 0x0, 0x0, 0x0, 0x0, 0x0⟩,
  ⟨"PWR_WAKESRC", 0x82005C, 0x0, 1, 0x0, 1, 0x0, 0x0, 0x0, 0x0, 0x0, 0x0, 0x0⟩,
  ⟨"PWR_EVENTS", 0x820060, 0x0, 1, 0x0, 1, 0x0, 0x0, 0xF, 0x0, 0x0, 0x0, 0x0⟩,
  ⟨"MON_SUPPLY0", 0x900000, 0x0, 1, 0x0, 1, 0x0, 0x0, 0x0, 0x0, 0x0, 0x0, 0x0⟩,
  ⟨"MON_SUPPLY1", 0x900004, 0x0, 1, 0x0, 1, 0x0, 0x0, 0x0, 0x0, 0x0, 0x0, 0x0⟩,
  ⟨"MON_SUPEV", 0x900008, 0x0, 1, 0x0, 1, 0x0, 0x0, 0xFF, 0x0, 0x0, 0x0, 0x0⟩,
  ⟨"MON_SUPSTAT", 0x90000C, 0x0, 1, 0x0, 1, 0x0, 0x0, 0x0, 0x0, 0x0, 0x0, 0x0⟩,
  ⟨"MON_CFG", 0x900010, 0x0, 1, 0x0, 1, 0x1, 0x1, 0x0, 0x0, 0x0, 0x0, 0x1⟩,
  ⟨"MON_CTRL", 0x900014, 0x0, 1, 0x0, 1, 0x0, 0x0, 0x0, 0x0, 0x0, 0x1, 0x0⟩,
  ⟨"MON_SUPCNT", 0x900018, 0x0, 1, 0x0, 1, 0x0, 0x0, 0x0, 0x0, 0x0, 0x0, 0x0⟩,
  ⟨"MON_THERM", 0x90001C, 0x0, 1, 0x0, 1, 0x0, 0x0, 0x0, 0x0, 0x0, 0x0, 0x0⟩,
  ⟨"MON_THEV", 0x900020, 0x0, 1, 0x0, 1, 0x0, 0x0, 0x1F, 0x0, 0x0, 0x0, 0x0⟩]

/-- The registers of chapter 20_host_interfaces.md. -/
def regRows20 : List RegRow := [
  ⟨"HOSTIF_I2CCFG", 0x8E0000, 0x0, 1, 0x0, 1, 0x19, 0xC000007F, 0x0, 0x0, 0x0, 0x0, 0xC000007F⟩,
  ⟨"HOSTIF_I2CADDR", 0x8E0004, 0x0, 1, 0x0, 1, 0x0, 0xFFFFFFFF, 0x0, 0x0, 0x0, 0x0, 0xFFFFFFFF⟩,
  ⟨"HOSTIF_I2CCRC", 0x8E0008, 0x0, 1, 0x0, 1, 0x0, 0xF, 0x0, 0x0, 0x0, 0x0, 0xF⟩,
  ⟨"HOSTIF_I2CCNT", 0x8E000C, 0x0, 1, 0x0, 1, 0x0, 0x0, 0x0, 0x0, 0x0, 0x0, 0x0⟩,
  ⟨"HOSTIF_SPICFG", 0x8E0010, 0x0, 1, 0x0, 1, 0x0, 0x3, 0x0, 0x0, 0x0, 0x0, 0x3⟩,
  ⟨"HOSTIF_EVENTS", 0x8E0014, 0x0, 1, 0x0, 1, 0x0, 0x0, 0x7E, 0x0, 0x0, 0x0, 0x0⟩,
  ⟨"HOSTIF_I2CNOW", 0x8E0018, 0x0, 1, 0x0, 1, 0x0, 0x0, 0x0, 0x0, 0x0, 0x0, 0x0⟩,
  ⟨"QSPI_CFG", 0x8E0100, 0x0, 1, 0x0, 1, 0x0, 0xF, 0x0, 0x0, 0x0, 0x0, 0xF⟩,
  ⟨"QSPI_CMD", 0x8E0104, 0x0, 1, 0x0, 1, 0x0, 0x3FC001FF, 0x0, 0x0, 0x0, 0x80000000, 0x0⟩,
  ⟨"QSPI_OPC", 0x8E0108, 0x0, 1, 0x0, 1, 0x0, 0xFF, 0x0, 0x0, 0x0, 0x0, 0x0⟩,
  ⟨"QSPI_ADDR", 0x8E010C, 0x0, 1, 0x0, 1, 0x0, 0xFFFFFFFF, 0x0, 0x0, 0x0, 0x0, 0x0⟩,
  ⟨"QSPI_DATA", 0x8E0200, 0x4, 64, 0x0, 1, 0x0, 0xFFFFFFFF, 0x0, 0x0, 0x0, 0x0, 0x0⟩]

/-- Every register row. -/
def regRows : List RegRow :=
  regRows00 ++ regRows01 ++ regRows02 ++ regRows03 ++ regRows04 ++ regRows05 ++ regRows06 ++ regRows07 ++ regRows08 ++ regRows09 ++ regRows10 ++ regRows11 ++ regRows12 ++ regRows13 ++ regRows14 ++ regRows15 ++ regRows16 ++ regRows17 ++ regRows18 ++ regRows19 ++ regRows20

/-- The row's element that lies at `a`, if any. -/
def RegRow.has (r : RegRow) (a : Nat) : Bool :=
  decide (r.base ≤ a) &&
    (let d := a - r.base
     let j := if r.stride2 = 0 then 0 else d / r.stride2
     let d := if r.stride2 = 0 then d else d % r.stride2
     let i := if r.stride = 0 then 0 else d / r.stride
     let d := if r.stride = 0 then d else d % r.stride
     decide (j < r.count2) && decide (i < r.count) && decide (d = 0))

/-- The row of the register at address `a`. -/
def regRow (a : Nat) : Option RegRow := regRows.find? (·.has a)

end Sys2Proof.Machine
end

