-- ==== Sys2Proof/Machine/SMap.lean ====
section
/-! DEFINITION. Sparse maps from numbers to values: a list of key and value pairs in ONE canonical form, keys strictly
rising and no entry equal to the value an unlisted key reads as (the default). -/
namespace Sys2Proof.Machine

/-- A sparse map with keys in `Nat`. -/
abbrev SMap (α : Type) := List (Nat × α)

/-- The value at key `k`: the first entry's, else the default `d`. -/
def SMap.get {α : Type} (d : α) : SMap α → Nat → α
  | [], _ => d
  | (k', v) :: m, k => if k' = k then v else SMap.get d m k

/-- Every entry but those of key `k`. -/
def SMap.del {α : Type} (m : SMap α) (k : Nat) : SMap α := m.filter (fun e => e.1 != k)

/-- Insert before the first larger key. -/
def SMap.ins {α : Type} : SMap α → Nat → α → SMap α
  | [], k, v => [(k, v)]
  | (k', v') :: m, k, v => if k < k' then (k, v) :: (k', v') :: m else (k', v') :: SMap.ins m k v

/-- Write `v` at `k`; writing the default removes the entry. -/
def SMap.set {α : Type} [DecidableEq α] (d : α) (m : SMap α) (k : Nat) (v : α) : SMap α :=
  if v = d then SMap.del m k else SMap.ins (SMap.del m k) k v

/-- Every key of the list is above `b`, keys rise strictly, and no value equals its key's default. -/
def SMap.above {α : Type} [DecidableEq α] (d : Nat → α) : Nat → SMap α → Bool
  | _, [] => true
  | b, (k, v) :: m => decide (b ≤ k) && decide (v ≠ d k) && SMap.above d (k + 1) m

/-- The canonical form of a map whose unlisted key `k` reads as `d k`. -/
def SMap.wf {α : Type} [DecidableEq α] (d : Nat → α) (m : SMap α) : Bool := SMap.above d 0 m

/-- Apply `f` to the value at `k`. -/
def SMap.modify {α : Type} [DecidableEq α] (d : α) (m : SMap α) (k : Nat) (f : α → α) : SMap α :=
  SMap.set d m k (f (SMap.get d m k))

end Sys2Proof.Machine
end

