-- ==== Sys2Proof/Machine/State.lean ====
section
/-! DEFINITION. The state of one SL-9616 package: its registers, the state its chapters imply behind the registers, its
memories and the queue of waiting commands. Plain data. Every register is a word of `Dev.regs`, keyed by its address of
R27 (a crosspoint window word carries its page above bit 31); an unlisted register holds its hardware value of R8. -/
namespace Sys2Proof.Machine

/-- Gateway states of an interrupt source (R442). -/
inductive GateSt where
  | idle | pending | active | activePending
  deriving DecidableEq, Repr

/-- One interrupt source: its gateway (R442) and its coalescer (R441). -/
structure Gate where
  /-- Gateway state (R442). -/
  st : GateSt
  /-- The level request is asserted (R441). -/
  req : Bool
  /-- Events counted by the coalescer (R441). -/
  cnt : Nat
  /-- The coalescer's timer runs (R441). -/
  timer : Bool
  /-- The target and class that claimed it (R444, R446). -/
  tgt : Nat
  fast : Bool
  deriving DecidableEq, Repr

/-- The interrupt controller behind its registers (chapter 15). Gate keys: privileged and shared sources by ID; private
source `i` of engine `e` at `1024 + 64*e + i`. -/
structure Intc where
  gates : SMap Gate
  /-- Privileged ID to 1 + the target that last completed it (R447); 0 none. -/
  last : SMap Nat
  /-- Filtered states of EXTINT0–15 (R450). -/
  ext : Nat
  deriving DecidableEq, Repr

/-- The boot controller's reading of an image (R43). -/
inductive LoadKind where
  | boot | host | reseat | live
  deriving DecidableEq, Repr

/-- One ward of an accepted keyplan (R34): type, live flag, target, and its decoded body (R38 entries or image
segments as destination and bytes). -/
structure Ward where
  kind : Nat
  live : Bool
  target : Nat
  entries : List (Nat × Nat)
  image : List (Nat × List Byte)
  body : List Byte
  deriving DecidableEq, Repr

/-- A keyplan whose checks have passed (R43): what commit needs of it. -/
structure Plan where
  version : Nat
  likeness : Nat
  hash : List Byte
  wards : List Ward
  deriving DecidableEq, Repr

/-- The outcome of the checks of a load (R43): the plan, or the code and the ward at which it ended. -/
inductive Verdict where
  | ok (p : Plan)
  | bad (code ward : Nat)
  deriving DecidableEq, Repr

/-- Boot controller state behind its registers (chapter 02). -/
structure Boot where
  /-- Bytes of the image received so far (R54). -/
  image : List Byte
  /-- The load in progress, if any. -/
  load : Option LoadKind
  /-- Source codes still to be tried (R50). -/
  rest : List Nat
  /-- The checks' outcome, once known (R43). -/
  verdict : Option Verdict
  /-- The keyplan running, whose settings R558 rewrites and R57 compares. -/
  run : Option Plan
  /-- The source that supplied the running keyplan (R59). -/
  runSource : Nat
  /-- A reseat is in progress, at this step of R56 (0 none). -/
  reseat : Nat
  /-- The reload of the previous keyplan after a failed reseat runs (R59). -/
  reload : Bool
  /-- Commit step reached (R48); 0 none, 1 waiting for lock, 7 waiting for the frame boundary. -/
  commit : Nat
  /-- The keyplan being committed. -/
  plan : Option Plan
  /-- Live wards still to commit, with their index (R63). -/
  live : List Ward
  liveNext : Nat
  /-- The boundary of ward 0 of a live reload of a pair (R501); none: the next boundary. -/
  liveAt : Option Nat
  /-- IRQ_A_N held low in host-wait until a BOOT_CTRL write (R53). -/
  irqHold : Bool
  /-- 32-bit words waiting in the 4 KiB FIFO (R54). -/
  fifo : Nat
  /-- Addresses the running load has written (R47). -/
  wrote : List (Nat × Nat)
  /-- A commit of a structural keyplan has happened since the reset (R49). -/
  everRun : Bool
  deriving DecidableEq, Repr

/-- The clock root behind its registers (chapter 03). -/
structure Clk where
  /-- The divided clocks are in fallback (R81). -/
  fallback : Bool
  /-- 0 no acquisition, 1 band search, 2 phase lock (R77), 3 locked and waiting for the alignment point (R84). -/
  stage : Nat
  /-- The loop's control voltage is frozen, a decision is due (R85). -/
  frozen : Bool
  /-- Bit r: reference code r is valid (R86). -/
  valid : Nat
  /-- CLK_FAST is stopped (R551). -/
  fastOff : Bool
  /-- A restart of acquisition has been asked for in the running access; it begins at the end of the access (R80). -/
  pend : Bool
  deriving DecidableEq, Repr

/-- A gain ramp of a crosspoint (R112): source evaluated, from `g0` to `gt` in `n` frames, `k` of them begun. -/
structure Ramp where
  src : Nat
  g0 : Nat
  gt : Nat
  n : Nat
  k : Nat
  deriving DecidableEq, Repr

/-- What a crosspoint in motion does behind its registers (R112–R115). -/
structure Xp where
  main : Ramp
  /-- The disable ramp runs (R114): live although its enable field reads 0. -/
  off : Bool
  /-- The fade shadow (R115). -/
  shadow : Option Ramp
  /-- The second half of a serial fade: the new source, its target and its frames (R115). -/
  serial : Option (Nat × Nat × Nat)
  deriving DecidableEq, Repr

/-- One tumbler entry (R119): resolved register key, value. -/
structure TumbEntry where
  key : Nat
  value : Word
  deriving DecidableEq, Repr

/-- Keyway and tumbler behind their registers (chapter 04). -/
structure Key where
  /-- Staged entries in staging order (R119). -/
  entries : List TumbEntry
  /-- The boundary at which an armed tumbler commits (R122, R123); none while unarmed. -/
  armed : Option Nat
  /-- The running ARM_AT gives a late commit (R123). -/
  lateAt : Bool
  /-- Crosspoints in motion, keyed by crosspoint number. -/
  xps : SMap Xp
  /-- Samples latched from the sources in the last pass, and bus outputs of it, by source ID (R104, R106). -/
  src : SMap Int
  /-- Samples that the sinks present from the last boundary, by sink ID (R106). -/
  sink : SMap Int
  /-- Tone accumulators (R197), by generator. -/
  tone : SMap Nat
  /-- Passes run since the keyway started, at most 3 (R105): 0, the next pass is the first. -/
  age : Nat
  deriving DecidableEq, Repr

/-- The blocks a sequence is made of (R239, R242, R245). -/
inductive Blk where
  | servo
  | glide (tgt : Int)
  | shift (tgt : Int)
  | clamp
  | release
  | cmUp
  | cmDown
  | rampUp
  | rampDown
  | dwell
  | takeRamp
  deriving DecidableEq, Repr

/-- What a deglitch, glide or overlap hold is for (R195, R213). -/
inductive HoldK where
  | none | entry | exit | refgain | slice | segment | persona | fsp | restart
  deriving DecidableEq, Repr

/-- What follows the last block of a sequence (R242, R245): a state of STATUS.state, the hold in which the persona
switches, or the unmute from a clear code. -/
inductive SeqEnd where
  | state (st : Nat)
  | persona
  | unmute
  deriving DecidableEq, Repr

/-- A speaker's code state (R212). -/
inductive SpkSt where
  | hiz | clamp | zero
  deriving DecidableEq, Repr

/-- One analogue output behind its registers (chapters 06, 07 and 08). -/
structure Out where
  /-- The conversion chain is ready (R193). -/
  ready : Bool
  /-- Speaker code state and the common mode reached, 0 to 0x8000 (R240). -/
  spk : SpkSt
  cm : Nat
  /-- The DC level held, as a code (R190), and the level a glide started from. -/
  level : Int
  lvl0 : Int
  /-- Blocks still to run, the head in progress (R242), and PWM frames elapsed in it. -/
  blocks : List Blk
  prog : Nat
  /-- What follows when the blocks end (R242). -/
  fin : SeqEnd
  /-- The hold in progress (R195, R213). -/
  hold : HoldK
  /-- The servo counts as acquired (R241). -/
  acquired : Bool
  /-- Driven to high impedance by compliance escalation (R185). -/
  esc : Bool
  /-- Compliance protection cleared by software, waiting for 1 ms inside the window (R186). -/
  recovering : Bool
  /-- DAC slices in service, longest serving first; the calibrated waiting slice; the slice out for calibration
  (R179). -/
  svc : List Nat
  wait : Option Nat
  cal : Option Nat
  /-- Segment swap under way: half-bridge, failing segment, cell, spare (R216). -/
  swap : Option (Nat × Nat × Nat × Nat)
  /-- Consecutive bad pilot results (R223). -/
  bad : Nat
  deriving DecidableEq, Repr

/-- A headset detector behind its registers (R250–R253). -/
structure Hs where
  /-- The settle has ended and averaging runs (R250). -/
  avg : Bool
  /-- The button decoded last (4 none) and for how many samples (R253). -/
  dec : Nat
  run : Nat
  deriving DecidableEq, Repr

/-- One slot of the keyturn store (R525). -/
structure Slot where
  used : Bool
  sealed : Bool
  stamp : Nat
  value : Nat
  deriving DecidableEq, Repr

/-- A repair: its location word (R10) and INFO word of R523 without the stamp, and whether the boot tests found it. -/
structure Repair where
  loc : Nat
  info : Nat
  boot : Bool
  deriving DecidableEq, Repr

/-- The keyturn store and the repair pool behind their registers (chapter 18). -/
structure Kt where
  /-- Slots keyed by `32 * setting + turn` (R525). -/
  slots : SMap Slot
  /-- Holding words of LIKENESS (key 0) and ROOT_KEY_HASH (keys 1–7) (R528); none in the map: the current value. -/
  hold : SMap Nat
  /-- The turn in progress: setting, slot, value (R525). -/
  turn : Option (Nat × Nat × Nat)
  /-- A turn was cut short and the next boot reports it (R525). -/
  lost : Bool
  /-- A LIFECYCLE turn waits for the end of the lockbox wipe (R531). -/
  advance : Bool
  /-- Soft repairs waiting to be burned (R524), and those recorded since the reset. -/
  queue : List Repair
  soft : List Repair
  /-- The repair being burned and its pool entry (R524). -/
  burn : Option (Repair × Nat)
  /-- Pool entry k is sealed (R524). -/
  sealed : SMap Bool
  /-- A tile swap's copy runs: logical tile (R522). -/
  swap : Option Nat
  deriving DecidableEq, Repr

/-- The power sequencer behind its registers (chapter 19). -/
structure Pwr where
  /-- Domains of the transaction that are rising: domain and target code (R545). -/
  rise : List (Nat × Nat)
  /-- Domains of the transaction that are lowering: domain and target code. -/
  lower : List (Nat × Nat)
  /-- Lowering domains that have agreed (R546). -/
  agreed : List Nat
  /-- Wake sources recorded during a transaction (R548). -/
  wakePend : Nat
  /-- Domains whose switch to PLL clocks is requested and not yet made (R550), one bit each. -/
  clkReq : Nat
  /-- The state of each rising domain before the transaction (R550). -/
  from_ : SMap Nat
  /-- The transaction is a wake transaction (R549). -/
  isWake : Bool
  /-- PWR_TARGET words written in the running host access, applied at its end (R545). -/
  staged : SMap Word
  /-- Reset asserted and not yet released (R554). -/
  inReset : Bool
  /-- Die 0 is held in shutdown until below 115 °C (R564). -/
  hot : Bool
  /-- Supplies that have passed below their reset threshold since their warning, one bit each (R562). -/
  recov : Nat
  /-- Writes held while the domain they reach is asked to quiesce (R546): agent code, address, value. -/
  held : List (Nat × Nat × Word)
  deriving DecidableEq, Repr

/-- One analogue input channel behind its registers (R145–R150). -/
structure Ain where
  /-- Slices in the converter, longest serving first (R148). -/
  svc : List Nat
  /-- The slice that is out has been calibrated (R148, R150). -/
  ready : Bool
  deriving DecidableEq, Repr

/-- Microphone and line inputs behind their registers (chapter 05). -/
structure Inp where
  ain : SMap Ain
  /-- Bit k: PDMCk's start-up interval of R162 runs; bit c: channel c's 64-frame interval runs. -/
  pdmClk : Nat
  pdmCh : Nat
  /-- Bit n: MICBn measures for a headset detector (R252). -/
  micbBusy : Nat
  deriving DecidableEq, Repr

/-- One frame of a port direction: the pass during which it completed or that handed it, its frame number (R299), its
mask, whether frames were lost before it (R286), and its slots (R271, R282). -/
structure PFrame where
  pass : Nat
  no : Nat
  mask : Nat
  gap : Bool
  slots : List Int
  deriving DecidableEq, Repr

/-- One direction of a port or of the S/PDIF block (chapters 09 and 10). Its state and lock are its STATUS fields. -/
structure PDir where
  /-- Frames in the FIFO, oldest first (R271). -/
  fifo : List PFrame
  /-- Transmit: the FIFO is open (R273). -/
  isOpen : Bool
  /-- Transmit: two frames have gathered since it opened (R273). Receive: latching has begun since the start or since
  re-framing (R272). -/
  primed : Bool
  /-- Silent frames left of a silent start or stop, and those sent or received in this start (R277 to R279). -/
  sil : Nat
  silDone : Nat
  /-- A 0 written whose stop has not yet taken effect (R279). -/
  stopPend : Bool
  /-- Framing: a first edge has come, and good frames in a row (R275). -/
  edge : Bool
  good : Nat
  /-- The first real frame after a silent start is still to come (R277). -/
  fresh : Bool
  /-- A real frame has been latched since the start (R280). -/
  latched : Bool
  /-- The data pin in each slot of the pin frame under way, its first D bits, or high impedance (R267, R283). -/
  pin : List (Option Nat)
  /-- Memory receive: the mask when the pin frame in progress began; frames lost before it (R286). -/
  begMask : Nat
  lost : Bool
  /-- Memory receive: frames of the block being filled; flags and mask for the next header; the block of the descriptor
  in hand once closed (R284, R286, R422). -/
  block : List PFrame
  blkFirst : Bool
  blkGap : Bool
  lastMask : Nat
  closed : Option (List Byte)
  /-- Memory transmit: frames of the current block not yet in the FIFO (R287). -/
  sending : List PFrame
  deriving DecidableEq, Repr

/-- The S/PDIF receiver and transmitter beyond a direction's state (chapter 10). -/
structure Spdif where
  /-- Frames since the last Z preamble (R301); 0 is the Z frame itself. -/
  pos : Nat
  /-- Last samples that passed parity, and that had V = 0 and good parity (R303). -/
  lastA : Int
  lastB : Int
  validA : Int
  validB : Int
  /-- Channel-status bits of the block in progress and of the block before, as numbers of 192 bits (R304). -/
  csA : Nat
  csB : Nat
  prevA : Option Nat
  prevB : Option Nat
  /-- Position of the transmitter in its block and the channel status of that block (R306, R308). -/
  txPos : Nat
  txCs : List Word
  deriving DecidableEq, Repr

/-- One rate monitor behind its registers (R314, R315). Periods in CLK_PER cycles × 256. -/
structure Rmon where
  /-- Accepted periods of the mean, newest first, at most 32. -/
  acc : List Nat
  /-- Consecutive periods off the tracked one, newest first. -/
  off : List Nat
  /-- The period tracked before a stop; 0 none. -/
  before : Nat
  /-- Periods seen since framing after a stop. -/
  after : List Nat
  /-- Framing was lost and no stop has followed. -/
  lost : Bool
  deriving DecidableEq, Repr

/-- One converter group behind its registers (R318): gain in 1/256, destination of a fade (state code), ratio kept. -/
structure Asrc where
  gain : Nat
  dest : Nat
  kept : Bool
  deriving DecidableEq, Repr

/-- One non-PCM monitor behind its register (R313): PCM frames counted; ramp position; ramping. For a port's pair: its
position in the block (frames since the block-start flag) and the subframes that R303 keeps. -/
structure NpMon where
  frames : Nat
  ramp : Nat
  ramping : Bool
  pos : Nat
  lastA : Int
  lastB : Int
  validA : Int
  validB : Int
  deriving DecidableEq, Repr

/-- Ports, S/PDIF, rate monitors and converters behind their registers (chapters 09 and 10). Directions: key `2*n` is
the receive and `2*n + 1` the transmit direction of port n; n = 6 is S/PDIF. -/
structure Ser where
  dirs : SMap PDir
  spdif : Spdif
  rmon : SMap Rmon
  asrc : SMap Asrc
  np : SMap NpMon
  deriving DecidableEq, Repr

/-- The USB function behind its registers (chapter 11). -/
structure Usb where
  /-- The D+ pull-up is enabled (R342). -/
  pullup : Bool
  /-- USB_VBUS has been above its threshold for 10 ms (R342). -/
  vbusOk : Bool
  /-- FIFOs of sample frames, oldest first (R336). -/
  play : List (List Int)
  cap : List (List Int)
  /-- The playback fill has reached its target since the selection (R337). -/
  playing : Bool
  /-- Capture carries samples from the next pass (R337). -/
  capturing : Bool
  /-- Channels of the active alternate settings and their sample resolution in bits (R330). -/
  playCh : Nat
  capCh : Nat
  playRes : Nat
  capRes : Nat
  playSub : Nat
  capSub : Nat
  /-- The state before suspend or L1 (R344). -/
  before : Nat
  /-- An input report is queued for the next interrupt poll (R341). -/
  hidQueued : Bool
  /-- The active configuration value and the HID idle rate (R339). -/
  config : Nat
  hidIdle : Nat
  /-- The host has enabled LPM in the BOS exchange (R345). -/
  lpm : Bool
  /-- Remote wake is being signalled (R344). -/
  rwSignal : Bool
  /-- At half the house rate: the next pass takes, or hands, no stream sample (R330). -/
  playHalf : Bool
  capHalf : Bool
  deriving DecidableEq, Repr

/-- A beat of a DMA channel in flight (R414): its offset and, once the read has returned, its data. -/
structure Beat where
  off : Nat
  data : Option (List Byte)
  deriving DecidableEq, Repr

/-- One DMA channel behind its registers (chapter 14). -/
structure Chan where
  /-- The descriptor held: its eight words (R411). -/
  desc : List Word
  /-- Beats in flight, lowest offset first (R414). -/
  beats : List Beat
  /-- The next offset to issue. -/
  next : Nat
  /-- The faulting beat (R417): offset, code, address, location word. -/
  bad : Option (Nat × Nat × Nat × Nat)
  /-- Resuming: the offset is kept across the fetch (R420). -/
  resume : Bool
  /-- Words the tumbler refused within the descriptor (R424). -/
  refused : Nat
  /-- wait_desc has been set for this entry (R413). -/
  waited : Bool
  /-- Frame boundaries without a commit (R427). -/
  idle : Nat
  /-- Port descriptor: bytes of the block (R422), and whether it was cut (R422). -/
  block : List Byte
  trunc : Bool
  deriving DecidableEq, Repr

/-- Memory controller state behind its registers (chapter 13). -/
structure MemC where
  /-- Corrected words waiting for write-back (R393): physical word addresses. -/
  wb : List Nat
  /-- Words corrected and written back once; an error at their next first read marks the row (R396). -/
  seen : List Nat
  /-- Marked row or group copies running (R396): location word, kind (1 row, 2 group, 4 bank). -/
  copies : List (Nat × Nat)
  /-- Copies that have ended and whose remap takes effect at the next frame boundary. -/
  ready : List (Nat × Nat)
  /-- Spares used, keyed by bank field of R18 and kind. -/
  spares : SMap Nat
  /-- Rows marked in a bank and column group (R396), keyed by bank field and group: rows. -/
  marks : List (Nat × Nat × Nat)
  /-- Physical bank 16 carries this logical pool bank (R521). -/
  pool16 : Option Nat
  deriving DecidableEq, Repr

/-- How a stopped engine's sources are silenced (R375): not at all, half at the next pass, silent. -/
inductive Sil where
  | off | half | zero
  deriving DecidableEq, Repr

/-- One Yelnik engine behind its registers (chapter 12). Its PC is ENGn_PC and its run state ENGn_STATUS.state. -/
structure Eng where
  /-- s0–s31 of the normal class and s24–s31 of the fast class (R353). -/
  s : SMap Word
  fs : SMap Word
  /-- v0–v15 and p0–p7 (R353). -/
  v : SMap Nat
  p : SMap Nat
  /-- c0–c15 (R355); c11, c12, c13 and c15 are computed when read. -/
  c : SMap Word
  /-- Input blocks completed and CLK_CORE cycles since the start (R355 c11, c12). -/
  blocks : Nat
  cycles : Nat
  /-- Cycles not WAITING since the last RING_BLOCK, and whether one has come since START (R383 ENGn_LOAD). -/
  busy : Nat
  hadBlock : Bool
  /-- Silencing of its sources (R375), and frames of zeros left after START or RESUME (R378). -/
  sil : Sil
  zeros : Nat
  /-- A STEP commanded by an engine or DMA agent waits to issue (R384). -/
  stepReq : Bool
  /-- The next fetch enters the fast class (2), returns from it (3) or enters a trap (4); 0 none (R374). -/
  entering : Nat
  /-- The loop buffer: bundles of the active loop by address (R365). -/
  lbuf : List (Nat × Nat)
  deriving DecidableEq, Repr

/-- A link message slot (R476): its 88 bytes. -/
abbrev Msg := List Byte

/-- One link port behind its registers (chapter 16). -/
structure LPort where
  /-- Consecutive valid headers toward frame lock (R471), and base frames without one (R482). -/
  good : Nat
  gone : Nat
  /-- Δ samples of the running average, newest first, at most 32 (R467), and the partner's Δ. -/
  deltas : List Int
  theirs : Int
  /-- The partner's map identifier and slots received in the last frame: sample and segments crossed (R472–R475). -/
  pmap : Nat
  slots : SMap (Int × Nat)
  /-- Base-frame number of the last frame received, and its root_lost flag (R461). -/
  frame : Nat
  rootLost : Bool
  /-- Transmit queue (R478). -/
  txq : List Msg
  /-- Base frames of idle_req still to send (R484), and the partner's idle_req. -/
  idleReq : Nat
  partnerIdle : Bool
  deriving DecidableEq, Repr

/-- The link behind its registers (chapter 16). -/
structure Link where
  ports : SMap LPort
  /-- The eight-message receive FIFO, oldest first (R479). -/
  rxq : List Msg
  /-- Samples of the receive channels that have arrived, by pass of origin: key `pass * 256 + channel` (R474). -/
  arr : List (Nat × Int)
  /-- The system key (R480). -/
  key : Option (List Byte)
  /-- Ranging frames counted since the strobe started or UP was framed again (R471, R483). -/
  ranging : Nat
  /-- The node ranges after an outage (R483). -/
  back : Bool
  /-- Offset in ps still to slew (R469). -/
  slew : Int
  /-- A rejoin has been decided and waits for its acquisition (R483). -/
  rejoin : Bool
  deriving DecidableEq, Repr

/-- A mirrored write (R500): batch sequence, effective boundary, address, value. -/
structure Mirror where
  seq : Nat
  eff : Nat
  addr : Nat
  value : Word
  deriving DecidableEq, Repr

/-- The twin machinery behind its registers (chapter 17). -/
structure Hinge where
  /-- The partner's identity (R494, R495): likeness, run hash words, SYS_REVID; fresh, side B, prefers ACTIVE. -/
  pLike : Nat
  pHash : List Word
  pRev : Nat
  pFresh : Bool
  pSide : Bool
  pPref : Bool
  /-- TWIN_ROLE_DEFAULT as it was at commit step 8 (R492, R494, R527). -/
  dflt : Nat
  /-- pair_wait runs (R493). -/
  waiting : Bool
  /-- A synchronisation is in progress (R496): as the partner that synchronises, or as the active that serves it. -/
  sync : Bool
  /-- The copy received, oldest first, the tumbler's part of it, and the announced boundary (R496). -/
  copy : List (Nat × Word)
  copyTumb : Option (List TumbEntry × Option Nat)
  syncAt : Option Nat
  /-- Mirrored writes waiting for their boundary, oldest first (R500). -/
  batch : List Mirror
  /-- Mirrored writes that the partner has not acknowledged, the next sequence to give, the last one received intact. -/
  unacked : List Mirror
  seqNext : Nat
  seqSeen : Nat
  /-- Own lockstep CRCs by pass, newest first (R504): pass, one CRC per register, 0 where it is not enabled. -/
  crcs : List (Nat × List Nat)
  /-- Base frames since the last good hinge header (R510). -/
  gone : Nat
  /-- A valid heartbeat has come, or a miss has been counted, for the present boundary (R506). -/
  beat : Bool
  /-- A request to the partner that the next frame carries (R511): 0 none, 2 sync begins, 3 reset. -/
  cmdOut : Nat
  deriving DecidableEq, Repr

/-- The host targets and the flash controller behind their registers (chapter 20). -/
structure HostIf where
  /-- The access pointer (R569). -/
  ptr : Nat
  /-- The bytes that the last read or status transaction sent, in wire order (R568, R574, R579, R582). -/
  out : List Byte
  /-- The posted-write buffer of the SPI target (R580): address and value. -/
  posted : List (Nat × Word)
  /-- An I2C read that is stretched while the domain it reaches is asked to quiesce (R546, R576): the device address, the
  words still to fetch, and the words fetched. -/
  stretched : Option (Nat × Nat × List Word)
  /-- Sticky bits 1 to 4 of the status byte (R582). -/
  sticky : Nat
  /-- Reset Enable and Reset have been sent since the reset (R583). -/
  flashReady : Bool
  deriving DecidableEq, Repr

/-- Levels of the pins that the rules read and the filtered state of OUT_CLR_N. -/
structure Pins where
  /-- TWIN_SEL as sampled at reset (R494, R571). -/
  twinSel : Bool
  /-- OUT_CLR_N counts as low (R194). -/
  outClr : Bool
  /-- Supplies below their warning threshold, one bit each (R560). -/
  low : Nat
  /-- PVDD is in the range of R225; the deferred segment tests have run (R519). -/
  pvdd : Bool
  spkTested : Bool
  /-- Speaker attenuation applied, in 0.1 dB (R226). -/
  derate : Nat
  /-- Personality and drive of each pad DP0–DP95, from the pin ward (R592, log 10); unlisted: unassigned, in the reset
  state of R593. -/
  pads : SMap Nat
  deriving DecidableEq, Repr

/-- Everything but memory and the queue. -/
structure Dev where
  /-- Registers by address (R27); unlisted: hardware value (R8). -/
  regs : SMap Word
  intc : Intc
  boot : Boot
  clk : Clk
  key : Key
  inp : Inp
  outs : SMap Out
  hs : SMap Hs
  ser : Ser
  usb : Usb
  engs : SMap Eng
  memc : MemC
  chans : SMap Chan
  link : Link
  hinge : Hinge
  kt : Kt
  pwr : Pwr
  host : HostIf
  pins : Pins
  /-- The model's own counter of free values taken (DESIGN CHOICE, log 3). -/
  free : Nat
  deriving DecidableEq, Repr

/-- The state of the package and the queue of commands waiting for it, first in, first out. -/
structure State where
  dev : Dev
  /-- Tile local memories, pool and lockbox by address, canonical; unlisted bytes read 0 (R557). -/
  mem : List Host.Cell
  pending : List Instr
  deriving DecidableEq, Repr

/-! ### Reset -/

/-- The S/PDIF block before any frame. -/
def Spdif.init : Spdif :=
  { pos := 192, lastA := 0, lastB := 0, validA := 0, validB := 0, csA := 0, csB := 0, prevA := none, prevB := none,
    txPos := 0, txCs := [] }

/-- Ports, S/PDIF, monitors and converters at rest. -/
def Ser.init : Ser := { dirs := [], spdif := Spdif.init, rmon := [], asrc := [], np := [] }

/-- The USB function without a session. -/
def Usb.init : Usb :=
  { pullup := false, vbusOk := false, play := [], cap := [], playing := false, capturing := false, playCh := 0, capCh := 0,
    playRes := 0, capRes := 0, playSub := 0, capSub := 0, before := 0, hidQueued := false, config := 0, hidIdle := 0,
    lpm := false, rwSignal := false, playHalf := false, capHalf := false }

/-- The link at rest, without a system key. -/
def Link.init : Link :=
  { ports := [], rxq := [], arr := [], key := none, ranging := 0, back := false, slew := 0, rejoin := false }

/-- The twin machinery without a partner. -/
def Hinge.init : Hinge :=
  { pLike := 0, pHash := [], pRev := 0, pFresh := false, pSide := false, pPref := false, dflt := 0, waiting := false, sync := false,
    copy := [], copyTumb := none, syncAt := none, batch := [], unacked := [], seqNext := 0, seqSeen := 0, crcs := [],
    gone := 6, beat := false, cmdOut := 0 }

/-- Keyway and tumbler, empty (R557). -/
def Key.init : Key :=
  { entries := [], armed := none, lateAt := false, xps := [], src := [], sink := [], tone := [], age := 0 }

/-- The boot controller before the first load. -/
def Boot.init : Boot :=
  { image := [], load := none, rest := [], verdict := none, run := none, runSource := 0, reseat := 0, reload := false,
    commit := 0, plan := none, live := [], liveNext := 0, liveAt := none, irqHold := false, fifo := 0, wrote := [], everRun := false }

/-- The clock root: everything on CLK_FAST; every reference counts as valid until it is judged lost (DESIGN CHOICE, log 4). -/
def Clk.init : Clk :=
  { fallback := true, stage := 0, frozen := false, valid := 0xF, fastOff := false, pend := false }

/-- An engine in RESET (R557). -/
def Eng.init : Eng :=
  { s := [], fs := [], v := [], p := [], c := [], blocks := 0, cycles := 0, busy := 0, hadBlock := false, sil := .off,
    zeros := 0, stepReq := false, entering := 0, lbuf := [] }

/-- A DMA channel in IDLE. -/
def Chan.init : Chan :=
  { desc := [], beats := [], next := 0, bad := none, resume := false, refused := 0, waited := false, idle := 0, block := [], trunc := false }

/-- Memory without soft repairs. -/
def MemC.init : MemC := { wb := [], seen := [], copies := [], ready := [], spares := [], marks := [], pool16 := none }

/-- The keyturn store of a blank -B0T part (log 6): the factory turn of DEVICE_SECRET, index 25, is spent. -/
def Kt.init : Kt :=
  { slots := [(800, ⟨true, true, 0, 0⟩)], hold := [], turn := none, lost := false, advance := false, queue := [],
    soft := [], burn := none, sealed := [], swap := none }

/-- The power sequencer at rest. -/
def Pwr.init : Pwr :=
  { rise := [], lower := [], agreed := [], wakePend := 0, clkReq := 0, from_ := [], isWake := false, staged := [],
    inReset := false, hot := false, recov := 0, held := [] }

/-- The host targets at rest. -/
def HostIf.init : HostIf := { ptr := 0, out := [], posted := [], stretched := none, sticky := 0, flashReady := false }

/-- Pins at rest: TWIN_SEL low (DESIGN CHOICE, log 4), OUT_CLR_N high by its pull-up, PVDD absent. -/
def Pins.init : Pins :=
  { twinSel := false, outClr := false, low := 0, pvdd := false, spkTested := false, derate := 0, pads := [] }

/-- Registers that do not hold their hardware value once power-on reset is released: every domain is powered for the boot
tests (R555), so every output is in HIZ (R196, R204); the I2C base in effect (R571); the boot count (R529). -/
def Regs.reset : SMap Word :=
  [(Reg.pwrState 0, 0xAAAAAAAA), (Reg.pwrState 1, 0xAAAAAAAA), (Reg.pwrState 2, 0x0AAAAAAA)] ++
    (List.range 10).map (fun o => (Reg.outStatus o, 0x1000000F)) ++
    [(Reg.hostifI2cnow, 0x0338), (Reg.ktBootcnt, 1)]

/-- The device right after the release of its first power-on reset, its boot tests begun (R517). -/
def Dev.reset : Dev :=
  { regs := Regs.reset, intc := { gates := [], last := [], ext := 0 }, boot := Boot.init, clk := Clk.init, key := Key.init,
    inp := { ain := [], pdmClk := 0, pdmCh := 0, micbBusy := 0 }, outs := [], hs := [], ser := Ser.init, usb := Usb.init,
    engs := [], memc := MemC.init, chans := [], link := Link.init, hinge := Hinge.init, kt := Kt.init, pwr := Pwr.init,
    host := HostIf.init, pins := Pins.init, free := 0 }

/-- The package right after the release of its first power-on reset: memory lists nothing, no command waits. -/
def State.reset : State := { dev := Dev.reset, mem := [], pending := [] }

/-- Reasons to stop with a fault. -/
inductive Fault where
  /-- Raised by no command: the spec gives the part no event that stops it. Safe. -/
  | unreachable
  deriving DecidableEq, Repr

/-- Reasons to refuse a command. -/
inductive Refusal where
  /-- Raised by an arm of exec whose command has no meaning yet. Safe. -/
  | notModelled (mnemonic : String)
  deriving DecidableEq, Repr

end Sys2Proof.Machine
end

