-- ==== Sys2Proof/Machine/Ops.lean ====
section
/-! DEFINITION. The named operations over registers: reading and writing a register and a field, saturating counts, the
violation counters of R535 and the power state of a block's domain (R30). Memory's operations are in Mem.lean. -/
namespace Sys2Proof.Machine

/-- The hardware value of the register at `a` (the Reset column of R8): the table's, but for the registers whose elements
differ from one another: the interrupt targets (R457), and the domain targets (R545, R549). -/
def Regs.hw (a : Nat) : Word :=
  if a = Reg.intcTPriven 16 then 0x1FF
  else if a = Reg.pwrTarget 2 || a = Reg.pwrWakestate 2 then 0x0AAAAAAA
  else match regRow a with
    | some r => BitVec.ofNat 32 r.hw
    | none => 0

/-- The register at `a`. -/
def Dev.rd (d : Dev) (a : Nat) : Word := SMap.get (Regs.hw a) d.regs a

/-- Set the register at `a`. -/
def Dev.wr (d : Dev) (a : Nat) (w : Word) : Dev := { d with regs := SMap.set (Regs.hw a) d.regs a w }

/-- The value of a field. -/
def Dev.get (d : Dev) (f : Fld) : Nat := f.of (d.rd f.addr)

/-- A one-bit field, or any field, differs from 0. -/
def Dev.is (d : Dev) (f : Fld) : Bool := d.get f != 0

/-- Set a field. -/
def Dev.put (d : Dev) (f : Fld) (v : Nat) : Dev := d.wr f.addr (f.into (d.rd f.addr) v)

/-- Set a one-bit field from a condition. -/
def Dev.flag (d : Dev) (f : Fld) (b : Bool) : Dev := d.put f (if b then 1 else 0)

/-- Bit `i` of a field. -/
def Dev.bit (d : Dev) (f : Fld) (i : Nat) : Bool := bitOf (d.get f) i

/-- Set bit `i` of a field. -/
def Dev.setBit (d : Dev) (f : Fld) (i : Nat) : Dev := d.put f (orBit (d.get f) i)

/-- Clear bit `i` of a field. -/
def Dev.dropBit (d : Dev) (f : Fld) (i : Nat) : Dev := d.put f (clrBit (d.get f) i)

/-- Set bit `i` of a field from a condition. -/
def Dev.putBit (d : Dev) (f : Fld) (i : Nat) (b : Bool) : Dev := if b then d.setBit f i else d.dropBit f i

/-- Add `n` to a count that saturates at the field's largest value. -/
def Dev.addSat (d : Dev) (f : Fld) (n : Nat) : Dev := d.put f (min (d.get f + n) (2 ^ f.width - 1))

/-- Add 1 to a saturating count. -/
def Dev.inc (d : Dev) (f : Fld) : Dev := d.addSat f 1

/-- Add 1 to a count that wraps. -/
def Dev.incWrap (d : Dev) (f : Fld) : Dev := d.put f (d.get f + 1)

/-- Set every register of a list to its hardware value. -/
def Dev.clrRegs (d : Dev) (as : List Nat) : Dev := { d with regs := d.regs.filter (fun e => !as.contains e.1) }

/-- Put every register whose address satisfies `p` back to its hardware value. -/
def Dev.dropRegs (d : Dev) (p : Nat → Bool) : Dev := { d with regs := d.regs.filter (fun e => !p e.1) }

/-- Who made a request: the codes of VIOL_LAST.agent (R541). -/
inductive Agent where
  | engine (e : Nat)
  | host
  | boot
  | dma
  | proto
  deriving DecidableEq, Repr

/-- The code of VIOL_LAST.agent (R541). -/
def Agent.code : Agent → Nat
  | .engine e => e % 16
  | .host => 16
  | .boot => 17
  | .dma => 18
  | .proto => 19

/-- Count a violation of category `cat`, `n` times, and record the last one (R535, R541). -/
def Dev.violN (d : Dev) (n cat : Nat) (ag : Agent) (addr : Nat) : Dev :=
  (((d.addSat (Fld.violCntCount cat) n).put Fld.violLastCategory cat).put Fld.violLastAgent ag.code).put
    Fld.violLastaddrAddr addr

/-- Count one violation (R535, R541). -/
def Dev.viol (d : Dev) (cat : Nat) (ag : Agent) (addr : Nat) : Dev := d.violN 1 cat ag addr

/-- Apply `f` when the condition holds. -/
def Dev.cond (d : Dev) (c : Bool) (f : Dev → Dev) : Dev := if c then f d else d

/-- Apply `f` for each element of a list in turn. -/
def Dev.each {α : Type} (d : Dev) (l : List α) (f : Dev → α → Dev) : Dev := l.foldl f d

/-- Power domains by index (R542). -/
def Dom.pool (n : Nat) : Nat := 16 + n
def Dom.keyway : Nat := 32
def Dom.dma : Nat := 33
def Dom.ports : Nat := 34
def Dom.asrc : Nat := 35
def Dom.usb : Nat := 36
def Dom.link : Nat := 37
def Dom.hinge : Nat := 38
def Dom.anain (g : Nat) : Nat := 39 + g
def Dom.pdm : Nat := 41
def Dom.lineout : Nat := 42
def Dom.hp : Nat := 43
def Dom.spk (p : Nat) : Nat := 44 + p

/-- The state of domain `k`: 0 off, 1 retention, 2 on, 3 in transition (R542). -/
def Dev.dom (d : Dev) (k : Nat) : Nat := bitsOf (d.rd (Reg.pwrState (k / 16))).toNat (2 * (k % 16)) 2

/-- Set the state of domain `k`. -/
def Dev.setDom (d : Dev) (k v : Nat) : Dev :=
  d.wr (Reg.pwrState (k / 16)) (BitVec.ofNat 32 (setBits (d.rd (Reg.pwrState (k / 16))).toNat (2 * (k % 16)) 2 v))

/-- Domain `k` is on. -/
def Dev.on (d : Dev) (k : Nat) : Bool := d.dom k == 2

end Sys2Proof.Machine
end

