-- ==== Sys2Proof/Machine/Intc.lean ====
section
/-! DEFINITION. The interrupt controller (chapter 15): coalescers, gateways, delivery, claim and completion, and `happen`,
the one way in which an event of an EVENTS register reaches it. -/
namespace Sys2Proof.Machine

/-- A source at rest (R442). -/
def Gate.init : Gate := ⟨.idle, false, 0, false, 0, false⟩

/-- The gate of key `k`. -/
def Dev.gate (d : Dev) (k : Nat) : Gate := SMap.get Gate.init d.intc.gates k

/-- Set the gate of key `k`. -/
def Dev.setGate (d : Dev) (k : Nat) (g : Gate) : Dev :=
  { d with intc := { d.intc with gates := SMap.set Gate.init d.intc.gates k g } }

/-- The gate key of private source `i` of engine `e` (R442: one gateway per engine). -/
def privKey (e i : Nat) : Nat := 1024 + 64 * e + i

/-- The registers and masks of the W1C bits that drive level source `id` (R438, R440). -/
def drivers (id : Nat) : List (Nat × Nat) :=
  match id with
  | 0 => [(Reg.monSupev, 0xF)]
  | 1 => [(Reg.monThev, 0x7)]
  | 2 => [(Reg.hingeEvents, 0x1)]
  | 3 => [(Reg.ktEvents, 0x1)]
  | 4 => [(Reg.linkEvents, 0x1)]
  | 5 => [(Reg.intcHaltev, 0xFFFF)]
  | 6 => [(Reg.memEvents, 0x2)]
  | 7 => [(Reg.clkEvents, 0x1)]
  | 8 => [(Reg.sysWdtev, 0x10000)]
  | 64 => [(Reg.clkEvents, 0x3E)]
  | 65 => [(Reg.keyEvents, 0x7)]
  | 66 => (List.range 8).map (fun n => (Reg.anainChEvents n, 0xF))
  | 67 => [(Reg.micbEvents, 0xF)]
  | 68 => [(Reg.pdmEvents, 0xFF)]
  | 69 => (List.range 6).map (fun o => (Reg.outEvents o, 0x3FF))
  | 70 => (List.range 4).map (fun n => (Reg.spkEvents n, 0x3FF))
  | 71 => [(Reg.jackEvents, 0x3FFF)]
  | 72 => [(Reg.seqEvents, 0x3FF)]
  | 73 => (List.range 6).map (fun n => (Reg.portEvents n, 0xFFFF))
  | 74 => [(Reg.spdifEvents, 0x1FFF)]
  | 75 => [(Reg.rmonEvents0, 0x1FFF1FFF), (Reg.rmonEvents1, 0x1FFF1FFF)]
  | 76 => [(Reg.asrcEvents, 0x3FFF3FFF)]
  | 77 => [(Reg.usbEvents, 0x1FF)]
  | 78 => [(Reg.memEvents, 0x1D)]
  | 79 => [(Reg.linkEvents, 0x3FE)]
  | 80 => [(Reg.hingeEvents, 0xFE)]
  | 81 => [(Reg.repEvents, 0x7F)]
  | 82 => [(Reg.pwrEvents, 0xF)]
  | 83 => [(Reg.monSupev, 0xF0), (Reg.monThev, 0x18)]
  | 84 => [(Reg.hostifEvents, 0x7E)]
  | id => if 96 ≤ id ∧ id ≤ 159 then [(Reg.dmaChEvents (id - 96), 0x1F)] else []

/-- The source that bit `b` of the register at `a` drives (R438, R440). -/
def sourceOf (a b : Nat) : Option Nat :=
  if 0x840000 ≤ a ∧ a < 0x841000 then some (96 + (a - 0x840000) / 0x40)
  else (List.range 85).find? (fun id => (drivers id).any (fun e => decide (e.1 = a) && bitOf e.2 b))

/-- Type of shared EXTINT source (R450): 1 edge. -/
def Dev.extEdge (d : Dev) (k : Nat) : Bool := d.is (Fld.extintType k)

/-- Source with gate key `k` is an edge: private sources (R439) and EXTINT inputs of type 1 (R450). -/
def Dev.isEdge (d : Dev) (k : Nat) : Bool :=
  if 1024 ≤ k then true else if 160 ≤ k ∧ k ≤ 175 then d.extEdge (k - 160) else false

/-- The level of source `id` (R438, R440): a driving bit is 1, or the filtered EXTINT input equals pol (R450). -/
def Dev.level (d : Dev) (id : Nat) : Bool :=
  if 160 ≤ id ∧ id ≤ 175 then
    !d.extEdge (id - 160) && (bitOf d.intc.ext (id - 160) == d.is (Fld.extintPol (id - 160)))
  else (drivers id).any (fun e => (d.rd e.1).toNat &&& e.2 != 0)

/-- Address of the configuration register of the source with gate key `k` (R454, R455). -/
def srcCfg (k : Nat) : Nat := if 1024 ≤ k then Reg.intcPcfg ((k - 1024) / 64) (k % 64) else 0x831000 + 8 * k

/-- Address of its coalescer register. -/
def srcCoal (k : Nat) : Nat := srcCfg k + 4

/-- Priority of a source (R443). -/
def Dev.srcPrio (d : Dev) (k : Nat) : Nat := bitsOf (d.rd (srcCfg k)).toNat 29 3

/-- Class of a source: fast or normal (R437). -/
def Dev.srcFast (d : Dev) (k : Nat) : Bool := bitOf (d.rd (srcCfg k)).toNat 28

/-- Target of a source (R436). -/
def Dev.srcTarget (d : Dev) (k : Nat) : Nat :=
  if 1024 ≤ k then (k - 1024) / 64 else bitsOf (d.rd (srcCfg k)).toNat 16 5

/-- Events per firing (R441). -/
def Dev.coalCount (d : Dev) (k : Nat) : Nat := bitsOf (d.rd (srcCoal k)).toNat 16 8

/-- Coalescer time in µs, 0 off (R441). -/
def Dev.coalTime (d : Dev) (k : Nat) : Nat := bitsOf (d.rd (srcCoal k)).toNat 0 16

/-- The gateway's answer to an edge request (R442 orders 1 and 3). -/
def GateSt.edge : GateSt → GateSt
  | .idle => .pending
  | .pending => .pending
  | .active => .activePending
  | .activePending => .activePending

/-- The coalescer fires (R441): one edge request, or the level request asserted. -/
def Gate.fire (g : Gate) (edge : Bool) : Gate :=
  if edge then { g with st := g.st.edge, cnt := 0, timer := false }
  else { g with st := if g.st = .idle then .pending else g.st, req := true, cnt := 0, timer := false }

/-- One event at the coalescer (R441): counted only while the request is not asserted; the first starts the timer. -/
def Gate.event (g : Gate) (edge : Bool) (count time : Nat) : Gate :=
  if g.req then g
  else if count ≤ g.cnt + 1 then g.fire edge
  else { g with cnt := g.cnt + 1, timer := g.timer || (g.cnt == 0 && time != 0) }

/-- The level is withdrawn (R441, R442 orders 2 and 5). -/
def Gate.withdraw (g : Gate) : Gate :=
  { g with req := false, cnt := 0, timer := false, st := if g.st = .pending then .idle else g.st }

/-- Count an event at the coalescer of source key `k` (R441). Privileged sources have none. -/
def Dev.srcEvent (d : Dev) (k : Nat) : Dev :=
  if k < 16 then d else d.setGate k ((d.gate k).event (d.isEdge k) (d.coalCount k) (d.coalTime k))

/-- Raise private source `i` of engine `e` (R439). -/
def Dev.raise (d : Dev) (e i : Nat) : Dev := d.srcEvent (privKey e i)

/-- Set W1C bit `b` of the register at `a`: the happening behind it is an event of the source it drives (R441). -/
def Dev.happenBit (d : Dev) (a b : Nat) : Dev :=
  let d := d.wr a (BitVec.ofNat 32 (orBit (d.rd a).toNat b))
  match sourceOf a b with
  | some id => d.srcEvent id
  | none => d

/-- Set a one-bit event field. -/
def Dev.happen (d : Dev) (f : Fld) : Dev := d.happenBit f.addr f.lo

/-- Set bit `i` of an event field. -/
def Dev.happenAt (d : Dev) (f : Fld) (i : Nat) : Dev := d.happenBit f.addr (f.lo + i)

/-- Withdraw the level request of each source of a list whose level no longer holds (R441). -/
def Dev.settle (d : Dev) (ids : List Nat) : Dev :=
  d.each ids (fun d id => if 64 ≤ id && !d.isEdge id && !d.level id then d.setGate id (d.gate id).withdraw else d)

/-- Write to the W1C bits `mask` of the register at `a` (R7): 1 clears, and a source whose level ends is withdrawn. -/
def Dev.w1c (d : Dev) (a mask : Nat) (v : Word) : Dev :=
  let clr := v.toNat &&& mask
  let d := d.wr a (BitVec.ofNat 32 ((d.rd a).toNat - ((d.rd a).toNat &&& clr)))
  d.settle ((List.range 32).filterMap (fun b => if bitOf clr b then sourceOf a b else none)).eraseDups

/-- Target `t` is eligible (R443): a pin always, an engine while RUNNING or WAITING. -/
def Dev.eligible (d : Dev) (t : Nat) : Bool :=
  decide (16 ≤ t) || (let st := d.get (Fld.engStatusState t); st == 1 || st == 2)

/-- Privileged source `id` is pending: its level holds and it is not ACTIVE (R441, R442). -/
def Dev.privPending (d : Dev) (id : Nat) : Bool := d.level id && (d.gate id).st == .idle

/-- The target to which privileged source `id` is offered (R447). -/
def Dev.offer (d : Dev) (id : Nat) : Option Nat :=
  let first := SMap.get 0 d.intc.last id
  ((List.range 18).map (fun j => (first + j) % 18)).find?
    (fun t => d.bit (Fld.intcTPrivenEn t) id && d.eligible t)

/-- Privileged source `id` is deliverable at target `t` and class `fast` (R443, R447). -/
def Dev.privHere (d : Dev) (t : Nat) (fast : Bool) (id : Nat) : Bool :=
  d.privPending id && d.offer id == some t && (d.bit (Fld.intcTPrivenFast t) id && decide (t < 16)) == fast

/-- The threshold of a class (R443). -/
def Dev.thresh (d : Dev) (t : Nat) (fast : Bool) : Nat :=
  if fast then d.get (Fld.intcTFthreshThresh t) else d.get (Fld.intcTThreshThresh t)

/-- Non-privileged source with gate key `k` is deliverable at target `t` and class `fast` (R443). -/
def Dev.here (d : Dev) (t : Nat) (fast : Bool) (k : Nat) : Bool :=
  decide (16 ≤ k) && (d.gate k).st == .pending && d.srcTarget k == t && d.srcFast k == fast &&
    decide (d.thresh t fast < d.srcPrio k) && !d.is Fld.intcCtrlHold && d.eligible t

/-- The interrupt ID of gate key `k` (R436). -/
def keyId (k : Nat) : Nat := if 1024 ≤ k then k % 64 else k

/-- Of two deliverable source keys, the one of higher rank (R444): higher priority, then lower ID. -/
def Dev.rank (d : Dev) (b : Option Nat) (k : Nat) : Option Nat :=
  match b with
  | none => some k
  | some j =>
    if d.srcPrio j < d.srcPrio k || (d.srcPrio j == d.srcPrio k && decide (keyId k < keyId j)) then some k else some j

/-- The deliverable source of highest rank at a target and class, as a gate key (R444). -/
def Dev.best (d : Dev) (t : Nat) (fast : Bool) : Option Nat :=
  match (List.range 9).find? (d.privHere t fast) with
  | some id => some id
  | none => ((d.intc.gates.map (·.1)).filter (d.here t fast)).foldl d.rank none

/-- A class is ready (R443). -/
def Dev.ready (d : Dev) (t : Nat) (fast : Bool) : Bool := (d.best t fast).isSome

/-- The ID that a claim would return now (R457 STATUS.next). -/
def Dev.nextId (d : Dev) (t : Nat) (fast : Bool) : Nat :=
  match d.best t fast with
  | some k => keyId k
  | none => 1023

/-- A claim (R444): the ID and the state after it. -/
def Dev.claim (d : Dev) (t : Nat) (fast : Bool) : Nat × Dev :=
  match d.best t fast with
  | some k => (keyId k, d.setGate k { d.gate k with st := .active, tgt := t, fast := fast })
  | none => (1023, d.inc Fld.intcStatusSpurious)

/-- The gateway's answer to a completion (R442 orders 6 to 8). -/
def Gate.complete (g : Gate) : Gate :=
  match g.st with
  | .activePending => { g with st := .pending }
  | .active => { g with st := if g.req then .pending else .idle }
  | _ => g

/-- The gate of key `k` is ACTIVE at target `t` and class `fast`. -/
def Dev.activeAt (d : Dev) (t : Nat) (fast : Bool) (k : Nat) : Bool :=
  ((d.gate k).st == .active || (d.gate k).st == .activePending) && (d.gate k).tgt == t && (d.gate k).fast == fast

/-- Complete the source of gate key `k` at target `t` (R446, R447: the next search starts after `t`). -/
def Dev.completeKey (d : Dev) (t k : Nat) : Dev :=
  let d := d.setGate k (d.gate k).complete
  if k < 16 then { d with intc := { d.intc with last := SMap.set 0 d.intc.last k ((t + 1) % 18) } } else d

/-- The gate key that an ID names at target `t`: private IDs belong to the engine (R436). -/
def idKey (t id : Nat) : Option Nat :=
  if 16 ≤ id ∧ id ≤ 63 then (if t < 16 then some (privKey t id) else none) else if id ≤ 511 then some id else none

/-- A write of an ID to a claim register (R446). -/
def Dev.complete (d : Dev) (ag : Agent) (t : Nat) (fast : Bool) (id : Nat) : Dev :=
  if id = 1023 then d
  else
    let bad := d.viol 0 ag (if fast then Reg.intcTFclaim t else Reg.intcTClaim t)
    match idKey t id with
    | some k => if d.activeAt t fast k then d.completeKey t k else bad
    | none => bad

/-- Complete every source ACTIVE at engine `e` in either class (R448). -/
def Dev.completeAll (d : Dev) (e : Nat) : Dev :=
  d.each ((d.intc.gates.map (·.1)).filter (fun k => d.activeAt e false k || d.activeAt e true k))
    (fun d k => d.completeKey e k)

/-- A coalescer's timer expires (R441): an edge source makes one request; a level source asserts its request if the level
holds; a timer that has been cancelled does nothing. -/
def Dev.coalExpire (d : Dev) (k : Nat) : Dev :=
  let g := d.gate k
  if !g.timer then d
  else if d.isEdge k || d.level k then d.setGate k (g.fire (d.isEdge k))
  else d.setGate k { g with cnt := 0, timer := false }

/-- An EXTINT input's filtered state becomes `b` (R450): a change to pol is an event; leaving pol withdraws a level. -/
def Dev.extintChange (d : Dev) (k : Nat) (b : Bool) : Dev :=
  if bitOf d.intc.ext k == b then d
  else
    let d := { d with intc := { d.intc with ext := if b then orBit d.intc.ext k else clrBit d.intc.ext k } }
    if b == d.is (Fld.extintPol k) then d.srcEvent (160 + k) else d.settle [160 + k]

/-- The state bits of the sources `lo … lo+31` with keys `base + i`: PENDING or ACTIVE (R456). -/
def Dev.stateWord (d : Dev) (base lo : Nat) (act : Bool) : Word :=
  BitVec.ofNat 32 ((d.intc.gates.filter (fun e => decide (base + lo ≤ e.1) && decide (e.1 < base + lo + 32))).foldl
    (fun w e =>
      let on := if act then e.2.st == .active || e.2.st == .activePending
        else e.2.st == .pending || e.2.st == .activePending
      if on then orBit w (e.1 - base - lo) else w) 0)

/-- INTC_PENDw and INTC_ACTw (R456): word 0 holds the privileged sources, whose pending state is their level. -/
def Dev.pendWord (d : Dev) (w : Nat) : Word :=
  if w = 0 then BitVec.ofNat 32 ((List.range 9).foldl (fun n id => if d.privPending id then orBit n id else n) 0)
  else if w = 1 then 0 else d.stateWord 0 (32 * w) false

/-- INTC_ACTw (R456). -/
def Dev.actWord (d : Dev) (w : Nat) : Word := if w = 1 then 0 else d.stateWord 0 (32 * w) true

/-- STATUS of a target's class (R457). -/
def Dev.targetStatus (d : Dev) (t : Nat) (fast : Bool) : Word :=
  BitVec.ofNat 32 (d.nextId t fast + if d.ready t fast then 2 ^ 31 else 0)

/-- Clamp a source configuration word (R454): the stored word and the clamps made. `priv` is a private source, whose
target bits are reserved (R455). -/
def clampCfg (priv : Bool) (v : Word) : Word × Nat :=
  let n := v.toNat
  let (t, c1) := if priv then (0, 0) else if 18 ≤ bitsOf n 16 5 then (16, 1) else (bitsOf n 16 5, 0)
  let (f, c2) := if !priv && bitOf n 28 && decide (16 ≤ t) then (0, 1) else (bitsOf n 28 1, 0)
  (BitVec.ofNat 32 (bitsOf n 29 3 * 2 ^ 29 + f * 2 ^ 28 + t * 2 ^ 16), c1 + c2)

/-- The edge bit of a source's configuration register (R454): private sources and EXTINT of type 1 read 1. -/
def Dev.edgeBit (d : Dev) (k : Nat) : Nat := if d.isEdge k then 2 else 0

/-- A write to SRCi_CFG or Ee_PCFGi (R454, R455): stored with clamps; it applies to pending state at once (R448). -/
def Dev.cfgWrite (d : Dev) (ag : Agent) (k : Nat) (v : Word) : Dev :=
  let (w, c) := clampCfg (decide (1024 ≤ k)) v
  let d := d.wr (srcCfg k) w
  if c = 0 then d else d.viol 3 ag (srcCfg k)

/-- A write to SRCi_COAL or Ee_PCOALi (R454): a count of 0 is stored as 1 and counted. -/
def Dev.coalWrite (d : Dev) (ag : Agent) (k : Nat) (v : Word) : Dev :=
  let n := v.toNat
  if bitsOf n 16 8 = 0 then (d.wr (srcCoal k) (BitVec.ofNat 32 (2 ^ 16 + bitsOf n 0 16))).viol 3 ag (srcCoal k)
  else d.wr (srcCoal k) (BitVec.ofNat 32 (bitsOf n 16 8 * 2 ^ 16 + bitsOf n 0 16))

/-- A write to INTC_SWSET (R452): raises SOFT source `index` of an engine; an unavailable tile is counted. -/
def Dev.swset (d : Dev) (ag : Agent) (v : Word) : Dev :=
  let e := bitsOf v.toNat 16 4
  if bitOf (d.rd (Reg.sysTilemap (e / 8))).toNat (4 * (e % 8) + 3) then d.viol 4 ag Reg.intcSwset
  else d.raise e (19 + bitsOf v.toNat 0 5)

end Sys2Proof.Machine
end

