-- ==== Sys2Proof/Machine/Repair.lean ====
section
/-! DEFINITION. Self-repair, the repair pool and the keyturn store (chapter 18). -/
namespace Sys2Proof.Machine

/-- BOOT_STATUS.state (R65). -/
abbrev BootSt.selftest : Nat := 0
abbrev BootSt.loading : Nat := 1
abbrev BootSt.verify : Nat := 2
abbrev BootSt.commit : Nat := 3
abbrev BootSt.running : Nat := 4
abbrev BootSt.hostwait : Nat := 5
abbrev BootSt.diagnostic : Nat := 6
abbrev BootSt.reseat : Nat := 7
abbrev BootSt.live : Nat := 8

/-- The boot state (R65). -/
def Dev.bootSt (d : Dev) : Nat := d.get Fld.bootStatusState

/-- RUNNING, with or without a live reload (R65). -/
def Dev.running (d : Dev) : Bool := d.bootSt == BootSt.running || d.bootSt == BootSt.live

/-- Functions run: RUNNING, LIVE, or a reseat that has not reached its teardown (R56). -/
def Dev.alive (d : Dev) : Bool := d.running || (d.bootSt == BootSt.reseat && decide (d.boot.reseat < 4))

/-- SUPPLY_WARN (ID 0) is asserted (R438). -/
def Dev.supplyWarn (d : Dev) : Bool := d.is Fld.monSupevWarn

/-- A location word of this package (R10). -/
def locWord (die cluster tile bank group cell : Nat) : Nat :=
  die * 2 ^ 29 + cluster * 2 ^ 27 + tile * 2 ^ 24 + bank * 2 ^ 19 + group * 2 ^ 12 + cell

/-- Fields of a location word (R10). -/
def Loc.die (l : Nat) : Nat := bitsOf l 29 2
def Loc.cluster (l : Nat) : Nat := bitsOf l 27 2
def Loc.tile (l : Nat) : Nat := bitsOf l 24 3
def Loc.bank (l : Nat) : Nat := bitsOf l 19 5
def Loc.group (l : Nat) : Nat := bitsOf l 12 7
def Loc.cell (l : Nat) : Nat := bitsOf l 0 12

/-- Physical tile that carries logical tile `n` (R24). -/
def Dev.phys (d : Dev) (n : Nat) : Nat := bitsOf (d.rd (Reg.sysTilemap (n / 8))).toNat (4 * (n % 8)) 3

/-- Logical tile `n` is unavailable (R23). -/
def Dev.unavail (d : Dev) (n : Nat) : Bool := bitOf (d.rd (Reg.sysTilemap (n / 8))).toNat (4 * (n % 8) + 3)

/-- Set the carrier of a logical tile (R24). -/
def Dev.setPhys (d : Dev) (n p : Nat) : Dev :=
  let a := Reg.sysTilemap (n / 8)
  d.wr a (BitVec.ofNat 32 (setBits (d.rd a).toNat (4 * (n % 8)) 3 p))

/-- Mark a logical tile unavailable (R23). -/
def Dev.setUnavail (d : Dev) (n : Nat) : Dev :=
  let a := Reg.sysTilemap (n / 8)
  d.wr a (BitVec.ofNat 32 (setBits (d.rd a).toNat (4 * (n % 8) + 3) 1 1))

/-- The logical tile that physical tile `p` of cluster `c` carries (R21, R24). -/
def Dev.logical (d : Dev) (c p : Nat) : Option Nat :=
  ((List.range 4).map (4 * c + ·)).find? (fun n => d.phys n == p && !d.unavail n)

/-- The number of spares in use of a bank: `bank` is bits 28:19 of the location word, `kind` 1 rows, 2 column groups. -/
def Dev.sparesUsed (d : Dev) (l kind : Nat) : Nat := SMap.get 0 d.memc.spares (4 * bitsOf l 19 10 + kind)

/-- Take one more spare of that kind. -/
def Dev.takeSpare (d : Dev) (l kind : Nat) : Dev :=
  { d with memc := { d.memc with spares := SMap.set 0 d.memc.spares (4 * bitsOf l 19 10 + kind) (d.sparesUsed l kind + 1) } }

/-- Spares of a memory bank: eight rows (kind 1) or two column groups (kind 2) (R18). -/
def spareLimit (kind : Nat) : Nat := if kind = 1 then 8 else 2

/-- The queue waits for an entry of the pool that burns it (R524). -/
def Dev.queueBurn (d : Dev) (r : Repair) : Dev := { d with kt := { d.kt with queue := d.kt.queue ++ [r] } }

/-- Pool entry `k` (R523): LOC and INFO. -/
def Dev.entry (d : Dev) (k : Nat) : Nat × Nat := ((d.rd (Reg.repEntryLoc k)).toNat, (d.rd (Reg.repEntryInfo k)).toNat)

/-- A sealed entry of the pool holds this repair (R524: it is not burned again). -/
def Dev.burned (d : Dev) (r : Repair) : Bool :=
  (List.range (d.get Fld.repStatusUsed)).any (fun k =>
    SMap.get false d.kt.sealed k && (d.entry k).1 == r.loc && (d.entry k).2 / 2 ^ 24 == r.info / 2 ^ 24)

/-- A soft repair is recorded (R520): REP_LAST, REP_LASTINFO, the count, the event, and the queue for burning. With every
pool entry used it stays soft (R524). -/
def Dev.softRepair (d : Dev) (loc kind spare : Nat) (boot : Bool) : Dev :=
  let r : Repair := ⟨loc, kind * 2 ^ 29 + spare * 2 ^ 24, boot⟩
  let d := d.put Fld.repLastLoc loc
  let d := d.put Fld.repLastinfoInfo (r.info + d.get Fld.ktBootcntCount)
  let d := (d.inc Fld.repStatusSoft).happen Fld.repEventsSoft
  let d := { d with kt := { d.kt with soft := d.kt.soft ++ [r] } }
  if d.get Fld.repStatusUsed = 512 then (d.put Fld.repStatusFull 1).happen Fld.repEventsFull
  else d.queueBurn r

/-- REP_CFG.burn lets this repair burn (R524). -/
def Dev.burnable (d : Dev) (r : Repair) : Bool :=
  !d.burned r && (let b := d.get Fld.repCfgBurn; decide (2 ≤ b) || (b == 1 && r.boot))

/-- Index of the current life-cycle state (R530). -/
abbrev Life.blank : Nat := 0
abbrev Life.provisioned : Nat := 1
abbrev Life.deployed : Nat := 2
abbrev Life.retired : Nat := 3

/-- A slot never used (R525). -/
def Slot.init : Slot := ⟨false, false, 0, 0⟩

/-- Slot `t` of setting `i`. -/
def Dev.slot (d : Dev) (i t : Nat) : Slot := SMap.get Slot.init d.kt.slots (32 * i + t)

/-- Set slot `t` of setting `i`. -/
def Dev.setSlot (d : Dev) (i t : Nat) (x : Slot) : Dev :=
  { d with kt := { d.kt with slots := SMap.set Slot.init d.kt.slots (32 * i + t) x } }

/-- Turns in the budget of setting `i` (R527). -/
def ktBudget (i : Nat) : Nat :=
  if i = 0 then 2 else if i = 1 then 4 else if i = 2 then 32 else if i = 3 then 3 else if i = 4 then 8
  else if i ≤ 8 then 4 else if i ≤ 18 then 8 else if i ≤ 22 then 4 else if i ≤ 24 then 8 else 1

/-- Width of setting `i` (R527). -/
def ktBits (i : Nat) : Nat :=
  if i = 0 then 64 else if i = 1 then 256 else if i = 2 then 32 else if i ≤ 4 then 2
  else if i ≤ 8 then 1 else if i ≤ 18 then 16 else if i ≤ 22 then 8 else if i ≤ 24 then 16 else 256

/-- Value of setting `i` while no slot is sealed (R527, R571). -/
def ktUnspent (i : Nat) : Nat := if i = 23 then 0x0338 else if i = 24 then 0x0021 else 0

/-- Slots of setting `i` that are used (R539). -/
def Dev.ktSpent (d : Dev) (i : Nat) : Nat := ((List.range (ktBudget i)).filter (fun t => (d.slot i t).used)).length

/-- The highest sealed slot of setting `i`. -/
def Dev.ktTop (d : Dev) (i : Nat) : Option Nat := ((List.range (ktBudget i)).filter (fun t => (d.slot i t).sealed)).getLast?

/-- The current value of setting `i`: the highest sealed slot's, or the unspent value. -/
def Dev.kt! (d : Dev) (i : Nat) : Nat :=
  match d.ktTop i with
  | some t => (d.slot i t).value
  | none => ktUnspent i

/-- The life-cycle state (R530). -/
def Dev.life (d : Dev) : Nat := d.kt! 3

/-- Register of setting `i` whose write is the KT write (R528, R538). -/
def ktReg (i : Nat) : Nat :=
  if i = 0 then Reg.ktLikeness1 else if i = 1 then Reg.ktRoothash 7 else if i = 2 then Reg.ktMinver
  else if i = 3 then Reg.ktLifecycle else if i = 4 then Reg.ktTwinrole else if i ≤ 8 then Reg.ktPersona (i - 5)
  else if i ≤ 18 then Reg.ktPucode (i - 9) else if i ≤ 22 then Reg.ktCeil (i - 19)
  else if i = 23 then Reg.ktI2cbase else if i = 24 then Reg.ktBootorder else Reg.ktSecret

/-- Holding word `w` of R528: 0 KT_LIKENESS0, 1–7 KT_ROOTHASH0–6; unloaded it is the current value. -/
def Dev.holding (d : Dev) (w : Nat) : Nat :=
  SMap.get (if w = 0 then d.kt! 0 % 2 ^ 32 else bitsOf (d.kt! 1) (32 * (w - 1)) 32) d.kt.hold w

/-- The value that a KT write of `v` gives setting `i` (R528). -/
def Dev.ktValue (d : Dev) (i : Nat) (v : Word) : Nat :=
  if i = 0 then v.toNat * 2 ^ 32 + d.holding 0
  else if i = 1 then v.toNat * 2 ^ 224 + ((List.range 7).map (fun w => d.holding (w + 1) * 2 ^ (32 * w))).sum
  else v.toNat % 2 ^ ktBits i

/-- The life-cycle permits setting `i` (R527, R530). -/
def Dev.ktPermitted (d : Dev) (i : Nat) : Bool :=
  if d.life = Life.retired then false else if i = 0 then decide (d.life ≤ Life.provisioned) else true

/-- The addresses that an I2C base and mask match, as a test (R570, R571). -/
def i2cMatches (base : Nat) (a : Nat) : Bool :=
  (a ^^^ bitsOf base 0 7) &&& (127 - bitsOf base 8 7) == 0

/-- I2C_ADDR_BASE values that R571 refuses. -/
def i2cBaseBad (v : Nat) : Bool :=
  bitOf v 7 || bitOf v 15 || decide (2 < popcount 7 (bitsOf v 8 7)) ||
    (List.range 8 ++ (List.range 8).map (0x78 + ·)).any (i2cMatches v)

/-- The value is invalid for the setting: order 4 of R526 (R527, R531, R571). -/
def Dev.ktInvalid (d : Dev) (i v : Nat) : Bool :=
  if i = 2 then decide (v < d.kt! 2) || decide (d.get Fld.bootRunverVersion < v)
  else if i = 3 then
    decide (v ≤ d.life) || (d.life == Life.blank && ((d.ktTop 0).isNone || (d.ktTop 1).isNone))
  else if i = 23 then i2cBaseBad v
  else false

/-- KT_STATUS.result codes (R539). -/
def Dev.ktResult (d : Dev) (i code : Nat) : Dev := (d.put Fld.ktStatusSetting i).put Fld.ktStatusResult code

/-- A host write to the KT register of setting `i` (R526), checked in order. -/
def Dev.ktWrite (d : Dev) (i : Nat) (v : Word) : Dev :=
  let x := d.ktValue i v
  let refuse (cat code : Nat) : Dev := (d.viol cat .host (ktReg i)).ktResult i code
  if i = 25 then refuse 1 4
  else if !d.running || !d.ktPermitted i then refuse 0 3
  else if d.is Fld.ktStatusBusy || d.supplyWarn then refuse 0 3
  else if x = d.kt! i then d.ktResult i 2
  else if d.ktInvalid i x then refuse 0 3
  else if ktBudget i ≤ d.ktSpent i then refuse 1 4
  else
    let t := d.ktSpent i
    let d := d.setSlot i t ⟨true, false, d.get Fld.ktBootcntCount, x⟩
    let d := { d with kt := { d.kt with turn := some (i, t, x) } }
    (d.put Fld.ktStatusBusy 1).ktResult i 0

/-- A write to KT_LIKENESS0 or KT_ROOTHASH0–6 loads holding word `w` (R528). -/
def Dev.ktHolding (d : Dev) (w : Nat) (v : Word) : Dev :=
  { d with kt := { d.kt with hold := (SMap.del d.kt.hold w |> fun m => SMap.ins m w v.toNat) } }

/-- A turn in progress is cut short (R525): the slot stays used and unsealed. -/
def Dev.cutTurn (d : Dev) : Dev :=
  match d.kt.turn with
  | none => d
  | some (i, _, _) =>
    let d := { d with kt := { d.kt with turn := none, lost := true } }
    (d.put Fld.ktStatusBusy 0).ktResult i 5

/-- A burn in progress is cut short (R524): its entry is used up and unsealed. -/
def Dev.cutBurn (d : Dev) : Dev :=
  match d.kt.burn with
  | none => d
  | some _ => { d with kt := { d.kt with burn := none } }.put Fld.repStatusBurning 0

/-- REPAIR_BURN_START (R524): the first queued repair that may burn begins, and its entry is used. -/
def Dev.burnStart (d : Dev) : Dev :=
  if d.kt.burn.isSome || d.supplyWarn || d.life == Life.retired then d
  else match d.kt.queue.find? d.burnable with
    | none => d
    | some r =>
      let k := d.get Fld.repStatusUsed
      if 512 ≤ k then (d.put Fld.repStatusFull 1).happen Fld.repEventsFull
      else
        let d := { d with kt := { d.kt with queue := d.kt.queue.erase r, burn := some (r, k) } }
        let d := d.put (Fld.repEntryLocLoc k) r.loc
        let d := d.put (Fld.repEntryInfoInfo k) (r.info + d.get Fld.ktBootcntCount)
        let d := (d.put Fld.repStatusUsed (k + 1)).put Fld.repStatusBurning 1
        if k + 1 = 512 then d.put Fld.repStatusFull 1 else d

/-- REPAIR_BURN_DONE (R524): the seal is written. -/
def Dev.burnDone (d : Dev) : Dev :=
  match d.kt.burn with
  | none => d
  | some (_, k) =>
    let d := { d with kt := { d.kt with burn := none, sealed := SMap.set false d.kt.sealed k true } }
    (d.put Fld.repStatusBurning 0).happen Fld.repEventsBurned

/-- A tile swap may start (R522): the engine is in RESET, STOPPED or HALTED, and physical tile 4 of the cluster carries
no logical tile. -/
def Dev.swapAllowed (d : Dev) (n : Nat) : Bool :=
  let st := d.get (Fld.engStatusState n)
  (st == 0 || st == 3 || st == 4) && (d.logical (n / 4) 4).isNone && d.kt.swap.isNone

/-- A host write to REP_CTRL (R522, R540). -/
def Dev.repCtrl (d : Dev) (ag : Agent) (v : Word) : Dev :=
  let n := bitsOf v.toNat 4 4
  if bitsOf v.toNat 16 16 ≠ 0x9616 then d.viol 0 ag Reg.repCtrl
  else if bitsOf v.toNat 0 4 ≠ 1 then d
  else if ag = .host && d.swapAllowed n then { d with kt := { d.kt with swap := some n } }
  else d.viol 0 ag Reg.repCtrl

/-- The copy of a tile swap has ended and a frame boundary has come: the remap takes effect (R522). -/
def Dev.swapDone (d : Dev) : Dev :=
  match d.kt.swap with
  | none => d
  | some n =>
    let old := d.phys n
    let d := { d with kt := { d.kt with swap := none } }
    let d := d.setPhys n 4
    let d := d.softRepair (locWord 0 (n / 4) old 0 0 0) 3 4 false
    (d.dropBit Fld.repTilefailFailing n).happen Fld.repEventsSwapDone

/-- A tile is marked failing (R521). -/
def Dev.markTileFail (d : Dev) (n : Nat) : Dev := (d.setBit Fld.repTilefailFailing n).happen Fld.repEventsTileFail

/-- KT_REC and KT_RECVAL of the slot that KT_RECSEL names (R539). -/
def Dev.ktRec (d : Dev) : Slot := d.slot (d.get Fld.ktRecselSetting) (d.get Fld.ktRecselTurn)

/-- Boot replacement of a failing tile (R23, R518): physical tile `p` of cluster `c` has failed; tile 4 takes its logical
tile if it is free and has passed, else the lowest logical tile without a carrier is unavailable. -/
def Dev.tileFailed (d : Dev) (c p : Nat) (spareOk boot : Bool) : Dev :=
  match d.logical c p with
  | none => d
  | some n =>
    if p ≠ 4 && spareOk && (d.logical c 4).isNone then
      (d.setPhys n 4).softRepair (locWord 0 c p 0 0 0) 3 4 boot
    else d.setUnavail n

/-- ADC channel `n` reports slice `k` as retired (R149, R166). -/
def Dev.retireAdc (d : Dev) (n k : Nat) : Dev := d.put (Fld.anainChStatusRetired n) k

/-- Retire DAC slice `k` of output `o` in its status (R180, R207, R235). -/
def Dev.retireDac (d : Dev) (o k : Nat) : Dev :=
  (d.inc (Fld.outStatusRetired o)).setBit (Fld.outStatusRetiredMask o) k

/-- Output of a die-1 location word (R19, section 1). -/
def locOutput (l : Nat) : Nat := if Loc.tile l = 0 then Loc.bank l else if Loc.tile l = 1 then 4 + Loc.bank l else 6 + Loc.bank l

/-- Location word of DAC slice `k` of output `o` (R19). -/
def dacLoc (o k : Nat) : Nat :=
  if o < 4 then locWord 1 1 0 o k 0 else if o < 6 then locWord 1 1 1 (o - 4) k 0 else locWord 1 1 2 (o - 6) k 0

/-- Location word of ADC slice `k` of channel `n` (R19). -/
def adcLoc (n k : Nat) : Nat := locWord 1 0 (n / 4) (n % 4) k 0

/-- Location word of segment `g` of half-bridge `h` of speaker `n`, cell `c` (R20). -/
def segLoc (n h g c : Nat) : Nat := locWord 2 (n / 2) (n % 2) h g c

/-- A hard repair of the pool is applied (R523): the spare goes into use. -/
def Dev.applyRepair (d : Dev) (l kind spare : Nat) : Dev :=
  if kind = 1 || kind = 2 then (if spareLimit kind ≤ d.sparesUsed l kind then d else d.takeSpare l kind)
  else if kind = 3 then
    match d.logical (Loc.cluster l) (Loc.tile l) with
    | some n => if (d.logical (Loc.cluster l) 4).isNone then d.setPhys n 4 else d
    | none => d
  else if kind = 4 then
    (if d.memc.pool16.isNone then { d with memc := { d.memc with pool16 := some (Loc.bank l - 8) } } else d)
  else if kind = 5 then d.retireAdc (4 * Loc.tile l + Loc.bank l) (Loc.group l)
  else if kind = 6 then d.retireDac (locOutput l) (Loc.group l)
  else if kind = 7 then
    let n := 2 * Loc.cluster l + Loc.tile l
    let (inS, ret) := if Loc.bank l = 0 then (Fld.spkSegpInService n, Fld.spkSegpRetired n)
      else (Fld.spkSegnInService n, Fld.spkSegnRetired n)
    if d.bit inS spare then d else ((d.dropBit inS (Loc.group l)).setBit inS spare).inc ret
  else d

/-- Step 1 of R517: sealed entries in ascending order up to the first unused one; a later entry for the same location
supersedes an earlier one. -/
def Dev.applyPool (d : Dev) : Dev :=
  let es := ((List.range (d.get Fld.repStatusUsed)).filter (fun k => SMap.get false d.kt.sealed k)).map d.entry
  let live := (es.zipIdx.filter (fun e => !(es.drop (e.2 + 1)).any (fun f => f.1 == e.1.1))).map (·.1)
  d.each live (fun d e => d.applyRepair e.1 (e.2 / 2 ^ 29) (bitsOf e.2 24 5))

end Sys2Proof.Machine
end

