-- ==== Sys2Proof/Machine/Output.lean ====
section
/-! DEFINITION. The ten analogue outputs: their states, codes, holds, sequences and slices (chapters 06, 07 and 08). Output
`o`: 0–3 line, 4–5 headphone, 6–9 speaker. -/
namespace Sys2Proof.Machine

/-- STATUS.state (R206, R234). -/
abbrev OutSt.off : Nat := 0
abbrev OutSt.hiz : Nat := 1
abbrev OutSt.powerup : Nat := 2
abbrev OutSt.starting : Nat := 3
abbrev OutSt.running : Nat := 4
abbrev OutSt.stopping : Nat := 5
abbrev OutSt.clear : Nat := 6
abbrev OutSt.failed : Nat := 7
abbrev OutSt.persona : Nat := 8
abbrev OutSt.diag : Nat := 9

/-- An output after a reset, before its boot slice tests. -/
def Out.init : Out :=
  { ready := false, spk := .hiz, cm := 0, level := 0, lvl0 := 0, blocks := [], prog := 0, fin := .state 0, hold := .none,
    acquired := false, esc := false, recovering := false, svc := List.range 8, wait := none, cal := none, swap := none,
    bad := 0 }

/-- Output `o`. -/
def Dev.out (d : Dev) (o : Nat) : Out := SMap.get Out.init d.outs o

/-- Set output `o`. -/
def Dev.setOut (d : Dev) (o : Nat) (x : Out) : Dev := { d with outs := SMap.set Out.init d.outs o x }

/-- Change output `o`. -/
def Dev.modOut (d : Dev) (o : Nat) (f : Out → Out) : Dev := d.setOut o (f (d.out o))

/-- STATUS.state of output `o`. -/
def Dev.outSt (d : Dev) (o : Nat) : Nat := d.get (Fld.outStatusState o)

/-- Set STATUS.state. -/
def Dev.setOutSt (d : Dev) (o st : Nat) : Dev := d.put (Fld.outStatusState o) st

/-- Output `o` is a speaker output. -/
def isSpk (o : Nat) : Bool := decide (6 ≤ o)

/-- The domain of output `o` (R27, R210). -/
def outDom (o : Nat) : Nat := if o < 4 then Dom.lineout else if o < 6 then Dom.hp else Dom.spk ((o - 6) / 2)

/-- Full sequence gain and common mode (R260: 0x8000 = 1). -/
abbrev fullGain : Nat := 0x8000

/-- The upper channel of a paralleled pair (R214). -/
def Dev.upper (d : Dev) (o : Nat) : Bool := (o == 7 && d.is Fld.spkPairPar01) || (o == 9 && d.is Fld.spkPairPar23)

/-- The speaker outputs that act with output `o`: the pair when paralleled (R214). -/
def Dev.pairOf (d : Dev) (o : Nat) : List Nat :=
  if (o == 6 || o == 7) && d.is Fld.spkPairPar01 then [6, 7]
  else if (o == 8 || o == 9) && d.is Fld.spkPairPar23 then [8, 9] else [o]

/-- The package releases its outputs: PAIRING or STANDBY (R196 row 2, R491). -/
def Dev.released (d : Dev) : Bool := d.get Fld.hingeStatusRole == 1 || d.get Fld.hingeStatusRole == 3

/-- The POWERUP_CODE setting rules, whatever the sources say (R192). -/
def Dev.settingCodes (d : Dev) : Bool :=
  let b := d.bootSt
  if b = BootSt.running ∨ b = BootSt.live ∨ b = BootSt.reseat then false
  else if b = BootSt.commit then !d.boot.everRun && decide (d.boot.commit < 5) else true

/-- The power-up code P of output `o` (R191, R192). -/
def Dev.puCode (d : Dev) (o : Nat) : Nat :=
  if d.settingCodes || d.is (Fld.outCfgPuSrc o) then d.kt! (9 + o) else d.get (Fld.outCodesPuCode o)

/-- The clear code K of output `o` (R191). -/
def Dev.clrCode (d : Dev) (o : Nat) : Nat :=
  if d.is (Fld.outCfgClrSrc o) then d.kt! (9 + o) else d.get (Fld.outCodesClrCode o)

/-- The state that a code selects on a speaker output (R212). -/
def spkState (code : Nat) : SpkSt := if code = 0x8000 then .clamp else if code = 0x7FFF then .hiz else .zero

/-- Causes of high impedance of a speaker channel (R228), of the pair when paralleled (R214). -/
def Dev.hizCauses (d : Dev) (o : Nat) : Nat :=
  ((d.pairOf o).map (fun p => bitsOf (d.rd (Reg.outStatus p)).toNat 5 5)).foldl (· ||| ·) 0

/-- hiz_cause.stage is set on the channel or its pair (R217). -/
def Dev.stageFailed (d : Dev) (o : Nat) : Bool := isSpk o && bitOf (d.hizCauses o) 0

/-- Some cause of rows 1 to 3 of R196, chain readiness included, keeps the pin in high impedance. -/
def Dev.pinHiz (d : Dev) (o : Nat) : Bool :=
  !(d.out o).ready || d.released || (d.out o).esc || (isSpk o && d.hizCauses o != 0)

/-- Some clear cause of rows 4 and 5 of R196 holds: STATUS.clr_cause (R206). -/
def Dev.clrCauses (d : Dev) (o : Nat) : Nat := d.get (Fld.outStatusClrCause o)

/-- Bits of STATUS.clr_cause (R206). -/
abbrev Cause.outClr : Nat := 0
abbrev Cause.fallback : Nat := 1
abbrev Cause.protect : Nat := 2
abbrev Cause.failed : Nat := 3

/-- Set or clear a bit of STATUS.clr_cause. -/
def Dev.setCause (d : Dev) (o c : Nat) (b : Bool) : Dev := d.putBit (Fld.outStatusClrCause o) c b

/-- PWM frames per frame (R174). -/
def Dev.ppf (d : Dev) : Nat := if d.get Fld.clkPlanRate = 0 then 16 else 8

/-- Block lengths A, D and C of R239. -/
def Dev.lenA (d : Dev) (o : Nat) : Nat :=
  let a := 16 * (d.get (Fld.seqCfgRamp o) + 1)
  if d.is (Fld.seqStatusMuteSupply o) then min a 768 else a
def Dev.lenD (d : Dev) (o : Nat) : Nat := 384 * (d.get (Fld.seqCfgDc o) + 1)
def Dev.lenC (d : Dev) (o : Nat) : Nat := 384 * (d.get (Fld.seqCfgCm o) + 1)

/-- Some mute cause of R243 holds. -/
def Dev.muted (d : Dev) (o : Nat) : Bool := bitsOf (d.rd (Reg.seqStatus o)).toNat 9 3 != 0

/-- The sequence gain (R260). -/
def Dev.gain (d : Dev) (o : Nat) : Nat := d.get (Fld.seqStatusGain o)

/-- Set the sequence gain. -/
def Dev.setGain (d : Dev) (o g : Nat) : Dev := d.put (Fld.seqStatusGain o) g

/-- SEQn_STATUS.step of a block (R260). -/
def Blk.step : Blk → Nat
  | .servo => 1
  | .glide _ => 2
  | .shift _ => 2
  | .clamp => 3
  | .release => 3
  | .cmUp => 4
  | .cmDown => 4
  | .rampUp => 5
  | .rampDown => 5
  | .takeRamp => 5
  | .dwell => 7

/-- The block would hold its level for no time (R239, R240, R242). -/
def Dev.skips (d : Dev) (o : Nat) (b : Blk) : Bool :=
  match b with
  | .servo => !d.is (Fld.seqCfgServoEn o) || (d.out o).acquired || d.is (Fld.outStatusPersona o) && decide (o < 4)
  | .glide t => (d.out o).level == t
  | .shift t => (d.out o).level == t
  | .clamp => (d.out o).spk != .hiz
  | .release => (d.out o).spk == .hiz
  | .cmUp => decide (fullGain ≤ (d.out o).cm)
  | .cmDown => (d.out o).cm == 0
  | .rampUp => d.muted o || d.gain o == fullGain
  | .takeRamp => d.muted o || d.gain o == fullGain
  | .rampDown => d.gain o == 0
  | .dwell => false

/-- A block begins: the step shown, its start level, the servo acquiring (R241, R242). -/
def Dev.beginBlk (d : Dev) (o : Nat) (b : Blk) : Dev :=
  let d := d.modOut o (fun x => { x with prog := 0, lvl0 := x.level })
  let d := d.put (Fld.seqStatusStep o) b.step
  if b = .servo then d.put (Fld.seqStatusServo o) 1 else d

/-- Begin a hold of kind `h` on output `o` (R195, R213): STATUS.holding and step 6. -/
def Dev.startHold (d : Dev) (o : Nat) (h : HoldK) : Dev :=
  ((d.modOut o (fun x => { x with hold := h })).put (Fld.outStatusHolding o) 1).put (Fld.seqStatusStep o) 6

/-- End a hold. -/
def Dev.dropHold (d : Dev) (o : Nat) : Dev :=
  ((d.modOut o (fun x => { x with hold := .none })).put (Fld.outStatusHolding o) 0).put (Fld.seqStatusStep o) 0

/-- The persona of a line output takes effect (R182, R245 step 3): the servo is off or unacquired. -/
def Dev.switchPersona (d : Dev) (o : Nat) : Dev :=
  ((d.put (Fld.outStatusPersona o) (d.kt! (5 + o))).modOut o (fun x => { x with acquired := false })).put
    (Fld.seqStatusServo o) 0

/-- What the end of a sequence does other than start another one (R242, R245). -/
def Dev.finish (d : Dev) (o : Nat) : Dev :=
  let d := d.put (Fld.seqStatusStep o) 0
  match (d.out o).fin with
  | .state st => d.setOutSt o st
  | .persona => (d.switchPersona o).startHold o .persona
  | .unmute => d

/-- Blocks to active zero (R240). -/
def upPath : List Blk := [.clamp, .cmUp]

/-- Blocks from the present speaker state to state `t` (R240); blocks that change nothing are skipped as they begin. -/
def spkPath (t : SpkSt) : List Blk :=
  match t with
  | .zero => upPath
  | .clamp => [.clamp, .cmDown]
  | .hiz => [.cmDown, .release]

/-- The start sequence's blocks (R242). -/
def startBlks (o : Nat) : List Blk := if isSpk o then upPath ++ [.servo, .rampUp] else [.servo, .glide 0, .rampUp]

/-- Move to a code (R190, R212): line and headphone glide, speaker follows its path. -/
def toCode (o code : Nat) : List Blk := if isSpk o then spkPath (spkState code) else [.glide (sgn 16 code)]

/-- Drop the blocks that hold for no time and begin the first that does not; with none left, the sequence ends. -/
def Dev.advance (d : Dev) (o : Nat) : List Blk → Dev
  | [] => (d.modOut o (fun x => { x with blocks := [] })).finish o
  | b :: bs =>
    if d.skips o b then d.advance o bs else (d.modOut o (fun x => { x with blocks := b :: bs })).beginBlk o b

/-- Start a sequence (R242): blocks, the state during it, and what follows. -/
def Dev.startSeq (d : Dev) (o : Nat) (bs : List Blk) (st : Nat) (fin : SeqEnd) : Dev :=
  ((d.modOut o (fun x => { x with fin := fin })).setOutSt o st).advance o bs

/-- Unmute from a clear code (R242), after the exit hold: to playing, or to the power-up code. -/
def Dev.unmuteClear (d : Dev) (o : Nat) : Dev :=
  if d.is (Fld.outCtrlRun o) then d.startSeq o (startBlks o) OutSt.starting (.state OutSt.running)
  else d.startSeq o (toCode o (d.puCode o)) OutSt.powerup (.state OutSt.powerup)

/-- The start sequence (R193, R242). -/
def Dev.startOut (d : Dev) (o : Nat) : Dev := d.startSeq o (startBlks o) OutSt.starting (.state OutSt.running)

/-- The stop sequence (R193, R242), from the present gain, level and common mode (R244). -/
def Dev.stopOut (d : Dev) (o : Nat) : Dev :=
  d.startSeq o (.rampDown :: toCode o (d.puCode o)) OutSt.stopping (.state OutSt.powerup)

/-- Abandon the sequence in progress (R244): sequence gain 0 (R242). -/
def Dev.abandon (d : Dev) (o : Nat) : Dev :=
  ((d.modOut o (fun x => { x with blocks := [], prog := 0 })).setGain o 0).put (Fld.seqStatusStep o) 0

/-- The output realises its clear code: the level, or the state on a speaker (R190, R212). -/
def Dev.atClear (d : Dev) (o : Nat) : Dev :=
  let k := d.clrCode o
  d.modOut o (fun x =>
    if isSpk o then { x with spk := spkState k, cm := if spkState k = .zero then fullGain else 0 }
    else { x with level := sgn 16 k })

/-- The output realises its power-up code directly (R193). -/
def Dev.atPowerup (d : Dev) (o : Nat) : Dev :=
  let p := d.puCode o
  d.modOut o (fun x =>
    if isSpk o then { x with spk := spkState p, cm := if spkState p = .zero then fullGain else 0 }
    else { x with level := sgn 16 p })

/-- CLEAR, or FAILED when the cause of row 4 holds (R206). -/
def Dev.clearSt (d : Dev) (o : Nat) : Nat := if bitOf (d.clrCauses o) Cause.failed then OutSt.failed else OutSt.clear

/-- STATUS.state shows a pin that no clear cause moves: OFF or high impedance, a failed stage included. -/
def Dev.undriven (d : Dev) (o : Nat) : Bool := d.outSt o == OutSt.off || d.outSt o == OutSt.hiz || d.stageFailed o

/-- Entry to the clear code (R190): under a deglitch hold, or in fallback without one (R89). An undriven output and one
already at its clear code only change what they show. -/
def Dev.enterClear (d : Dev) (o : Nat) (fallback : Bool) : Dev :=
  if d.undriven o || d.upper o then d
  else if (d.outSt o == OutSt.clear || d.outSt o == OutSt.failed) && (d.out o).hold != .exit then
    d.setOutSt o (d.clearSt o)
  else
    let d := ((d.abandon o).setOutSt o (d.clearSt o)).atClear o
    if fallback then d.dropHold o else d.startHold o .entry

/-- The output enters high impedance at once (R196 rows 1 to 3, R228): gain 0, no hold. -/
def Dev.enterHiz (d : Dev) (o : Nat) : Dev :=
  let d := (d.abandon o).modOut o (fun x => { x with hold := .none, spk := .hiz, cm := 0, level := 0, swap := none })
  (d.put (Fld.outStatusHolding o) 0).setOutSt o
    (if !d.on (outDom o) || d.upper o then OutSt.off else if d.stageFailed o then OutSt.failed else OutSt.hiz)

/-- Every clear cause has ended (R196): the exit hold begins. -/
def Dev.tryExit (d : Dev) (o : Nat) : Dev :=
  if d.outSt o == OutSt.clear && d.clrCauses o == 0 && (d.out o).hold == .none && !(d.out o).recovering && !d.pinHiz o then
    d.startHold o .exit
  else d

/-- Start the load diagnostic (R220): the stage does not switch. -/
def Dev.startDiag (d : Dev) (o : Nat) : Dev :=
  (d.modOut o (fun x => { x with blocks := [], spk := .hiz, cm := 0 })).setOutSt o OutSt.diag

/-- The output takes the state of R196 directly, as at readiness (R193): clear code without a hold, or the power-up code
and, if run is 1, the start sequence. -/
def Dev.settleOut (d : Dev) (o : Nat) : Dev :=
  if d.upper o then d.setOutSt o OutSt.off
  else if d.pinHiz o then d.enterHiz o
  else if d.clrCauses o ≠ 0 then (((d.abandon o).setOutSt o (d.clearSt o)).atClear o).dropHold o
  else
    let d := (((d.abandon o).setOutSt o OutSt.powerup).atPowerup o).dropHold o
    if d.is (Fld.outCtrlRun o) then d.startOut o else d

/-- A cause of high impedance has ended: the short latch first runs its load diagnostic (R219); otherwise the output takes
the state of R196. -/
def Dev.leaveHiz (d : Dev) (o : Nat) : Dev :=
  if d.outSt o != OutSt.hiz then d
  else if isSpk o && d.is (Fld.spkStatusHizCauseShort (o - 6)) && !d.is (Fld.spkEventsShort (o - 6)) &&
      (d.hizCauses o == 16) && (d.out o).ready && !d.released then d.startDiag o
  else d.settleOut o

/-- The chain becomes ready (R193). During the boot tests every pin is held in high impedance (R517). -/
def Dev.chainReady (d : Dev) (o : Nat) : Dev :=
  if (d.out o).ready || !d.on (outDom o) || d.bootSt == BootSt.selftest then d else (d.modOut o (fun x => { x with ready := true })).settleOut o

/-- CHAIN_READY of output `o`: a headphone chain needs the pump (R188), a speaker chain PVDD and its segment tests (R225,
R519). -/
def Dev.chainReadyEvent (d : Dev) (o : Nat) : Dev :=
  if (o < 4) || (o < 6 && d.is Fld.hpPumpReady) ||
      (isSpk o && d.is Fld.spkPvddReady && !d.is Fld.repStatusSpkDeferred) then d.chainReady o
  else d

/-- The output's domain goes off, or into retention (R196 row 1, R247). Off loses the servo's acquisition (R241). -/
def Dev.outDown (d : Dev) (o : Nat) (off : Bool) : Dev :=
  let d := d.modOut o (fun x => { x with ready := false, acquired := x.acquired && !off })
  let d := if off then d.put (Fld.seqStatusServo o) 0 else d
  d.enterHiz o

/-- A write to CTRL.run (R193, R242, R244). The upper channel of a pair ignores it and it is counted (R214). -/
def Dev.outputRun (d : Dev) (ag : Agent) (o : Nat) (run : Bool) : Dev :=
  if d.upper o then d.viol 0 ag (Reg.outCtrl o)
  else if d.is (Fld.outCtrlRun o) == run then d
  else
    let d := d.flag (Fld.outCtrlRun o) run
    let st := d.outSt o
    if run then
      if st = OutSt.diag then
        if d.hizCauses o = 0 then ((d.put (Fld.spkDiagResult (o - 6)) 5).setOutSt o OutSt.powerup).startOut o else d
      else if st = OutSt.powerup ∨ st = OutSt.stopping then d.startOut o else d
    else if st = OutSt.starting ∨ st = OutSt.running then d.stopOut o else d

/-- A mute cause of output `o` begins or ends (R243, R244): the gain ramp turns towards its new target. -/
def Dev.setMute (d : Dev) (o : Nat) (f : Nat → Fld) (b : Bool) : Dev :=
  let was := d.muted o
  let d := d.flag (f o) b
  let st := d.outSt o
  let head := (d.out o).blocks.head?
  let ramping := head == some .rampUp || head == some .rampDown || head == some .takeRamp
  if d.muted o == was then d
  else if st = OutSt.running ∨ (st = OutSt.starting ∧ ramping) then
    d.startSeq o [if d.muted o then .rampDown else .rampUp] st (.state OutSt.running)
  else if st = OutSt.starting ∧ (d.out o).blocks = [] then d.startSeq o [.rampUp] st (.state OutSt.running)
  else d

/-- A write to SEQn_CTRL.mute (R243). -/
def Dev.seqMute (d : Dev) (o : Nat) (b : Bool) : Dev :=
  (d.flag (Fld.seqCtrlMute o) b).setMute o Fld.seqStatusMuteSoftware b

/-- The head block has run its length: its effect (R239). -/
def Dev.blkEffect (d : Dev) (o : Nat) (b : Blk) (trim : Int) (limit : Bool) : Dev :=
  match b with
  | .servo =>
    let d := (d.modOut o (fun x => { x with acquired := true })).put (Fld.seqTrimTrim o) (unsg 16 trim)
    let d := d.put (Fld.seqStatusServo o) (if limit then 3 else 2)
    if limit then d.happenAt Fld.seqEventsServoLimit o else d
  | .glide t => d.modOut o (fun x => { x with level := t })
  | .shift t => d.modOut o (fun x => { x with level := t })
  | .clamp => d.modOut o (fun x => { x with spk := .clamp })
  | .release => d.modOut o (fun x => { x with spk := .hiz })
  | .cmUp => d.modOut o (fun x => { x with spk := .zero, cm := fullGain })
  | .cmDown => d.modOut o (fun x => { x with spk := .clamp, cm := 0 })
  | .rampUp => d.setGain o fullGain
  | .takeRamp => d.setGain o fullGain
  | .rampDown => d.setGain o 0
  | .dwell => d

/-- After a sequence has ended: a dwell is followed by the unmute from a clear code (R245 step 5). -/
def Dev.afterSeq (d : Dev) (o : Nat) : Dev :=
  if (d.out o).blocks = [] && (d.out o).fin == .unmute then d.unmuteClear o else d

/-- SEQ_BLOCK_DONE (R242): the head block of output `o` ends. -/
def Dev.blkDone (d : Dev) (o : Nat) (trim : Int) (limit : Bool) : Dev :=
  match (d.out o).blocks with
  | [] => d
  | b :: bs => ((d.blkEffect o b trim limit).advance o bs).afterSeq o

/-- The part of a block that `n` more PWM frames make (R239, R240): gain, common mode and level move linearly. -/
def Dev.blkProgress (d : Dev) (o n : Nat) : Dev :=
  match (d.out o).blocks with
  | [] => d
  | b :: _ =>
    let x := d.out o
    let p := x.prog + n
    let d := d.setOut o { x with prog := p }
    match b with
    | .rampUp => d.setGain o (min fullGain (d.gain o + n * fullGain / d.lenA o))
    | .takeRamp => d.setGain o (min fullGain (d.gain o + n * fullGain / (if isSpk o then 512 else 768)))
    | .rampDown => d.setGain o (d.gain o - n * fullGain / d.lenA o)
    | .cmUp => d.modOut o (fun x => { x with cm := min fullGain (x.cm + n * fullGain / d.lenC o), spk := .zero })
    | .cmDown => d.modOut o (fun x => { x with cm := x.cm - n * fullGain / d.lenC o })
    | .glide t => d.modOut o (fun x => { x with level := x.lvl0 + (t - x.lvl0) * (min p (d.lenD o)) / (d.lenD o) })
    | .shift t => d.modOut o (fun x => { x with level := x.lvl0 + (t - x.lvl0) * (min p 768) / 768 })
    | _ => d

/-- Segment swap at the end of its hold (R216). -/
def Dev.endSwap (d : Dev) (o : Nat) : Dev :=
  match (d.out o).swap with
  | none => d
  | some (h, seg, cell, spare) =>
    let n := o - 6
    let (inS, ret) := if h = 0 then (Fld.spkSegpInService n, Fld.spkSegpRetired n)
      else (Fld.spkSegnInService n, Fld.spkSegnRetired n)
    let d := d.modOut o (fun x => { x with swap := none })
    let d := ((d.dropBit inS seg).setBit inS spare).inc ret
    (d.happen (Fld.spkEventsSegRetired n)).softRepair (segLoc n h seg cell) 7 spare false

/-- HOLD_END (R195, R213, R216, R245). -/
def Dev.holdEnd (d : Dev) (o : Nat) : Dev :=
  let h := (d.out o).hold
  let d := if h = .none then d else (d.dropHold o).endSwap o
  match h with
  | .none => d
  | .entry => d.tryExit o
  | .restart => d.tryExit o
  | .exit => (d.unmuteClear o).afterSeq o
  | .persona => d.startSeq o [.dwell] OutSt.persona .unmute
  | .refgain => d
  | .slice => d
  | .segment => d
  | .fsp => d

/-- A change of reference gain or full-scale peak commits (R183, R211): a major transition while the output drives; a
speaker at its power-up code, in high impedance, in a diagnostic or FAILED needs no hold. -/
def Dev.scaleChange (d : Dev) (o : Nat) : Dev :=
  let st := d.outSt o
  if d.undriven o || (isSpk o && (st == OutSt.powerup || st == OutSt.diag || st == OutSt.failed)) then d
  else d.startHold o (if (d.out o).hold = .none then (if isSpk o then .fsp else .refgain) else (d.out o).hold)

/-- The code that an output holds has changed (R192): it moves to it. -/
def Dev.codeChange (d : Dev) (o : Nat) : Dev :=
  let st := d.outSt o
  let go (code : Nat) : Dev :=
    d.startSeq o (if isSpk o then spkPath (spkState code) else [.shift (sgn 16 code)]) st (.state st)
  if d.undriven o || d.upper o then d
  else if st = OutSt.powerup then go (d.puCode o)
  else if (st = OutSt.clear ∨ st = OutSt.failed) ∧ (d.out o).hold = .none then go (d.clrCode o)
  else d

/-- PERSONA_SEQUENCE of line output `o` (R182, R245): at the frame boundary after the setting has changed. -/
def Dev.personaSeq (d : Dev) (o : Nat) : Dev :=
  let st := d.outSt o
  if d.kt! (5 + o) = d.get (Fld.outStatusPersona o) ∨ st = OutSt.persona then d
  else if d.undriven o then d.switchPersona o
  else if st = OutSt.clear ∨ st = OutSt.failed then (d.switchPersona o).startHold o .entry
  else d.startSeq o [.rampDown, .glide (sgn 16 (d.clrCode o))] OutSt.persona .persona

/-- A slice out of service goes back or is retired (R180). The replacing slice recorded is the waiting one. -/
def Dev.retireSlice (d : Dev) (o k : Nat) : Dev :=
  let d := (d.retireDac o k).happen (Fld.outEventsRetired o)
  d.softRepair (dacLoc o k) 6 ((d.out o).wait.getD 0) false

/-- STATUS.out_slice of the slice out for calibration (R206). -/
def Dev.showOutSlice (d : Dev) (o : Nat) : Dev := d.put (Fld.outStatusOutSlice o) ((d.out o).cal.getD 15)

/-- DAC_SLICE_SWAP (R179): the slice longest in service leaves, the calibrated waiting slice joins. -/
def Dev.dacSwap (d : Dev) (o : Nat) : Dev :=
  let x := d.out o
  match x.wait, x.svc with
  | some w, s :: rest =>
    if d.bit Fld.outCalctrlRotEn o then
      (d.setOut o { x with svc := rest ++ [w], wait := x.cal, cal := some s }).showOutSlice o
    else d
  | _, _ => d

/-- DAC_SLICE_CAL_DONE (R179, R180): `beyond` its trim range the slice is retired; with no other slice waiting it waits. -/
def Dev.dacCalDone (d : Dev) (o : Nat) (beyond : Bool) : Dev :=
  let x := d.out o
  match x.cal with
  | none => d
  | some c =>
    if beyond then ((d.setOut o { x with cal := none }).retireSlice o c).showOutSlice o
    else if x.wait = none then (d.setOut o { x with wait := some c, cal := none }).showOutSlice o
    else d

/-- DAC_SLICE_CHECK_FAIL (R181): exchange under a hold with the waiting slice, which is retired, or the output fails. -/
def Dev.dacFail (d : Dev) (o k : Nat) : Dev :=
  let x := d.out o
  if !x.svc.contains k then d
  else match x.wait with
    | some w =>
      let d := d.retireSlice o k
      let d := d.modOut o (fun y => { y with svc := (y.svc.filter (· != k)) ++ [w], wait := none })
      if d.undriven o then d else d.startHold o (if x.hold = .none then .slice else x.hold)
    | none =>
      let d := (d.setCause o Cause.failed true).happen (Fld.outEventsFailed o)
      d.enterClear o false

/-- COMPLIANCE_TRIP of line output `o` (R185): only in the current persona while the stage drives. -/
def Dev.complianceTrip (d : Dev) (o : Nat) : Dev :=
  if !d.is (Fld.outStatusPersona o) || d.undriven o then d
  else
    let d := (d.happen (Fld.outEventsProtect o)).setCause o Cause.protect true
    (d.modOut o (fun x => { x with recovering := false })).enterClear o false

/-- COMPLIANCE_HIZ (R185): still outside the window 1 ms after the hold. -/
def Dev.complianceHiz (d : Dev) (o : Nat) : Dev :=
  if bitOf (d.clrCauses o) Cause.protect && d.is (Fld.outStatusPersona o) && !d.undriven o && (d.out o).hold == .none &&
      !(d.out o).recovering then
    ((d.modOut o (fun x => { x with esc := true })).enterHiz o).happen (Fld.outEventsHiz o)
  else d

/-- COMPLIANCE_CLEARED (R186): with EVENTS.protect and EVENTS.hiz both clear, a driver in high impedance starts again at
its clear code under a hold, and the millisecond inside the window is awaited. -/
def Dev.complianceCleared (d : Dev) (o : Nat) : Dev :=
  if d.is (Fld.outEventsProtect o) || d.is (Fld.outEventsHiz o) || !bitOf (d.clrCauses o) Cause.protect then d
  else if (d.out o).esc then
    let d := d.modOut o (fun x => { x with esc := false, recovering := true })
    if d.pinHiz o then d else ((d.setOutSt o (d.clearSt o)).atClear o).startHold o .restart
  else d.modOut o (fun x => { x with recovering := true })

/-- COMPLIANCE_RECOVER (R186): 1 ms inside the window. -/
def Dev.complianceRecover (d : Dev) (o : Nat) : Dev :=
  if (d.out o).recovering && (d.out o).hold == .none then
    ((d.setCause o Cause.protect false).modOut o (fun x => { x with recovering := false })).tryExit o
  else d

/-- HP_CURRENT_LIMIT of output `o` (R189). -/
def Dev.hpLimit (d : Dev) (o : Nat) : Dev :=
  if d.undriven o then d
  else
    let d := d.put Fld.hpPumpLimit 1
    ((d.happen (Fld.outEventsProtect o)).setCause o Cause.protect true).enterClear o false

/-- HP_PROTECT_CLEARED (R189): EVENTS.protect has been cleared. -/
def Dev.hpCleared (d : Dev) (o : Nat) : Dev :=
  if d.is (Fld.outEventsProtect o) || !bitOf (d.clrCauses o) Cause.protect then d
  else
    let d := d.setCause o Cause.protect false
    let d := d.flag Fld.hpPumpLimit (bitOf (d.clrCauses 4) Cause.protect || bitOf (d.clrCauses 5) Cause.protect)
    d.tryExit o

/-- PUMP_READY (R188, R193): both headphone chains are ready. -/
def Dev.pumpReady (d : Dev) : Dev :=
  if d.on Dom.hp && d.bootSt != BootSt.selftest then ((d.put Fld.hpPumpReady 1).chainReady 4).chainReady 5 else d

/-- OUT_CLR_ASSERT (R194). -/
def Dev.outClrAssert (d : Dev) : Dev :=
  if d.pins.outClr then d
  else
    let d := { d with pins := { d.pins with outClr := true } }
    let d := (d.put Fld.outClrstatPinLow 1).inc Fld.outClrstatAsserts
    d.each (List.range 10) (fun d o => (d.setCause o Cause.outClr true).enterClear o false)

/-- OUT_CLR_RELEASE (R194). -/
def Dev.outClrRelease (d : Dev) : Dev :=
  if !d.pins.outClr then d
  else
    let d := { d with pins := { d.pins with outClr := false } }
    (d.put Fld.outClrstatPinLow 0).each (List.range 10) (fun d o => (d.setCause o Cause.outClr false).tryExit o)

/-- Fallback begins for the outputs (R89): no hold. -/
def Dev.outFallback (d : Dev) : Dev :=
  d.each (List.range 10) (fun d o => (d.setCause o Cause.fallback true).enterClear o true)

/-- Fallback ends for the outputs (R89): each leaves its clear code under an exit hold unless another cause holds. -/
def Dev.outSwitchBack (d : Dev) : Dev :=
  d.each (List.range 10) (fun d o => (d.setCause o Cause.fallback false).tryExit o)

/-- Takeover of output `o` (R246): drivers switch on at level 0, speakers at ground clamp, gain 0; then by R196. -/
def Dev.takeoverOut (d : Dev) (o : Nat) : Dev :=
  if d.upper o then d
  else
    let d := (d.abandon o).modOut o (fun x => { x with hold := .none, level := 0, spk := .clamp, cm := 0 })
    if d.pinHiz o then d.enterHiz o
    else if d.clrCauses o ≠ 0 then d.startSeq o (toCode o (d.clrCode o)) (d.clearSt o) (.state (d.clearSt o))
    else if d.is (Fld.outCtrlRun o) then
      d.startSeq o (if isSpk o then [.cmUp, .takeRamp] else [.takeRamp]) OutSt.starting (.state OutSt.running)
    else d.startSeq o (toCode o (d.puCode o)) OutSt.powerup (.state OutSt.powerup)

/-- The package is released (PAIRING, STANDBY, dead-man): every output goes to high impedance (R196 row 2). -/
def Dev.releaseOuts (d : Dev) : Dev := d.each (List.range 10) (fun d o => d.enterHiz o)

/-- Initial slices after the boot slice tests (R179): the eight lowest slices not retired serve; one out of service waits,
and of two the lower is out for calibration. -/
def Dev.bootSlices (d : Dev) (o : Nat) : Dev :=
  let ok := (List.range 10).filter (fun k => !d.bit (Fld.outStatusRetiredMask o) k)
  let rest := ok.drop 8
  let (w, c) := match rest with
    | [] => (none, none)
    | [a] => (some a, none)
    | a :: b :: _ => (some b, some a)
  (d.modOut o (fun x => { x with svc := ok.take 8, wait := w, cal := c })).showOutSlice o

/-- The SPK_CEILING code in effect (R224): of a pair the lower ceiling, codes outside 10 to 200 being none. -/
def Dev.ceilings (d : Dev) : Dev :=
  d.each (List.range 4) (fun d n =>
    let codes := (d.pairOf (6 + n)).map (fun o => d.kt! (19 + (o - 6)))
    let real := codes.filter (fun c => decide (10 ≤ c) && decide (c ≤ 200))
    d.put (Fld.spkLimitsCeiling n) (match real with
      | [] => d.kt! (19 + n)
      | c :: cs => cs.foldl min c))

end Sys2Proof.Machine
end

