-- ==== Sys2Proof/Machine/Speaker.lean ====
section
/-! DEFINITION. The speaker stages: segments, shorts, diagnostics, pilot supervision, PVDD and temperature (chapter 07).
Channel `n` is output `6 + n`. -/
namespace Sys2Proof.Machine

/-- In-service segments of half-bridge `h` of channel `n` (R236). -/
def segFld (n h : Nat) : Fld := if h = 0 then Fld.spkSegpInService n else Fld.spkSegnInService n

/-- Segments retired of half-bridge `h` of channel `n` (R236). -/
def segRetFld (n h : Nat) : Fld := if h = 0 then Fld.spkSegpRetired n else Fld.spkSegnRetired n

/-- The outputs of the stages that stop with channel `n`: its pair when paralleled (R214), the upper one showing OFF. -/
def Dev.stopStages (d : Dev) (n : Nat) : Dev := d.each (d.pairOf (6 + n)) (fun d o => d.enterHiz o)

/-- SEGMENT_FAILING (R215 to R217): segment `seg` of half-bridge `h` of channel `n`, location cell `cell`. -/
def Dev.segFailing (d : Dev) (n h seg cell : Nat) : Dev :=
  let o := 6 + n
  if !d.bit (segFld n h) seg || (d.out o).swap.isSome then d
  else
    match if 2 ≤ d.get (segRetFld n h) then none else [16, 17].find? (fun s => !d.bit (segFld n h) s) with
    | some spare =>
      let d := d.modOut o (fun x => { x with swap := some (h, seg, cell, spare) })
      d.startHold o (if (d.out o).hold = .none then .segment else (d.out o).hold)
    | none =>
      let d := (d.put (Fld.spkStatusHizCauseStage n) 1).happen (Fld.spkEventsFailed n)
      d.stopStages n

/-- SPK_SHORT_TRIP (R219): every segment off at once, latched. -/
def Dev.shortTrip (d : Dev) (n : Nat) : Dev :=
  ((d.put (Fld.spkStatusHizCauseShort n) 1).happen (Fld.spkEventsShort n)).stopStages n

/-- The channels whose output a change on channel `n` concerns: the lower one of a pair (R214). -/
def Dev.lowerOf (d : Dev) (n : Nat) : Nat := ((d.pairOf (6 + n)).head?).getD (6 + n)

/-- SPK_SHORT_CLEARED (R219): EVENTS.short has been cleared; the channel runs the load diagnostic. -/
def Dev.shortCleared (d : Dev) (n : Nat) : Dev :=
  if d.is (Fld.spkEventsShort n) || !d.is (Fld.spkStatusHizCauseShort n) then d
  else
    let o := d.lowerOf n
    if d.outSt o == OutSt.hiz && d.hizCauses o == 16 && (d.out o).ready && !d.released then d.startDiag o else d

/-- A write of 1 to SPKn_CTRL.diag (R220): only in POWERUP, and not on the upper channel of a pair (R214). -/
def Dev.spkDiag (d : Dev) (ag : Agent) (n : Nat) : Dev :=
  let o := 6 + n
  if d.upper o || d.outSt o != OutSt.powerup then d.viol 0 ag (Reg.spkCtrl n) else d.startDiag o

/-- The result of a diagnostic (R220, R237): `pin` is the failing phase 1 (false to ground, true to PVDD), `r` the
measured resistance in 1/16 Ω. -/
def Dev.diagResult (d : Dev) (n : Nat) (pin : Option Bool) (r : Nat) : Nat :=
  match pin with
  | some false => 3
  | some true => 4
  | none =>
    if r < d.get (Fld.spkDiagcfgShortTh n) then 2 else if 16 * d.get (Fld.spkDiagcfgOpenTh n) < r then 1 else 0

/-- DIAG_DONE (R219, R220): the result is written; a short found after a trip latches again, else the latch of the pair
ends. -/
def Dev.diagDone (d : Dev) (n : Nat) (pin : Option Bool) (r : Nat) : Dev :=
  let o := 6 + n
  if d.outSt o != OutSt.diag then d
  else
    let res := d.diagResult n pin r
    let d := d.put (Fld.spkDiagResult n) res
    let d := if pin.isNone then d.put (Fld.spkDiagRMeas n) (min r 0xFFFF) else d
    let d := d.happen (Fld.spkEventsDiagDone n)
    let latched := (d.pairOf o).filter (fun p => d.is (Fld.spkStatusHizCauseShort (p - 6)))
    if latched.isEmpty then d.settleOut o
    else if res = 2 ∨ res = 3 ∨ res = 4 then
      (d.each latched (fun d p => d.happen (Fld.spkEventsShort (p - 6)))).setOutSt o OutSt.hiz
    else (d.each latched (fun d p => d.put (Fld.spkStatusHizCauseShort (p - 6)) 0)).settleOut o

/-- The house rate in Hz (R4, R96). -/
def Dev.houseRate (d : Dev) : Nat :=
  (if d.is Fld.clkPlanFamily then 44100 else 48000) * (if d.get Fld.clkPlanRate = 0 then 1 else 2)

/-- The generator is enabled and its frequency lies between 19.0 kHz and 0.44 fs (R222). -/
def Dev.pilotFreqOk (d : Dev) (g : Nat) : Bool :=
  let inc := d.get (Fld.toneFreqInc g)
  d.is (Fld.toneCfgEn g) && decide (19000 * 2 ^ 32 ≤ inc * d.houseRate) && decide (inc * 100 ≤ 44 * 2 ^ 32)

/-- PILOT_MEASURE (R222, R223): `z` is |Z| in 1/16 Ω, `amps` that the pilot current is at least 5 mA rms. -/
def Dev.pilotMeasure (d : Dev) (n : Nat) (amps : Bool) (z : Nat) : Dev :=
  let o := 6 + n
  if !d.is (Fld.spkPilotEn n) || d.outSt o != OutSt.running || d.upper o then d
  else if !d.pilotFreqOk (d.get (Fld.spkPilotGen n)) then
    (d.put (Fld.spkPilotstatResult n) 5).modOut o (fun x => { x with bad := 0 })
  else
    let res := if !amps then 4 else if z < 8 * d.get (Fld.spkPilotZlo n) then 2
      else if 8 * d.get (Fld.spkPilotZhi n) < z then 3 else 1
    let d := d.put (Fld.spkPilotstatResult n) res
    let d := if amps then d.put (Fld.spkPilotstatZ n) (min z 0xFFFF) else d
    let bad := if res = 1 then 0 else (d.out o).bad + 1
    if res ≠ 1 ∧ d.get (Fld.spkPilotCount n) ≤ bad then
      (d.modOut o (fun x => { x with bad := 0 })).happen (Fld.spkEventsLine n)
    else d.modOut o (fun x => { x with bad := bad })

/-- SPK_PVDD_READY (R225, R238): PVDD has stayed in range; the causes of R225 end and the chains become ready, once the
deferred segment tests have run (R519). -/
def Dev.pvddReady (d : Dev) : Dev :=
  let d := ((d.put Fld.spkPvddReady 1).put Fld.spkPvddLow 0).put Fld.spkPvddHigh 0
  let d := { d with pins := { d.pins with pvdd := true } }
  let d := d.each (List.range 4) (fun d n =>
    (d.put (Fld.spkStatusHizCausePvddLow n) 0).put (Fld.spkStatusHizCausePvddHigh n) 0)
  d.each [6, 7, 8, 9] (fun d o => (d.chainReadyEvent o).leaveHiz o)

/-- PVDD leaves the range (R225): the measured bit, and where the chain condition held every channel off with its cause. -/
def Dev.pvddFault (d : Dev) (bit : Fld) (cause : Nat → Fld) : Dev :=
  let d := d.put bit 1
  let d := { d with pins := { d.pins with pvdd := false } }
  if !d.is Fld.spkPvddReady then d
  else
    let d := d.put Fld.spkPvddReady 0
    let d := d.each (List.range 4) (fun d n => (d.put (cause n) 1).happen (Fld.spkEventsPvdd n))
    d.each [6, 7, 8, 9] (fun d o => (d.modOut o (fun x => { x with ready := false })).enterHiz o)

/-- PVDD_CUTOFF (R225). -/
def Dev.pvddCutoff (d : Dev) : Dev :=
  let d := if bitOf d.pins.low 3 then { d with pwr := { d.pwr with recov := orBit d.pwr.recov 3 } } else d
  d.pvddFault Fld.spkPvddLow Fld.spkStatusHizCausePvddLow

/-- PVDD_OVERVOLTAGE (R225). -/
def Dev.pvddOver (d : Dev) : Dev := d.pvddFault Fld.spkPvddHigh Fld.spkStatusHizCausePvddHigh

/-- The target attenuation at die-2 temperature `t`, in 1/8 °C (R226): in 0.1 dB, a 0.5 dB step per 0.5 °C above 120 °C,
at most 20 dB. -/
def derateTarget (t : Int) : Nat := if t ≤ 960 then 0 else min 200 (5 * ((t - 960) / 4).toNat)

/-- DERATE_STEP (R226): the attenuation moves by at most 0.5 dB up or 0.1 dB down. -/
def Dev.derateStep (d : Dev) (t : Int) : Dev :=
  let d := d.put Fld.spkThermTemp (unsg 12 t)
  let a := d.pins.derate
  let tgt := derateTarget t
  let b := if a < tgt then min tgt (a + 5) else max tgt (a - 1)
  let d := { d with pins := { d.pins with derate := b } }
  let d := d.each (List.range 4) (fun d n => d.put (Fld.spkLimitsDerate n) (b / 5))
  if a = 0 ∧ b ≠ 0 then d.each (List.range 4) (fun d n => d.happen (Fld.spkEventsDerate n)) else d

/-- SPK_THERMAL_SHUTDOWN (R227). -/
def Dev.spkHot (d : Dev) (t : Int) : Dev :=
  let d := d.put Fld.spkThermTemp (unsg 12 t)
  let d := d.each (List.range 4) (fun d n => (d.put (Fld.spkStatusHizCauseThermal n) 1).happen (Fld.spkEventsThermal n))
  d.each [6, 7, 8, 9] (fun d o => d.enterHiz o)

/-- SPK_THERMAL_CLEARED of channel `n` (R227): below 125 °C and EVENTS.thermal cleared. -/
def Dev.spkCooled (d : Dev) (n : Nat) (t : Int) : Dev :=
  let d := d.put Fld.spkThermTemp (unsg 12 t)
  if d.is (Fld.spkEventsThermal n) || !d.is (Fld.spkStatusHizCauseThermal n) || decide (1000 ≤ t) then d
  else (d.put (Fld.spkStatusHizCauseThermal n) 0).leaveHiz (d.lowerOf n)

/-- A finding of the segment tests (R518): spare segment, or a failed channel. -/
def Dev.segBoot (d : Dev) (n h seg cell : Nat) : Dev :=
  if !d.bit (segFld n h) seg then d
  else match if 2 ≤ d.get (segRetFld n h) then none else [16, 17].find? (fun s => !d.bit (segFld n h) s) with
    | some spare =>
      (((d.dropBit (segFld n h) seg).setBit (segFld n h) spare).inc (segRetFld n h)).softRepair (segLoc n h seg cell) 7
        spare true
    | none => ((d.put (Fld.spkStatusHizCauseStage n) 1).happen (Fld.spkEventsFailed n)).setOutSt (6 + n) OutSt.failed

/-- SPK_SEGMENT_TESTS_DEFERRED (R519): PVDD first meets the range; findings are (channel, half-bridge, segment, cell). -/
def Dev.segTests (d : Dev) (fs : List (Nat × Nat × Nat × Nat)) : Dev :=
  if !d.is Fld.repStatusSpkDeferred then d
  else
    let d := d.each fs (fun d f => d.segBoot f.1 f.2.1 f.2.2.1 f.2.2.2)
    let d := d.put Fld.repStatusSpkDeferred 0
    d.each [6, 7, 8, 9] (fun d o => d.chainReadyEvent o)

end Sys2Proof.Machine
end

