-- ==== Sys2Proof/Machine/Tone.lean ====
section
/-! DEFINITION. The sample of a tone generator (R198): the quarter-wave table computed to its rounded entries, and the
exact interpolation with one rounding at the end. -/
namespace Sys2Proof.Machine

/-- π × 2^60, rounded. -/
def piFix : Int := 3622009729038561421

/-- The remaining terms of the sine series at `x2 = x²` (scaled by 2^60), from `term` of order `2k + 1`, `n` terms. -/
def sinTerms (x2 : Int) : Nat → Nat → Int → Int
  | 0, _, _ => 0
  | n + 1, k, term => term + sinTerms x2 n (k + 1) (-(term * x2 / 2 ^ 60) / ((2 * k + 2 : Int) * (2 * k + 3)))

/-- T[i] of R198: sin(π/2 × i ÷ 4096) × (2^24 − 1) rounded to the nearest integer; T[4096] is full scale. -/
def sinTable (i : Nat) : Int :=
  if 4096 ≤ i then 2 ^ 24 - 1
  else
    let x : Int := piFix * i / 8192
    (sinTerms (x * x / 2 ^ 60) 14 0 x * (2 ^ 24 - 1) + 2 ^ 59) / 2 ^ 60

/-- A fraction of natural numbers rounded to the nearest integer, halves upwards (away from zero for a magnitude). -/
def roundDiv (n m : Nat) : Nat := (2 * n + m) / (2 * m)

/-- The sample that accumulator `acc` gives at amplitude `amp` (R198). -/
def toneSample (acc amp : Nat) : Int :=
  let q := bitsOf acc 30 2
  let p := bitsOf acc 8 22
  let x := if q % 2 = 0 then p else 2 ^ 22 - p
  let i := x / 1024
  let f := x % 1024
  let m : Int := sinTable i * 1024 + (if f = 0 then 0 else (sinTable (i + 1) - sinTable i) * f)
  let s : Int := roundDiv (m.toNat * (2 ^ 31 - 1) * amp) (1024 * (2 ^ 24 - 1) * 32768)
  if q < 2 then s else -s

end Sys2Proof.Machine
end

