-- ==== Sys2Proof/Machine/Keyway.lean ====
section
/-! DEFINITION. Keyway routing, mixing and the tumbler (chapter 04): staging with its checks, arming, crosspoint motion and
the pass. What each block does with a committed word is in Frame.lean. -/
namespace Sys2Proof.Machine

/-- Key of the XPCFG word of crosspoint `c`: its window address and, above bit 31, its page (R121, R137). -/
def xpCfgKey (c : Nat) : Nat := 0x854000 + 8 * (c % 2048) + c / 2048 * 2 ^ 32

/-- Key of the XPGAIN word of crosspoint `c` (R138). -/
def xpGainKey (c : Nat) : Nat := xpCfgKey c + 4

/-- The crosspoint whose words have this key, if it is one. -/
def xpOfKey (k : Nat) : Option Nat :=
  let a := k % 2 ^ 32
  if 0x854000 ≤ a ∧ a < 0x858000 then some (k / 2 ^ 32 * 2048 + (a - 0x854000) / 8) else none

/-- The route whose word lies at `a`, if any (R136). -/
def routeOf (a : Nat) : Option Nat := if 0x851000 ≤ a ∧ a < 0x851800 then some ((a - 0x851000) / 4) else none

/-- Reserved source identifiers (R101). -/
def srcReserved (s : Nat) : Bool :=
  decide (40 ≤ s ∧ s ≤ 63) || decide (162 ≤ s ∧ s ≤ 175) || decide (448 ≤ s ∧ s ≤ 511) || decide (904 ≤ s ∧ s ≤ 1022)

/-- Reserved sink identifiers (R102). -/
def sinkReserved (s : Nat) : Bool :=
  decide (10 ≤ s ∧ s ≤ 15) || decide (114 ≤ s ∧ s ≤ 127) || decide (144 ≤ s ∧ s ≤ 255) || decide (768 ≤ s)

/-- Fields of a route word (R136) and of a crosspoint word (R137). -/
def Route.en (w : Word) : Bool := bitOf w.toNat 31
def Route.sink (w : Word) : Nat := bitsOf w.toNat 16 10
def Route.src (w : Word) : Nat := bitsOf w.toNat 0 10
def XpCfg.en (w : Word) : Bool := bitOf w.toNat 31
def XpCfg.ramp (w : Word) : Nat := bitsOf w.toNat 10 17
def XpCfg.src (w : Word) : Nat := bitsOf w.toNat 0 10

/-- The largest gain (R111). -/
def maxGain : Nat := 0x7ECA9CD2

/-- Slots per frame of port `n` (R291). -/
def Dev.portSlots (d : Dev) (n : Nat) : Nat := 2 ^ (d.get (Fld.portFmtSlots n) + 1)

/-- The low `w` bits of `m` below slot `s`. -/
def maskBelow (m s : Nat) : Nat := m % 2 ^ (min s 16)

/-- The word that a staged write to an RWT register stores, after its clamps and substitutions (R111, R112, R120, R143,
R155, R198, R283), with the refusal record of R134 that it makes: reason, identifier, index. -/
def Dev.clampRwt (d : Dev) (key : Nat) (v : Word) : Word × Option (Nat × Nat × Nat) :=
  let n := v.toNat
  match xpOfKey key with
  | some c =>
    if key % 8 = 4 then (BitVec.ofNat 32 (min n maxGain), none)
    else
      let ramp := min (XpCfg.ramp v) d.houseRate
      let src := XpCfg.src v
      (BitVec.ofNat 32 (bitsOf n 31 1 * 2 ^ 31 + ramp * 2 ^ 10 + if srcReserved src then 1023 else src),
        if srcReserved src then some (2, src, c) else none)
  | none =>
    match routeOf key with
    | some r =>
      let src := Route.src v
      let en := bitsOf n 31 1
      let src' := if srcReserved src then 1023 else src
      let en' := if sinkReserved (Route.sink v) then 0 else en
      (BitVec.ofNat 32 (en' * 2 ^ 31 + Route.sink v * 2 ^ 16 + src'),
        if sinkReserved (Route.sink v) then some (3, Route.sink v, r)
        else if srcReserved src then some (2, src, r) else none)
    | none =>
      if 0x880000 ≤ key ∧ key < 0x880100 ∧ key % 32 = 0 then
        (BitVec.ofNat 32 (setBits n 0 7 (min (bitsOf n 0 7) (if bitOf n 28 then 120 else 24))), none)
      else if 0x880100 ≤ key ∧ key < 0x880110 then (BitVec.ofNat 32 (setBits n 0 4 (min (bitsOf n 0 4) 12)), none)
      else if 0x893000 ≤ key ∧ key < 0x893080 ∧ key % 16 = 0 then
        (BitVec.ofNat 32 (setBits n 0 16 (min (bitsOf n 0 16) 0x8000)), none)
      else if 0x860000 ≤ key ∧ key < 0x866000 ∧ key % 0x1000 = 0xC then
        let s := d.portSlots ((key - 0x860000) / 0x1000)
        (BitVec.ofNat 32 (maskBelow (bitsOf n 16 16) s * 2 ^ 16 + maskBelow (bitsOf n 0 16) s), none)
      else (v, none)

/-- The staged value of a key, if it has an entry. -/
def Dev.staged (d : Dev) (key : Nat) : Option Word := (d.key.entries.find? (fun e => e.key == key)).map (·.value)

/-- The word of a register in the projected graph (R120). -/
def Dev.projected (d : Dev) (key : Nat) : Word := (d.staged key).getD (d.rd key)

/-- The register key that a write or read at `a` reaches: a crosspoint window word takes its page (R121). -/
def windowKey (a page : Nat) : Nat := if 0x854000 ≤ a ∧ a < 0x858000 then a + page * 2 ^ 32 else a

/-- Another route of the projected graph that is enabled and addresses this sink (R109). -/
def Dev.otherWriter (d : Dev) (r sink : Nat) : Bool :=
  let hits (k : Nat) (w : Word) : Bool :=
    match routeOf k with
    | some r' => r' != r && Route.en w && Route.sink w == sink
    | none => false
  d.key.entries.any (fun e => hits e.key e.value) ||
    d.regs.any (fun e => hits e.1 e.2 && (d.staged e.1).isNone)

/-- The bits of an RWT register that store (R9). -/
def rwtMask (key : Nat) : Nat := (regRow (key % 2 ^ 32)).elim 0 (·.rwt)

/-- Put an entry into the tumbler: in place where its word has one (R119). -/
def putEntry (es : List TumbEntry) (key : Nat) (v : Word) : List TumbEntry :=
  if es.any (fun e => e.key == key) then es.map (fun e => if e.key == key then ⟨key, v⟩ else e) else es ++ [⟨key, v⟩]

/-- The tumbler is held by a live reload (R62). -/
def Dev.liveHeld (d : Dev) : Bool := d.is Fld.tumbStatusLive

/-- Record a refusal or substitution (R134). -/
def Dev.refuseRec (d : Dev) (r : Nat × Nat × Nat) : Dev :=
  ((d.put Fld.keyRefuseReason r.1).put Fld.keyRefuseId r.2.1).put Fld.keyRefuseIndex r.2.2

/-- The register key that a staging write at `a` reaches, and its value after masks and clamps (R119, R121). -/
def Dev.stageKey (d : Dev) (a : Nat) : Nat := windowKey a (bitsOf (d.projected Reg.keyXppage).toNat 0 2)
def Dev.stageWord (d : Dev) (a : Nat) (v : Word) : Word × Option (Nat × Nat × Nat) :=
  d.clampRwt (d.stageKey a) (v &&& BitVec.ofNat 32 (rwtMask (d.stageKey a)))

/-- The record of a second writer that a staged word would make (R109, R134). -/
def Dev.secondWriter (d : Dev) (key : Nat) (w : Word) : Option (Nat × Nat × Nat) :=
  match routeOf key with
  | some r => if Route.en w && d.otherWriter r (Route.sink w) then some (1, Route.sink w, r) else none
  | none => none

/-- The tumbler takes no word from this agent: armed, or held by a live reload (R62, R125). -/
def Dev.stageClosed (d : Dev) (ag : Agent) : Bool := d.key.armed.isSome || (d.liveHeld && ag != .boot)

/-- The tumbler is full and has no entry for this word (R119). -/
def Dev.stageFull (d : Dev) (key : Nat) : Bool := decide (256 ≤ d.key.entries.length) && (d.staged key).isNone

/-- A staging write is refused (R109, R119, R125, R62). -/
def Dev.stageRefused (d : Dev) (ag : Agent) (a : Nat) (v : Word) : Bool :=
  d.stageClosed ag || (d.secondWriter (d.stageKey a) (d.stageWord a v).1).isSome || d.stageFull (d.stageKey a)

/-- A write to an RWT register at address `a` (R119 to R121, R125): staged with its clamps, or refused and counted. -/
def Dev.stage (d : Dev) (ag : Agent) (a : Nat) (v : Word) : Dev :=
  let key := d.stageKey a
  let (w, sub) := d.stageWord a v
  if d.stageClosed ag then d.viol 6 ag a
  else match d.secondWriter key w with
    | some r => (d.refuseRec r).viol 5 ag a
    | none =>
      if d.stageFull key then d.viol 6 ag a
      else
        let d := { d with key := { d.key with entries := putEntry d.key.entries key w } }
        let d := d.put Fld.tumbStatusAgent ag.code
        let d := match sub with
          | some r => d.refuseRec r
          | none => d
        if w = v &&& BitVec.ofNat 32 (rwtMask key) then d else d.viol 3 ag a

/-- The number of the pass in progress (R129). -/
def Dev.frame (d : Dev) : Nat := d.get Fld.keyFramecntCount

/-- `a - b` on a 32-bit count is below half its range: `a` is not before `b` (R123). -/
def notBefore (a b : Nat) : Bool := decide ((a + 2 ^ 32 - b % 2 ^ 32) % 2 ^ 32 < 2 ^ 31)

/-- The earliest boundary that an ARM completing now reaches (R122): `late` once the commit phase of the present pass has
begun. -/
def Dev.earliest (d : Dev) (late : Bool) : Nat := (d.frame + if late then 2 else 1) % 2 ^ 32

/-- ARM (R122, R125). -/
def Dev.arm (d : Dev) (ag : Agent) (late : Bool) : Dev :=
  if d.key.armed.isSome || d.liveHeld then d.viol 6 ag Reg.tumbCtrl
  else if d.key.entries = [] then d
  else { d with key := { d.key with armed := some (d.earliest late), lateAt := false } }.put Fld.tumbStatusLate 0

/-- ARM_AT (R123, R125). -/
def Dev.armAt (d : Dev) (ag : Agent) (late : Bool) : Dev :=
  if d.key.armed.isSome || d.liveHeld then d.viol 6 ag Reg.tumbCtrl
  else if d.key.entries = [] then d
  else
    let e := d.earliest late
    let f := d.get Fld.tumbAtframeFrame
    let ok := notBefore f e
    { d with key := { d.key with armed := some (if ok then f else e), lateAt := !ok } }.put Fld.tumbStatusLate 0

/-- DISARM (R125): too late once the commit phase that commits it has begun. -/
def Dev.disarm (d : Dev) (ag : Agent) (late : Bool) : Dev :=
  if d.liveHeld then d.viol 6 ag Reg.tumbCtrl
  else match d.key.armed with
    | none => d.viol 6 ag Reg.tumbCtrl
    | some f =>
      if late && notBefore (d.frame + 1) f then d.viol 6 ag Reg.tumbCtrl
      else { d with key := { d.key with armed := none, lateAt := false } }

/-- DISCARD (R125). -/
def Dev.discard (d : Dev) (ag : Agent) : Dev :=
  if d.key.armed.isSome || d.liveHeld then d.viol 6 ag Reg.tumbCtrl
  else { d with key := { d.key with entries := [] } }

/-- A write to TUMB_CTRL (R139). -/
def Dev.tumbCtrl (d : Dev) (ag : Agent) (late : Bool) (v : Word) : Dev :=
  match bitsOf v.toNat 0 4 with
  | 1 => d.arm ag late
  | 2 => d.armAt ag late
  | 3 => d.disarm ag late
  | 4 => d.discard ag
  | _ => d

/-- The gain of a ramp in the pass it is at (R112). -/
def Ramp.gain (r : Ramp) : Nat :=
  if r.n ≤ r.k then r.gt else ((r.g0 : Int) + Int.tdiv (((r.gt : Int) - r.g0) * r.k) r.n).toNat

/-- The ramp has used its frames. -/
def Ramp.due (r : Ramp) : Bool := decide (r.n ≤ r.k)

/-- One more pass of a ramp. -/
def Ramp.tick (r : Ramp) : Ramp := { r with k := min r.n (r.k + 1) }

/-- The motion of crosspoint `c`, if it has one. -/
def Dev.xp (d : Dev) (c : Nat) : Option Xp := (d.key.xps.find? (fun e => e.1 == c)).map (·.2)

/-- Set the motion of crosspoint `c`. -/
def Dev.setXp (d : Dev) (c : Nat) (x : Xp) : Dev :=
  { d with key := { d.key with xps := SMap.ins (SMap.del d.key.xps c) c x } }

/-- Crosspoint `c` is at rest. -/
def Dev.restXp (d : Dev) (c : Nat) : Dev := { d with key := { d.key with xps := SMap.del d.key.xps c } }

/-- Crosspoints that are enabled: their numbers and configuration words. -/
def Dev.enabledXps (d : Dev) : List (Nat × Word) :=
  d.regs.filterMap (fun e => match xpOfKey e.1 with
    | some c => if e.1 % 8 = 0 && XpCfg.en e.2 then some (c, e.2) else none
    | none => none)

/-- Enabled routes (R108): source and sink. -/
def Dev.enabledRoutes (d : Dev) : List (Nat × Nat) :=
  d.regs.filterMap (fun e => match routeOf e.1 with
    | some _ => if Route.en e.2 then some (Route.src e.2, Route.sink e.2) else none
    | none => none)

/-- Live crosspoints (R117). -/
def Dev.liveXps (d : Dev) : Nat := d.enabledXps.length + (d.key.xps.filter (fun e => e.2.off)).length

/-- Fade shadows running (R131). -/
def Dev.shadows (d : Dev) : Nat := (d.key.xps.filter (fun e => e.2.shadow.isSome)).length

/-- KEY_USAGE (R130). -/
def Dev.usage (d : Dev) : Word := BitVec.ofNat 32 (d.enabledRoutes.length * 2 ^ 16 + d.liveXps)

/-- The gain that crosspoint `c` used in the last pass, and the source it evaluated, before its words change (R112). -/
def Dev.heard (d : Dev) (c : Nat) : Nat × Nat :=
  match d.xp c with
  | some x => (x.main.src, x.main.gain)
  | none => let w := d.rd (xpCfgKey c)
            (XpCfg.src w, if XpCfg.en w then (d.rd (xpGainKey c)).toNat else 0)

/-- A commit changes crosspoint `c` (R112 to R115): its new words, whether a gain was staged, and whether budget remains
for a parallel fade. The state still holds the old words; the motion set here starts at the commit boundary. -/
def Dev.commitXp (d : Dev) (c : Nat) (cfg : Word) (gain : Nat) (gainStaged parallel : Bool) : Dev :=
  let was := XpCfg.en (d.rd (xpCfgKey c))
  let now := XpCfg.en cfg
  let n := XpCfg.ramp cfg
  let (src, g) := d.heard c
  let motion := d.xp c
  let shadow := motion.bind (·.shadow)
  let go (d : Dev) (x : Xp) : Dev :=
    if x.main.n = 0 && !x.off && x.shadow.isNone then d.restXp c else d.setXp c x
  if !now then
    if was then (if n = 0 then d.restXp c else go d ⟨⟨src, g, 0, n, 0⟩, true, shadow, none⟩) else d
  else if !was && motion.isNone then go d ⟨⟨XpCfg.src cfg, 0, gain, n, 0⟩, false, none, none⟩
  else
    let serialNew := (motion.bind (·.serial)).map (·.1)
    let changed := if serialNew = some (XpCfg.src cfg) then false else src != XpCfg.src cfg
    if changed then
      let d := if shadow.isSome then d.inc Fld.keyFadeDropped else d
      if n = 0 then d.restXp c
      else
        if parallel then d.setXp c ⟨⟨XpCfg.src cfg, 0, gain, n, 0⟩, false, some ⟨src, g, 0, n, 0⟩, none⟩
        else (d.inc Fld.keyFadeSerial).setXp c
          ⟨⟨src, g, 0, (n + 1) / 2, 0⟩, false, none, some (XpCfg.src cfg, gain, n / 2)⟩
    else match motion, serialNew with
      | some x, some _ => if gainStaged then go d { x with serial := some (XpCfg.src cfg, gain, n / 2) } else d
      | _, _ =>
        if gainStaged || !was then go d ⟨⟨src, g, gain, n, 0⟩, false, shadow, none⟩ else d

/-- The commit changes the source of a crosspoint that is enabled after it, with a ramp time (R115, R117). -/
def Dev.fades (d : Dev) (c : Nat) (cfg : Word) : Bool :=
  XpCfg.en cfg && XpCfg.ramp cfg != 0 && (XpCfg.en (d.rd (xpCfgKey c)) || (d.xp c).isSome) && (d.heard c).1 != XpCfg.src cfg

/-- The crosspoint motions of a commit of entries `es` (R117): parallel fades in ascending crosspoint order while free
budget remains; at a base rate every fade is parallel. -/
def Dev.commitXps (d : Dev) (es : List TumbEntry) : Dev :=
  let cs := (es.filterMap (fun e => xpOfKey e.key)).eraseDups.mergeSort
  let look (k : Nat) : Option Word := (es.find? (fun e => e.key == k)).map (·.value)
  let cfgOf (c : Nat) : Word := (look (xpCfgKey c)).getD (d.rd (xpCfgKey c))
  let fading := cs.filter (fun c => d.fades c (cfgOf c))
  let liveAfter := d.liveXps + (cs.filter (fun c => XpCfg.en (cfgOf c) && !XpCfg.en (d.rd (xpCfgKey c)) &&
      !((d.xp c).any (·.off)))).length
    - (cs.filter (fun c => !XpCfg.en (cfgOf c) && XpCfg.en (d.rd (xpCfgKey c)) && XpCfg.ramp (cfgOf c) == 0)).length
  let kept := d.shadows - (fading.filter (fun c => (d.xp c).any (fun x => x.shadow.isSome))).length
  let free := if d.get Fld.clkPlanRate = 0 then fading.length else 8192 - liveAfter - kept
  let par := fading.take free
  d.each cs (fun d c =>
    d.commitXp c (cfgOf c) ((look (xpGainKey c)).getD (d.rd (xpGainKey c))).toNat (look (xpGainKey c)).isSome
      (par.contains c))

/-- XP_RAMP_END of crosspoint `c` (R112, R114): effective once its ramp has used its frames. -/
def Dev.xpRampEnd (d : Dev) (c : Nat) : Dev :=
  match d.xp c with
  | some x =>
    if x.main.due && x.serial.isNone then
      match x.shadow with
      | some _ => d.setXp c { x with main := { x.main with n := 0, k := 0 }, off := false }
      | none => d.restXp c
    else d
  | none => d

/-- FADE_SHADOW_END of crosspoint `c` (R115). -/
def Dev.shadowEnd (d : Dev) (c : Nat) : Dev :=
  match d.xp c with
  | some x => match x.shadow with
    | some r => if r.due then (if x.main.due && x.serial.isNone then d.restXp c else d.setXp c { x with shadow := none }) else d
    | none => d
  | none => d

/-- SERIAL_FADE_HALF of crosspoint `c` (R115): the new source begins its ramp from 0. -/
def Dev.serialHalf (d : Dev) (c : Nat) : Dev :=
  match d.xp c with
  | some x => match x.serial with
    | some (src, gt, n) => if x.main.due then d.setXp c ⟨⟨src, 0, gt, n, 0⟩, false, x.shadow, none⟩ else d
    | none => d
  | none => d

/-- The contribution of one evaluation (R110). -/
def evalTerm (x : Int) (g : Nat) : Int := (x * g + 2 ^ 26) / 2 ^ 27

/-- The evaluations of a pass (R110, R114, R115): bus, source, gain. -/
def Dev.evals (d : Dev) : List (Nat × Nat × Nat) :=
  let rest := d.enabledXps.filterMap (fun e =>
    if (d.xp e.1).isSome then none else some (e.1 / 64, XpCfg.src e.2, (d.rd (xpGainKey e.1)).toNat))
  let moving := d.key.xps.flatMap (fun e =>
    (e.1 / 64, e.2.main.src, e.2.main.gain) ::
      (match e.2.shadow with
        | some r => [(e.1 / 64, r.src, r.gain)]
        | none => []))
  rest ++ moving

/-- The bus accumulators of a pass over source samples `x` (R110). -/
def busSums (evals : List (Nat × Nat × Nat)) (x : Nat → Int) : SMap Int :=
  evals.foldl (fun m e => SMap.set 0 m e.1 (SMap.get 0 m e.1 + evalTerm (x e.2.1) e.2.2)) []

/-- Every motion advances one pass (R112). -/
def Dev.tickXps (d : Dev) : Dev :=
  { d with key := { d.key with xps := d.key.xps.map (fun e =>
      (e.1, { e.2 with main := e.2.main.tick, shadow := e.2.shadow.map Ramp.tick })) } }

/-- Bus `b` saturated at write-out (R110, R135): its bit, and the event when the bit becomes set. -/
def Dev.busSat (d : Dev) (b : Nat) : Dev :=
  if d.bit (Fld.keySatSat (b / 32)) (b % 32) then d
  else (d.setBit (Fld.keySatSat (b / 32)) (b % 32)).happen Fld.keyEventsSat

/-- The crosspoint pass and the write-out of a pass whose sources have latched `x` (R104, R106, R108, R110). Buses are read
by crosspoints and routes as sources 768–895: the output of the pass before. -/
def Dev.mixPass (d : Dev) (x : SMap Int) : Dev :=
  let d := d.tickXps
  let get (i : Nat) : Int := if i = 1023 then 0 else SMap.get 0 x i
  let sums := busSums d.evals get
  let outs := sums.map (fun e => (768 + e.1, satS 32 e.2))
  let routed (i : Nat) : Int := if 768 ≤ i ∧ i ≤ 895 then SMap.get 0 outs i else get i
  let sinks : SMap Int := d.enabledRoutes.foldl (fun m r => SMap.set 0 m r.2 (routed r.1)) []
  let src := outs.foldl (fun m e => SMap.set 0 m e.1 e.2) (x.filter (fun e => decide (e.1 < 768) || decide (895 < e.1)))
  let d := d.each (sums.filter (fun e => satS 32 e.2 != e.2)) (fun d e => d.busSat e.1)
  { d with key := { d.key with src := src, sink := sinks } }

end Sys2Proof.Machine
end

