-- ==== Sys2Proof/Machine/Input.lean ====
section
/-! DEFINITION. Microphone and line inputs: analogue channels, bias outputs and PDM channels (chapter 05). -/
namespace Sys2Proof.Machine

/-- An analogue channel before the boot slice tests (R148). -/
def Ain.init : Ain := ⟨List.range 8, false⟩

/-- Analogue channel `n`. -/
def Dev.ain (d : Dev) (n : Nat) : Ain := SMap.get Ain.init d.inp.ain n

/-- Set analogue channel `n`. -/
def Dev.setAin (d : Dev) (n : Nat) (x : Ain) : Dev :=
  { d with inp := { d.inp with ain := SMap.set Ain.init d.inp.ain n x } }

/-- The domain of AINn (R142). -/
def ainDom (n : Nat) : Nat := Dom.anain (n / 4)

/-- The domain of MICBn (R142). -/
def micbDom (n : Nat) : Nat := Dom.anain (n / 2)

/-- Retire slice `k` of channel `n` (R149): rotation stops; the slice that took its place is recorded as the spare. -/
def Dev.retireAin (d : Dev) (n k : Nat) : Dev :=
  let d := (d.retireAdc n k).put (Fld.anainChStatusOutSlice n) 15
  let d := (d.put (Fld.anainChStatusRotating n) 0).happen (Fld.anainChEventsRetired n)
  d.softRepair (adcLoc n k) 5 ((d.ain n).svc.getLast?.getD 0) false

/-- ADC_SLICE_SWAP (R148). -/
def Dev.adcSwap (d : Dev) (n : Nat) : Dev :=
  let x := d.ain n
  let o := d.get (Fld.anainChStatusOutSlice n)
  match x.svc with
  | s :: rest =>
    if d.bit Fld.anainCalctrlRotEn n && o != 15 && x.ready then
      ((d.setAin n ⟨rest ++ [o], false⟩).put (Fld.anainChStatusOutSlice n) s).put (Fld.anainChStatusRotating n) 1
    else d
  | [] => d

/-- ADC_SLICE_CAL_DONE (R148, R149): beyond the trim range the slice out is retired. With rotation disabled the channel
now stops rotating (R170). -/
def Dev.adcCalDone (d : Dev) (n : Nat) (beyond : Bool) : Dev :=
  let x := d.ain n
  let o := d.get (Fld.anainChStatusOutSlice n)
  if o = 15 ∨ x.ready then d
  else if beyond then d.retireAin n o
  else (d.setAin n { x with ready := true }).flag (Fld.anainChStatusRotating n) (d.bit Fld.anainCalctrlRotEn n)

/-- ADC_SLICE_CHECK_FAIL (R150): exchanged with the calibrated slice that is out and retired, or the channel fails. -/
def Dev.adcFail (d : Dev) (n k : Nat) : Dev :=
  let x := d.ain n
  let o := d.get (Fld.anainChStatusOutSlice n)
  if !x.svc.contains k then d
  else if o ≠ 15 ∧ x.ready then (d.setAin n ⟨x.svc.filter (· != k) ++ [o], false⟩).retireAin n k
  else (d.put (Fld.anainChStatusFailed n) 1).happen (Fld.anainChEventsFailed n)

/-- After the boot slice tests (R148): eight slices in, the ninth out and calibrated unless one is retired. -/
def Dev.bootAin (d : Dev) (n : Nat) : Dev :=
  let r := d.get (Fld.anainChStatusRetired n)
  let ok := (List.range 9).filter (· != r)
  let o := (ok.drop 8).head?
  (d.setAin n ⟨ok.take 8, o.isSome⟩).put (Fld.anainChStatusOutSlice n) (o.getD 15)

/-- A channel begins to settle (R146): the committed gain is applied at once. -/
def Dev.ainSettle (d : Dev) (n : Nat) : Dev :=
  (d.put (Fld.anainChStatusSettling n) 1).put (Fld.anainChStatusCurGain n) (d.get (Fld.anainChCfgGain n))

/-- ANAIN_SETTLE_END (R146). -/
def Dev.ainSettleEnd (d : Dev) (n : Nat) : Dev := d.put (Fld.anainChStatusSettling n) 0

/-- A committed ANAIN_CHn_CFG word takes effect (R145 to R147); `old` is the word before. -/
def Dev.ainCommit (d : Dev) (n : Nat) (old : Word) : Dev :=
  let en := d.is (Fld.anainChCfgEn n)
  let was := (Fld.anainChCfgEn n).of old != 0
  let moved := (Fld.anainChCfgMode n).of old != d.get (Fld.anainChCfgMode n) ||
    (Fld.anainChCfgFset n).of old != d.get (Fld.anainChCfgFset n)
  if en && (!was || moved) then d.ainSettle n
  else if was && !en then d.put (Fld.anainChStatusSettling n) 0
  else d

/-- One gain step of channel `n` in a frame (R145). -/
def Dev.ainStep (d : Dev) (n : Nat) : Dev :=
  let g := d.get (Fld.anainChStatusCurGain n)
  let t := d.get (Fld.anainChCfgGain n)
  if !d.is (Fld.anainChCfgEn n) || !d.on (ainDom n) || d.is (Fld.anainChStatusSettling n) || g == t then d
  else
    let g' := if g < t then g + 1 else g - 1
    let d := d.put (Fld.anainChStatusCurGain n) g'
    if g' = t then d.happen (Fld.anainChEventsGainDone n) else d

/-- The keyway sample of a decimated value (R151): 24 bits, saturated, in bits 31:8. -/
def sample24 (x : Int) : Int := satS 24 x * 256

/-- Channel `n` delivers converted samples in this frame (R103, R146, R147, R150). -/
def Dev.ainLive (d : Dev) (n : Nat) : Bool :=
  d.is (Fld.anainChCfgEn n) && d.on (ainDom n) && !d.is (Fld.anainChStatusSettling n) && !d.is (Fld.anainChStatusFailed n)

/-- The source sample of AINn from the decimated value `x` (R147, R151). -/
def Dev.ainSample (d : Dev) (n : Nat) (x : Int) : Int :=
  if d.ainLive n then sample24 (if d.is (Fld.anainChCfgInvert n) then -x else x) else 0

/-- The clock pin of PDM channel `c` (R158). -/
def pdmClkOf (c : Nat) : Nat := c / 4

/-- PDM channel `c` delivers samples (R162). -/
def Dev.pdmLive (d : Dev) (c : Nat) : Bool :=
  d.on Dom.pdm && d.is (Fld.pdmClkCfgEn (pdmClkOf c)) && d.is (Fld.pdmChCfgEn c) &&
    !bitOf d.inp.pdmClk (pdmClkOf c) && !bitOf d.inp.pdmCh c

/-- The source sample of PDM channel `c` from the decimated value `x` (R151, R162): inverted, boosted, saturated. -/
def Dev.pdmSample (d : Dev) (c : Nat) (x : Int) : Int :=
  if d.pdmLive c then
    sample24 ((if d.is (Fld.pdmChCfgInvert c) then -x else x) * 2 ^ d.get (Fld.pdmChCfgBoost c))
  else 0

/-- A modulator input beyond full scale on an ADC (R151). -/
def Dev.ainOverload (d : Dev) (n : Nat) (x : Int) : Dev :=
  if d.ainLive n && satS 24 x != x then d.happen (Fld.anainChEventsOverload n) else d

/-- A committed PDM_CHc_CFG word takes effect (R162): enabling or a change of fset starts the 64-frame interval. -/
def Dev.pdmCommit (d : Dev) (c : Nat) (old : Word) : Dev :=
  let en := d.is (Fld.pdmChCfgEn c)
  let was := (Fld.pdmChCfgEn c).of old != 0
  if en && (!was || (Fld.pdmChCfgFset c).of old != d.get (Fld.pdmChCfgFset c)) then
    { d with inp := { d.inp with pdmCh := orBit d.inp.pdmCh c } }
  else d

/-- Clock pin `k` starts driving or is first found present: its start-up interval runs (R162). -/
def Dev.pdmInterval (d : Dev) (k : Nat) : Dev := { d with inp := { d.inp with pdmClk := orBit d.inp.pdmClk k } }

/-- PDM_SETTLE_END of clock pin `k` (R162). -/
def Dev.pdmClkSettled (d : Dev) (k : Nat) : Dev := { d with inp := { d.inp with pdmClk := clrBit d.inp.pdmClk k } }

/-- PDM_SETTLE_END of channel `c` (R162). -/
def Dev.pdmChSettled (d : Dev) (c : Nat) : Dev := { d with inp := { d.inp with pdmCh := clrBit d.inp.pdmCh c } }

/-- PDM_CLK_LOST (R161): only a pin that receives its clock. -/
def Dev.pdmLost (d : Dev) (k : Nat) : Dev :=
  if d.bit Fld.pdmStatusReceiving k && d.bit Fld.pdmStatusClkPresent k then
    (d.dropBit Fld.pdmStatusClkPresent k).happenAt Fld.pdmEventsClkLost k
  else d

/-- PDM_CLK_RETURN (R161): data is taken again; the first time since the pin began to receive starts the interval of R162. -/
def Dev.pdmReturn (d : Dev) (k : Nat) : Dev :=
  if d.bit Fld.pdmStatusReceiving k then d.setBit Fld.pdmStatusClkPresent k else d

/-- The role of clock pin `k` follows the package's (R160). -/
def Dev.pdmRole (d : Dev) (k : Nat) : Dev :=
  if d.is (Fld.pdmClkCfgEn k) && d.released then d.setBit Fld.pdmStatusReceiving k
  else (d.dropBit Fld.pdmStatusReceiving k).dropBit Fld.pdmStatusClkPresent k

/-- A write to PDM_CLKk_CFG (R159, R160): a change of rate or delay while en reads 1 is ignored whole; at a double house
rate, rate 0 is stored as 1. -/
def Dev.pdmClkWrite (d : Dev) (ag : Agent) (k : Nat) (v : Word) : Dev :=
  let n := v.toNat
  let dbl := d.get Fld.clkPlanRate != 0
  let rate := if dbl then 1 else bitsOf n 0 1
  let w := BitVec.ofNat 32 (bitsOf n 31 1 * 2 ^ 31 + bitsOf n 4 2 * 16 + rate)
  let was := d.is (Fld.pdmClkCfgEn k)
  if was && (d.get (Fld.pdmClkCfgRate k) != rate || d.get (Fld.pdmClkCfgDelay k) != bitsOf n 4 2) then
    d.viol 0 ag (Reg.pdmClkCfg k)
  else
    let d := d.wr (Reg.pdmClkCfg k) w
    let d := if dbl && bitsOf n 0 1 == 0 then d.viol 3 ag (Reg.pdmClkCfg k) else d
    (if !was && bitOf n 31 then d.pdmInterval k else d).pdmRole k

/-- Bias output `n` drives (R155 to R157, R252). -/
def Dev.micbDrives (d : Dev) (n : Nat) : Bool :=
  !d.released && d.on (micbDom n) &&
    (bitOf d.inp.micbBusy n || (d.is (Fld.micbCfgEn n) && !d.bit Fld.micbStatusTripped n))

/-- MICB_STATUS.driving of every bias output. -/
def Dev.showMicb (d : Dev) : Dev := d.each (List.range 4) (fun d n => d.putBit Fld.micbStatusDriving n (d.micbDrives n))

/-- A committed MICBn_CFG word takes effect (R155, R156): one with en = 1 clears tripped. -/
def Dev.micbCommit (d : Dev) (n : Nat) : Dev :=
  (if d.is (Fld.micbCfgEn n) then d.dropBit Fld.micbStatusTripped n else d).showMicb

/-- MICB_TRIP (R156): a driving output in limit for 10 ms is switched off. -/
def Dev.micbTrip (d : Dev) (n : Nat) : Dev :=
  if !d.bit Fld.micbStatusDriving n || bitOf d.inp.micbBusy n then d
  else (((d.setBit Fld.micbStatusTripped n).dropBit Fld.micbStatusLimit n).happenAt Fld.micbEventsTripped n).showMicb

/-- A write to ANAIN_CALCTRL (R170): a period below 480 is stored as 480. Clearing a channel's bit stops its rotation once
a calibration in progress has ended. -/
def Dev.ainCalWrite (d : Dev) (ag : Agent) (v : Word) : Dev :=
  let p := bitsOf v.toNat 16 16
  let d := d.wr Reg.anainCalctrl (BitVec.ofNat 32 (max p 480 * 2 ^ 16 + bitsOf v.toNat 0 8))
  let d := if p < 480 then d.viol 3 ag Reg.anainCalctrl else d
  d.each (List.range 8) (fun d n =>
    if !bitOf v.toNat n && (d.ain n).ready then d.put (Fld.anainChStatusRotating n) 0 else d)

/-- Domain ANAIN_A (`g` = 0) or ANAIN_B (1) returns to on (R146): each enabled channel settles. -/
def Dev.anainUp (d : Dev) (g : Nat) : Dev :=
  (d.each [4 * g, 4 * g + 1, 4 * g + 2, 4 * g + 3] (fun d n =>
    if d.is (Fld.anainChCfgEn n) then d.ainSettle n else d)).showMicb

/-- Domain ANAIN_A or ANAIN_B goes down (R155): its bias outputs are discharged. -/
def Dev.anainDown (d : Dev) : Dev := d.showMicb

end Sys2Proof.Machine
end

