-- ==== Sys2Proof/Machine/Port.lean ====
section
/-! DEFINITION. Serial ports, S/PDIF, non-PCM monitors, rate monitors and rate converters (chapters 09 and 10). A direction
is a pair of a unit `n` (0–5 ports, 6 the S/PDIF block) and `tx` (transmit). -/
namespace Sys2Proof.Machine

/-- STATUS states (R297). -/
abbrev PortSt.idle : Nat := 0
abbrev PortSt.framing : Nat := 1
abbrev PortSt.silentStart : Nat := 2
abbrev PortSt.running : Nat := 3
abbrev PortSt.silentStop : Nat := 4
abbrev PortSt.halted : Nat := 5

/-- Converter group states (R326). -/
abbrev AsrcSt.unbound : Nat := 0
abbrev AsrcSt.wait : Nat := 1
abbrev AsrcSt.acquire : Nat := 2
abbrev AsrcSt.fadeIn : Nat := 3
abbrev AsrcSt.track : Nat := 4
abbrev AsrcSt.hold : Nat := 5
abbrev AsrcSt.outOfRange : Nat := 6
abbrev AsrcSt.fadeOut : Nat := 7

/-- A direction at rest. -/
def PDir.init : PDir :=
  { fifo := [], isOpen := false, primed := false, sil := 0, silDone := 0, stopPend := false, edge := false, good := 0,
    fresh := false, latched := false, pin := [], begMask := 0, lost := false, block := [], blkFirst := true,
    blkGap := false, lastMask := 0, closed := none, sending := [] }

/-- Registers of unit `n`: CTRL, SILENT, STATUS, EVENTS and the counters (R295 to R299, R322). -/
def unitCtrl (n : Nat) : Nat := if n = 6 then Reg.spdifCtrl else Reg.portCtrl n
def unitSilent (n : Nat) : Nat := if n = 6 then Reg.spdifSilent else Reg.portSilent n
def unitStatus (n : Nat) : Nat := if n = 6 then Reg.spdifStatus else Reg.portStatus n
def unitEvents (n : Nat) : Nat := if n = 6 then Reg.spdifEvents else Reg.portEvents n
def unitCount (n i : Nat) : Nat := (if n = 6 then Reg.spdifCount0 else Reg.portCount0 n) + 4 * i

/-- Fields of a direction in them. -/
def runF (n : Nat) (tx : Bool) : Fld := if tx then ⟨unitCtrl n, 1, 1⟩ else ⟨unitCtrl n, 0, 0⟩
def stateF (n : Nat) (tx : Bool) : Fld := if tx then ⟨unitStatus n, 31, 28⟩ else ⟨unitStatus n, 15, 12⟩
def fillF (n : Nat) (tx : Bool) : Fld := if tx then ⟨unitStatus n, 27, 24⟩ else ⟨unitStatus n, 11, 8⟩
def lockF (n : Nat) (tx : Bool) : Fld := if tx then ⟨unitStatus n, 16, 16⟩ else ⟨unitStatus n, 0, 0⟩

/-- Bits of EVENTS that ports and S/PDIF share (R298, R322). -/
abbrev PortEv.rxUnder : Nat := 0
abbrev PortEv.rxOver : Nat := 1
abbrev PortEv.txUnder : Nat := 2
abbrev PortEv.txOver : Nat := 3
abbrev PortEv.frameErr : Nat := 4
abbrev PortEv.started : Nat := 6
abbrev PortEv.stopped : Nat := 7

/-- Set an event bit of unit `n`. -/
def Dev.portEv (d : Dev) (n b : Nat) : Dev := d.happenBit (unitEvents n) b

/-- EVENTS.restart (R288). -/
def Dev.portRestartEv (d : Dev) (n : Nat) : Dev := d.portEv n (if n = 6 then 12 else 8)

/-- Count an underrun, overrun or framing loss with its event (R280, R276). -/
def Dev.portCount (d : Dev) (n ev : Nat) : Dev :=
  let f : Fld := if ev = PortEv.frameErr then ⟨unitCount n 2, 15, 0⟩
    else if ev % 2 = 0 then ⟨unitCount n (ev / 2), 31, 16⟩ else ⟨unitCount n (ev / 2), 15, 0⟩
  (d.inc f).portEv n ev

/-- Direction `tx` of unit `n`. -/
def Dev.dir (d : Dev) (n : Nat) (tx : Bool) : PDir := SMap.get PDir.init d.ser.dirs (2 * n + if tx then 1 else 0)

/-- Set a direction, and its fill. -/
def Dev.setDir (d : Dev) (n : Nat) (tx : Bool) (x : PDir) : Dev :=
  { d with ser := { d.ser with dirs := SMap.set PDir.init d.ser.dirs (2 * n + if tx then 1 else 0) x } }.put
    (fillF n tx) x.fifo.length

/-- Change a direction. -/
def Dev.modDir (d : Dev) (n : Nat) (tx : Bool) (f : PDir → PDir) : Dev := d.setDir n tx (f (d.dir n tx))

/-- STATUS state of a direction. -/
def Dev.dirSt (d : Dev) (n : Nat) (tx : Bool) : Nat := d.get (stateF n tx)
def Dev.setDirSt (d : Dev) (n : Nat) (tx : Bool) (st : Nat) : Dev := d.put (stateF n tx) st

/-- STATUS lock of a direction; the transmitter of S/PDIF has no such bit. -/
def Dev.setLock (d : Dev) (n : Nat) (tx b : Bool) : Dev := if n == 6 && tx then d else d.flag (lockF n tx) b

/-- A ward of type 0x08 covers unit `n` (R270, R321). -/
def Dev.portWard (d : Dev) (n : Nat) : Bool :=
  d.boot.run.any (fun p => p.wards.any (fun w => w.kind == 8 && w.target == n))

/-- Slots and widths of unit `n` (R265, R291). -/
def Dev.unitSlots (d : Dev) (n : Nat) : Nat := if n = 6 then 2 else d.portSlots n
def Dev.slotWidth (d : Dev) (n : Nat) : Nat :=
  match d.get (Fld.portFmtSwidth n) with
  | 0 => 16
  | 1 => 24
  | _ => 32
def Dev.dataWidth (d : Dev) (n : Nat) : Nat :=
  match d.get (Fld.portFmtDwidth n) with
  | 0 => 16
  | 1 => 20
  | 2 => 24
  | _ => 32

/-- The direction drives its clocks (R263, R292, R306). -/
def Dev.isMaster (d : Dev) (n : Nat) (tx : Bool) : Bool :=
  if n = 6 then tx else if tx then d.is (Fld.portClkTxMaster n) else d.is (Fld.portClkRxMaster n)

/-- The direction is on the converted path (R269). -/
def Dev.isConv (d : Dev) (n : Nat) (tx : Bool) : Bool :=
  if n = 6 then (if tx then d.is Fld.spdifCfgTxAsrc else d.is Fld.spdifCfgRxAsrc)
  else if tx then d.is (Fld.portClkTxAsrc n) else d.is (Fld.portClkRxAsrc n)

/-- The direction is on the memory path (R269). -/
def Dev.isMem (d : Dev) (n : Nat) (tx : Bool) : Bool :=
  decide (n < 6) && (if tx then d.is (Fld.portPathTxPath n) else d.is (Fld.portPathRxPath n))

/-- Rate code of a direction (R292, R306). -/
def Dev.rateCode (d : Dev) (n : Nat) (tx : Bool) : Nat :=
  if n = 6 then (if tx then d.get Fld.spdifCfgTxRate else 15)
  else if tx then d.get (Fld.portClkTxRate n) else d.get (Fld.portClkRxRate n)

/-- Frequencies of the rate codes in Hz (R292). -/
def rateHz (c : Nat) : Nat :=
  [8000, 11025, 12000, 16000, 22050, 24000, 32000, 44100, 48000, 88200, 96000, 176400, 192000].getD c 0

/-- The clock pair of a direction: 2n the A pair, 2n + 1 the B pair, 12 SPDIF_RX (R263, R264, R314). -/
def Dev.pairOfDir (d : Dev) (n : Nat) (tx : Bool) : Nat :=
  if n = 6 then 12
  else if tx && !d.is (Fld.portFmtShare n) && d.get (Fld.portFmtSlots n) < 2 then 2 * n + 1 else 2 * n

/-- sil_start and sil_stop of unit `n` (R296). -/
def Dev.silStart (d : Dev) (n : Nat) : Nat := d.get ⟨unitSilent n, 7, 0⟩
def Dev.silStop (d : Dev) (n : Nat) : Nat := d.get ⟨unitSilent n, 15, 8⟩

/-- The FIFO depth of a direction (R271). -/
def Dev.fifoDepth (d : Dev) (n : Nat) (tx : Bool) : Nat := if d.isMem n tx then 8 else 4

/-- The divided clocks are in fallback (R81). -/
def Dev.inFallback (d : Dev) : Bool := d.clk.fallback

/-- The pin of slot `k` when nothing active is sent there (R277, R283). -/
def Dev.idleSlot (d : Dev) (n : Nat) : Option Nat := if n < 6 && d.is (Fld.portFmtTxIdle n) then none else some 0

/-- The pins of a frame that carries `slots` with `mask` (R267, R283): the first D bits of each active slot. -/
def Dev.pinFrame (d : Dev) (n mask : Nat) (slots : Option (List Int)) : List (Option Nat) :=
  (List.range (d.unitSlots n)).map (fun k =>
    if bitOf mask k then
      some (match slots with
        | some xs => unsg 32 (xs.getD k 0) / 2 ^ (32 - d.dataWidth n)
        | none => 0)
    else d.idleSlot n)

/-! ### Blocks of a memory direction (R284 to R287) -/

/-- Bytes per sample of a packing code (R285). -/
def packBytes (c : Nat) : Nat := if c = 2 then 3 else if c = 3 then 2 else 4

/-- A sample as memory holds it under a packing code, from its keyway form with data width `D` (R285). -/
def packSample (c D : Nat) (x : Int) : List Byte :=
  let top := unsg 32 x / 2 ^ (32 - D)
  match c with
  | 0 => leBytes 4 (top * 2 ^ (32 - D))
  | 1 => leBytes 4 (unsg 32 (sgn D top))
  | 2 => leBytes 3 (top * 2 ^ (24 - D))
  | _ => leBytes 2 top

/-- The keyway form of a sample that memory holds under a packing code (R285). -/
def unpackSample (c D : Nat) (bs : List Byte) : Int :=
  let v := leNat bs
  match c with
  | 0 => sgn 32 (v / 2 ^ (32 - D) * 2 ^ (32 - D))
  | 1 => sgn 32 (v % 2 ^ D * 2 ^ (32 - D))
  | 2 => sgn 32 (v * 2 ^ 8)
  | _ => sgn 32 (v * 2 ^ 16)

/-- Zeros up to a multiple of 16 bytes (R284). -/
def pad16 (bs : List Byte) : List Byte := bs ++ List.replicate ((16 - bs.length % 16) % 16) 0

/-- The bytes of a receive block (R284): its frames with the flags short, first, gap and mask_change. -/
def Dev.encodeBlock (d : Dev) (n : Nat) (fs : List PFrame) (short first gap maskChange : Bool) : List Byte :=
  let c := d.get (Fld.portPathPack n)
  match fs with
  | [] => []
  | f :: _ =>
    let b (x : Bool) : Nat := if x then 1 else 0
    let w0 := c * 2 ^ 28 + b short * 2 ^ 27 + b first * 2 ^ 26 + b gap * 2 ^ 25 + b maskChange * 2 ^ 24 + fs.length
    let act := bitList 16 f.mask
    pad16 (leBytes 4 w0 ++ leBytes 4 (act.length * 2 ^ 16 + f.mask) ++ leBytes 4 f.no ++ leBytes 4 f.pass ++
      fs.flatMap (fun g => act.flatMap (fun k => packSample c (d.dataWidth n) (g.slots.getD k 0))))

/-- Close the block being filled (R286): a block with no frames is never written. -/
def Dev.closeBlock (d : Dev) (n : Nat) (short : Bool) : Dev :=
  let x := d.dir n false
  match x.block with
  | [] => d
  | f :: _ =>
    let bytes := d.encodeBlock n x.block short x.blkFirst (x.blkGap || f.gap) (f.mask != x.lastMask)
    d.setDir n false { x with block := [], blkFirst := false, blkGap := false, lastMask := f.mask, closed := some bytes }

/-- The channel that serves a memory direction holds a port descriptor and runs (R422): its beats may move. DMA channel
states: 0 IDLE, 1 FETCH, 2 ACTIVE (R431). -/
def Dev.served (d : Dev) (n : Nat) (tx : Bool) : Bool :=
  let c := if tx then d.get (Fld.portPathTxChan n) else d.get (Fld.portPathRxChan n)
  d.isMem n tx && d.get (Fld.dmaChStatusState c) == 2 && bitOf ((SMap.get Chan.init d.chans c).desc.getD 6 0).toNat 3

/-- Frames of a memory receive direction move from the FIFO into the block of the descriptor in hand (R286, R422), one
step of it. -/
def Dev.fillBlock1 (d : Dev) (n : Nat) : Dev :=
  let x := d.dir n false
  match x.closed, x.fifo with
  | none, f :: rest =>
    let breaks := match x.block with
      | [] => false
      | g :: _ => g.mask != f.mask || f.gap
    if breaks then d.closeBlock n true
    else
      let d := d.setDir n false { x with fifo := rest, block := x.block ++ [f] }
      if d.get (Fld.portPathFrames n) < x.block.length + 1 then d.closeBlock n false else d
  | _, _ => d

/-- All that moves at once. -/
def Dev.fillBlock (d : Dev) (n : Nat) : Dev :=
  if d.served n false then d.each (List.range 9) (fun d _ => d.fillBlock1 n) else d

/-- A receive direction's framing loss, stop or fallback entry ends its block (R286). -/
def Dev.breakBlock (d : Dev) (n : Nat) : Dev :=
  if d.isMem n false then (d.closeBlock n true).modDir n false (fun x => { x with blkFirst := true, lost := false }) else d

/-- The frames of a transmit block in memory: the header's frame count, clamped to PATH.frames + 1, its mask, and the
payload (R287). The second component says that it was clamped. -/
def Dev.decodeBlock (d : Dev) (n : Nat) (bs : List Byte) : List PFrame × Bool :=
  let limit := d.get (Fld.portPathFrames n) + 1
  let fr := bitsOf (leNat (bs.take 4)) 0 16
  let mask := bitsOf (leNat ((bs.drop 4).take 4)) 0 16
  let act := bitList (d.unitSlots n) mask
  let c := d.get (Fld.portPathPack n)
  let sz := packBytes c
  let payload := bs.drop 16
  ((List.range (min fr limit)).map (fun i =>
    { pass := 0, no := i, mask := mask, gap := false,
      slots := (List.range (d.unitSlots n)).map (fun k =>
        if act.contains k then
          unpackSample c (d.dataWidth n) ((payload.drop ((i * act.length + act.idxOf k) * sz)).take sz)
        else 0) }), decide (limit < fr))

/-- The transmit FIFO takes frames of the current block (R271, R287). -/
def Dev.refill (d : Dev) (n : Nat) : Dev :=
  let x := d.dir n true
  let room := 8 - x.fifo.length
  if d.isMem n true && x.isOpen then
    d.setDir n true { x with fifo := x.fifo ++ x.sending.take room, sending := x.sending.drop room }
  else d

/-! ### Non-PCM monitors (R310 to R313) -/

/-- A monitor at rest. -/
def NpMon.init : NpMon := ⟨0, 0, false, 192, 0, 0, 0, 0⟩

/-- Monitor `k`. -/
def Dev.np (d : Dev) (k : Nat) : NpMon := SMap.get NpMon.init d.ser.np k

/-- Set monitor `k`. -/
def Dev.setNp (d : Dev) (k : Nat) (x : NpMon) : Dev :=
  { d with ser := { d.ser with np := SMap.set NpMon.init d.ser.np k x } }

/-- The monitor of a stream: unit `n`, pair `j` (0 for the receiver). -/
def Dev.npOf (d : Dev) (n j : Nat) : Option Nat :=
  (List.range 8).find? (fun k => d.is (Fld.spdifNpstatUsed k) && d.get (Fld.spdifNpstatStream k) == n &&
    d.get (Fld.spdifNpstatPair k) == j)

/-- Bind the monitors at a commit (R310). -/
def Dev.bindNp (d : Dev) : Dev :=
  let streams := (if d.is Fld.spdifCfgRxNp then [(6, 0)] else []) ++
    (List.range 6).flatMap (fun n => (bitList 8 (d.get (Fld.spdifIecmapPairs n))).map (fun j => (n, j)))
  d.each ((streams.take 8).zipIdx) (fun d e =>
    ((d.put (Fld.spdifNpstatUsed e.2) 1).put (Fld.spdifNpstatStream e.2) e.1.1).put (Fld.spdifNpstatPair e.2) e.1.2)

/-- An indication at monitor `k` with its cause (R312, R313): the stream is muted and the PCM time restarts; a ramp is cut,
and the frames that wait become silence. -/
def Dev.npIndicate (d : Dev) (k cause : Nat) : Dev :=
  let x := d.np k
  let was := d.is (Fld.spdifNpstatMuted k)
  let n := d.get (Fld.spdifNpstatStream k)
  let j := d.get (Fld.spdifNpstatPair k)
  let d := if x.ramping then
      d.modDir n false (fun y => { y with fifo := y.fifo.map (fun f => { f with slots := f.slots.zipIdx.map (fun e =>
        if e.2 / 2 = j then 0 else e.1) }) })
    else d
  let d := d.setNp k { x with frames := 0, ramp := 0, ramping := false }
  let d := ((d.put (Fld.spdifNpstatMuted k) 1).put (Fld.spdifNpstatCause k) cause).put (Fld.spdifNpstatPcmMs k) 0
  if was then d else d.happen Fld.spdifEventsNpChange

/-- Cause 3 for every stream of unit `n` (R311): enabled by relock_mute; the PCM time restarts in any case (R313). -/
def Dev.npRelock (d : Dev) (n : Nat) : Dev :=
  d.each ((List.range 8).filter (fun k => d.is (Fld.spdifNpstatUsed k) && d.get (Fld.spdifNpstatStream k) == n)) (fun d k =>
    if d.is Fld.spdifNpcfgRelockMute then d.npIndicate k 3
    else (d.setNp k { d.np k with frames := 0 }).put (Fld.spdifNpstatPcmMs k) 0)

/-- A stop of the streams of unit `n` restarts their PCM time (R313). -/
def Dev.npStop (d : Dev) (n : Nat) : Dev :=
  d.each ((List.range 8).filter (fun k => d.is (Fld.spdifNpstatUsed k) && d.get (Fld.spdifNpstatStream k) == n)) (fun d k =>
    (d.setNp k { d.np k with frames := 0 }).put (Fld.spdifNpstatPcmMs k) 0)

/-- Frames of PCM that the hold asks for (R313), in frames of the house. -/
def Dev.npDue (d : Dev) (k : Nat) : Bool :=
  decide (d.get Fld.spdifNpcfgHold * d.houseRate ≤ (d.np k).frames * 1000)

/-- NP_UNMUTE (R313). -/
def Dev.npUnmute (d : Dev) (k : Nat) : Dev :=
  if d.is (Fld.spdifNpstatMuted k) && d.npDue k then
    ((d.setNp k { d.np k with ramp := 0, ramping := true }).put (Fld.spdifNpstatMuted k) 0).happen Fld.spdifEventsNpChange
  else d

/-- A frame boundary at monitor `k` (R313): PCM time and the ramp. -/
def Dev.npTick (d : Dev) (k : Nat) : Dev :=
  let x := d.np k
  if !d.is (Fld.spdifNpstatUsed k) then d
  else if d.is (Fld.spdifNpstatMuted k) then
    if d.dirSt (d.get (Fld.spdifNpstatStream k)) false == PortSt.running ||
        d.dirSt (d.get (Fld.spdifNpstatStream k)) false == PortSt.silentStart then
      (d.setNp k { x with frames := x.frames + 1 }).put (Fld.spdifNpstatPcmMs k)
        (min ((x.frames + 1) * 1000 / d.houseRate) 0xFFFF)
    else d
  else if x.ramping then
    d.setNp k { x with ramp := x.ramp + 1, ramping := decide (x.ramp + 1 < d.get Fld.spdifNpcfgRamp) }
  else d

/-- The delivered sample of slot `s` of unit `n` after the monitors' ramp (R313). -/
def Dev.npGain (d : Dev) (n s : Nat) (x : Int) : Int :=
  match d.npOf n (s / 2) with
  | some k => if (d.np k).ramping then Int.ediv (x * (d.np k).ramp) (d.get Fld.spdifNpcfgRamp) else x
  | none => x

/-- The parts of an IEC 60958 subframe (R302, R303): its sample, V, and whether parity over slots 4 to 31 is even. -/
def subSample (w : Nat) : Int := sgn 24 (bitsOf w 4 24) * 256
def subV (w : Nat) : Bool := bitOf w 28
def subC (w : Nat) : Bool := bitOf w 30
def subParity (w : Nat) : Bool := (popcount 32 w - popcount 4 w) % 2 == 0

/-- One subframe under R303: delivered sample, then the samples kept as last passed and last valid. -/
def subTake (vmode : Nat) (last valid : Int) (w : Nat) : Int × Int × Int :=
  let x := subSample w
  if !subParity w then (last, last, valid)
  else if !subV w then (x, x, x)
  else
    let y := if vmode = 0 then x else if vmode = 1 then 0 else valid
    (y, y, valid)

/-- Counters and events of R303 for one subframe. -/
def Dev.subCount (d : Dev) (w : Nat) : Dev :=
  let d := if subParity w then d else (d.inc Fld.spdifCount2Parity).happen Fld.spdifEventsParity
  if subV w then d.inc Fld.spdifCount3Invalid else d

/-- The burst preamble of cause 2 (R311), on the samples before substitution. -/
def isBurst (a b : Nat) : Bool := bitsOf a 12 16 == 0xF872 && bitsOf b 12 16 == 0x4E1F

/-- The marked pair of monitor `k` receives the subframes `a` and `b` (R310 to R312): the two samples delivered. -/
def Dev.npPair (d : Dev) (k a b : Nat) : Dev × Int × Int :=
  let x := d.np k
  let pos := if bitOf a 0 then 0 else x.pos + 1
  let vm := d.get Fld.spdifCfgRxVmode
  let (ya, la, va) := subTake vm x.lastA x.validA a
  let (yb, lb, vb) := subTake vm x.lastB x.validB b
  let d := (d.subCount a).subCount b
  let d := d.setNp k { x with pos := min pos 192, lastA := la, lastB := lb, validA := va, validB := vb }
  let d := if isBurst a b then d.npIndicate k 2 else if pos = 1 ∧ (subC a ∨ subC b) then d.npIndicate k 1 else d
  if d.is (Fld.spdifNpstatMuted k) then (d, 0, 0) else (d, ya, yb)

/-! ### Rate converters (R316 to R319) -/

/-- A group at rest. -/
def Asrc.init : Asrc := ⟨0, AsrcSt.wait, false⟩

/-- The group of a direction (R316). -/
def groupOf (n : Nat) (tx : Bool) : Nat := 2 * n + if tx then 1 else 0

/-- Group `g` beyond its registers. -/
def Dev.asrc (d : Dev) (g : Nat) : Asrc := SMap.get Asrc.init d.ser.asrc g

/-- Set group `g`. -/
def Dev.setAsrc (d : Dev) (g : Nat) (x : Asrc) : Dev :=
  { d with ser := { d.ser with asrc := SMap.set Asrc.init d.ser.asrc g x } }

/-- State of group `g`. -/
def Dev.asrcSt (d : Dev) (g : Nat) : Nat := d.get (Fld.asrcGStatusState g)

/-- Bind the groups at a commit (R316). -/
def Dev.bindAsrc (d : Dev) : Dev :=
  let gs := (List.range 14).filter (fun g => d.isConv (g / 2) (g % 2 == 1))
  (gs.foldl (fun (acc : Nat × Dev) g =>
    let c := d.unitSlots (g / 2)
    (acc.1 + c, ((acc.2.put (Fld.asrcGStatusState g) AsrcSt.wait).put (Fld.asrcGStatusCount g) c).put
      (Fld.asrcGStatusFirst g) acc.1)) (0, d)).2

/-- The stream rate of a group as a period in CLK_PER cycles × 256 (2,560 cycles per frame of the base rate), 0 unknown. -/
def Dev.streamPeriod (d : Dev) (n : Nat) (tx : Bool) : Nat :=
  if d.isMaster n tx then
    (if rateHz (d.rateCode n tx) = 0 then 0
     else 2560 * 256 * (if d.is Fld.clkPlanFamily then 44100 else 48000) / rateHz (d.rateCode n tx))
  else
    let m := d.pairOfDir n tx
    if d.get (Fld.rmonStatusState m) = 3 then d.get (Fld.rmonStatusPeriod m) else 0

/-- The house frame period in CLK_PER cycles × 256. -/
def Dev.housePeriod (d : Dev) : Nat := 256 * (if d.get Fld.clkPlanRate = 0 then 2560 else 1280)

/-- The rate code within 1 % of a period, else 15 (R315). -/
def Dev.codeOf (d : Dev) (period : Nat) : Nat :=
  let perHz := 2560 * 256 * (if d.is Fld.clkPlanFamily then 44100 else 48000)
  ((List.range 13).find? (fun c =>
    decide (99 * rateHz c * period ≤ 100 * perHz) && decide (100 * perHz ≤ 101 * rateHz c * period))).getD 15

/-- The stream rate of a group is acceptable (R318): 8 to 192 kHz and, without follow, the configured code. -/
def Dev.rateOk (d : Dev) (g : Nat) (period : Nat) : Bool :=
  let perHz := 2560 * 256 * (if d.is Fld.clkPlanFamily then 44100 else 48000)
  decide (8000 * period ≤ perHz) && decide (perHz ≤ 192000 * period) &&
    (d.is (Fld.asrcGCfgFollow g) || decide (6 ≤ g / 2) || d.codeOf period == d.rateCode (g / 2) (g % 2 == 1))

/-- The direction of group `g` runs and is framed. -/
def Dev.groupFramed (d : Dev) (g : Nat) : Bool :=
  let st := d.dirSt (g / 2) (g % 2 == 1)
  st == PortSt.silentStart || st == PortSt.running

/-- The row from WAIT (R318). -/
def Dev.asrcTry (d : Dev) (g : Nat) : Dev :=
  let p := d.streamPeriod (g / 2) (g % 2 == 1)
  if d.asrcSt g != AsrcSt.wait || !d.groupFramed g || !d.on Dom.asrc || d.inFallback || p == 0 then d
  else if d.rateOk g p then (d.put (Fld.asrcGStatusState g) AsrcSt.acquire).inc (Fld.asrcGCountAcquires g)
  else d.put (Fld.asrcGStatusState g) AsrcSt.outOfRange

/-- Leaving TRACK or FADE_IN (R318). -/
def Dev.asrcUnlock (d : Dev) (g : Nat) : Dev :=
  if d.asrcSt g == AsrcSt.track || d.asrcSt g == AsrcSt.fadeIn then d.happenAt Fld.asrcEventsUnlock g else d

/-- The destination that a finished fade reaches: the state by the rules from WAIT (R318). -/
def Dev.asrcLand (d : Dev) (g dest : Nat) : Dev :=
  let d := (d.put (Fld.asrcGStatusState g) AsrcSt.wait).setAsrc g { d.asrc g with gain := 0 }
  if dest = AsrcSt.wait then d else d.asrcTry g

/-- A group is sent to FADE_OUT towards `dest` (R318). During FADE_OUT the destination is replaced, and a stop keeps
precedence; the estimate is cleared. -/
def Dev.asrcFadeOut (d : Dev) (g dest : Nat) : Dev :=
  let st := d.asrcSt g
  if st = AsrcSt.unbound ∨ st = AsrcSt.wait then d
  else if st = AsrcSt.fadeOut then
    if (d.asrc g).dest = AsrcSt.wait then d else d.setAsrc g { d.asrc g with dest := dest }
  else
    let d := (d.asrcUnlock g).put (Fld.asrcGStatusState g) AsrcSt.fadeOut
    let d := (d.inc (Fld.asrcGCountFades g)).put (Fld.asrcGRatioRatio g) 0
    d.setAsrc g { d.asrc g with dest := dest, kept := false }

/-- A stop, a run written 0, or domain ASRC leaving on (R318). -/
def Dev.asrcStop (d : Dev) (g : Nat) : Dev := d.asrcFadeOut g AsrcSt.wait

/-- A rate change declared (R318). -/
def Dev.asrcRate (d : Dev) (g : Nat) : Dev :=
  if d.asrcSt g = AsrcSt.outOfRange then
    (if d.rateOk g (d.streamPeriod (g / 2) (g % 2 == 1)) then
      (d.put (Fld.asrcGStatusState g) AsrcSt.acquire).inc (Fld.asrcGCountAcquires g)
     else d)
  else if d.asrcSt g = AsrcSt.wait then d.asrcTry g
  else d.asrcFadeOut g AsrcSt.acquire

/-- Loss of framing (R318): FADE_IN and TRACK hold with the ratio frozen. -/
def Dev.asrcHold (d : Dev) (g : Nat) : Dev :=
  if d.asrcSt g == AsrcSt.track || d.asrcSt g == AsrcSt.fadeIn then
    ((d.asrcUnlock g).put (Fld.asrcGStatusState g) AsrcSt.hold).inc (Fld.asrcGCountFades g)
  else d

/-- HOLD ends when framing is regained with two frames in the FIFO (R318). -/
def Dev.asrcRegain (d : Dev) (g : Nat) : Dev :=
  if d.asrcSt g == AsrcSt.hold && d.groupFramed g && decide (2 ≤ (d.dir (g / 2) (g % 2 == 1)).fifo.length) then
    d.put (Fld.asrcGStatusState g) AsrcSt.fadeIn
  else d

/-- ASRC_ACQUIRED (R318): the ratio is known. -/
def Dev.asrcAcquired (d : Dev) (g : Nat) : Dev :=
  let p := d.streamPeriod (g / 2) (g % 2 == 1)
  if d.asrcSt g = AsrcSt.acquire then
    (d.put (Fld.asrcGStatusState g) AsrcSt.fadeIn).put (Fld.asrcGRatioRatio g) (if p = 0 then 0 else d.housePeriod * 2 ^ 24 / p)
  else d

/-- ASRC_FADE_DONE (R318). -/
def Dev.asrcFadeDone (d : Dev) (g : Nat) : Dev :=
  if d.asrcSt g = AsrcSt.fadeIn ∧ 256 ≤ (d.asrc g).gain then
    (d.put (Fld.asrcGStatusState g) AsrcSt.track).happenAt Fld.asrcEventsLock g
  else if d.asrcSt g = AsrcSt.fadeOut ∧ (d.asrc g).gain = 0 then d.asrcLand g (d.asrc g).dest
  else d

/-- ASRC_HOLD_TIMEOUT (R318). -/
def Dev.asrcHoldTimeout (d : Dev) (g : Nat) : Dev :=
  if d.asrcSt g = AsrcSt.hold then d.asrcLand g AsrcSt.wait else d

/-- A house frame at group `g` (R318): the gain moves. -/
def Dev.asrcTick (d : Dev) (g : Nat) : Dev :=
  let x := d.asrc g
  if d.asrcSt g = AsrcSt.fadeIn then d.setAsrc g { x with gain := min 256 (x.gain + 1) }
  else if d.asrcSt g = AsrcSt.fadeOut ∨ d.asrcSt g = AsrcSt.hold then d.setAsrc g { x with gain := x.gain - 8 }
  else d

/-- Entry to fallback freezes every group (R319). -/
def Dev.asrcFreeze (d : Dev) (g : Nat) : Dev :=
  let st := d.asrcSt g
  d.setAsrc g { d.asrc g with kept := st == AsrcSt.fadeIn || st == AsrcSt.track || st == AsrcSt.hold }

/-- The restart of R84 (R319). -/
def Dev.asrcThaw (d : Dev) (g : Nat) : Dev :=
  if d.asrcSt g = AsrcSt.unbound then d
  else if (d.asrc g).kept then
    let d := if d.asrcSt g = AsrcSt.hold then d
      else ((d.asrcUnlock g).put (Fld.asrcGStatusState g) AsrcSt.hold).inc (Fld.asrcGCountFades g)
    d.setAsrc g { d.asrc g with kept := false }
  else d.asrcLand g AsrcSt.wait

/-- A converter's output for slot `k` of group `g`: a free value under the group's gain; 0 where the gain is 0. -/
def Dev.asrcOut (d : Dev) (g k : Nat) : Int :=
  satS 32 (Config.asrcSample d.free k) * (d.asrc g).gain / 256

/-! ### What a monitor watches (R314) -/

/-- A monitor at rest. -/
def Rmon.init : Rmon := ⟨[], [], 0, [], false⟩

/-- Monitor `m`. -/
def Dev.rmon (d : Dev) (m : Nat) : Rmon := SMap.get Rmon.init d.ser.rmon m
def Dev.setRmon (d : Dev) (m : Nat) (x : Rmon) : Dev := { d with ser := { d.ser with rmon := SMap.set Rmon.init d.ser.rmon m x } }

/-- Directions on monitor `m`'s input. -/
def Dev.rmonDirs (d : Dev) (m : Nat) : List (Nat × Bool) :=
  if m = 12 then [(6, false)] else [(m / 2, false), (m / 2, true)].filter (fun e => d.pairOfDir e.1 e.2 == m)

/-- Running directions that follow on it (R314). -/
def Dev.rmonFollow (d : Dev) (m : Nat) : List (Nat × Bool) :=
  (d.rmonDirs m).filter (fun e => !d.isMaster e.1 e.2 && d.dirSt e.1 e.2 != PortSt.idle)

/-- The state of a monitor that does not measure: DRIVEN with the configured rate, IDLE, or ABSENT when it starts (R314). -/
def Dev.rmonShow (d : Dev) (m : Nat) : Dev :=
  match (d.rmonDirs m).find? (fun e => d.isMaster e.1 e.2 && d.dirSt e.1 e.2 != PortSt.idle) with
  | some e => (d.put (Fld.rmonStatusState m) 4).put (Fld.rmonStatusRate m) (d.rateCode e.1 e.2)
  | none =>
    if (d.rmonFollow m).isEmpty then
      (((d.setRmon m Rmon.init).put (Fld.rmonStatusState m) 0).put (Fld.rmonStatusRate m) 15).put (Fld.rmonStatusPeriod m) 0
    else if d.get (Fld.rmonStatusState m) = 0 ∨ d.get (Fld.rmonStatusState m) = 4 then
      (((d.setRmon m Rmon.init).put (Fld.rmonStatusState m) 1).put (Fld.rmonStatusRate m) 15).put (Fld.rmonStatusPeriod m) 0
    else d

/-! ### Directions (R271 to R289) -/

/-- The direction returns to IDLE (R278). -/
def Dev.dirIdle (d : Dev) (n : Nat) (tx : Bool) : Dev :=
  let x := d.dir n tx
  let pin := if tx then List.replicate (d.unitSlots n) (d.idleSlot n) else []
  let y : PDir :=
    { PDir.init with
      blkFirst := x.blkFirst, lastMask := x.lastMask, closed := x.closed, pin := pin }
  let d := (d.setDir n tx y).setDirSt n tx PortSt.idle
  (d.setLock n tx false).rmonShow (d.pairOfDir n tx)

/-- A stop completes (R278). -/
def Dev.dirStopped (d : Dev) (n : Nat) (tx : Bool) : Dev := (d.dirIdle n tx).portEv n PortEv.stopped

/-- Close and empty a FIFO. -/
def PDir.shut (x : PDir) : PDir := { x with fifo := [], isOpen := false, primed := false, sending := [] }

/-- The direction locks (R275): silent frames follow a start, none a re-framing (R276, R277). -/
def Dev.dirLock (d : Dev) (n : Nat) (tx : Bool) : Dev :=
  let x := d.dir n tx
  let sil := if x.fresh then d.silStart n else 0
  let d := d.setLock n tx true
  let y : PDir :=
    { x with
      sil := sil, silDone := 0, good := 2, edge := true, isOpen := x.isOpen || (tx && decide (sil < 2)),
      begMask := d.get (Fld.portSlotmaskRxMask n) }
  let d := d.setDir n tx y
  if tx then d.setDirSt n tx PortSt.silentStart
  else if sil = 0 then
    let d := d.setDirSt n tx PortSt.running
    if x.fresh then (d.modDir n tx (fun y => { y with fresh := false })).portEv n PortEv.started else d
  else d.setDirSt n tx PortSt.silentStart

/-- PORT_RUN_START (R270, R277, R279). Writing the present value has no effect. -/
def Dev.portStart (d : Dev) (ag : Agent) (n : Nat) (tx : Bool) : Dev :=
  if !d.portWard n then d.viol 0 ag (unitCtrl n)
  else if d.is (runF n tx) then d
  else
    let x := d.dir n tx
    let d := d.put (runF n tx) 1
    let d := if n = 6 then d else d.wr (if tx then Reg.portTxframe n else Reg.portRxframe n) 0
    let st := d.dirSt n tx
    if x.stopPend then d.setDir n tx { x with stopPend := false }
    else if st = PortSt.silentStop then
      (d.setDir n tx { x with silDone := 0, fresh := true, latched := false, isOpen := tx && decide (x.sil < 2) }).setDirSt
        n tx PortSt.silentStart
    else if st = PortSt.idle then
      let mask := d.get (Fld.portSlotmaskRxMask n)
      let d := d.setDir n tx { PDir.init with fresh := true, blkFirst := true, begMask := mask, lastMask := mask }
      (d.setDirSt n tx (if d.inFallback && !d.isMem n tx then PortSt.halted else PortSt.framing)).rmonShow (d.pairOfDir n tx)
    else d

/-- PORT_RUN_STOP (R278, R279, R318). -/
def Dev.portStop (d : Dev) (n : Nat) (tx : Bool) : Dev :=
  if !d.is (runF n tx) then d
  else
    let x := d.dir n tx
    let d := (d.put (runF n tx) 0).asrcStop (groupOf n tx)
    let d := if tx then d else d.npStop n
    let st := d.dirSt n tx
    if st = PortSt.running then d.setDir n tx { x with stopPend := true }
    else if st = PortSt.halted then d.dirStopped n tx
    else if st = PortSt.framing ∧ d.isMaster n tx then d.dirStopped n tx
    else if st = PortSt.framing ∨ st = PortSt.silentStart then
      let left := if tx || d.isMaster n tx then d.silStop n - x.silDone else 0
      let d := d.setDir n tx { x.shut with sil := left, latched := false }
      if left = 0 then d.dirStopped n tx else d.setDirSt n tx PortSt.silentStop
    else d

/-- PORT_CLR_CNT (R295, R299, R322). -/
def Dev.portClr (d : Dev) (n : Nat) : Dev :=
  d.each (List.range (if n = 6 then 4 else 3)) (fun d i => d.wr (unitCount n i) 0)

/-- The keyway form of a slot's bits at the pins: its first D bits (R267). -/
def Dev.slotSample (d : Dev) (n w : Nat) : Int :=
  let W := d.slotWidth n
  let D := d.dataWidth n
  sgn 32 (w % 2 ^ W / 2 ^ (W - D) * 2 ^ (32 - D))

/-- The samples of a received port frame: marked pairs unpacked and judged (R310, R312), the others by R267. -/
def Dev.portSamples (d : Dev) (n : Nat) (ws : List Nat) : Dev × List Int :=
  (List.range (d.unitSlots n / 2)).foldl (fun (acc : Dev × List Int) j =>
    let a := ws.getD (2 * j) 0
    let b := ws.getD (2 * j + 1) 0
    match acc.1.npOf n j with
    | some k => let (d', x, y) := acc.1.npPair k a b
                (d', acc.2 ++ [x, y])
    | none => (acc.1, acc.2 ++ [acc.1.slotSample n a, acc.1.slotSample n b])) (d, [])

/-- A real frame completes on a receive direction (R271, R280, R282, R286). -/
def Dev.frameIn (d : Dev) (n : Nat) (slots : List Int) : Dev :=
  let x := d.dir n false
  if d.fifoDepth n false ≤ x.fifo.length then
    (d.portCount n PortEv.rxOver).modDir n false (fun y => { y with lost := true })
  else
    let no := if n = 6 then 0 else (d.rd (Reg.portRxframe n)).toNat
    let f : PFrame := ⟨d.frame, no, x.begMask, x.lost, slots⟩
    let d := d.setDir n false { x with lost := false, fifo := x.fifo ++ [f] }
    (d.fillBlock n).asrcRegain (groupOf n false)

/-- A receive frame with correct framing has completed: silent, discarded or real (R271, R277 to R279, R288, R299). -/
def Dev.frameDone (d : Dev) (n : Nat) (slots : List Int) : Dev :=
  let x := d.dir n false
  let st := d.dirSt n false
  let d :=
    if st = PortSt.silentStart then
      if x.sil ≤ 1 then
        ((d.setDir n false { x with sil := 0, silDone := x.silDone + 1, fresh := false }).setDirSt n false
          PortSt.running).cond x.fresh (fun d => d.portEv n PortEv.started)
      else d.setDir n false { x with sil := x.sil - 1, silDone := x.silDone + 1 }
    else if st = PortSt.silentStop then
      if x.sil ≤ 1 then d.dirStopped n false else d.setDir n false { x with sil := x.sil - 1 }
    else if st = PortSt.running then d.frameIn n slots
    else d
  d.modDir n false (fun y => { y with begMask := d.get (Fld.portSlotmaskRxMask n) })

/-- PORT_FRAME_RECEIVED (R271): the slots' bits at the pins. -/
def Dev.portFrame (d : Dev) (n : Nat) (ws : List Nat) : Dev :=
  let st := d.dirSt n false
  if !d.on Dom.ports || st = PortSt.idle || (st == PortSt.halted && d.isMaster n false) ||
      (st == PortSt.framing && !(d.dir n false).edge) then d
  else
    let d := d.incWrap (Fld.portRxframeCount n)
    if st = PortSt.running ∨ st = PortSt.silentStart then
      let (d, xs) := d.portSamples n ws
      d.frameDone n xs
    else d.frameDone n []

/-- Framing is lost on one direction (R276). -/
def Dev.dirUnframe (d : Dev) (n : Nat) (tx : Bool) : Dev :=
  let st := d.dirSt n tx
  let d := if tx then d else d.breakBlock n
  let pin := if tx then List.replicate (d.unitSlots n) (d.idleSlot n) else []
  let d := d.modDir n tx (fun x =>
    { x.shut with
      edge := true, good := 0, fresh := x.fresh && st == PortSt.silentStart, pin := pin })
  let d := d.setLock n tx false
  let d := if st = PortSt.silentStart ∨ st = PortSt.running then d.setDirSt n tx PortSt.framing else d
  (if tx then d else d.npRelock n).asrcHold (groupOf n tx)

/-- The directions of port `n` that follow clock pair `pair` and are not idle (R275). -/
def Dev.followers (d : Dev) (pair : Nat) : List (Nat × Bool) :=
  [(pair / 2, false), (pair / 2, true)].filter (fun e =>
    d.pairOfDir e.1 e.2 == pair && !d.isMaster e.1 e.2 && d.dirSt e.1 e.2 != PortSt.idle)

/-- PORT_FS_EDGE on pair `pair` after `bits` bit clocks (R275, R276, R315). -/
def Dev.fsEdge (d : Dev) (pair bits : Nat) : Dev :=
  let n := pair / 2
  let good := bits == d.unitSlots n * d.slotWidth n
  let fs := d.followers pair
  if !d.on Dom.ports || fs.isEmpty then d
  else
    let locked (e : Nat × Bool) : Bool := d.is (lockF e.1 e.2)
    let d := if !good && fs.any locked then
        let d := d.portCount n PortEv.frameErr
        { d with ser := { d.ser with rmon := SMap.modify Rmon.init d.ser.rmon pair (fun x =>
          { x with lost := true }) } }
      else d
    d.each fs (fun d e =>
      let x := d.dir e.1 e.2
      if locked e then (if good then d else d.dirUnframe e.1 e.2)
      else if good && x.edge then
        let d := d.setDir e.1 e.2 { x with good := x.good + 1 }
        if x.good + 1 < 2 then d
        else if d.dirSt e.1 e.2 = PortSt.framing then (d.dirLock e.1 e.2).asrcTry (groupOf e.1 e.2)
        else d.setLock e.1 e.2 true
      else d.setDir e.1 e.2 { x with edge := true, good := 0 })

/-! ### S/PDIF (R300 to R309) -/

/-- The end of a channel-status block (R304): copied where two blocks agree. -/
def Dev.csCopy (d : Dev) (reg : Nat → Nat) (cs : Nat) (prev : Option Nat) : Dev :=
  if prev = some cs then
    let words := (List.range 6).map (fun w => (reg w, BitVec.ofNat 32 (cs / 2 ^ (32 * w))))
    let changed := words.any (fun e => d.rd e.1 != e.2)
    (d.each words (fun d e => d.wr e.1 e.2)).cond changed (fun d => d.happen Fld.spdifEventsCsChange)
  else d

/-- Channel status of a frame, and the end of its block (R304). -/
def Dev.csFrame (d : Dev) (f : SpdifIn) : Dev :=
  let s := d.ser.spdif
  if !d.is Fld.spdifStatusRxBlock || 191 < s.pos then d
  else
    let a := (if s.pos = 0 then 0 else s.csA) + (if subC f.a then 2 ^ s.pos else 0)
    let b := (if s.pos = 0 then 0 else s.csB) + (if subC f.b then 2 ^ s.pos else 0)
    if s.pos = 191 then
      let d := (d.csCopy Reg.spdifRxcsa a s.prevA).csCopy Reg.spdifRxcsb b s.prevB
      { d with ser := { d.ser with spdif := { s with csA := 0, csB := 0, prevA := some a, prevB := some b } } }
    else { d with ser := { d.ser with spdif := { s with csA := a, csB := b } } }

/-- The receiver's samples of a frame (R302, R303, R311, R312). -/
def Dev.spdifSamples (d : Dev) (f : SpdifIn) : Dev × List Int :=
  let s := d.ser.spdif
  let vm := d.get Fld.spdifCfgRxVmode
  let (ya, la, va) := subTake vm s.lastA s.validA f.a
  let (yb, lb, vb) := subTake vm s.lastB s.validB f.b
  let d := (d.subCount f.a).subCount f.b
  let d := { d with ser := { d.ser with spdif := { s with lastA := la, lastB := lb, validA := va, validB := vb } } }
  match d.npOf 6 0 with
  | none => (d, [ya, yb])
  | some k =>
    let d := if isBurst f.a f.b then d.npIndicate k 2
      else if d.is Fld.spdifStatusRxBlock ∧ s.pos = 1 ∧ (subC f.a ∨ subC f.b) then d.npIndicate k 1 else d
    (d, if d.is (Fld.spdifNpstatMuted k) then [0, 0] else [ya, yb])

/-- SPDIF_FRAME_RECEIVED (R301 to R304). -/
def Dev.spdifFrame (d : Dev) (f : SpdifIn) : Dev :=
  let st := d.dirSt 6 false
  if !d.on Dom.ports || st = PortSt.idle then d
  else
    let order := (f.preA == 0 || f.preA == 2) && f.preB == 1 && !f.biphase
    let s := d.ser.spdif
    let zBad := d.is Fld.spdifStatusRxBlock && f.preA == 2 && s.pos != 191
    let locked := d.is (lockF 6 false)
    let pos := if f.preA = 2 then 0 else min (s.pos + 1) 1000
    let d := { d with ser := { d.ser with spdif := { s with pos := pos } } }
    if locked then
      if order && !zBad then
        let d := if f.preA = 2 then d.put Fld.spdifStatusRxBlock 1 else d
        let d := d.csFrame f
        let (d, xs) := d.spdifSamples f
        d.frameDone 6 xs
      else
        let d := (d.portCount 6 PortEv.frameErr).dirUnframe 6 false
        let d := { d with ser := { d.ser with rmon := SMap.modify Rmon.init d.ser.rmon 12 (fun x =>
          { x with lost := true }) } }
        if zBad then d.put Fld.spdifStatusRxBlock 0 else d
    else
      let x := d.dir 6 false
      if order then
        let d := d.setDir 6 false { x with edge := true, good := x.good + 1 }
        if x.good + 1 < 2 then d
        else if st = PortSt.framing then (d.dirLock 6 false).asrcTry 12 else d.setLock 6 false true
      else d.setDir 6 false { x with good := 0 }

/-- The channel-status code of a rate in IEC 60958-3, bits 24 to 27 with bit 24 least significant (R308; PRESUMED). -/
def csRate (hz : Nat) : Nat :=
  if hz = 44100 then 0 else if hz = 48000 then 2 else if hz = 32000 then 3 else if hz = 88200 then 8
  else if hz = 96000 then 10 else if hz = 176400 then 12 else if hz = 192000 then 14 else 1

/-- The channel-status bit `j` of the transmitter for subframe B or A (R308). -/
def Dev.txCsBit (d : Dev) (b : Bool) (j : Nat) : Bool :=
  if d.is Fld.spdifCfgTxChnum && decide (20 ≤ j ∧ j ≤ 23) then bitOf (if b then 2 else 1) (j - 20)
  else if d.is Fld.spdifCfgTxAutofs && decide (24 ≤ j ∧ j ≤ 27) then
    bitOf (csRate (if d.is Fld.spdifCfgTxAsrc then rateHz (d.get Fld.spdifCfgTxRate) else d.houseRate)) (j - 24)
  else bitOf (d.ser.spdif.txCs.getD (j / 32) 0).toNat (j % 32)

/-- The time slots 4 to 31 of a transmitted subframe (R307). -/
def Dev.txSub (d : Dev) (b : Bool) (x : Int) : Nat :=
  let w := unsg 32 x / 256 * 16 + (if d.is (if b then Fld.spdifTxvalVB else Fld.spdifTxvalVA) then 2 ^ 28 else 0) +
    if d.txCsBit b d.ser.spdif.txPos then 2 ^ 30 else 0
  w + if subParity w then 0 else 2 ^ 31

/-- The transmitter sends a frame: a block begins with the channel status committed before it (R306, R308). -/
def Dev.txFrame (d : Dev) (xs : Option (List Int)) : Dev :=
  let s := d.ser.spdif
  let pos := (s.txPos + 1) % 192
  let cs := if pos = 0 then (List.range 6).map (fun w => d.rd (Reg.spdifTxcs w)) else s.txCs
  let d := { d with ser := { d.ser with spdif := { s with txPos := pos, txCs := cs } } }
  let get (k : Nat) : Int := match xs with
    | some l => l.getD k 0
    | none => 0
  d.modDir 6 true (fun x => { x with pin := [some (d.txSub false (get 0)), some (d.txSub true (get 1))] })

/-! ### Pin frames, passes and boundaries -/

/-- Send a frame on the pins of a transmit direction: `some` its slots, `none` zeros (R277, R280, R283). -/
def Dev.sendFrame (d : Dev) (n mask : Nat) (xs : Option (List Int)) : Dev :=
  if n = 6 then d.txFrame xs else d.modDir n true (fun x => { x with pin := d.pinFrame n mask xs })

/-- The committed transmit mask (R283); S/PDIF has none. -/
def Dev.txMask (d : Dev) (n : Nat) : Nat := if n = 6 then 3 else d.get (Fld.portSlotmaskTxMask n)

/-- A converted transmit group supplies a frame at the stream rate (R317): zeros in WAIT, ACQUIRE and OUT_OF_RANGE. -/
def Dev.convFrame (d : Dev) (n : Nat) : Dev :=
  let x := d.dir n true
  if d.isConv n true && x.isOpen && decide (x.fifo.length < 4) then
    let f : PFrame := ⟨d.frame, 0, d.txMask n, false, (List.range (d.unitSlots n)).map (d.asrcOut (groupOf n true))⟩
    let d' := d.setDir n true { x with fifo := x.fifo ++ [f] }
    { d' with free := d'.free + 1 }
  else d

/-- A running transmit direction starts a real pin frame (R273, R280). -/
def Dev.realFrame (d : Dev) (n : Nat) : Dev :=
  let d := (d.convFrame n).refill n
  let x := d.dir n true
  if !x.isOpen then d.sendFrame n (d.txMask n) none
  else if x.primed || decide (2 ≤ x.fifo.length) then
    match x.fifo with
    | f :: rest => ((d.setDir n true { x with primed := true, fifo := rest }).sendFrame n f.mask (some f.slots)).refill n
    | [] => (d.portCount n PortEv.txUnder).sendFrame n (d.txMask n) none
  else d.sendFrame n (d.txMask n) none

/-- PORT_PIN_FRAME_START (R273, R277 to R280): a transmit pin frame of unit `n` starts. -/
def Dev.pinStart (d : Dev) (n : Nat) : Dev :=
  let st0 := d.dirSt n true
  if !d.on Dom.ports || st0 = PortSt.idle || (st0 == PortSt.halted && d.isMaster n true) then d
  else
    let d := if st0 = PortSt.framing ∧ d.isMaster n true then
        let d := if n = 6 then { d with ser := { d.ser with spdif := { d.ser.spdif with txPos := 191 } } } else d
        (d.dirLock n true).asrcTry (groupOf n true)
      else d
    let x := d.dir n true
    let d := if x.stopPend then
        (d.setDir n true { x.shut with stopPend := false, sil := d.silStop n }).setDirSt n true PortSt.silentStop
      else d
    let x := d.dir n true
    let st := d.dirSt n true
    if st = PortSt.silentStop ∧ x.sil = 0 then d.dirStopped n true
    else
      let d := if n = 6 then d else d.incWrap (Fld.portTxframeCount n)
      if st = PortSt.silentStop then (d.setDir n true { x with sil := x.sil - 1 }).sendFrame n (d.txMask n) none
      else if st = PortSt.silentStart ∧ 0 < x.sil then
        (d.setDir n true { x with sil := x.sil - 1, silDone := x.silDone + 1, isOpen := x.isOpen || x.sil == 2 }).sendFrame n
          (d.txMask n) none
      else if st = PortSt.silentStart then
        let d := (d.setDirSt n true PortSt.running).cond x.fresh (fun d => d.portEv n PortEv.started)
        (d.modDir n true (fun y => { y with fresh := false })).realFrame n
      else if st = PortSt.running then d.realFrame n
      else if st = PortSt.halted then d.sendFrame n (d.txMask n) none
      else d

/-- First keyway source and sink of unit `n` (R101, R102). -/
def unitSource (n : Nat) : Nat := if n = 6 then 160 else 64 + 16 * n
def unitSink (n : Nat) : Nat := if n = 6 then 112 else 16 + 16 * n

/-- The direct-path receiver runs off the house rate (R305). -/
def Dev.rateMismatch (d : Dev) : Bool :=
  let p := d.get (Fld.rmonStatusPeriod 12)
  let h := d.housePeriod
  !d.isConv 6 false && d.get (Fld.rmonStatusState 12) == 3 && (decide (100 * p < 99 * h) || decide (101 * h < 100 * p))

/-- The source latch of pass `p` at unit `n` (R272, R280, R282, R305, R317): the samples of its sources. -/
def Dev.portLatch (d : Dev) (n p : Nat) : Dev × List Int :=
  let st := d.dirSt n false
  let x := d.dir n false
  let g := groupOf n false
  let mask := if n = 6 then 3 else d.get (Fld.portSlotmaskRxMask n)
  let masked (f : Nat → Int) : List Int := (List.range (d.unitSlots n)).map (fun k => if bitOf mask k then f k else 0)
  if !d.on Dom.ports || d.isMem n false || d.inFallback then (d, [])
  else if d.isConv n false then
    let d := if st = PortSt.running && d.asrcSt g != AsrcSt.hold then d.setDir n false { x with fifo := [], latched := true } else d
    let d := d.asrcTick g
    if (d.asrc g).gain = 0 then (d, []) else ({ d with free := d.free + 1 }, masked (d.asrcOut g))
  else if st = PortSt.idle ∨ st = PortSt.silentStop ∨ st = PortSt.halted then (d, [])
  else match x.fifo with
    | f :: rest =>
      if x.primed || notBefore p ((f.pass + 2) % 2 ^ 32) then
        let d' := d.setDir n false { x with fifo := rest, primed := true, latched := true }
        (d', if n == 6 && d.rateMismatch then [] else masked (fun k => d.npGain n k (f.slots.getD k 0)))
      else if x.latched then (d.portCount n PortEv.rxUnder, []) else (d, [])
    | [] => if x.latched then (d.portCount n PortEv.rxUnder, []) else (d, [])

/-- The write-out of pass `p` hands unit `n` its frame (R273, R280, R283). -/
def Dev.portHand (d : Dev) (n p : Nat) : Dev :=
  let x := d.dir n true
  if d.isConv n true then d.asrcTick (groupOf n true)
  else if !d.on Dom.ports || d.isMem n true || !x.isOpen then d
  else if 4 ≤ x.fifo.length then d.portCount n PortEv.txOver
  else
    let xs := (List.range (d.unitSlots n)).map (fun k => SMap.get 0 d.key.sink (unitSink n + k))
    d.setDir n true { x with fifo := x.fifo ++ [⟨p, 0, d.txMask n, false, xs⟩] }

/-- A frame boundary at the receive direction of unit `n` (R277, R278): a master starts, a stop takes effect. -/
def Dev.portBoundary (d : Dev) (n : Nat) : Dev :=
  let st := d.dirSt n false
  let x := d.dir n false
  if !d.on Dom.ports then d
  else if st = PortSt.framing ∧ d.isMaster n false ∧ ¬d.inFallback then (d.dirLock n false).asrcTry (groupOf n false)
  else if x.stopPend then
    let d := d.breakBlock n
    let d := d.modDir n false (fun y => { y.shut with stopPend := false, latched := false, sil := d.silStop n })
    if d.isMaster n false && d.silStop n != 0 then d.setDirSt n false PortSt.silentStop else d.dirStopped n false
  else d

/-- A committed PORTn_SLOTMASK takes effect (R282). -/
def Dev.maskCommit (d : Dev) (n : Nat) : Dev := d.happen (Fld.portEventsMask n)

/-- Entry to fallback at a direction (R288). -/
def Dev.dirFallback (d : Dev) (n : Nat) (tx : Bool) : Dev :=
  let st := d.dirSt n tx
  let x := d.dir n tx
  if st = PortSt.idle ∨ st = PortSt.halted then d
  else if st = PortSt.silentStop ∨ x.stopPend then d.dirStopped n tx
  else if d.isMem n tx && !d.isMaster n tx then d
  else
    let d := if tx then d else d.breakBlock n
    let d := if d.isMaster n tx then d.setLock n tx false else d
    (d.modDir n tx (fun y => { y.shut with latched := y.latched && !d.isMaster n tx })).setDirSt n tx PortSt.halted

/-- The restart of R84 at a direction (R288). -/
def Dev.dirRestart (d : Dev) (n : Nat) (tx : Bool) : Dev :=
  if d.dirSt n tx != PortSt.halted then d
  else
    let d := d.portRestartEv n
    if d.isMaster n tx then
      (d.modDir n tx (fun y => { y with fresh := true, silDone := 0, blkFirst := true })).setDirSt n tx PortSt.framing
    else if (d.dir n tx).edge && decide (2 ≤ (d.dir n tx).good) then
      (d.modDir n tx (fun y => { y with fresh := false, sil := 0, isOpen := tx })).setDirSt n tx PortSt.running
    else d.setDirSt n tx PortSt.framing

/-- Every direction: entry to fallback, with the converters (R288, R319). -/
def Dev.portsFallback (d : Dev) : Dev :=
  (d.each (List.range 14) (fun d k => d.dirFallback (k / 2) (k % 2 == 1))).each (List.range 14) Dev.asrcFreeze

/-- Every direction: the restart of R84. -/
def Dev.portsRestart (d : Dev) : Dev :=
  (d.each (List.range 14) (fun d k => d.dirRestart (k / 2) (k % 2 == 1))).each (List.range 14) Dev.asrcThaw

/-- Every running direction starts its silent stop (R289). -/
def Dev.portsStop (d : Dev) : Dev := d.each (List.range 14) (fun d k => d.portStop (k / 2) (k % 2 == 1))

/-- Every direction is idle (R289). -/
def Dev.portsIdle (d : Dev) : Bool := (List.range 14).all (fun k => d.dirSt (k / 2) (k % 2 == 1) == PortSt.idle)

/-- STATUS.released follows the package's role (R290, R309). -/
def Dev.portsRole (d : Dev) : Dev :=
  (d.each (List.range 6) (fun d n => d.flag (Fld.portStatusReleased n) d.released)).flag Fld.spdifStatusReleased d.released

/-! ### Rate monitors (R314, R315) -/

/-- The mean of a list of periods, × 256. -/
def mean256 (l : List Nat) : Nat := if l.length = 0 then 0 else 256 * l.sum / l.length

/-- A period lies within 2 % of a tracked one (R315); `t` is × 256. -/
def near2 (c t : Nat) : Bool := decide (98 * t ≤ 100 * (256 * c)) && decide (100 * (256 * c) ≤ 102 * t)

/-- Periods within 0.5 % of one another (R315). -/
def alike (l : List Nat) : Bool :=
  match l.max?, l.min? with
  | some a, some b => decide (1000 * a ≤ 1005 * b)
  | _, _ => false

/-- The monitor tracks these periods: state, period and rate code. STEADY once eight are accepted (log 41). -/
def Dev.rmonTrack (d : Dev) (m : Nat) (x : Rmon) : Dev :=
  let t := mean256 x.acc
  (((d.setRmon m x).put (Fld.rmonStatusPeriod m) t).put (Fld.rmonStatusState m) (if x.acc.length < 8 then 2 else 3)).put
    (Fld.rmonStatusRate m) (d.codeOf t)

/-- The groups on monitor `m`'s input. -/
def Dev.rmonGroups (d : Dev) (m : Nat) : List Nat := (d.rmonFollow m).map (fun e => groupOf e.1 e.2)

/-- The receive unit of monitor `m`'s input, where it follows there. -/
def Dev.rmonUnits (d : Dev) (m : Nat) : List Nat := ((d.rmonFollow m).filter (fun e => !e.2)).map (·.1)

/-- RMON_STOP (R315): the tracked period is kept as the one before the stop. -/
def Dev.rmonStop (d : Dev) (m : Nat) : Dev :=
  let st := d.get (Fld.rmonStatusState m)
  if (d.rmonFollow m).isEmpty || !(st == 2 || st == 3 || (st == 1 && d.rmon m == Rmon.init)) then d
  else
    let d := (d.inc (Fld.rmonCountStops m)).happenAt Fld.rmonEvents0Stop m
    let t := d.get (Fld.rmonStatusPeriod m)
    let d := ((d.setRmon m { Rmon.init with before := t, lost := true }).put (Fld.rmonStatusState m) 1).put (Fld.rmonStatusRate m) 15
    let d := d.put (Fld.rmonStatusPeriod m) 0
    (d.each (d.rmonUnits m) Dev.npRelock).each (d.rmonGroups m) Dev.asrcStop

/-- A rate change is declared (R315). -/
def Dev.rmonRate (d : Dev) (m : Nat) : Dev :=
  let d := (d.inc (Fld.rmonCountRates m)).happenAt Fld.rmonEvents1Rate m
  (d.each (d.rmonUnits m) Dev.npRelock).each (d.rmonGroups m) Dev.asrcRate

/-- A glitch is declared (R315). -/
def Dev.rmonGlitch (d : Dev) (m : Nat) : Dev := (d.inc (Fld.rmonCountGlitches m)).happenAt Fld.rmonEvents1Glitch m

/-- A direction on the input is framed. -/
def Dev.rmonFramed (d : Dev) (m : Nat) : Bool :=
  (d.rmonFollow m).any (fun e => d.dirSt e.1 e.2 != PortSt.framing)

/-- A period after a stop (R315): return or rate change at the eighth after framing. -/
def Dev.rmonAfter (d : Dev) (m c : Nat) : Dev :=
  let x := d.rmon m
  let after := if d.rmonFramed m then x.after ++ [c] else []
  if after.length < 8 then ((d.setRmon m { x with after := after }).put (Fld.rmonStatusState m) 2)
  else
    let before := x.before
    let d := d.rmonTrack m { Rmon.init with acc := after.reverse }
    if after.all (fun p => near2 p before) then d.happenAt Fld.rmonEvents0Returned m
    else if after.all (fun p => !near2 p before) then d.rmonRate m
    else d

/-- A period while a rate is tracked (R315). -/
def Dev.rmonNext (d : Dev) (m c : Nat) : Dev :=
  let x := d.rmon m
  let t := mean256 x.acc
  let glitch := x.lost || (x.off.length == 1 && near2 c t)
  let d := if glitch && !x.acc.isEmpty then d.rmonGlitch m else d
  if x.acc.isEmpty || near2 c t then d.rmonTrack m { x with acc := (c :: x.acc).take 32, off := [], lost := false }
  else
    let off := (c :: x.off).take 8
    if off.length = 8 ∧ alike off then (d.rmonTrack m { x with acc := off, off := [], lost := false }).rmonRate m
    else d.setRmon m { x with off := off, lost := false }

/-- RMON_PERIOD (R315): a frame start ends a period of `c` CLK_PER cycles. A receiver whose rate leaves the house rate
reports it (R305), and a waiting group may acquire (R318). -/
def Dev.rmonPeriod (d : Dev) (m c : Nat) : Dev :=
  let d := d.rmonShow m
  if (d.rmonFollow m).isEmpty || d.get (Fld.rmonStatusState m) = 4 then d
  else
    let was := d.rateMismatch
    let d := if (d.rmon m).before ≠ 0 then d.rmonAfter m c else d.rmonNext m c
    let d := if m = 12 && d.rateMismatch && !was then d.happen Fld.spdifEventsRateMismatch else d
    d.each (d.rmonGroups m) Dev.asrcTry

/-- RMON_CLR (R325). -/
def Dev.rmonClr (d : Dev) (v : Word) : Dev := d.each (bitList 13 v.toNat) (fun d m => d.wr (Reg.rmonCount m) 0)

/-- ASRC_CLR (R327). -/
def Dev.asrcClr (d : Dev) (v : Word) : Dev := d.each (bitList 14 v.toNat) (fun d g => d.wr (Reg.asrcGCount g) 0)

end Sys2Proof.Machine
end

