-- ==== Sys2Proof/Machine/Usb.lean ====
section
/-! DEFINITION. The USB audio function (chapter 11). Its ward body (log 12): bytes 0–1 and 2–3 are masks of the rate codes
offered for playback and capture, 4–5 and 6–7 the playback volume limits, 8–9 and 10–11 those of capture, 12–15 zero; from
byte 16 the stored descriptors. -/
namespace Sys2Proof.Machine

/-- USB_STATUS.state (R349). -/
abbrev UsbSt.detached : Nat := 0
abbrev UsbSt.attached : Nat := 1
abbrev UsbSt.default : Nat := 2
abbrev UsbSt.addressed : Nat := 3
abbrev UsbSt.configured : Nat := 4
abbrev UsbSt.suspended : Nat := 5
abbrev UsbSt.l1 : Nat := 6
abbrev UsbSt.released : Nat := 7

/-- USB_STATUS.state. -/
def Dev.usbSt (d : Dev) : Nat := d.get Fld.usbStatusState

/-- Change the function's state behind its registers, and show the fills. -/
def Dev.modUsb (d : Dev) (f : Usb → Usb) : Dev :=
  let u := f d.usb
  (({ d with usb := u }).put Fld.usbFillPlayFill u.play.length).put Fld.usbFillCapFill u.cap.length

/-- The body of the USB ward of the running keyplan (R332). -/
def Dev.usbWard (d : Dev) : Option (List Byte) :=
  (d.boot.run.bind (fun p => p.wards.find? (fun w => w.kind == 0x0B))).map (·.body)

/-- A little-endian half word of a body. -/
def half (bs : List Byte) (i : Nat) : Nat := leNat ((bs.drop i).take 2)

/-- The house rate's quotient r of a stream rate, as its code of R350: 0 ½, 1 1, 2 2, 3 4. -/
def Dev.usbRatio (d : Dev) (hz : Nat) : Option Nat :=
  let h := d.houseRate
  if 2 * hz = h then some 0 else if hz = h then some 1 else if hz = 2 * h then some 2
  else if hz = 4 * h then some 3 else none

/-- Channels that a stream rate permits (R330). -/
def usbChannels (high : Bool) (hz : Nat) : Nat :=
  if hz = 48000 ∨ hz = 44100 then (if high then 16 else 2)
  else if hz = 96000 ∨ hz = 88200 then (if high then 8 else 2)
  else if (hz = 192000 ∨ hz = 176400) ∧ high then 2 else 0

/-- Sample frames per microframe, or per frame at full speed, rounded up (R334). -/
def usbCeil (high : Bool) (hz : Nat) : Nat := if high then (hz + 7999) / 8000 else (hz + 999) / 1000

/-- The largest rate a mask of rate codes offers. -/
def topRate (mask : Nat) : Nat := ((bitList 13 mask).map rateHz).foldl max 0

/-- What the walk over descriptors remembers: class-specific channels and subslot size, high-speed configuration, verdict. -/
structure UsbWalk where
  ch : Nat
  sub : Nat
  high : Bool
  ok : Bool
  deriving DecidableEq, Repr

/-- One descriptor of the ward under the rules of R332. -/
def usbDesc (play cap : Nat) (w : UsbWalk) (bs : List Byte) : UsbWalk :=
  let at' (i : Nat) : Nat := (bs.getD i 0).toNat
  if at' 1 = 2 ∨ at' 1 = 7 then { w with high := at' 1 == 2, ok := w.ok && bitOf (at' 7) 6 }
  else if at' 1 = 0x24 ∧ at' 2 = 1 ∧ at' 0 = 16 then { w with ch := at' 10 }
  else if at' 1 = 0x24 ∧ at' 2 = 2 ∧ at' 0 = 6 then
    { w with sub := at' 4, ok := w.ok && ((at' 4 == 2 && at' 5 == 16) || ((at' 4 == 3 || at' 4 == 4) && at' 5 == 24)) }
  else if at' 1 = 5 then
    let size := bitsOf (half bs 4) 0 11
    let need (mask : Nat) : Nat := (usbCeil w.high (topRate mask) + 1) * w.ch * w.sub
    let chOk (mask : Nat) : Bool := (bitList 13 mask).all (fun c => decide (w.ch ≤ usbChannels w.high (rateHz c)))
    let good :=
      if at' 2 = 0x01 ∧ at' 3 = 0x05 then decide (need play ≤ size) && chOk play
      else if at' 2 = 0x81 ∧ at' 3 = 0x11 then true
      else if at' 2 = 0x82 ∧ at' 3 = 0x05 then decide (need cap ≤ size) && chOk cap
      else at' 2 == 0x83 && at' 3 == 0x03
    { w with ok := w.ok && good }
  else w

/-- The descriptors of a body in turn, each as long as its first byte says; a length of 0 ends them. -/
def usbWalk (play cap : Nat) : Nat → UsbWalk → List Byte → UsbWalk
  | 0, w, _ => w
  | k + 1, w, bs =>
    let n := (bs.getD 0 0).toNat
    if n = 0 then w else usbWalk play cap k (usbDesc play cap w (bs.take n)) (bs.drop n)

/-- A USB ward passes R332. `house` is the house rate that the clock ward gives. -/
def usbWardOk (house : Nat) (bs : List Byte) : Bool :=
  let play := half bs 0
  let cap := half bs 2
  let rateGood (c : Nat) : Bool :=
    let hz := rateHz c
    (2 * hz == house || hz == house || hz == 2 * house || hz == 4 * house) && decide (0 < usbChannels true hz)
  (bitList 16 (play ||| cap)).all rateGood && (usbWalk play cap 512 ⟨0, 0, true, true⟩ (bs.drop 16)).ok

/-- Registers of a direction: `cap` the capture direction. -/
def usbRateF (cap : Bool) : Fld := if cap then Fld.usbRateCapRate else Fld.usbRatePlayRate
def usbRatioF (cap : Bool) : Fld := if cap then Fld.usbRateCapRatio else Fld.usbRatePlayRatio
def usbAltF (cap : Bool) : Fld := if cap then Fld.usbStatusCapAlt else Fld.usbStatusPlayAlt

/-- Stream rate of a direction in Hz. -/
def Dev.usbHz (d : Dev) (cap : Bool) : Nat := rateHz (d.get (usbRateF cap))

/-- The FIFO's capacity, 2 ms of stream samples, and the playback target, 1 ms (R335, R336). -/
def Dev.usbDepth (d : Dev) (cap : Bool) : Nat := d.usbHz cap / 500
def Dev.usbTarget (d : Dev) : Nat := d.usbHz false / 1000

/-- A direction starts, or starts again (R337): its FIFO is emptied. -/
def Dev.usbStart (d : Dev) (cap : Bool) : Dev :=
  d.modUsb (fun u => if cap then { u with cap := [], capturing := decide (d.get (usbAltF true) ≠ 0), capHalf := false }
    else { u with play := [], playing := false, playHalf := false })

/-- Both directions end with the session. -/
def Dev.usbIdle (d : Dev) : Dev :=
  let d := ((d.put Fld.usbStatusPlayAlt 0).put Fld.usbStatusCapAlt 0)
  (d.usbStart false).usbStart true

/-- A host session ends (R342). -/
def Dev.usbEnd (d : Dev) (st : Nat) : Dev :=
  let d := (((d.usbIdle).put Fld.usbStatusState st).put Fld.usbStatusAddress 0).put Fld.usbStatusRwake 0
  d.modUsb (fun u => { u with pullup := st == UsbSt.attached, config := 0, hidIdle := 0, lpm := false, hidQueued := false,
                              rwSignal := false })

/-- The conditions of R342; a session that is suspended is kept while the domain is not on (R344, R542). -/
def Dev.usbMay (d : Dev) : Bool :=
  d.alive && d.usbWard.isSome && d.usb.vbusOk && !d.released && !d.is Fld.usbCtrlDiscon &&
    (d.on Dom.usb || (d.usb.pullup && d.dom Dom.usb != 0))

/-- The state without a pull-up: RELEASED in PAIRING and STANDBY (R342). -/
def Dev.usbOff (d : Dev) : Nat := if d.released then UsbSt.released else UsbSt.detached

/-- A condition of R342 has ceased, or the role has changed. -/
def Dev.usbCheck (d : Dev) : Dev :=
  if d.usb.pullup then (if d.usbMay then d else d.usbEnd d.usbOff)
  else d.put Fld.usbStatusState d.usbOff

/-- USB_CONNECT (R342, R343): USB_VBUS has been above its threshold for 10 ms. -/
def Dev.usbConnect (d : Dev) : Dev :=
  let d := ({ d with usb := { d.usb with vbusOk := true } }).put Fld.usbStatusVbus 1
  if d.usbMay && !d.usb.pullup then d.usbEnd UsbSt.attached else d

/-- USB_DISCONNECT (R342): `vbus` tells whether USB_VBUS is above its threshold. -/
def Dev.usbDisconnect (d : Dev) (vbus : Bool) : Dev :=
  let d := ({ d with usb := { d.usb with vbusOk := d.usb.vbusOk && vbus } }).flag Fld.usbStatusVbus vbus
  d.usbCheck

/-- Count a playback or capture event (R336). -/
def Dev.usbCount (d : Dev) (cnt ev : Fld) : Dev := (d.inc cnt).happen ev

/-- Bytes in groups of `n`. -/
def chunks (n : Nat) : Nat → List Byte → List (List Byte)
  | 0, _ => []
  | k + 1, bs => bs.take n :: chunks n k (bs.drop n)

/-- The sample frames of a packet (R330). -/
def usbFrames (ch sub res : Nat) (bs : List Byte) : List (List Int) :=
  (chunks (ch * sub) (bs.length / (ch * sub)) bs).map (fun f =>
    (chunks sub ch f).map (fun s => sgn 32 (leNat s / 2 ^ (8 * sub - res) * 2 ^ (32 - res))))

/-- USB_OUT_PACKET (R334, R336, R346). -/
def Dev.usbOut (d : Dev) (bs : List Byte) : Dev :=
  let u := d.usb
  if d.usbSt != UsbSt.configured || d.get Fld.usbStatusPlayAlt == 0 then d
  else if d.inFallback then d.usbCount Fld.usbCount0PlayOver Fld.usbEventsPlayOver
  else
    let size := u.playCh * u.playSub
    if size = 0 ∨ bs.length % size ≠ 0 ∨ usbCeil (d.is Fld.usbStatusSpeed) (d.usbHz false) + 1 < bs.length / size then
      d.inc Fld.usbCount1BadPkt
    else
      let fs := usbFrames u.playCh u.playSub u.playRes bs
      let room := d.usbDepth false - u.play.length
      let d := d.modUsb (fun u => { u with play := u.play ++ fs.take room,
                                           playing := u.playing || decide (d.usbTarget ≤ u.play.length + (fs.take room).length) })
      if room < fs.length then d.usbCount Fld.usbCount0PlayOver Fld.usbEventsPlayOver else d

/-- USB_IN_TOKEN on endpoint `ep` (R329, R334, R336, R341, R346): 2 capture, where `up` asks for ⌈a⌉ sample frames; 3 the
HID poll; the feedback endpoint only repeats USB_FEEDBACK. -/
def Dev.usbIn (d : Dev) (ep : Nat) (up : Bool) : Dev :=
  if d.usbSt != UsbSt.configured then d
  else if ep = 3 then { d with usb := { d.usb with hidQueued := false } }
  else if ep = 2 ∧ d.get Fld.usbStatusCapAlt ≠ 0 ∧ !d.inFallback then
    let hz := d.usbHz true
    let high := d.is Fld.usbStatusSpeed
    let n := if up then usbCeil high hz else hz / (if high then 8000 else 1000)
    if d.usb.cap = [] then d.usbCount Fld.usbCount1CapUnder Fld.usbEventsCapUnder
    else d.modUsb (fun u => { u with cap := u.cap.drop n })
  else d

/-- USB_SOF (R335): `meas` is the measured term in units of 2^-26 sample; the feedback is rounded to its format. -/
def Dev.usbSof (d : Dev) (frame micro : Nat) (meas : Int) : Dev :=
  if d.usbSt == UsbSt.detached || d.usbSt == UsbSt.released || d.usbSt == UsbSt.suspended then d
  else
    let d := (d.put Fld.usbSofFrame frame).put Fld.usbSofMicro micro
    if d.inFallback || d.get Fld.usbStatusPlayAlt = 0 then d
    else
      let corr := max (-(2 ^ 21 : Int)) (min (2 ^ 21) (((d.usbTarget : Int) - d.usb.play.length) * 2 ^ 16))
      let sh : Int := if d.is Fld.usbStatusSpeed then 2 ^ 10 else 2 ^ 12
      d.put Fld.usbFeedbackFb (unsg 32 ((meas + corr + sh / 2) / sh))

/-- SET_INTERFACE (R337): alternate setting `alt` of a direction, with the channels, subslot bytes and resolution that its
descriptor declares; 0 stops the direction. -/
def Dev.usbInterface (d : Dev) (cap : Bool) (alt ch sub res : Nat) : Dev :=
  if d.usbSt != UsbSt.configured then d
  else
    let d := d.put (usbAltF cap) alt
    let d := if alt = 0 then d
      else { d with usb := (if cap then { d.usb with capCh := ch, capSub := sub, capRes := res }
                            else { d.usb with playCh := ch, playSub := sub, playRes := res }) }
    (d.usbStart cap).happen Fld.usbEventsAlt

/-- An unsupported request (R338, R339, R345). -/
def Dev.usbStall (d : Dev) : Dev := d.viol 11 .proto 0

/-- The rate codes that the ward offers in a direction (R338). -/
def Dev.usbOffered (d : Dev) (cap : Bool) : Nat :=
  match d.usbWard with
  | some b => half b (if cap then 2 else 0)
  | none => 0

/-- SET_CUR_SAMPLING_FREQ (R338). -/
def Dev.usbFreq (d : Dev) (cap : Bool) (hz : Nat) : Dev :=
  match (bitList 13 (d.usbOffered cap)).find? (fun c => rateHz c == hz), d.usbRatio hz with
  | some c, some r =>
    let d := ((d.put (usbRateF cap) c).put (usbRatioF cap) r).happen Fld.usbEventsAlt
    if d.get (usbAltF cap) = 0 then d else d.usbStart cap
  | _, _ => d.usbStall

/-- USB_CLASS_REQUEST (R339). -/
def Dev.usbClass (d : Dev) (r : UsbClassReq) : Dev :=
  match r with
  | .freqCur => d
  | .freqRange => d
  | .validCur => d
  | .muteCur => d
  | .volCur => d
  | .volRange => d
  | .getReport => d
  | .getIdle => d
  | .setIdle n => { d with usb := { d.usb with hidIdle := n % 256 } }
  | .other => d.usbStall

/-- USB_STANDARD_REQUEST (R339, R344, R345). -/
def Dev.usbStd (d : Dev) (r : UsbStdReq) : Dev :=
  let st := d.usbSt
  if st < UsbSt.default ∨ UsbSt.configured < st then d
  else match r with
    | .setAddress a =>
      if st = UsbSt.configured then d
      else (d.put Fld.usbStatusAddress a).put Fld.usbStatusState (if a % 128 = 0 then UsbSt.default else UsbSt.addressed)
    | .setConfiguration c =>
      if st = UsbSt.default then d
      else
        let d := { d.usbIdle with usb := { d.usbIdle.usb with config := c } }
        d.put Fld.usbStatusState (if c = 0 then UsbSt.addressed else UsbSt.configured)
    | .remoteWake b => d.flag Fld.usbStatusRwake b
    | .getBos => { d with usb := { d.usb with lpm := true } }
    | .read => d

/-- FEATURE_UNIT_SET (R340): mute, or a volume clamped to the ward's range. -/
def Dev.usbFeature (d : Dev) (cap : Bool) (mute : Option Bool) (vol : Option Int) : Dev :=
  let b := d.usbWard.getD []
  let lo := sgn 16 (half b (if cap then 8 else 4))
  let hi := sgn 16 (half b (if cap then 10 else 6))
  let d := match mute with
    | some m => d.flag (if cap then Fld.usbFucapMute else Fld.usbFuplayMute) m
    | none => d
  let d := match vol with
    | some v =>
      let w := max lo (min hi v)
      let d := d.put (if cap then Fld.usbFucapVol else Fld.usbFuplayVol) (unsg 16 w)
      if w = v then d else d.viol 3 .proto 0
    | none => d
  d.happen Fld.usbEventsFu

/-- SET_REPORT (R341). -/
def Dev.usbReport (d : Dev) (v : Nat) : Dev := (d.put Fld.usbHidoutReport v).happen Fld.usbEventsHidOut

/-- Remote wake is signalled in suspend or L1 where the host has enabled it (R344, R345). -/
def Dev.usbWakeUp (d : Dev) (on : Fld) : Dev :=
  if d.is on && d.is Fld.usbStatusRwake && (d.usbSt == UsbSt.suspended || d.usbSt == UsbSt.l1) then
    { d with usb := { d.usb with rwSignal := true } }
  else d

/-- HIDIN_WRITE (R341, R344). -/
def Dev.usbHidin (d : Dev) (v : Word) : Dev :=
  let r := bitsOf v.toNat 0 5
  if d.get Fld.usbHidinReport = r then d
  else
    let d := d.put Fld.usbHidinReport r
    ({ d with usb := { d.usb with hidQueued := true } }).usbWakeUp Fld.usbCtrlWakeHid

/-- USB_SUSPEND (R344). -/
def Dev.usbSuspend (d : Dev) : Dev :=
  let st := d.usbSt
  if UsbSt.attached ≤ st ∧ st ≤ UsbSt.configured then
    let d := { d with usb := { d.usb with before := st } }
    (d.put Fld.usbStatusState UsbSt.suspended).happen Fld.usbEventsSuspend
  else d

/-- Resume signalling, or a bus reset at speed `high` (R344, R345). The wake source is with the power sequencer. -/
def Dev.usbResume (d : Dev) (reset high : Bool) : Dev :=
  let st := d.usbSt
  if st = UsbSt.detached ∨ st = UsbSt.released then d
  else if reset then
    ((((d.usbEnd UsbSt.attached).put Fld.usbStatusState UsbSt.default).flag Fld.usbStatusSpeed high)).happen
      Fld.usbEventsBusReset
  else if st = UsbSt.suspended ∨ st = UsbSt.l1 then
    ({ d with usb := { d.usb with rwSignal := false } }).put Fld.usbStatusState d.usb.before
  else d

/-- LPM (R345): L1 with both streaming interfaces at alternate setting 0, NYET otherwise, STALL where LPM is not enabled. -/
def Dev.usbLpm (d : Dev) : Dev :=
  let st := d.usbSt
  if st < UsbSt.default ∨ UsbSt.configured < st then d
  else if !d.usb.lpm then d.usbStall
  else if d.get Fld.usbStatusPlayAlt = 0 ∧ d.get Fld.usbStatusCapAlt = 0 then
    ({ d with usb := { d.usb with before := st } }).put Fld.usbStatusState UsbSt.l1
  else d

/-- USB_CTRL_WRITE (R348, R342). -/
def Dev.usbCtrl (d : Dev) (v : Word) : Dev :=
  let d := d.wr Reg.usbCtrl (BitVec.ofNat 32 (bitsOf v.toNat 0 3))
  let d := if bitOf v.toNat 3 then (d.wr Reg.usbCount0 0).wr Reg.usbCount1 0 else d
  if d.is Fld.usbCtrlDiscon then d.usbCheck else d

/-- Stream sample frames that a pass takes or hands: `r`, at r = ½ one in every second pass. -/
def usbPer (code : Nat) (skip : Bool) : Nat :=
  match code with
  | 0 => if skip then 0 else 1
  | 1 => 1
  | 2 => 2
  | _ => 4

/-- The playback sources of a pass (R330, R331, R336, R337, R344). -/
def Dev.usbLatch (d : Dev) : Dev × List Int :=
  let u := d.usb
  let code := d.get Fld.usbRatePlayRatio
  let n := usbPer code u.playHalf
  if d.usbSt != UsbSt.configured || d.get Fld.usbStatusPlayAlt == 0 || !u.playing || !d.on Dom.usb then (d, [])
  else if u.play.length < n then (d.usbCount Fld.usbCount0PlayUnder Fld.usbEventsPlayUnder, [])
  else
    let xs := (u.play.head?).getD []
    let d := d.modUsb (fun u => { u with play := u.play.drop n, playHalf := code == 0 && !u.playHalf })
    if code = 1 then (d, xs)
    else ({ d with free := d.free + 1 }, (List.range u.playCh).map (fun k => satS 32 (Config.usbSample d.free k)))

/-- The capture sinks of a pass (R330, R331, R336, R337, R344). -/
def Dev.usbHand (d : Dev) : Dev :=
  let u := d.usb
  let code := d.get Fld.usbRateCapRatio
  let n := usbPer code u.capHalf
  if d.usbSt != UsbSt.configured || d.get Fld.usbStatusCapAlt == 0 || !u.capturing || !d.on Dom.usb then d
  else if d.usbDepth true < u.cap.length + n then d.usbCount Fld.usbCount1CapOver Fld.usbEventsCapOver
  else
    let cut (x : Int) : Int := x / 2 ^ (32 - u.capRes) * 2 ^ (32 - u.capRes)
    let direct := (List.range u.capCh).map (fun k => cut (SMap.get 0 d.key.sink (128 + k)))
    let fs := if code = 1 then [direct]
      else (List.range n).map (fun i => (List.range u.capCh).map (fun k => cut (satS 32 (Config.usbSample (d.free + i) k))))
    let d := d.modUsb (fun u => { u with cap := u.cap ++ fs, capHalf := code == 0 && !u.capHalf })
    if code = 1 then d else { d with free := d.free + n }

/-- The restart of R84 (R346): both FIFOs are emptied and running directions start again. -/
def Dev.usbRestart (d : Dev) : Dev := (d.usbStart false).usbStart true

end Sys2Proof.Machine
end

