-- ==== Sys2Proof/Machine/Mem.lean ====
section
/-! DEFINITION. Memories, ECC, repair copies, windows and the lockbox (chapter 13). `State.mem` lists the bytes that differ
from 0, by global address, addresses strictly rising. -/
namespace Sys2Proof.Machine

/-- Change the device part of the state. -/
def State.on (s : State) (f : Dev → Dev) : State := { s with dev := f s.dev }

/-- The byte at an address. -/
def memGet (m : List Host.Cell) (a : Nat) : Byte := SMap.get 0 m a

/-- Write one byte. -/
def memSet (m : List Host.Cell) (a : Nat) (b : Byte) : List Host.Cell := SMap.set 0 m a b

/-- Bytes from an address. -/
def memRead (m : List Host.Cell) (a n : Nat) : List Byte := (List.range n).map (fun i => memGet m (a + i))

/-- Write bytes from an address. -/
def memWrite : List Host.Cell → Nat → List Byte → List Host.Cell
  | m, _, [] => m
  | m, a, b :: bs => memWrite (memSet m a b) (a + 1) bs

/-- Fill with 0 every byte whose address satisfies `p`. -/
def memErase (m : List Host.Cell) (p : Nat → Bool) : List Host.Cell := m.filter (fun c => !p c.1)

/-- The canonical form of memory: addresses strictly rising, no listed byte 0. -/
def Memory.wf (m : List Host.Cell) : Bool := SMap.wf (fun _ => (0 : Byte)) m

/-- Bytes of memory. -/
def State.bytes (s : State) (a n : Nat) : List Byte := memRead s.mem a n

/-- Store bytes. -/
def State.store (s : State) (a : Nat) (bs : List Byte) : State := { s with mem := memWrite s.mem a bs }

/-- Clear the bytes whose address satisfies `p`. -/
def State.erase (s : State) (p : Nat → Bool) : State := { s with mem := memErase s.mem p }

/-! ### The map (R27, R387) -/

/-- What lies at a global address (R27, R401). -/
inductive Region where
  | tile (n : Nat)
  | pool (bank : Nat)
  | keyStore
  | secure
  | reg
  | unmapped
  deriving DecidableEq, Repr

/-- The fold of a pool address (R387). -/
def poolFold (a : Nat) : Nat := bitsOf a 4 4 ^^^ bitsOf a 8 4 ^^^ bitsOf a 12 4 ^^^ bitsOf a 16 4

/-- The logical bank of a pool address under key `k` (R387). -/
def poolBank (k a : Nat) : Nat := poolFold a ^^^ k

/-- The register blocks of R27: 64 KiB from each base, and the engine blocks. -/
def isRegAddr (a : Nat) : Bool := decide (0x800000 ≤ a ∧ a < 0x910000) || decide (0xA00000 ≤ a ∧ a < 0xA10000)

/-- The region of an address. -/
def Dev.region (d : Dev) (a : Nat) : Region :=
  if a < 0x400000 then .tile (a / 0x40000)
  else if a < 0x600000 then .pool (poolBank (d.get Fld.memHashkeyK) a)
  else if a < 0x601000 then .keyStore
  else if a < 0x610000 then .secure
  else if isRegAddr a then .reg
  else .unmapped

/-- Index of a memory bank in MEM_BANKb (R409): tiles 0–15, pool banks 16–31, the lockbox 32. -/
def Region.bank : Region → Nat
  | .tile n => n
  | .pool b => 16 + b
  | _ => 32

/-- The bank of a region is on (R403, R23, R518): a tile without a carrier and a failed lockbox are as off. -/
def Dev.bankOn (d : Dev) : Region → Bool
  | .tile n => d.on n && !d.unavail n
  | .pool b => d.on (Dom.pool b)
  | .keyStore => !d.is Fld.repStatusLbxFail
  | .secure => !d.is Fld.repStatusLbxFail
  | _ => true

/-- Row and word of an address in its bank (R386, R387). -/
def memRow (a : Nat) : Nat :=
  if a < 0x400000 then bitsOf a 7 11 else if a < 0x600000 then bitsOf a 11 10 else bitsOf a 7 9
def memWordIdx (a : Nat) : Nat := if 0x400000 ≤ a ∧ a < 0x600000 then bitsOf a 8 3 else bitsOf a 4 3

/-- The location word of a memory address with its column group (R18, R24, R385). -/
def Dev.memLoc (d : Dev) (a group : Nat) : Nat :=
  match d.region a with
  | .tile n => locWord 0 (n / 4) (d.phys n) 0 group (memRow a)
  | .pool b => locWord 0 0 0 (8 + if d.memc.pool16 = some b then 16 else b) group (memRow a)
  | _ => locWord 0 0 0 30 group (memRow a)

/-! ### ECC (R393, R394) -/

/-- The agents of MEM_CEINFO (R408). -/
abbrev EccAgent.host : Nat := 16
abbrev EccAgent.boot : Nat := 17
abbrev EccAgent.dma : Nat := 18
abbrev EccAgent.ring : Nat := 19
abbrev EccAgent.scrub : Nat := 20

/-- The column group of a bit of a codeword (R386). -/
def bitGroup (a cw b : Nat) : Nat := 8 * memWordIdx a + 4 * cw + if b < 64 then b / 16 else (b - 64) / 2

/-- Record a corrected error (R393). -/
def Dev.ce (d : Dev) (code a cw b : Nat) : Dev :=
  let d := (d.inc Fld.memEcccntCe).put Fld.memCelocLoc (d.memLoc a (bitGroup a cw b))
  (d.wr Reg.memCeinfo (BitVec.ofNat 32 (code * 2 ^ 24 + cw * 2 ^ 16 + b))).happen Fld.memEventsCe

/-- Record an uncorrectable error (R394). -/
def Dev.ue (d : Dev) (code a cw : Nat) : Dev :=
  let d := (d.inc Fld.memEcccntUe).put Fld.memUelocLoc (d.memLoc a (8 * memWordIdx a + 4 * cw))
  (d.wr Reg.memUeinfo (BitVec.ofNat 32 (code * 2 ^ 24 + cw * 2 ^ 16 + 0xFF))).happen Fld.memEventsUe

/-- The bank key of a location word: its bits 28:19. -/
def locBank (l : Nat) : Nat := bitsOf l 19 10

/-- A copy of a kind starts for a location: the spare is taken (R396). -/
def Dev.startCopy (d : Dev) (l kind : Nat) : Dev :=
  { d with memc := { d.memc with copies := d.memc.copies ++ [(l, kind)] } }

/-- A copy of this kind for this place is under way or waits for its boundary. -/
def Dev.copying (d : Dev) (l kind : Nat) : Bool :=
  (d.memc.copies ++ d.memc.ready).any (fun c => c.2 == kind && locBank c.1 == locBank l &&
    (kind == 4 || (Loc.group c.1 == Loc.group l && (kind == 2 || Loc.cell c.1 == Loc.cell l))))

/-- No spare of the kind is left in service (R521): physical bank 16 takes a pool bank, a tile is marked failing. -/
def Dev.noSpare (d : Dev) (l : Nat) : Dev :=
  if Loc.bank l = 0 then
    match d.logical (Loc.cluster l) (Loc.tile l) with
    | some n => if d.bit Fld.repTilefailFailing n then d else d.markTileFail n
    | none => d
  else if d.memc.pool16.isNone && !(d.memc.copies ++ d.memc.ready).any (fun c => c.2 == 4) then
    d.startCopy (locWord 0 0 0 (Loc.bank l) 0 0) 4
  else d

/-- A row is marked for replacement (R396); four marked rows in a column group mark the group instead. -/
def Dev.markRow (d : Dev) (l : Nat) : Dev :=
  if Loc.bank l = 30 then d
  else
    let m := (locBank l, Loc.group l, Loc.cell l)
    let d := { d with memc := { d.memc with marks := if d.memc.marks.contains m then d.memc.marks else d.memc.marks ++ [m] } }
    let kind := if 4 ≤ (d.memc.marks.filter (fun x => x.1 == m.1 && x.2.1 == m.2.1)).length then 2 else 1
    if d.copying l kind || d.copying l 4 then d
    else if d.sparesUsed l kind < spareLimit kind then (d.takeSpare l kind).startCopy l kind
    else d.noSpare l

/-- The errors of a word among the array's (R393). -/
def errsAt (errs : List EccErr) (a : Nat) : List EccErr := errs.filter (fun e => e.word == a / 16 * 16)

/-- A read of the word at `a` by agent code `code` (R393, R394, R396). -/
def Dev.eccRead (d : Dev) (code : Nat) (errs : List EccErr) (a : Nat) : Dev :=
  let w := a / 16 * 16
  let first := d.memc.seen.contains w
  let d := { d with memc := { d.memc with seen := d.memc.seen.filter (· != w) } }
  d.each (errsAt errs a) (fun d e => match e.bit with
    | some b =>
      let d := d.ce code w e.cw b
      let d := { d with memc := { d.memc with wb := if d.memc.wb.contains w then d.memc.wb else d.memc.wb ++ [w] } }
      if first then d.markRow (d.memLoc w (bitGroup w e.cw b)) else d
    | none => d.ue code w e.cw)

/-- The codeword at byte address `a` is uncorrectable. -/
def badCw (errs : List EccErr) (a : Nat) : Bool := (errsAt errs a).any (fun e => e.bit.isNone && e.cw == a / 8 % 2)

/-- Read `n` bytes for an agent, every word of them checked. -/
def Dev.eccSpan (d : Dev) (code : Nat) (errs : List EccErr) (a n : Nat) : Dev :=
  d.each ((List.range ((a + n - 1) / 16 - a / 16 + 1)).map (fun i => (a / 16 + i) * 16)) (fun d w => d.eccRead code errs w)

/-- Some byte of a span lies in an uncorrectable codeword. -/
def spanBad (errs : List EccErr) (a n : Nat) : Bool := (List.range n).any (fun i => badCw errs (a + i))

/-- A write of `n` bytes at `a` (R389, R393, R394): a partial write corrects and counts an error of its codeword, and is
discarded where the codeword is uncorrectable; a write that covers the codeword ends any error. The answer says whether
the bytes are written. -/
def Dev.eccWrite (d : Dev) (code : Nat) (errs : List EccErr) (a n : Nat) : Dev × Bool :=
  if 8 ≤ n then (d, true)
  else
    let es := (errsAt errs a).filter (fun e => e.cw == a / 8 % 2)
    let w := a / 16 * 16
    (d.each es (fun d e => match e.bit with
      | some b => d.ce code w e.cw b
      | none => d.ue code w e.cw), !es.any (fun e => e.bit.isNone))

/-- ECC_WRITEBACK of the word at `a` (R393). -/
def Dev.eccWriteback (d : Dev) (a : Nat) : Dev :=
  let w := a / 16 * 16
  if d.memc.wb.contains w then
    { d with memc := { d.memc with wb := d.memc.wb.filter (· != w),
                                   seen := if d.memc.seen.contains w then d.memc.seen else d.memc.seen ++ [w] } }
  else d

/-- SCRUB_READ of the word at `a` (R395): a bank that is not on is skipped. -/
def Dev.scrubRead (d : Dev) (a : Nat) (errs : List EccErr) : Dev :=
  if d.is Fld.memScrubcfgEn && decide (a < 0x610000) && d.bankOn (d.region a) then d.eccRead EccAgent.scrub errs a else d

/-- REPAIR_COPY_DONE (R396, R521): the soft repair is recorded, and the remap waits for the next boundary. -/
def Dev.copyDone (d : Dev) (l kind : Nat) : Dev :=
  if d.memc.copies.contains (l, kind) then
    let d := { d with memc := { d.memc with copies := d.memc.copies.erase (l, kind), ready := d.memc.ready ++ [(l, kind)] } }
    d.softRepair (if kind = 4 then locWord 0 0 0 (Loc.bank l) 0 0 else l) kind
      (if kind = 4 then 16 else d.sparesUsed l kind - 1) false
  else d

/-- Remaps that wait take effect at a frame boundary (R396, R521). -/
def Dev.remap (d : Dev) : Dev :=
  let go (d : Dev) (c : Nat × Nat) : Dev :=
    if c.2 = 4 then { d with memc := { d.memc with pool16 := some (Loc.bank c.1 - 8) } }
    else
      let gone (m : Nat × Nat × Nat) : Bool :=
        m.1 == locBank c.1 && m.2.1 == Loc.group c.1 && (c.2 == 2 || m.2.2 == Loc.cell c.1)
      ({ d with memc := { d.memc with marks := d.memc.marks.filter (fun m => !gone m) } }).happen Fld.memEventsRepair
  let l := d.memc.ready
  ({ d with memc := { d.memc with ready := [] } }).each l go

/-- A boundary at bank `b` (R392): cycles used in units of 16, and whether a request starved. -/
def Dev.bankFrame (d : Dev) (b busy : Nat) (starved : Bool) : Dev :=
  let d := d.put (Fld.memBankBusy b) busy
  if starved then (d.inc (Fld.memBankStarve b)).happen Fld.memEventsStarve else d

/-- MEM_CTRL_WRITE (R407). -/
def Dev.memCtrl (d : Dev) (v : Word) : Dev :=
  let d := if bitOf v.toNat 1 then d.each (List.range 32) (fun d b => d.put (Fld.memBankStarve b) 0) else d
  if bitOf v.toNat 0 then d.wr Reg.memEcccnt 0 else d

/-- A write to MEM_SCRUBCFG (R406): the interval is clamped to 8 to 20. -/
def Dev.scrubCfg (d : Dev) (ag : Agent) (v : Word) : Dev :=
  let i := bitsOf v.toNat 0 5
  let j := max 8 (min 20 i)
  let d := d.wr Reg.memScrubcfg (BitVec.ofNat 32 (bitsOf v.toNat 31 1 * 2 ^ 31 + j))
  if i = j then d else d.viol 3 ag Reg.memScrubcfg

/-! ### The lockbox (R401, R402) -/

/-- An address of the lockbox. -/
def inLockbox (a : Nat) : Bool := decide (0x600000 ≤ a ∧ a < 0x610000)

/-- A wipe starts (R402): a failed lockbox is not wiped (R518). The link system key of the key store goes with it. -/
def State.wipe (s : State) : State :=
  if s.dev.is Fld.repStatusLbxFail then s
  else
    let s := s.erase inLockbox
    s.on (fun d => ({ d with link := { d.link with key := none } }).put Fld.lbxStatusWiping 1)

/-- A wipe ends (R402). -/
def Dev.wipeDone (d : Dev) : Dev :=
  ((d.put Fld.lbxStatusWiping 0).inc Fld.lbxStatusWipes).happen Fld.memEventsWipe

/-! ### Windows (R397 to R400) -/

/-- The set and window of a window word's address, and whether it is the PA word (R397). -/
def winOf (a : Nat) : Option (Nat × Nat × Bool) :=
  if 0x848000 ≤ a ∧ a < 0x84A000 then some ((a - 0x848000) / 0x80, (a - 0x848000) / 8 % 16, bitOf a 2) else none

/-- Engine `e` is in RESET, STOPPED or HALTED (R382). -/
def Dev.engIdle (d : Dev) (e : Nat) : Bool :=
  let st := d.get (Fld.engStatusState e)
  st == 0 || st == 3 || st == 4

/-- DMA channel `c` is active: FETCH, ACTIVE, WAIT_DESC or STOPPING (R432). -/
def Dev.chanBusy (d : Dev) (c : Nat) : Bool :=
  let st := d.get (Fld.dmaChStatusState c)
  decide (1 ≤ st) && decide (st ≤ 4)

/-- The owner of a window set is idle (R400). -/
def Dev.winIdle (d : Dev) (s : Nat) : Bool :=
  if s < 32 then d.engIdle (s % 16)
  else !(List.range 64).any (fun c => d.chanBusy c && d.get (Fld.dmaChCfgWset c) == s - 32)

/-- A write to a window word (R400). -/
def Dev.winWrite (d : Dev) (ag : Agent) (a : Nat) (v : Word) : Dev :=
  match winOf a with
  | none => d
  | some (s, j, pa) =>
    if !d.winIdle s || d.is (Fld.winVaS j s) || (!pa && bitOf v.toNat 3) then d.viol 0 ag a
    else
      let size := if pa then d.get (Fld.winVaSize j s) else min 14 (bitsOf v.toNat 4 4)
      let base := v.toNat / 2 ^ (8 + size) * 2 ^ (8 + size)
      let w := if pa then base else base + size * 16 + bitsOf v.toNat 0 4
      let given := if pa then v.toNat / 256 * 256 else v.toNat
      let d := d.wr a (BitVec.ofNat 32 w)
      if w = given then d else d.viol 3 ag a

/-- Kinds of access (R399). -/
inductive Access where
  | fetch | load | store | atomic
  deriving DecidableEq, Repr

/-- What translation answers (R399): the physical address and the secure attribute, or a fault. -/
inductive Trans where
  | ok (pa : Nat) (secure : Bool)
  | translation
  | permission
  deriving DecidableEq, Repr

/-- A window is enabled and covers `v` (R398). -/
def Dev.winCovers (d : Dev) (s v j : Nat) : Bool :=
  let w := (d.rd (Reg.winVa j s)).toNat
  let size := 2 ^ (8 + bitsOf w 4 4)
  bitsOf w 0 3 != 0 && decide (w / 256 * 256 ≤ v) && decide (v < w / 256 * 256 + size)

/-- The attribute that an access asks of a window word (R399). -/
def Access.permits (k : Access) (w : Nat) : Bool :=
  match k with
  | .fetch => bitOf w 2
  | .load => bitOf w 0
  | .store => bitOf w 1
  | .atomic => bitOf w 0 && bitOf w 1

/-- Translation of an access of `n` bytes at virtual address `v` in window set `s` (R399). -/
def Dev.translate (d : Dev) (s : Nat) (k : Access) (v n : Nat) : Trans :=
  match (List.range 16).find? (d.winCovers s v) with
  | none => .translation
  | some j =>
    let w := (d.rd (Reg.winVa j s)).toNat
    let base := w / 256 * 256
    if base + 2 ^ (8 + bitsOf w 4 4) < v + n then .translation
    else if !k.permits w then .permission
    else
      let pa := ((d.rd (Reg.winPa j s)).toNat / 256 * 256 + (v - base)) % 2 ^ 32
      match d.region pa with
      | .unmapped => .translation
      | .tile _ => .ok pa (bitOf w 3)
      | .pool _ => .ok pa (bitOf w 3)
      | _ => if k = .fetch then .permission else .ok pa (bitOf w 3)

/-! ### Accesses of agents to memory (R30, R31, R401, R402) -/

/-- An access of an agent reaches its memory: `ok`, `silent` (0 or ignored, uncounted), or refused in a category. -/
inductive Reach where
  | ok
  | silent
  | refused (cat : Nat)
  deriving DecidableEq, Repr

/-- How an access to memory at `a` completes; `secure`: the context's window has the secure attribute (R23, R30, R31,
R401, R402, R518). -/
def Dev.reach (d : Dev) (secure : Bool) (a : Nat) : Reach :=
  match d.region a with
  | .keyStore => if d.is Fld.lbxStatusWiping then .silent else .refused 2
  | .secure =>
    if d.is Fld.lbxStatusWiping then .silent
    else if !secure then .refused 2
    else if d.is Fld.repStatusLbxFail then .refused 4 else .ok
  | .unmapped => .silent
  | r => if d.bankOn r then .ok else .refused 4

/-- Read `n` bytes of memory for an agent: the state after, and the bytes. -/
def State.agentRead (s : State) (ag : Agent) (code : Nat) (secure : Bool) (errs : List EccErr) (a n : Nat) :
    State × List Byte :=
  match s.dev.reach secure a with
  | .refused c => (s.on (·.viol c ag a), List.replicate n 0)
  | .silent => (s, List.replicate n 0)
  | .ok => (s.on (·.eccSpan code errs a n), (s.bytes a n).zipIdx.map (fun e => if badCw errs (a + e.2) then 0 else e.1))

/-- Write bytes of memory for an agent. -/
def State.agentWrite (s : State) (ag : Agent) (code : Nat) (secure : Bool) (errs : List EccErr) (a : Nat) (bs : List Byte) :
    State :=
  match s.dev.reach secure a with
  | .refused c => s.on (·.viol c ag a)
  | .silent => s
  | .ok =>
    let (d, good) := s.dev.eccWrite code errs a bs.length
    if good then { s with dev := d }.store a bs else { s with dev := d }

/-- The bytes of bank `b` of MEM_BANKb are lost or filled with 0 (R403). -/
def State.clearBank (s : State) (b : Nat) : State := s.erase (fun a => decide (a < 0x600000) && (s.dev.region a).bank == b)

end Sys2Proof.Machine
end

