-- ==== Sys2Proof/Machine/Link.lean ====
section
/-! DEFINITION. The Wokin link (chapter 16): ports, headers, ranging, audio slots and control messages. A port is 0 UP,
1 DOWN_A or 2 DOWN_B. What a rejoin and a LINK reset do to the clocks and the rest is in Clock.lean and Reset.lean. -/
namespace Sys2Proof.Machine

/-- LINK_STATUS.state (R487). -/
abbrev LinkSt.idle : Nat := 0
abbrev LinkSt.acquire : Nat := 1
abbrev LinkSt.ranging : Nat := 2
abbrev LinkSt.joined : Nat := 3
abbrev LinkSt.holdover : Nat := 4
abbrev LinkSt.mismatch : Nat := 5
abbrev LinkSt.root : Nat := 6
abbrev LinkSt.slew : Nat := 7

/-- LINK_PORTp_STATUS.state (R489). -/
abbrev LPortSt.idle : Nat := 0
abbrev LPortSt.absent : Nat := 1
abbrev LPortSt.acquire : Nat := 2
abbrev LPortSt.framed : Nat := 3

/-- A port at rest. -/
def LPort.init : LPort :=
  { good := 0, gone := 0, deltas := [], theirs := 0, pmap := 0, slots := [], frame := 0, rootLost := false, txq := [],
    idleReq := 0, partnerIdle := false }

/-- Port `p` of the link. -/
def Dev.lport (d : Dev) (p : Nat) : LPort := SMap.get LPort.init d.link.ports p

/-- Set port `p`. -/
def Dev.setLport (d : Dev) (p : Nat) (x : LPort) : Dev :=
  { d with link := { d.link with ports := SMap.set LPort.init d.link.ports p x } }

/-- Change port `p`. -/
def Dev.modLport (d : Dev) (p : Nat) (f : LPort → LPort) : Dev := d.setLport p (f (d.lport p))

/-- State of the node and of a port. -/
def Dev.linkSt (d : Dev) : Nat := d.get Fld.linkStatusState
def Dev.setLinkSt (d : Dev) (st : Nat) : Dev := d.put Fld.linkStatusState st
def Dev.lportSt (d : Dev) (p : Nat) : Nat := d.get (Fld.linkPortStatusState p)
def Dev.setLportSt (d : Dev) (p st : Nat) : Dev := d.put (Fld.linkPortStatusState p) st

/-- This node is the root (R458). -/
def Dev.isRoot (d : Dev) : Bool := d.is Fld.linkCfgRoot

/-- A link ward is present: some port is used (R458). -/
def Dev.linkUsed (d : Dev) : Bool := (List.range 3).any (fun p => d.is (Fld.linkPortCfgUsed p))

/-- L in effect: the root's own, elsewhere from the headers (R474). -/
def Dev.linkL (d : Dev) : Nat := if d.isRoot then d.get Fld.linkCfgL else d.get Fld.linkStatusL

/-- Boundaries per link frame: one at a base rate, two at a double rate (R460). -/
def Dev.linkStep (d : Dev) : Nat := if d.get Fld.clkPlanRate = 0 then 1 else 2

/-- The fields of a link frame header (R461), from its 64 bytes. -/
def hdrNat (h : List Byte) (off n : Nat) : Nat := leNat ((h.drop off).take n)

/-- The header's CRC agrees (R461). -/
def hdrOk (h : List Byte) : Bool := hdrNat h 0x3C 4 == crc32 ((h.drop 2).take 58)

/-- The mean of the last Δ samples (R467). -/
def meanDelta (l : List Int) : Int := if l.length = 0 then 0 else l.sum / l.length

/-- Δ_own filtered, delay and offset of a port (R467, R468). -/
def Dev.ownDelta (d : Dev) (p : Nat) : Int := meanDelta (d.lport p).deltas
def Dev.linkOffset (d : Dev) (p : Nat) : Int := (d.ownDelta p - (d.lport p).theirs) / 2

/-- The rate field of this node's clock plan (R461). -/
def Dev.rateField (d : Dev) : Nat := d.get Fld.clkPlanFamily + 2 * (if d.get Fld.clkPlanRate = 0 then 0 else 1)

/-- The map of a port has just been compared (R475). -/
def Dev.mapCheck (d : Dev) (p : Nat) : Dev :=
  let same := (d.lport p).pmap == d.get (Fld.linkPortCfgMap p)
  let was := d.is (Fld.linkPortStatusMapOk p)
  let d := d.flag (Fld.linkPortStatusMapOk p) same
  if !same && was then d.happen Fld.linkEventsMap else d

/-- What a valid header on UP tells a child (R463 to R466, R474, R482, R483). -/
def Dev.upHeader (d : Dev) (h : List Byte) (downB : Bool) : Dev :=
  let rate := hdrNat h 0x0B 1
  let ph := hdrNat h 0x0A 1
  let path := hdrNat h 0x0C 3
  let d := (d.put Fld.linkStatusHops (ph + 1)).put Fld.linkPosPath (if downB then orBit path ph else clrBit path ph)
  let d := d.put Fld.linkStatusL (hdrNat h 0x0F 1)
  if rate % 4 ≠ d.rateField then
    if d.linkSt = LinkSt.mismatch then d else (d.setLinkSt LinkSt.mismatch).happen Fld.linkEventsMismatch
  else
    let d := if d.linkSt = LinkSt.mismatch then d.setLinkSt LinkSt.acquire else d
    if (d.linkSt == LinkSt.ranging || d.link.back) && !bitOf (hdrNat h 3 1) 0 then
      { d with link := { d.link with ranging := d.link.ranging + 1 } }
    else if d.is Fld.linkStatusRootLost && !bitOf (hdrNat h 3 1) 0 then
      { d with link := { d.link with back := true, ranging := 1 } }
    else d

/-- A valid header on port `p` (R461, R465, R467, R471, R475, R484). -/
def Dev.goodHeader (d : Dev) (p : Nat) (f : LinkIn) : Dev :=
  let h := f.hdr
  let flags := hdrNat h 3 1
  let x := d.lport p
  let good := x.good + 1
  let d := d.setLport p { x with good := good, gone := 0, deltas := (f.delta :: x.deltas).take 32, theirs := sgn 32 (hdrNat h 0x14 4),
                                 pmap := hdrNat h 0x10 2, frame := hdrNat h 4 4, rootLost := bitOf flags 0,
                                 partnerIdle := x.partnerIdle || bitOf flags 1 }
  let d := (d.put (Fld.linkPortStatusPartner p) (hdrNat h 8 2)).put (Fld.linkPortStatusPartnerJoined p) (bitsOf flags 2 1)
  let d := d.put (Fld.linkPortOffsetPs p) (unsg 32 (d.ownDelta p))
  let d := d.put (Fld.linkPortDelayPs p) (unsg 32 ((d.ownDelta p + (d.lport p).theirs) / 2))
  let d := d.mapCheck p
  let near := !(p == 0) || decide (hdrNat h 0x0A 1 < 24)
  let d := if d.lportSt p = LPortSt.absent then d.setLportSt p LPortSt.acquire else d
  let d := if d.lportSt p = LPortSt.acquire ∧ 2 ≤ good ∧ near then d.setLportSt p LPortSt.framed else d
  if p = 0 ∧ d.lportSt 0 = LPortSt.framed ∧ !d.isRoot then d.upHeader h f.downB else d

/-- The sample that a received slot of port `p` stands for: 0 while the maps differ or the root is lost (R475, R482). -/
def Dev.slotOn (d : Dev) (p : Nat) : Bool :=
  d.is (Fld.linkPortStatusMapOk p) && !(p == 0 && d.is Fld.linkStatusRootLost)

/-- A slot of a frame numbered `m` is taken (R462, R472, R474): the last good sample replaces one with a code error, and
every receive channel bound to it gets its sample of the pass of origin. -/
def Dev.slotTake (d : Dev) (p m : Nat) (e : SlotIn) : Dev :=
  let x := d.lport p
  let old := SMap.get (0, 0) x.slots e.slot
  let v := if e.bad then old.1 else e.sample
  let d := if e.bad then d.inc (Fld.linkPortCountCode p) else d
  let d := d.modLport p (fun y => { y with slots := SMap.set (0, 0) y.slots e.slot (v, e.crossed) })
  let dbl := d.linkStep == 2
  let s := if dbl then e.slot / 2 * 2 else e.slot
  let back := (if dbl then (if e.slot % 2 = 0 then 2 else 1) else 1) + d.linkStep * e.crossed
  let pass := (m + 2 ^ 32 - back) % 2 ^ 32
  let cs := (List.range 256).filter (fun c => d.is (Fld.linkRxchEn c) && !d.is (Fld.linkRxchLoop c) &&
    d.get (Fld.linkRxchPort c) == p && d.get (Fld.linkRxchIndex c) == s)
  { d with link := { d.link with arr := d.link.arr ++ cs.map (fun c => (pass * 256 + c, if d.slotOn p then v else 0)) } }

/-- LINK_FRAME_RX (R461 to R463, R467, R471 to R475). -/
def Dev.linkFrame (d : Dev) (p : Nat) (f : LinkIn) : Dev :=
  if !d.on Dom.link || !d.is (Fld.linkPortCfgUsed p) || d.lportSt p == LPortSt.idle then d
  else
    let ok := !f.codeErr && hdrOk f.hdr
    let m := if ok then hdrNat f.hdr 4 4 else ((d.lport p).frame + d.linkStep) % 2 ^ 32
    let d := if ok then d.goodHeader p f
      else (d.inc (Fld.linkPortCountCrc p)).modLport p (fun x => { x with good := 0, frame := m })
    if d.lportSt p = LPortSt.framed ∧ d.linkSt ≠ LinkSt.mismatch then d.each f.slots (fun d e => d.slotTake p m e) else d

/-- The receive channels of pass `n` (R474): sources 192 to 447, with one late count for the pass. -/
def Dev.linkLatch (d : Dev) (n : Nat) : Dev × List Int :=
  let want := (n + 2 ^ 32 - d.linkL) % 2 ^ 32
  let cs := (List.range 256).filter (fun c => d.is (Fld.linkRxchEn c))
  if cs.isEmpty || !d.on Dom.link then (d, [])
  else
    let got (c : Nat) : Option Int := (d.link.arr.find? (fun e => e.1 == want * 256 + c)).map (·.2)
    let xs := (List.range 256).map (fun c => if cs.contains c then (got c).getD 0 else 0)
    let late := cs.any (fun c => (got c).isNone)
    let d := { d with link := { d.link with arr := d.link.arr.filter (fun e =>
      e.1 / 256 != want && notBefore (e.1 / 256) want) } }
    (if late then (d.inc Fld.linkCount1Late).happen Fld.linkEventsLate else d, xs)

/-- The write-out of pass `n` at the link (R473, R474): channels that loop keep their own samples. -/
def Dev.linkHand (d : Dev) (n : Nat) : Dev :=
  let cs := (List.range 256).filter (fun c => d.is (Fld.linkRxchEn c) && d.is (Fld.linkRxchLoop c))
  if !d.on Dom.link then d
  else { d with link := { d.link with arr := d.link.arr ++ cs.map (fun c =>
    (n * 256 + c, SMap.get 0 d.key.sink (256 + d.get (Fld.linkRxchIndex c)))) } }

/-! ### Control messages (R476 to R481) -/

/-- A field of a message (R476). -/
def msgNat (m : Msg) (off n : Nat) : Nat := leNat ((m.drop off).take n)

/-- Message types (R476). -/
abbrev MsgType.app : Nat := 1
abbrev MsgType.assign : Nat := 2
abbrev MsgType.join : Nat := 3
abbrev MsgType.reset : Nat := 4
abbrev MsgType.bootData : Nat := 5

/-- Tag and CRC are put over a message's first 80 bytes; without a key the tag is 0 (R476, R480). -/
def Dev.sealMsg (d : Dev) (body : List Byte) : Msg :=
  let b := body.take 80 ++ List.replicate (80 - body.length) 0
  let tag := match d.link.key with
    | some k => (cmac k b).take 4
    | none => [0, 0, 0, 0]
  b ++ tag ++ leBytes 4 (crc32 (b ++ tag))

/-- Count a dropped message (R478). -/
def Dev.dropMsg (d : Dev) : Dev := d.inc Fld.linkCount0Dropped

/-- Queue a message on port `p` (R478): sixteen deep. -/
def Dev.queueMsg (d : Dev) (p : Nat) (m : Msg) : Dev :=
  if !d.is (Fld.linkPortCfgUsed p) then d
  else if 16 ≤ (d.lport p).txq.length then d.dropMsg
  else d.modLport p (fun x => { x with txq := x.txq ++ [m] })

/-- Forward a message on ports, its ttl one less (R478): at 0 it is dropped. Tag and CRC follow the new ttl (log 45). -/
def Dev.forward (d : Dev) (ps : List Nat) (m : Msg) : Dev :=
  if ps.isEmpty then d
  else
    let ttl := msgNat m 7 1 - 1
    if ttl = 0 then d.dropMsg
    else
      let b := m.take 7 ++ leBytes 1 ttl ++ (m.take 80).drop 8
      let m' := if msgNat m 4 1 = MsgType.bootData then b ++ (m.drop 80).take 4 ++ leBytes 4 (crc32 (b ++ (m.drop 80).take 4))
        else d.sealMsg b
      d.each ps (fun d p => d.queueMsg p m')

/-- The node's ID, once valid (R466). -/
def Dev.nodeId (d : Dev) : Option Nat := if d.is Fld.linkNodeidValid then some (d.get Fld.linkNodeidId) else none

/-- Whether a message is consumed here and where it goes on (R478); `from_` is 0 UP or a DOWN port. -/
def Dev.route (d : Dev) (from_ : Nat) (m : Msg) : Bool × List Nat :=
  let dst := msgNat m 0 2
  let bcast := bitOf (msgNat m 5 1) 0
  let byPath := bitOf (msgNat m 5 1) 1
  let own := d.nodeId == some dst
  if from_ ≠ 0 then
    if d.isRoot then (dst == 0 || bcast, if dst ≠ 0 || bcast then [1, 2] else [])
    else (own || bcast, if own && !bcast then [] else [0])
  else if byPath then
    let pw := msgNat m 12 4
    let hops := d.get Fld.linkStatusHops
    if bitsOf pw 0 24 = d.get Fld.linkPosPath ∧ bitsOf pw 24 5 = hops then (true, [])
    else (false, [if bitOf pw hops then 2 else 1])
  else (own || bcast, if own && !bcast then [] else [1, 2])

/-- The checks of R477 on a message from port `p`: the state after, and whether it passes. -/
def Dev.checkMsg (d : Dev) (p : Nat) (m : Msg) : Dev × Bool :=
  let ty := msgNat m 4 1
  let auth := (d.inc Fld.linkCount0Auth).viol 9 .proto 0
  if m.length ≠ 88 || msgNat m 84 4 ≠ crc32 (m.take 84) then (d.inc (Fld.linkPortCountCrc p), false)
  else if ty ≠ MsgType.bootData && (match d.link.key with
      | some k => (cmac k (m.take 80)).take 4 ≠ (m.drop 80).take 4
      | none => true) then (auth, false)
  else if (ty = MsgType.reset ∨ ty = MsgType.assign) ∧ msgNat m 2 2 ≠ 0 then (auth, false)
  else if 1024 < (d.frame + 2 ^ 32 - msgNat m 8 4) % 2 ^ 32 then (d.dropMsg, false)
  else (d, true)

/-- Messages are exchanged on port `p`: its domain is on, it is framed, and the node is not in MISMATCH (R463). -/
def Dev.msgOn (d : Dev) (p : Nat) : Bool :=
  d.on Dom.link && d.is (Fld.linkPortCfgUsed p) && d.lportSt p == LPortSt.framed && d.linkSt != LinkSt.mismatch

/-- A message of type `ty` arrives on port `p` (R477, R478): the state after the checks and the forwarding, and whether
this node consumes it. -/
def Dev.arrive (d : Dev) (ty p : Nat) (m : Msg) : Dev × Bool :=
  if !d.msgOn p || msgNat m 4 1 ≠ ty then (d, false)
  else
    let (d, ok) := d.checkMsg p m
    if !ok then (d, false)
    else
      let (mine, ps) := d.route p m
      (d.forward ps m, mine)

/-- LINK_RXMSGw and LINK_RXSTAT show the FIFO's head (R488). -/
def Dev.showRx (d : Dev) : Dev :=
  let head := (d.link.rxq.head?).getD []
  (d.each (List.range 20) (fun d w => d.put (Fld.linkRxmsgData w) (msgNat head (4 * w) 4))).put Fld.linkRxstatCount
    d.link.rxq.length

/-- A message is delivered to LINK_RXMSG (R479). -/
def Dev.deliver (d : Dev) (m : Msg) : Dev :=
  if 8 ≤ d.link.rxq.length then d.dropMsg
  else (({ d with link := { d.link with rxq := d.link.rxq ++ [m] } }).showRx).happen Fld.linkEventsRxMsg

/-- The JOIN message of this node (R479). -/
def Dev.joinMsg (d : Dev) : Msg :=
  let (id, fl) := match d.nodeId with
    | some n => (n, 0)
    | none => (0, 4)
  let pos := d.get Fld.linkPosPath + d.get Fld.linkStatusHops * 2 ^ 24
  d.sealMsg (leBytes 2 0 ++ leBytes 2 id ++ [3] ++ leBytes 1 fl ++ [44, 48] ++ leBytes 4 d.frame ++ leBytes 4 0 ++
    leBytes 4 pos ++ leBytes 4 (d.rd Reg.bootRunlike0).toNat ++ leBytes 4 (d.rd Reg.bootRunlike1).toNat ++
    (List.range 8).flatMap (fun w => leBytes 4 (d.rd (Reg.bootRunhash w)).toNat))

/-- A node enters JOINED (R471, R479). -/
def Dev.enterJoined (d : Dev) : Dev :=
  let d := (d.setLinkSt LinkSt.joined).happen Fld.linkEventsJoined
  d.queueMsg 0 d.joinMsg

/-- APP (R479). -/
def Dev.linkApp (d : Dev) (p : Nat) (m : Msg) : Dev :=
  let (d, mine) := d.arrive MsgType.app p m
  if mine then d.deliver m else d

/-- ASSIGN (R466, R479). -/
def Dev.linkAssign (d : Dev) (p : Nat) (m : Msg) : Dev :=
  let (d, mine) := d.arrive MsgType.assign p m
  if mine && d.is Fld.linkCfgIdHost && !d.is Fld.linkNodeidValid then
    let d := (d.put Fld.linkNodeidId (msgNat m 16 2)).put Fld.linkNodeidValid 1
    d.queueMsg 0 d.joinMsg
  else d

/-- JOIN (R479): the root delivers it to its own LINK_RXMSG. -/
def Dev.linkJoin (d : Dev) (p : Nat) (m : Msg) : Dev :=
  let (d, mine) := d.arrive MsgType.join p m
  if mine && d.isRoot then d.deliver m else d

/-- LINK_RESET (R479): the state after, and whether this node performs the reset. -/
def Dev.linkResetMsg (d : Dev) (p : Nat) (m : Msg) : Dev × Bool :=
  let (d, mine) := d.arrive MsgType.reset p m
  if mine then (if msgNat m 16 4 = 0x9616 then (d, true) else (d.dropMsg, false)) else (d, false)

/-- LINK_SEND (R478, R480, R486, R488): ignored in PAIRING and STANDBY; without a key nothing but JOIN is sent. -/
def Dev.linkSend (d : Dev) : Dev :=
  if d.released then d
  else
    let w (i : Nat) : List Byte := leBytes 4 (d.rd (Reg.linkTxmsg i)).toNat
    let raw := (List.range 20).flatMap w
    let (id, un) := match d.nodeId with
      | some n => (n, 0)
      | none => (0, 4)
    let fl := msgNat raw 5 1 % 4 + un
    let b := raw.take 2 ++ leBytes 2 id ++ (raw.drop 4).take 1 ++ leBytes 1 fl ++ (raw.drop 6).take 1 ++ [48] ++
      leBytes 4 d.frame ++ raw.drop 12
    let m := d.sealMsg b
    if d.link.key.isNone then d.dropMsg
    else
      let d := if d.isRoot then
          let (mine, ps) := d.route 1 m
          let d := d.each ps (fun d p => d.queueMsg p m)
          if mine && msgNat m 4 1 == MsgType.app then d.deliver m else d
        else d.queueMsg 0 m
      d.happen Fld.linkEventsTxDone

/-- LINK_POP (R488). -/
def Dev.linkPop (d : Dev) : Dev := ({ d with link := { d.link with rxq := d.link.rxq.drop 1 } }).showRx

/-- LINK_NODEID_WRITE (R466, R487). -/
def Dev.nodeIdWrite (d : Dev) (ag : Agent) (v : Word) : Dev :=
  if d.is Fld.linkCfgIdHost && !d.is Fld.linkNodeidValid then
    (d.put Fld.linkNodeidId (bitsOf v.toNat 0 16)).put Fld.linkNodeidValid 1
  else d.viol 0 ag Reg.linkNodeid

/-- LINK_CLR_CNT (R487). -/
def Dev.linkClr (d : Dev) : Dev :=
  ((d.wr Reg.linkCount0 0).wr Reg.linkCount1 0).each (List.range 3) (fun d p => d.wr (Reg.linkPortCount p) 0)

/-! ### Idle, wake, root loss and ranging (R482 to R485) -/

/-- A port leaves electrical idle (R485). -/
def Dev.portAcquire (d : Dev) (p : Nat) : Dev :=
  if d.lportSt p = LPortSt.idle ∧ d.is (Fld.linkPortCfgUsed p) ∧ d.on Dom.link then
    let d := (d.setLport p { LPort.init with txq := (d.lport p).txq }).setLportSt p LPortSt.acquire
    if p = 0 ∧ d.linkSt = LinkSt.idle then d.setLinkSt LinkSt.acquire else d
  else d

/-- A port enters electrical idle (R484). -/
def Dev.portIdle (d : Dev) (p : Nat) : Dev :=
  (d.setLport p { LPort.init with txq := (d.lport p).txq, gone := if p = 0 then 8 else 0 }).setLportSt p LPortSt.idle

/-- LINK_IDLE (R484). -/
def Dev.linkIdle (d : Dev) (p : Nat) : Dev :=
  let d := d.put (Fld.linkPortCtrlIdle p) 1
  if d.lportSt p = LPortSt.idle then d else d.modLport p (fun x => { x with idleReq := 16 })

/-- LINK_WAKE (R485): a write of 0 to idle (`clear`) or of 1 to wake. -/
def Dev.linkWake (d : Dev) (p : Nat) (clear : Bool) : Dev :=
  let d := if clear then d.put (Fld.linkPortCtrlIdle p) 0 else d
  (d.modLport p (fun x => { x with idleReq := 0 })).portAcquire p

/-- SQUELCH_WAKE at the port (R485); the wake source is with the power sequencer. -/
def Dev.squelch (d : Dev) (p : Nat) : Dev :=
  if d.lportSt p = LPortSt.idle ∧ d.is (Fld.linkPortCfgUsed p) then (d.happen Fld.linkEventsWake).portAcquire p else d

/-- A write to LINK_PORTp_CTRL (R489). -/
def Dev.lportCtrl (d : Dev) (p : Nat) (v : Word) : Dev :=
  let was := d.is (Fld.linkPortCtrlIdle p)
  let d := if bitOf v.toNat 0 && !was then d.linkIdle p else if !bitOf v.toNat 0 && was then d.linkWake p true else d
  if bitOf v.toNat 1 then d.linkWake p false else d

/-- LINK_ROOT_LOSS (R482): eight base frames without a valid UP header, or a header with root_lost. -/
def Dev.rootLoss (d : Dev) : Dev :=
  let up := d.lport 0
  let lost := decide (8 ≤ up.gone)
  if d.isRoot || !d.is (Fld.linkPortCfgUsed 0) || d.is Fld.linkStatusRootLost || !(lost || up.rootLost) ||
      !(d.linkSt == LinkSt.joined || d.linkSt == LinkSt.slew) then d
  else
    let d := (d.put Fld.linkStatusRootLost 1).happen Fld.linkEventsRootLoss
    let d := { d with link := { d.link with back := false, ranging := 0, slew := 0 } }
    if lost then
      let d := if d.lportSt 0 = LPortSt.framed then d.setLportSt 0 LPortSt.acquire else d
      (d.modLport 0 (fun x => { x with good := 0 })).setLinkSt LinkSt.holdover
    else d

/-- LINK_RANGING_DONE (R469, R471, R483): over 32 base frames. `same`: the header's number is this node's number of the
same boundary. In PAIRING and STANDBY alignment comes from the active (R486). -/
def Dev.rangingDone (d : Dev) (same : Bool) : Dev :=
  let off := d.linkOffset 0
  let small := decide (off.natAbs ≤ 2000000)
  let st := d.linkSt
  if d.isRoot || d.released || d.lportSt 0 != LPortSt.framed then d
  else if st = LinkSt.ranging ∧ 32 ≤ d.link.ranging then
    let d := { d with link := { d.link with ranging := 0, back := false, slew := 0 } }
    let d := d.put Fld.keyFramecntCount (d.lport 0).frame
    (d.put Fld.linkStatusRootLost 0).enterJoined
  else if (d.link.back && decide (32 ≤ d.link.ranging)) || st = LinkSt.joined then
    if small && (same || st == LinkSt.joined) then
      let d := { d with link := { d.link with ranging := 0, back := false, slew := off } }
      (d.put Fld.linkStatusRootLost 0).setLinkSt (if off = 0 then LinkSt.joined else LinkSt.slew)
    else
      let d := (d.happen Fld.linkEventsRejoin).inc Fld.linkCount1Rejoins
      let d := { d with link := { d.link with ranging := 0, back := false, slew := 0, rejoin := true } }
      (d.put Fld.linkStatusRootLost 0).setLinkSt LinkSt.acquire
  else d

/-- The switch-back of R84 at a node that waits to join (R471): the provisional strobe starts, and ranging. -/
def Dev.startRanging (d : Dev) : Dev :=
  if d.linkSt = LinkSt.acquire ∧ !d.isRoot ∧ d.on Dom.link then
    ({ d with link := { d.link with ranging := 0 } }).setLinkSt LinkSt.ranging
  else d

/-- CLK_LINK stops at fallback (R89): the ports lose framing. -/
def Dev.linkUnframe (d : Dev) : Dev :=
  d.each [0, 1, 2] (fun d p => if d.lportSt p = LPortSt.framed then
    (d.modLport p (fun x => { x with good := 0 })).setLportSt p LPortSt.acquire else d)

/-- The link's part of a base frame: slewing at 10 ppm (R469), messages sent (R478), idle requests (R484), and base frames
without a valid header (R482). -/
def Dev.linkTick (d : Dev) : Dev :=
  let step : Int := 10000000 / d.houseRate
  let sl := d.link.slew
  let sl' : Int := if sl.natAbs ≤ step.natAbs then 0 else if 0 < sl then sl - step else sl + step
  let d := { d with link := { d.link with slew := sl' } }
  let d := if d.linkSt = LinkSt.slew ∧ sl' = 0 then d.setLinkSt LinkSt.joined else d
  d.each [0, 1, 2] (fun d p =>
    if d.lportSt p = LPortSt.idle then d
    else
      let x := d.lport p
      let gone := min 1000 (x.gone + 1)
      let d := d.setLport p { x with gone := gone, txq := if d.linkSt = LinkSt.mismatch then x.txq else x.txq.drop 1,
                                     idleReq := x.idleReq - 1 }
      if x.idleReq = 1 then d.portIdle p
      else if x.partnerIdle ∧ 2 ≤ gone then (d.portIdle p).happen Fld.linkEventsPartnerIdle
      else if 8 ≤ gone ∧ d.lportSt p = LPortSt.framed ∧ p ≠ 0 then
        (d.modLport p (fun y => { y with good := 0 })).setLportSt p LPortSt.acquire
      else d)

/-- The link ward has been written (R458, R466, R484): ports in use leave idle, the node's state follows. -/
def Dev.linkStart (d : Dev) : Dev :=
  if !d.linkUsed then d
  else
    let d := if d.is Fld.linkCfgIdHost then d
      else (d.put Fld.linkNodeidId (d.get Fld.linkCfgNodeId)).put Fld.linkNodeidValid 1
    let d := d.setLinkSt (if d.isRoot then LinkSt.root else if d.linkSt = LinkSt.idle then LinkSt.acquire else d.linkSt)
    d.each [0, 1, 2] (fun d p => if d.lportSt p = LPortSt.idle then
      (if d.is (Fld.linkPortCfgUsed p) then (d.portAcquire p) else d) else d)

end Sys2Proof.Machine
end

