-- ==== Sys2Proof/Machine/Hinge.lean ====
section
/-! DEFINITION. Twin operation (chapter 17): roles, pairing, hinge frames, mirroring and the lockstep check. What a takeover
and a synchronisation do to the clocks and engines is in Clock.lean and Frame.lean. -/
namespace Sys2Proof.Machine

/-- HINGE_STATUS.role (R491). -/
abbrev Role.solo : Nat := 0
abbrev Role.pairing : Nat := 1
abbrev Role.active : Nat := 2
abbrev Role.standby : Nat := 3

/-- HINGE_STATUS.refuse (R514). -/
abbrev Refuse.likeness : Nat := 1
abbrev Refuse.hash : Nat := 2
abbrev Refuse.revision : Nat := 3
abbrev Refuse.side : Nat := 4
abbrev Refuse.sync : Nat := 5

/-- The role. -/
def Dev.role (d : Dev) : Nat := d.get Fld.hingeStatusRole

/-- Change the hinge's state. -/
def Dev.modHinge (d : Dev) (f : Hinge → Hinge) : Dev := { d with hinge := f d.hinge }

/-- ACTIVE with a standby: its dead-man circuit is armed (R491). -/
def Dev.hasStandby (d : Dev) : Bool := d.role == Role.active && d.is Fld.hingeStatusArmed

/-- The hinge is in use: a hinge ward, TWIN_ROLE_DEFAULT not 3, and its domain on (R492). -/
def Dev.hingeOn (d : Dev) : Bool := d.is Fld.hingeCfgPresent && d.hinge.dflt != 3 && d.on Dom.hinge

/-- What follows from a change of role in the blocks that release their pins (R157, R160, R196, R290, R309, R342, R491). -/
def Dev.roleEffects (d : Dev) (was : Bool) : Dev :=
  let d := if d.released && !was then d.releaseOuts else d
  let d := (d.showMicb).each (List.range 8) Dev.pdmRole
  (d.portsRole).usbCheck

/-- Take a role. A package that leaves PAIRING is no longer fresh (R493); only ACTIVE drives TWIN_HOLD_N (R508). -/
def Dev.setRole (d : Dev) (r : Nat) : Dev :=
  let was := d.released
  let d := d.put Fld.hingeStatusRole r
  let d := if r = Role.pairing then d else (d.put Fld.hingeStatusFresh 0).modHinge (fun h => { h with waiting := false })
  let d := if r = Role.active then d else d.put Fld.hingeStatusArmed 0
  let d := d.flag Fld.hingeStatusHold (r == Role.active || r == Role.standby)
  (d.flag Fld.hingeStatusSynced (r == Role.standby)).roleEffects was

/-- Pairing is refused (R495). -/
def Dev.refusePair (d : Dev) (code : Nat) : Dev :=
  ((d.put Fld.hingeStatusRefuse code).inc Fld.hingeCount0Refusals).happen Fld.hingeEventsRefused

/-- The checks of R495 on the partner's identity: the first that fails. -/
def Dev.pairCheck (d : Dev) : Option Nat :=
  let h := d.hinge
  let own := (d.rd Reg.sysRevid).toNat
  if h.pLike ≠ d.kt! 0 then some Refuse.likeness
  else if h.pHash ≠ (List.range 8).map (fun w => d.rd (Reg.bootRunhash w)) then some Refuse.hash
  else if [0, 8, 16].any (fun b => bitsOf h.pRev (b + 4) 4 != bitsOf own (b + 4) 4) then some Refuse.revision
  else none

/-- This package prefers ACTIVE (R494). -/
def Dev.prefers (d : Dev) : Bool :=
  match d.hinge.dflt with
  | 0 => !d.pins.twinSel
  | 1 => true
  | _ => false

/-- Of two fresh packages this one is chosen as active (R494). -/
def Dev.chosen (d : Dev) : Bool :=
  if d.prefers && !d.hinge.pPref then true else if !d.prefers && d.hinge.pPref then false else !d.pins.twinSel

/-- A synchronisation begins (R496): the partner forgets what it had, the active announces it. -/
def Dev.beginSync (d : Dev) : Dev :=
  d.modHinge (fun h => { h with sync := true, waiting := false, copy := [], copyTumb := none, syncAt := none,
                                cmdOut := if d.role = Role.active then 2 else h.cmdOut })

/-- Two fresh packages pair (R494, R495). -/
def Dev.pairFresh (d : Dev) : Dev :=
  let d := d.modHinge (fun h => { h with waiting := false })
  if d.pins.twinSel = d.hinge.pSide then d.refusePair Refuse.side
  else match d.pairCheck with
    | some c =>
      let d := d.refusePair c
      if d.pins.twinSel then d else d.setRole Role.solo
    | none => if d.chosen then (d.setRole Role.active).beginSync else d.beginSync

/-- The decision of R493: the partner framed with a role, or the end of pair_wait. -/
def Dev.pairDecide (d : Dev) : Dev :=
  let r := d.get Fld.hingeStatusPartnerRole
  if d.role ≠ Role.pairing || !d.hinge.waiting then d
  else if !d.is Fld.hingeStatusPartner || r = 4 then d.setRole Role.solo
  else if r = Role.pairing then (if d.hinge.pFresh then d.pairFresh else d.setRole Role.solo)
  else d.modHinge (fun h => { h with waiting := false })

/-- PAIR_WAIT_EXPIRE (R493). -/
def Dev.pairWaitExpire (d : Dev) : Dev := d.pairDecide

/-- Commit step 8 (R492, R493). -/
def Dev.twinStart (d : Dev) : Dev :=
  let d := (d.flag Fld.hingeStatusSide d.pins.twinSel).modHinge (fun h => { h with dflt := d.kt! 4 })
  if d.is Fld.hingeCfgPresent && d.kt! 4 != 3 then
    ((d.setRole Role.pairing).put Fld.hingeStatusFresh 1).modHinge (fun h => { h with waiting := true })
  else d.setRole Role.solo

/-- Compare the partner's lockstep CRCs with this package's for the same pass (R504). -/
def Dev.lockstep (d : Dev) (pass : Nat) (theirs : List Nat) : Dev :=
  match d.hinge.crcs.find? (fun e => e.1 == pass) with
  | none => d
  | some (_, own) =>
    let diff := (List.range 8).filter (fun j => d.is (Fld.hingeCrcselEn j) && own.getD j 0 != theirs.getD j 0)
    if diff = [] then d.put Fld.hingeCrcstatConsec 0
    else
      let d := (d.put Fld.hingeCrcstatMask (diff.foldl orBit 0)).inc Fld.hingeCount1Mismatch
      let d := d.inc Fld.hingeCrcstatConsec
      if d.get Fld.hingeCrcstatConsec = d.get Fld.hingeCfgCrcThresh then d.happen Fld.hingeEventsCrc else d

/-- This pass's CRCs over the selected sources (R504). -/
def Dev.lockCrcs (d : Dev) (pass : Nat) : Dev :=
  if !d.hingeOn then d
  else
    let one (j : Nat) : Nat := if d.is (Fld.hingeCrcselEn j) then
      crc32 (leBytes 4 (unsg 32 (SMap.get 0 d.key.src (d.get (Fld.hingeCrcselSrc j))))) else 0
    d.modHinge (fun h => { h with crcs := ((pass, (List.range 8).map one) :: h.crcs).take 4 })

/-- The standby resynchronises (R500, R510). -/
def Dev.resync (d : Dev) : Dev :=
  ((d.beginSync).happen Fld.hingeEventsResync).inc Fld.hingeCount1Resyncs

/-- A batch arrives (R498, R500): taken once, in order; an entry after its boundary makes a standby resynchronise. -/
def Dev.takeBatch (d : Dev) (seq eff : Nat) (es : List (Nat × Word)) : Dev :=
  if seq ≤ d.hinge.seqSeen then d
  else
    let d := d.modHinge (fun h => { h with seqSeen := seq, batch := h.batch ++ es.map (fun e => ⟨seq, eff, e.1, e.2⟩) })
    if d.role = Role.standby ∧ es ≠ [] ∧ notBefore d.frame eff then d.resync else d

/-- HINGE_FRAME_RX (R497, R498, R504, R506), up to what a request of the partner does. -/
def Dev.hingeFrame (d : Dev) (f : HingeIn) : Dev :=
  if !d.hingeOn then d
  else if !f.ok then d.inc Fld.hingeCount2Crc
  else
    let framed := d.is Fld.hingeStatusPartner || decide (d.hinge.gone ≤ 1)
    let d := (d.flag Fld.hingeStatusPartner framed).put Fld.hingeStatusPartnerRole f.role
    let d := d.modHinge (fun h => { h with gone := 0, pFresh := f.fresh, pSide := f.side,
                                           unacked := h.unacked.filter (fun m => decide (f.ack < m.seq)),
                                           copy := h.copy ++ f.copy, syncAt := if f.syncAt.isSome then f.syncAt else h.syncAt })
    let d := match f.tumb with
      | some (es, ar) => d.modHinge (fun h => { h with copyTumb := some (es.map (fun (e : Nat × Word) => ⟨e.1, e.2⟩), ar) })
      | none => d
    let d := match f.ident with
      | some (l, hs, r, p) =>
        (d.modHinge (fun h => { h with pLike := l, pHash := hs, pRev := r, pPref := p })).put Fld.hingePrevRevid r
      | none => d
    let d := d.put Fld.hingePdelayPs f.delay
    let d := if d.role = Role.standby ∧ f.hb ∧ f.inTime ∧ f.frame = d.frame then
        (d.put Fld.hingeStatusMiss 0).modHinge (fun h => { h with beat := true })
      else d
    let d := if f.crcs = [] then d else d.lockstep ((f.frame + 2 ^ 32 - 1) % 2 ^ 32) f.crcs
    let d := match f.batch with
      | some (s, e, es) => d.takeBatch s e es
      | none => d
    let d := if d.role = Role.standby then d.each f.hsRes (fun d (e : Nat × Word) => d.wr e.1 e.2) else d
    let d := d.each f.records (fun d (e : Nat × Nat) => (d.put Fld.repLastLoc (orBit e.1 31)).put Fld.repLastinfoInfo e.2)
    let d := if framed && d.hinge.pHash != [] then d.pairDecide else d
    if f.req = 2 ∧ d.role = Role.pairing ∧ !d.hinge.sync then d.beginSync else d

/-- PAIR_SYNC_TIMEOUT (R496): refused with SYNC; the partner stays in PAIRING, not fresh. -/
def Dev.syncTimeout (d : Dev) : Dev :=
  if d.hinge.sync && (d.role == Role.pairing || (d.role == Role.active && !d.is Fld.hingeStatusArmed)) then
    ((d.refusePair Refuse.sync).put Fld.hingeStatusFresh 0).modHinge (fun h => { h with sync := false, copy := [], copyTumb := none })
  else d

/-- DEADMAN_FIRE (R507). -/
def Dev.deadman (d : Dev) : Dev :=
  if d.is Fld.hingeStatusArmed then
    (((d.setRole Role.pairing).put Fld.hingeStatusFresh 0).put Fld.hingeStatusDropped 1).happen Fld.hingeEventsDropped
  else d

/-- PARTNER_LOST (R510): no valid partner frame for six base frames. -/
def Dev.partnerLost (d : Dev) : Dev :=
  if d.role = Role.active ∧ 6 ≤ d.hinge.gone ∧ d.is Fld.hingeStatusPartner then
    (((d.put Fld.hingeStatusArmed 0).put Fld.hingeStatusPartner 0).put Fld.hingeStatusPartnerRole 4).happen
      Fld.hingeEventsPartnerLost
  else d

/-- The boundary at which a write accepted now takes effect in both packages (R500). -/
def Dev.mirrorAt (d : Dev) : Nat := (d.frame + if d.get Fld.clkPlanRate = 0 then 5 else 10) % 2 ^ 32

/-- A write is carried as a batch entry (R500). -/
def Dev.mirror (d : Dev) (a : Nat) (v : Word) : Dev :=
  let m : Mirror := ⟨d.hinge.seqNext, d.mirrorAt, a, v⟩
  d.modHinge (fun h => { h with batch := h.batch ++ [m], unacked := h.unacked ++ [m], seqNext := h.seqNext + 1 })

/-- The addresses whose writes are not mirrored (R500): SYS, CLK, HINGE, HOSTIF and boot, KEYTURN and REPAIR, MON and VIOL. -/
def unmirrored (a : Nat) : Bool :=
  let b := a / 0x10000
  b == 0x80 || b == 0x81 || b == 0x8C || b == 0x8E || b == 0x8F || b == 0x90

/-- A command out of role (R511). -/
def Dev.outOfRole (d : Dev) (ag : Agent) : Dev := d.viol 10 ag Reg.hingeCtrl

/-- DETACH (R511): with a standby, or as one, at the mirrored boundary; an ACTIVE without one becomes SOLO at once. -/
def Dev.detach (d : Dev) (ag : Agent) : Dev :=
  if d.hasStandby || d.role == Role.standby then d.mirror Reg.hingeCtrl 0x96160001
  else if d.role = Role.active then d.setRole Role.solo
  else d.outOfRole ag

/-- A DETACH reaches its boundary. -/
def Dev.detachNow (d : Dev) : Dev :=
  if d.role = Role.standby then d.setRole Role.pairing
  else if d.role = Role.active then d.setRole Role.solo
  else d

/-- ATTACH (R495, R511). -/
def Dev.attach (d : Dev) (ag : Agent) : Dev :=
  if (d.role = Role.solo ∨ (d.role = Role.active ∧ !d.is Fld.hingeStatusArmed)) ∧ d.hingeOn ∧
      d.is Fld.hingeStatusPartner ∧ d.get Fld.hingeStatusPartnerRole = Role.pairing then
    match d.pairCheck with
    | some c => d.refusePair c
    | none => (if d.role = Role.active then d else d.setRole Role.active).beginSync
  else d.outOfRole ag

/-- RESET_TWIN (R511): the next hinge frame carries the request. -/
def Dev.resetTwin (d : Dev) (ag : Agent) : Dev :=
  if (d.role = Role.solo ∨ d.role = Role.active) ∧ d.is Fld.hingeStatusPartner then
    d.modHinge (fun h => { h with cmdOut := 3 })
  else d.outOfRole ag

/-- HINGE_CLR_CNT (R513). -/
def Dev.hingeClr (d : Dev) : Dev := ((d.wr Reg.hingeCount0 0).wr Reg.hingeCount1 0).wr Reg.hingeCount2 0

/-- A write to HINGE_CTRL (R513). -/
def Dev.hingeCtrl (d : Dev) (ag : Agent) (v : Word) : Dev :=
  if bitsOf v.toNat 16 16 ≠ 0x9616 then d.viol 0 ag Reg.hingeCtrl
  else
    let d := if bitOf v.toNat 3 then d.hingeClr else d
    match bitsOf v.toNat 0 3 with
    | 1 => d.detach ag
    | 2 => d.attach ag
    | 3 => d.resetTwin ag
    | _ => d

/-- The hinge's part of a boundary: a frame goes out and heartbeats are counted anew (R497, R506). -/
def Dev.hingeTick (d : Dev) : Dev :=
  if !d.hingeOn then d
  else
    let d := d.modHinge (fun h => { h with gone := min 1000 (h.gone + 1), beat := false, cmdOut := 0 })
    if 6 ≤ d.hinge.gone ∧ d.role ≠ Role.active then
      (d.put Fld.hingeStatusPartner 0).put Fld.hingeStatusPartnerRole 4
    else d

/-- Batch entries due at boundary `n`, in order, and the state without them (R500). -/
def Dev.dueMirrors (d : Dev) (n : Nat) : Dev × List (Nat × Word) :=
  let due := d.hinge.batch.filter (fun m => m.eff == n)
  (d.modHinge (fun h => { h with batch := h.batch.filter (fun m => m.eff != n) }), due.map (fun m => (m.addr, m.value)))

/-- CLK_LINK stops at fallback (R89): the port loses framing, and no frame goes out. -/
def Dev.hingeUnframe (d : Dev) : Dev :=
  if d.hingeOn then d.modHinge (fun h => { h with gone := max h.gone 6 }) else d

end Sys2Proof.Machine
end

