-- ==== Sys2Proof/Machine/Clock.lean ====
section
/-! DEFINITION. The clock root (chapter 03): acquisition, fallback, slips, holdover and the switch of reference. What the
commit does after lock is in Boot.lean. -/
namespace Sys2Proof.Machine

/-- Change the clock root's state. -/
def Dev.modClk (d : Dev) (f : Clk → Clk) : Dev := { d with clk := f d.clk }

/-- CLK_STATUS.last_cause (R97). -/
abbrev AcqCause.write : Nat := 1
abbrev AcqCause.lockLoss : Nat := 2
abbrev AcqCause.commit : Nat := 3
abbrev AcqCause.holdoverExit : Nat := 4

/-- Stages of an acquisition (R77, R84). -/
abbrev AcqStage.none : Nat := 0
abbrev AcqStage.band : Nat := 1
abbrev AcqStage.lock : Nat := 2
abbrev AcqStage.locked : Nat := 3

/-- Entry to fallback (R89): the keyway delivers no further frames, outputs fade to their clear codes, ports and converters
halt (R288, R319), and the link and hinge lose framing. -/
def Dev.enterFallback (d : Dev) : Dev :=
  if d.clk.fallback then d
  else
    let d := (d.modClk (fun c => { c with fallback := true })).put Fld.keyStatusRunning 0
    (((d.outFallback).portsFallback).linkUnframe).hingeUnframe

/-- Acquisition starts on the primary (R80, R81); with the PLL off the clocks are only in fallback (R92). -/
def Dev.acquire (d : Dev) (cause : Nat) : Dev :=
  let run := d.is Fld.clkPllcfgRun
  let d := ((d.put Fld.clkStatusLocked 0).put Fld.clkStatusHoldover 0).put Fld.clkStatusOnAlt 0
  let d := (d.flag Fld.clkStatusAcquiring run).put Fld.clkStatusRefUsed (d.get Fld.clkRefselPrimary)
  let d := if run then d.put Fld.clkStatusLastCause cause else d
  (d.modClk (fun c => { c with stage := if run then AcqStage.band else AcqStage.none, frozen := false, pend := false })).enterFallback

/-- The end of an access: a restart that a write asked for begins (R80). -/
def Dev.clkFlush (d : Dev) : Dev := if d.clk.pend then d.acquire AcqCause.write else d

/-- A write asks for a restart at the end of its access (R80). -/
def Dev.clkPend (d : Dev) : Dev := d.modClk (fun c => { c with pend := true })

/-- A write to CLK_PLLCFG or CLK_PLLFRAC (R76, R92, R93): int below 48 stored as 48 and counted. -/
def Dev.pllWrite (d : Dev) (ag : Agent) (a : Nat) (v : Word) : Dev :=
  if a = Reg.clkPllfrac then (d.wr a (BitVec.ofNat 32 (bitsOf v.toNat 0 24))).clkPend
  else
    let n := bitsOf v.toNat 31 1 * 2 ^ 31 + bitsOf v.toNat 16 3 * 2 ^ 16 + bitsOf v.toNat 0 9
    if bitsOf n 0 9 < 48 then (((d.wr a (BitVec.ofNat 32 (setBits n 0 9 48))).viol 3 ag a)).clkPend
    else (d.wr a (BitVec.ofNat 32 n)).clkPend

/-- A write to CLK_REFSEL (R80, R94): codes 4 to 7 stored as 0, the word counted once; a change of primary restarts. -/
def Dev.refselWrite (d : Dev) (ag : Agent) (v : Word) : Dev :=
  let n := v.toNat
  let p := bitsOf n 0 3
  let a := bitsOf n 4 3
  let ok (c : Nat) : Nat := if c < 4 then c else 0
  let old := d.get Fld.clkRefselPrimary
  let d := d.wr Reg.clkRefsel (BitVec.ofNat 32 (bitsOf n 8 2 * 2 ^ 8 + ok a * 16 + ok p))
  let d := if p < 4 ∧ a < 4 then d else d.viol 3 ag Reg.clkRefsel
  if ok p = old then d else d.clkPend

/-- Reference code `r` is valid (R86). -/
def Dev.refValid (d : Dev) (r : Nat) : Bool := bitOf d.clk.valid r

/-- The reference not in use (R88). -/
def Dev.otherRef (d : Dev) : Nat := if d.is Fld.clkStatusOnAlt then d.get Fld.clkRefselPrimary else d.get Fld.clkRefselAlt

/-- The other reference is usable (R88); `near`: its frequency lies within 100 ppm of the nominal f_ref. -/
def Dev.otherUsable (d : Dev) (near : Bool) : Bool :=
  (d.is Fld.clkStatusOnAlt || d.is Fld.clkRefselAltEn) && d.refValid d.otherRef && near

/-- The hitless switch to the reference not in use (R88). -/
def Dev.switchRef (d : Dev) : Dev :=
  let d' := (d.put Fld.clkStatusRefUsed d.otherRef).flag Fld.clkStatusOnAlt (!d.is Fld.clkStatusOnAlt)
  d'.happen Fld.clkEventsRefSwitch

/-- SWAP (R88). -/
def Dev.swapRef (d : Dev) (ag : Agent) (near : Bool) : Dev :=
  if d.is Fld.clkStatusLocked && d.otherUsable near then d.switchRef else d.viol 3 ag Reg.clkCtrl

/-- Lock loss (R85): the event, and acquisition on the primary. -/
def Dev.lockLoss (d : Dev) (cause : Nat) : Dev := (d.happen Fld.clkEventsUnlock).acquire cause

/-- Holdover (R87, R97). -/
def Dev.enterHoldover (d : Dev) : Dev :=
  ((d.put Fld.clkStatusLocked 0).put Fld.clkStatusHoldover 1).modClk (fun c => { c with frozen := false })

/-- BAND_SEARCH_DONE (R77). -/
def Dev.bandDone (d : Dev) (band : Nat) : Dev :=
  if d.clk.stage = AcqStage.band then (d.put Fld.clkStatusBand band).modClk (fun c => { c with stage := AcqStage.lock }) else d

/-- The settings ask for a CLK_ROOT within the VCO range, for a reference of `fref` Hz (R76, R77). -/
def Dev.rootInRange (d : Dev) (fref : Nat) : Bool :=
  let m := fref * (d.get Fld.clkPllcfgInt * 2 ^ 24 + d.get Fld.clkPllfracFrac)
  let den := (d.get Fld.clkPllcfgRefdiv + 1) * 2 ^ 24
  decide (2600000000 * den ≤ m) && decide (m ≤ 3100000000 * den)

/-- PLL_LOCK (R77): lock is declared; the divided clocks wait for the alignment point of R84. -/
def Dev.pllLock (d : Dev) (fref : Nat) : Dev :=
  if d.clk.stage = AcqStage.lock ∧ d.rootInRange fref then
    (d.put Fld.clkStatusAcquiring 0).modClk (fun c => { c with stage := AcqStage.locked })
  else d

/-- ACQ_TIMEOUT (R79). -/
def Dev.acqTimeout (d : Dev) : Dev :=
  if d.clk.stage = AcqStage.band ∨ d.clk.stage = AcqStage.lock then
    (((d.inc Fld.clkStatusAcqFail).happen Fld.clkEventsAcqTimeout).put Fld.clkStatusAcquiring 1).modClk
      (fun c => { c with stage := AcqStage.band })
  else d

/-- The switch-back of R84, up to what a waiting commit does. -/
def Dev.switchBack (d : Dev) : Dev :=
  let d := (d.put Fld.clkStatusLocked 1).modClk (fun c => { c with stage := AcqStage.none, fallback := false })
  (((d.outSwitchBack).portsRestart).usbRestart).startRanging

/-- PHASE_FREEZE (R85): the loop locks a reference. -/
def Dev.phaseFreeze (d : Dev) : Dev :=
  if d.is Fld.clkStatusLocked then d.modClk (fun c => { c with frozen := true }) else d

/-- FREEZE_DECISION (R85): whether the phase error is back below 5 ns, and whether the other reference is within 100 ppm. -/
def Dev.freezeDecision (d : Dev) (phaseOk near : Bool) : Dev :=
  if !d.clk.frozen then d
  else
    let d := d.modClk (fun c => { c with frozen := false })
    let ok := d.refValid (d.get Fld.clkStatusRefUsed)
    if ok && phaseOk then d.happen Fld.clkEventsSlip
    else if !ok && d.otherUsable near then d.switchRef
    else if !ok && d.is Fld.clkRefselHoldoverEn then d.enterHoldover
    else d.lockLoss AcqCause.lockLoss

/-- REF_LOST (R86). -/
def Dev.refLost (d : Dev) (r : Nat) : Dev :=
  if d.refValid r then (d.modClk (fun c => { c with valid := clrBit c.valid r })).happen Fld.clkEventsRefLost else d

/-- REF_RETURNED (R86, R87): in holdover the loop resumes on it within 100 ppm of the held frequency (`near`), otherwise
lock loss is declared. -/
def Dev.refReturned (d : Dev) (r : Nat) (near : Bool) : Dev :=
  if d.refValid r then d
  else
    let d := (d.modClk (fun c => { c with valid := orBit c.valid r })).happen Fld.clkEventsRefReturned
    let pri := r == d.get Fld.clkRefselPrimary
    if d.is Fld.clkStatusHoldover && (pri || (r == d.get Fld.clkRefselAlt && d.is Fld.clkRefselAltEn)) then
      if near then
        (((d.put Fld.clkStatusHoldover 0).put Fld.clkStatusLocked 1).put Fld.clkStatusRefUsed r).flag Fld.clkStatusOnAlt (!pri)
      else d.lockLoss AcqCause.holdoverExit
    else d

/-- REFMON_REFRESH (R99). -/
def Dev.refmonRefresh (d : Dev) (count : Nat) : Dev :=
  ((d.put Fld.clkRefmonPriCount count).flag Fld.clkRefmonPriValid (d.refValid (d.get Fld.clkRefselPrimary))).flag
    Fld.clkRefmonAltValid (d.refValid (d.get Fld.clkRefselAlt))

/-- A write to CLK_CTRL (R95). -/
def Dev.clkCtrl (d : Dev) (ag : Agent) (near : Bool) (v : Word) : Dev :=
  let d := if bitOf v.toNat 0 then d.swapRef ag near else d
  if bitOf v.toNat 1 then d.clkPend else d

/-- PWR_SLEEPCFG.pll_off acts (R551): the PLL stops without lock loss. -/
def Dev.pllOff (d : Dev) : Dev :=
  let d := ((d.put Fld.clkPllcfgRun 0).put Fld.clkStatusLocked 0).put Fld.clkStatusAcquiring 0
  ((d.put Fld.clkStatusHoldover 0).modClk (fun c => { c with stage := AcqStage.none, frozen := false })).enterFallback

/-- LINK_RANGING_DONE (R469, R471, R483): a node that must rejoin locks its PLL to UP again first (R80). -/
def Dev.linkRangingDone (d : Dev) (same : Bool) : Dev :=
  let d := d.rangingDone same
  if d.link.rejoin then ({ d with link := { d.link with rejoin := false } }).acquire AcqCause.write else d

end Sys2Proof.Machine
end

