-- ==== Sys2Proof/Machine/Jack.lean ====
section
/-! DEFINITION. Jack detection, headset detection and buttons (chapter 08). The wake that a jack change causes is in
Wake.lean. -/
namespace Sys2Proof.Machine

def Hs.init : Hs := ⟨false, 4, 0⟩

/-- Detector `h`'s state. -/
def Dev.hsd (d : Dev) (h : Nat) : Hs := SMap.get Hs.init d.hs h

/-- Change detector `h`'s state. -/
def Dev.modHs (d : Dev) (h : Nat) (f : Hs → Hs) : Dev := { d with hs := SMap.set Hs.init d.hs h (f (d.hsd h)) }

/-- Jack `k` is enabled and inserted (R249). -/
def Dev.jackIn (d : Dev) (k : Nat) : Bool := d.is (Fld.jdCfgEn k) && d.bit Fld.jackStatusInserted k

/-- Jack `k`'s raw state means inserted (R248). -/
def Dev.rawIn (d : Dev) (k : Nat) : Bool := d.bit Fld.jackStatusRaw k == d.is (Fld.jdCfgPol k)

/-- Output `o` has the jack mute cause (R249). -/
def Dev.jackMuted (d : Dev) (o : Nat) : Bool :=
  (List.range 4).any (fun k => d.is (Fld.jdCfgEn k) &&
    (if d.jackIn k then d.bit (Fld.jdMuteMuteIns k) o else d.bit (Fld.jdMuteMuteRem k) o))

/-- The jack mute causes follow the jacks (R249). -/
def Dev.jackMutes (d : Dev) : Dev := d.each (List.range 10) (fun d o => d.setMute o Fld.seqStatusMuteJack (d.jackMuted o))

/-- Every enabled jack mapped to detector `h` has its raw state equal to its debounced state (R253). -/
def Dev.jacksSettled (d : Dev) (h : Nat) : Bool :=
  (List.range 4).all (fun k => !(d.is (Fld.jdCfgEn k) && d.get (Fld.jdCfgHs k) == h) ||
    d.rawIn k == d.bit Fld.jackStatusInserted k)

/-- Decoding is suspended: a value not yet reported is discarded (R253). -/
def Dev.dropDecode (d : Dev) (h : Nat) : Dev := d.modHs h (fun x => { x with dec := 4, run := 0 })

/-- JACK_RAW_CHANGE (R248): the comparator of jack `k` crosses a threshold. -/
def Dev.jackRaw (d : Dev) (k : Nat) (high : Bool) : Dev :=
  let d := d.putBit Fld.jackStatusRaw k high
  let h := d.get (Fld.jdCfgHs k)
  if d.jacksSettled h then d else d.dropDecode h

/-- HSh_RES.type (R258). -/
abbrev HsType.threePole : Nat := 1
abbrev HsType.ctia : Nat := 2
abbrev HsType.omtp : Nat := 3
abbrev HsType.aborted : Nat := 4
abbrev HsType.noHp : Nat := 5
abbrev HsType.noBias : Nat := 6

/-- The bias output of detector `h` measures or returns to its setting (R252). -/
def Dev.hsBias (d : Dev) (h : Nat) (b : Bool) : Dev :=
  let n := d.get (Fld.hsCfgMicb h)
  ({ d with inp := { d.inp with micbBusy := if b then orBit d.inp.micbBusy n else clrBit d.inp.micbBusy n } }).showMicb

/-- Headset detection starts, or gives NO_BIAS or NO_HP (R250). -/
def Dev.hsStart (d : Dev) (h : Nat) : Dev :=
  if d.released || d.is (Fld.hsResRunning h) then d
  else if !d.on (micbDom (d.get (Fld.hsCfgMicb h))) then d.put (Fld.hsResType h) HsType.noBias
  else if d.pinHiz 4 || d.pinHiz 5 then d.put (Fld.hsResType h) HsType.noHp
  else (((d.put (Fld.hsResRunning h) 1).modHs h (fun x => { x with avg := false })).dropDecode h).hsBias h true

/-- Detection ends with a result (R251). -/
def Dev.hsEnd (d : Dev) (h ty : Nat) : Dev :=
  let d := ((d.put (Fld.hsResRunning h) 0).put (Fld.hsResType h) ty).modHs h (fun x => { x with avg := false })
  (d.hsBias h false).happenAt Fld.jackEventsHsDone h

/-- HS_ABORT (R251). -/
def Dev.hsAbort (d : Dev) (h : Nat) : Dev := if d.is (Fld.hsResRunning h) then d.hsEnd h HsType.aborted else d

/-- HS_SETTLE_END (R250). -/
def Dev.hsSettleEnd (d : Dev) (h : Nat) : Dev :=
  if d.is (Fld.hsResRunning h) then d.modHs h (fun x => { x with avg := true }) else d

/-- The type of a headset of `z` ohms (R251). -/
def Dev.hsType (d : Dev) (h z : Nat) : Nat :=
  if z < d.get (Fld.hsCfgTh3 h) then HsType.threePole
  else if z < 4 * d.get (Fld.hsCfgThmic h) then HsType.omtp
  else HsType.ctia

/-- HS_DETECT_DONE (R251): averaging ends with |Z| of `z` ohms. -/
def Dev.hsDetectDone (d : Dev) (h z : Nat) : Dev :=
  if d.is (Fld.hsResRunning h) && (d.hsd h).avg then (d.put (Fld.hsResZ h) (min z 4095)).hsEnd h (d.hsType h z) else d

/-- The button that a level decodes to (R253); 4 none. -/
def Dev.hsButton (d : Dev) (h level : Nat) : Nat :=
  if level < d.get (Fld.hsBtncfgTh0 h) then 0
  else if level < d.get (Fld.hsBtncfgTh1 h) then 1
  else if level < d.get (Fld.hsBtncfgTh2 h) then 2
  else if level < d.get (Fld.hsBtncfgTh3 h) then 3
  else 4

/-- Report a decoded value (R253). -/
def Dev.hsReport (d : Dev) (h b : Nat) : Dev :=
  let was := d.is (Fld.hsBtnstatPressed h)
  if b = 4 then
    if was then (d.put (Fld.hsBtnstatPressed h) 0).happenAt Fld.jackEventsBtnRelease h else d
  else if was && d.get (Fld.hsBtnstatButton h) == b then d
  else
    let d := if was then d.happenAt Fld.jackEventsBtnRelease h else d
    ((d.put (Fld.hsBtnstatPressed h) 1).put (Fld.hsBtnstatButton h) b).happenAt Fld.jackEventsBtnPress h

/-- The detector decodes (R253); `reached`: the bias output has reached its set voltage. -/
def Dev.hsDecodes (d : Dev) (h : Nat) (reached : Bool) : Bool :=
  let n := d.get (Fld.hsCfgMicb h)
  d.is (Fld.hsCfgBtnEn h) && d.is (Fld.micbCfgEn n) && d.bit Fld.micbStatusDriving n && reached &&
    !d.is (Fld.hsResRunning h) && !d.released && d.jacksSettled h

/-- BUTTON_SAMPLE (R253): pin voltage over set voltage × 256 is `level`. -/
def Dev.buttonSample (d : Dev) (h level : Nat) (reached : Bool) : Dev :=
  if !d.hsDecodes h reached then d.dropDecode h
  else
    let d := d.put (Fld.hsBtnstatLevel h) (min level 255)
    let b := d.hsButton h (min level 255)
    let x := d.hsd h
    let run := if x.dec = b ∧ 0 < x.run then min 64 (x.run + 1) else 1
    let d := d.modHs h (fun x => { x with dec := b, run := run })
    if d.get (Fld.hsCfgBtnDb h) ≤ run then d.hsReport h b else d

/-- A debounced removal of jack `k` at its detector (R251, R253). -/
def Dev.hsRemoved (d : Dev) (k : Nat) : Dev :=
  let h := d.get (Fld.jdCfgHs k)
  ((d.hsAbort h).hsReport h 4).dropDecode h

/-- JACK_DEBOUNCED of jack `k` (R249), the wake source apart. Answers whether the debounced state changed. -/
def Dev.jackDebounced (d : Dev) (k : Nat) : Dev × Bool :=
  if !d.is (Fld.jdCfgEn k) || d.rawIn k == d.bit Fld.jackStatusInserted k then (d, false)
  else
    let ins := d.rawIn k
    let d := d.putBit Fld.jackStatusInserted k ins
    let d := if ins then d.happenAt Fld.jackEventsInsert k else d.happenAt Fld.jackEventsRemove k
    let d := d.jackMutes
    let d := if ins then (if d.is (Fld.jdCfgHsAuto k) then d.hsStart (d.get (Fld.jdCfgHs k)) else d) else d.hsRemoved k
    (d, true)

/-- A write to JDk_CFG (R248, R249, R255): thresholds and debounce clamped, the word counted once. A disabled jack has
debounced state removed. -/
def Dev.jdWrite (d : Dev) (ag : Agent) (k : Nat) (v : Word) : Dev :=
  let n := v.toNat
  let hi := bitsOf n 20 4
  let lo := bitsOf n 16 4
  let bad := decide (hi ≤ lo)
  let hi' := if bad then max hi 1 else hi
  let lo' := if bad then hi' - 1 else lo
  let db := min (bitsOf n 0 9) 500
  let d := d.wr (Reg.jdCfg k) (BitVec.ofNat 32 (bitsOf n 27 5 * 2 ^ 27 + hi' * 2 ^ 20 + lo' * 2 ^ 16 + db))
  let d := if bad || db != bitsOf n 0 9 then d.viol 3 ag (Reg.jdCfg k) else d
  (if d.is (Fld.jdCfgEn k) then d else d.dropBit Fld.jackStatusInserted k).jackMutes

/-- A write to JDk_MUTE (R256). -/
def Dev.jdMuteWrite (d : Dev) (k : Nat) (v : Word) : Dev :=
  (d.wr (Reg.jdMute k) (BitVec.ofNat 32 (bitsOf v.toNat 16 10 * 2 ^ 16 + bitsOf v.toNat 0 10))).jackMutes

/-- The threshold above `prev` (R254). -/
def ascend (prev t : Nat) : Nat := if prev < t then t else min 255 (prev + 1)

/-- A write to HSh_BTNCFG (R254): thresholds raised to ascend strictly. -/
def Dev.btnCfg (d : Dev) (ag : Agent) (h : Nat) (v : Word) : Dev :=
  let t0 := bitsOf v.toNat 0 8
  let t1 := ascend t0 (bitsOf v.toNat 8 8)
  let t2 := ascend t1 (bitsOf v.toNat 16 8)
  let t3 := ascend t2 (bitsOf v.toNat 24 8)
  let ok := decide (t0 < bitsOf v.toNat 8 8) && decide (bitsOf v.toNat 8 8 < bitsOf v.toNat 16 8) &&
    decide (bitsOf v.toNat 16 8 < bitsOf v.toNat 24 8)
  let d := d.wr (Reg.hsBtncfg h) (BitVec.ofNat 32 (t3 * 2 ^ 24 + t2 * 2 ^ 16 + t1 * 2 ^ 8 + t0))
  if ok then d else d.viol 3 ag (Reg.hsBtncfg h)

/-- A write to HSh_CTRL (R258). -/
def Dev.hsCtrl (d : Dev) (h : Nat) (v : Word) : Dev :=
  let d := if bitOf v.toNat 1 then d.hsAbort h else d
  if bitOf v.toNat 0 then d.hsStart h else d

end Sys2Proof.Machine
end

