-- ==== Sys2Proof/Machine/Supply.lean ====
section
/-! DEFINITION. Supply and thermal events and the watchdog (chapter 19, R556 and R559 to R567). What a reset does is in
Reset.lean, and what a thermal shutdown does to the engines in Engine.lean. -/
namespace Sys2Proof.Machine

/-- Change the pins' state. -/
def Dev.modPins (d : Dev) (f : Pins → Pins) : Dev := { d with pins := f d.pins }

/-- Change the power sequencer's state. -/
def Dev.modPwr (d : Dev) (f : Pwr → Pwr) : Dev := { d with pwr := f d.pwr }

/-- The outputs that a warning of supply `i` mutes (R559). -/
def supplyOutputs (i : Nat) : List Nat := if i = 3 then [6, 7, 8, 9] else List.range 10

/-- MON_SUPCNT's count of supply `i` (R567). -/
def supCnt (i : Nat) : Fld :=
  match i with
  | 0 => Fld.monSupcntCore
  | 1 => Fld.monSupcntIo33
  | 2 => Fld.monSupcntAvdd18
  | _ => Fld.monSupcntPvdd

/-- Output `o` has the supply mute cause (R560). -/
def Dev.supplyMuted (d : Dev) (o : Nat) : Bool :=
  (List.range 4).any (fun i => d.bit Fld.monSupstatMuting i && (supplyOutputs i).contains o)

/-- The supply mute causes follow MON_SUPSTAT.muting (R243, R560). -/
def Dev.supplyMutes (d : Dev) : Dev :=
  d.each (List.range 10) (fun d o => d.setMute o Fld.seqStatusMuteSupply (d.supplyMuted o))

/-- The measured voltage of supply `i` in mV (R567). -/
def Dev.showSupply (d : Dev) (i mv : Nat) : Dev :=
  match i with
  | 0 => d.put Fld.monSupply1Core mv
  | 1 => d.put Fld.monSupply0Io33 mv
  | 2 => d.put Fld.monSupply0Avdd18 mv
  | _ => d.put Fld.spkPvddMv mv

/-- SUPPLY_WARNING of supply `i` (R560); a crossing during the recovery wait restarts it and is not counted again (R561). -/
def Dev.supplyWarning (d : Dev) (i mv : Nat) : Dev :=
  let d := d.showSupply i mv
  if bitOf d.pins.low i then d
  else
    let d := (d.modPins (fun p => { p with low := orBit p.low i })).setBit Fld.monSupstatBelow i
    let d := (d.happenAt Fld.monSupevWarn i).inc (supCnt i)
    (d.setBit Fld.monSupstatMuting i).supplyMutes

/-- SUPPLY_RECOVER of supply `i` (R561); one that has reached its reset threshold has no recovery (R562). -/
def Dev.supplyRecover (d : Dev) (i mv : Nat) : Dev :=
  let d := d.showSupply i mv
  if !bitOf d.pins.low i then d
  else
    let d := (d.modPins (fun p => { p with low := clrBit p.low i })).dropBit Fld.monSupstatBelow i
    if bitOf d.pwr.recov i then d.modPwr (fun p => { p with recov := clrBit p.recov i })
    else
      let d := d.happenAt Fld.monSupevRecovered i
      if d.is Fld.monCfgAutoResume then (d.dropBit Fld.monSupstatMuting i).supplyMutes else d

/-- RESUME (R561): ignored and not counted while any warning persists. -/
def Dev.supplyResume (d : Dev) : Dev := if d.pins.low = 0 then (d.put Fld.monSupstatMuting 0).supplyMutes else d

/-- A write of 1 bits to MON_SUPEV (R560): a warn bit whose supply is still low is set again, and not counted. -/
def Dev.supevClear (d : Dev) (v : Word) : Dev :=
  let d := d.w1c Reg.monSupev 0xFF v
  d.each (List.range 4) (fun d i => if bitOf d.pins.low i && !d.bit Fld.monSupevWarn i then d.happenAt Fld.monSupevWarn i else d)

/-- The temperature of die `k` in 1/8 °C, as its monitor shows it (R563). -/
def Dev.dieTemp (d : Dev) (k : Nat) : Int :=
  sgn 12 (match k with
    | 0 => d.get Fld.monThermDie0
    | 1 => d.get Fld.monThermDie1
    | _ => d.get Fld.spkThermTemp)

/-- A measured temperature (R563). -/
def Dev.showTemp (d : Dev) (k : Nat) (t : Int) : Dev :=
  match k with
  | 0 => d.put Fld.monThermDie0 (unsg 12 t)
  | 1 => d.put Fld.monThermDie1 (unsg 12 t)
  | _ => d.put Fld.spkThermTemp (unsg 12 t)

/-- THERMAL_WARNING of die `k` (R563): at 115 °C or above. -/
def Dev.thermalWarning (d : Dev) (k : Nat) (t : Int) : Dev :=
  let d := d.showTemp k t
  if 920 ≤ t then d.happenAt Fld.monThevWarn k else d

/-- A write of 1 bits to MON_THEV (R563): a warn bit is set again while its die stays above 110 °C. -/
def Dev.thevClear (d : Dev) (v : Word) : Dev :=
  let was := d.get Fld.monThevWarn
  let d := d.w1c Reg.monThev 0x1F v
  d.each (List.range 3) (fun d k =>
    if bitOf was k && !d.bit Fld.monThevWarn k && decide (880 < d.dieTemp k) then d.happenAt Fld.monThevWarn k else d)

/-- DIE0_THROTTLE (R564): at 125 °C. -/
def Dev.throttle (d : Dev) (t : Int) : Dev :=
  let d := d.showTemp 0 t
  if t < 1000 ∨ d.is (Fld.engStatusThrottled 0) then d
  else (d.each (List.range 16) (fun d e => d.put (Fld.engStatusThrottled e) 1)).happen Fld.monThevThrottle

/-- DIE0_THROTTLE_END (R564): below 120 °C. -/
def Dev.throttleEnd (d : Dev) (t : Int) : Dev :=
  let d := d.showTemp 0 t
  if 960 ≤ t then d else d.each (List.range 16) (fun d e => d.put (Fld.engStatusThrottled e) 0)

/-- START and RESUME are held off after a shutdown, until die 0 is below 115 °C (R564). -/
def Dev.tooHot (d : Dev) : Bool := d.pwr.hot && decide (920 ≤ d.dieTemp 0)

/-- The watchdog's count starts again (R556). -/
def Dev.wdtRestart (d : Dev) : Dev := d.put Fld.sysWdtevRemain (d.get Fld.sysWdtcfgTimeout)

/-- The watchdog counts (R556): enabled, and a commit has been made. -/
def Dev.wdtCounts (d : Dev) : Bool := d.is Fld.sysWdtcfgEn && d.boot.everRun

/-- WDT_KICK (R556, R565). -/
def Dev.wdtKick (d : Dev) (ag : Agent) (v : Word) : Dev :=
  if bitsOf v.toNat 16 16 = 0x9616 then d.wdtRestart else d.viol 0 ag Reg.sysWdtkick

/-- WDTCFG_WRITE (R556): pre at or above timeout stored as timeout − 1, timeout 0 as 1; a write of en = 0 once en is 1 is
ignored, whole, and counted. -/
def Dev.wdtCfg (d : Dev) (ag : Agent) (v : Word) : Dev :=
  let n := v.toNat
  if d.is Fld.sysWdtcfgEn && !bitOf n 31 then d.viol 0 ag Reg.sysWdtcfg
  else
    let t := max 1 (bitsOf n 0 16)
    let p := if t ≤ bitsOf n 16 15 then t - 1 else bitsOf n 16 15
    let d := d.wr Reg.sysWdtcfg (BitVec.ofNat 32 (bitsOf n 31 1 * 2 ^ 31 + p * 2 ^ 16 + t))
    (if t = bitsOf n 0 16 ∧ p = bitsOf n 16 15 then d else d.viol 3 ag Reg.sysWdtcfg).wdtRestart

/-- WATCHDOG_PRE (R556): `pre` ms before expiry. -/
def Dev.wdtPre (d : Dev) : Dev :=
  if d.wdtCounts then (d.put Fld.sysWdtevRemain (d.get Fld.sysWdtcfgPre)).happen Fld.sysWdtevPre else d

/-- A write to PWR_SLEEPCFG (R566): qtime below 10 stored as 10. -/
def Dev.sleepCfg (d : Dev) (ag : Agent) (v : Word) : Dev :=
  let q := bitsOf v.toNat 0 16
  let d := d.wr Reg.pwrSleepcfg (BitVec.ofNat 32 (bitsOf v.toNat 30 2 * 2 ^ 30 + max 10 q))
  if q < 10 then d.viol 3 ag Reg.pwrSleepcfg else d

end Sys2Proof.Machine
end

