-- ==== Sys2Proof/Machine/Keyplan.lean ====
section
/-! DEFINITION. The keyplan image and its checks (chapter 02), and the content rules of the owning chapters. The checks run
on the bytes received so far, in the order of R43. The body formats that the manual leaves to Knanil are DESIGN CHOICES
(log 10): a list of 8-byte entries as in R38; pads in place of addresses in ward 0x03; 32 key bytes first in ward 0x0C; the
descriptor format of Usb.lean in ward 0x0B. -/
namespace Sys2Proof.Machine

/-- Result codes (R67). -/
abbrev Kp.ok : Nat := 0x00
abbrev Kp.noImage : Nat := 0x01
abbrev Kp.format : Nat := 0x02
abbrev Kp.length : Nat := 0x03
abbrev Kp.structure : Nat := 0x04
abbrev Kp.key : Nat := 0x05
abbrev Kp.signature : Nat := 0x06
abbrev Kp.version : Nat := 0x07
abbrev Kp.likeness : Nat := 0x08
abbrev Kp.decrypt : Nat := 0x09
abbrev Kp.content : Nat := 0x0A
abbrev Kp.source : Nat := 0x0B
abbrev Kp.clock : Nat := 0x0C
abbrev Kp.link : Nat := 0x0D
abbrev Kp.busy : Nat := 0x0E
abbrev Kp.base : Nat := 0x0F
abbrev Kp.notLive : Nat := 0x10
abbrev Kp.aborted : Nat := 0x11
abbrev Kp.lifecycle : Nat := 0x12

/-- A little-endian field of an image. -/
def kpLe (img : List Byte) (off n : Nat) : Nat := leNat ((img.drop off).take n)

/-- Header fields (R33). -/
def kpEncrypted (img : List Byte) : Bool := bitOf (kpLe img 8 4) 0
def kpIv (img : List Byte) : List Byte := (img.drop 0x24).take 12
def kpTotal (img : List Byte) : Nat := kpLe img 0x1C 4
def kpCount (img : List Byte) : Nat := kpLe img 0x0C 4

/-- The largest total_length of a load (R45). -/
def kpLimit (k : LoadKind) : Nat := if k = .live then 64 * 1024 else 16 * 1024 * 1024

/-- The header checks (R43): the first that fails. -/
def Dev.kpHeader (d : Dev) (k : LoadKind) (img : List Byte) : Option Nat :=
  let flags := kpLe img 8 4
  if kpLe img 0 4 ≠ 0x4C504B51 then some Kp.noImage
  else if d.get Fld.sysRevidKpFormat < kpLe img 4 2 ∨ kpLe img 6 2 ≠ 128 ∨ 4 ≤ flags ∨ kpLe img 0x30 16 ≠ 0 ∨
      kpLe img 0x60 32 ≠ 0 then some Kp.format
  else if bitOf flags 1 != (k == .live) then some (if k = .live then Kp.notLive else Kp.format)
  else if kpLimit k < kpTotal img then some Kp.length
  else if d.life = Life.retired then some Kp.lifecycle
  else if k = .live ∧ (img.drop 0x40).take 32 ≠ (List.range 8).flatMap (fun w => leBytes 4 (d.rd (Reg.bootRunhash w)).toNat) then
    some Kp.base
  else if kpLe img 0x18 4 < d.kt! 2 then some Kp.version
  else if d.life ≠ Life.blank ∧ kpLe img 0x10 8 ≠ d.kt! 0 then some Kp.likeness
  else none

/-- The decryption key (R42). -/
def kpKey (img : List Byte) : List Byte :=
  hkdf32 (kpIv img) (beBytes 32 Config.deviceSecret) ([0x51, 0x4B, 0x50, 0x4C] ++ leBytes 4 (kpLe img 0x20 4))

/-- Entries of a body (R38): groups of 8 bytes, a final group of zeros being padding. -/
def kpEntries (body : List Byte) : List (Nat × Nat) :=
  let gs := (groupsOf 8 (body.length / 8) body).map (fun g => (leNat (g.take 4), leNat (g.drop 4)))
  if gs.getLast? = some (0, 0) then gs.dropLast else gs

/-- Segments of an engine image (R37), from offset 0 of the body's rest: destination and data, or none where a segment
breaks the rule. Tile 15's memory ends where the pool begins, so a segment of its image may run across. -/
def kpSegments (tile : Nat) : Nat → List Byte → Option (List (Nat × List Byte))
  | 0, _ => some []
  | k + 1, bs =>
    if bs = [] then some []
    else
      let dst := kpLe bs 0 4
      let len := kpLe bs 4 4
      let padded := (len + 15) / 16 * 16
      let inTile := decide (tile * 0x40000 ≤ dst) && decide (dst + len ≤ (tile + 1) * 0x40000)
      let inPool := decide (0x400000 ≤ dst) && decide (dst + len ≤ 0x5C0000)
      let across := decide (tile = 15) && decide (tile * 0x40000 ≤ dst) && decide (dst + len ≤ 0x5C0000)
      if dst % 16 ≠ 0 ∨ kpLe bs 8 8 ≠ 0 ∨ !(inTile || inPool || across || decide (len = 0)) ∨ bs.length < 16 + padded then none
      else (kpSegments tile k (bs.drop (16 + padded))).map (fun l => (dst, (bs.drop 16).take len) :: l)

/-- A ward's decoded content. -/
def kpWard (kind : Nat) (live : Bool) (target : Nat) (body : List Byte) : Option Ward :=
  if kind = 5 then (kpSegments target (body.length / 16) body).map (fun s => ⟨kind, live, target, [], s, body⟩)
  else if kind = 0x0B then some ⟨kind, live, target, [], [], body⟩
  else if kind = 0x0C then some ⟨kind, live, target, kpEntries (body.drop 32), [], body⟩
  else some ⟨kind, live, target, kpEntries body, [], body⟩

/-- The ward-header checks (R34 to R36): type, flags, target, place, sequence, order, multiplicity, length within the
image. `prev` are the wards before it, `off` its offset. -/
def kpWardOk (img : List Byte) (off idx : Nat) (prev : List Ward) : Bool :=
  let ty := kpLe img off 1
  let fl := kpLe img (off + 1) 1
  let tgt := kpLe img (off + 2) 2
  let len := kpLe img (off + 4) 4
  let last := idx + 1 == kpCount img
  decide (1 ≤ ty ∧ ty ≤ 0x0F) && decide (fl ≤ 1) &&
    (fl == 0 || ty == 7 || ty == 9 || ty == 0x0E) &&
    (if ty = 5 then decide (tgt < 16) else if ty = 8 then decide (tgt ≤ 6) else tgt == 0xFFFF) &&
    len % 16 == 0 && kpLe img (off + 8) 4 == idx && kpLe img (off + 12) 4 == 0 &&
    prev.all (fun w => decide (w.kind ≤ ty)) && ((ty == 0x0F) == last) && (ty != 0x0F || len == 0) &&
    !(prev.any (fun w => w.kind == ty && (ty ≤ 4 || ty == 6 || ty == 0x0A || ty == 0x0B || ty == 0x0C || ty == 0x0D ||
      ((ty == 5 || ty == 8) && w.target == tgt)))) &&
    decide (off + 16 + len + 160 ≤ kpTotal img) && (ty != 0x0F || off + 16 + 160 == kpTotal img)

/-- The required wards of a structural keyplan are there (R35). -/
def kpComplete (ws : List Ward) : Bool := [1, 2, 3, 4, 6].all (fun t => ws.any (fun w => w.kind == t))

/-- The wards that a live keyplan may carry, each flagged live (R60). -/
def kpLiveOk (img : List Byte) (off : Nat) (prev : List Ward) : Bool :=
  let ty := kpLe img off 1
  (ty == 0x0F) || ((ty == 7 || ty == 9 || ty == 0x0E) && bitOf (kpLe img (off + 1) 1) 0 &&
    prev.all (fun w => decide (w.kind ≤ ty)))

/-- An entry list's addresses (R38), none in KEYTURN or REPAIR (R526); the word's number is its byte address. -/
def kpAddrsOk (live : Bool) (es : List (Nat × Nat)) : Bool :=
  es.all (fun e => e.1 % 4 == 0 && isRegAddr e.1 && e.1 / 0x10000 != 0x8F && (!live || rwtMask e.1 != 0)) && (!live || decide (es.length ≤ 256))

/-- A pin-personality ward (R592): pad and code. Bits 7:0 of a code: 0 unassigned, 1 and 2 static at 0 and 1, 16 + 6n + i
pin i of port n, 64 and 65 SPDIF_RX and SPDIF_TX, 128 + k EXTINTk; bits 9:8 the drive, 4, 8 or 12 mA. -/
def kpPinsOk (es : List (Nat × Nat)) : Bool :=
  let f (e : Nat × Nat) : Nat := e.2 % 256
  let known (c : Nat) : Bool := decide (c ≤ 2) || decide (16 ≤ c ∧ c < 52) || c == 64 || c == 65 || decide (128 ≤ c ∧ c < 144)
  es.all (fun e => decide (e.1 < 96) && known (f e) && decide (e.2 / 256 < 3)) &&
    decide (es.map (·.1) = (es.map (·.1)).eraseDups) &&
    decide ((es.filter (fun e => decide (16 ≤ f e))).map f = ((es.filter (fun e => decide (16 ≤ f e))).map f).eraseDups)

/-- The bits of a register that a keyplan supplies (R8): RWT fields and fields marked K. -/
def kpMask (key : Nat) : Nat := (regRow (key % 2 ^ 32)).elim 0 (fun r => r.rwt ||| r.k)

/-- The clock-plan registers, which ward 0x01 writes (R48, R96). -/
def clockWord (a : Nat) : Bool := a == Reg.clkPllcfg || a == Reg.clkPllfrac || a == Reg.clkRefsel || a == Reg.clkPlan

/-- Lay a ward's entries over a device, unclamped, for the content rules. -/
def Dev.kpLay (d : Dev) (w : Ward) : Dev :=
  if w.kind = 3 then d
  else d.each w.entries (fun d (e : Nat × Nat) =>
    let key := windowKey e.1 (d.get Fld.keyXppagePage)
    let m := if w.kind = 1 && clockWord e.1 then 2 ^ 32 - 1 else kpMask key
    d.wr key ((d.rd key &&& ~~~ (BitVec.ofNat 32 m)) ||| (BitVec.ofNat 32 e.2 &&& BitVec.ofNat 32 m)))

/-- The device as the wards so far would set it: hardware values with their entries laid over (R8). -/
def Dev.kpProjected (d : Dev) (ws : List Ward) : Dev := ws.foldl Dev.kpLay { d with regs := [] }

/-- Two enabled routes address one sink (R109). -/
def Dev.twoWriters (d : Dev) : Bool :=
  let ss := d.enabledRoutes.map (·.2)
  decide (ss ≠ ss.eraseDups)

/-- Some prefix of a ward's entries gives a sink a second enabled route (R109). -/
def Dev.kpSecondWriter (d : Dev) (w : Ward) : Bool :=
  (w.entries.foldl (fun (a : Dev × Bool) e =>
    let d := a.1.kpLay { w with entries := [e] }
    (d, a.2 || ((routeOf e.1).isSome && d.twoWriters))) (d, false)).2

/-- CLK_AUD in Hz of a family (R70). -/
def Dev.clkAud (d : Dev) : Nat := if d.get Fld.clkPlanFamily = 0 then 24576000 else 22579200

/-- The geometry and clock rules of one port direction (R270). -/
def Dev.portDirOk (d : Dev) (n : Nat) (tx : Bool) : Bool :=
  let code := d.rateCode n tx
  let bits := d.portSlots n * d.slotWidth n
  let div := if tx then d.get (Fld.portClkTxBdiv n) + 1 else d.get (Fld.portClkRxBdiv n) + 1
  decide (code ≤ 12) && decide (bits * rateHz code ≤ 24576000) &&
    (!d.isMaster n tx || d.clkAud == div * bits * rateHz code) &&
    (d.isConv n tx || d.isMem n tx || rateHz code == d.houseRate) && !(d.isConv n tx && d.isMem n tx)

/-- A port-configuration ward of port `n` (R270, R310). -/
def Dev.portOk (d : Dev) (n : Nat) : Bool :=
  let W := d.slotWidth n
  let D := d.dataWidth n
  let s := d.get (Fld.portFmtSlots n)
  let fmt := d.get (Fld.portFmtFormat n)
  let share := d.is (Fld.portFmtShare n)
  let pack := d.get (Fld.portPathPack n)
  decide (D ≤ W) && d.get (Fld.portFmtSwidth n) != 3 && fmt != 3 && (fmt == 2 || s == 0) &&
    d.get (Fld.portFmtFsWidth n) != 3 && d.portDirOk n false && d.portDirOk n true &&
    (decide (s < 2) || (share && !d.isMaster n false && !d.isMaster n true)) &&
    !(pack == 2 && D == 32) && !(pack == 3 && D != 16) &&
    !(share && (d.isMaster n true || d.get (Fld.portClkTxBdiv n) != d.get (Fld.portClkRxBdiv n) ||
      d.rateCode n true != d.rateCode n false))

/-- The S/PDIF ward (R306, R321). -/
def Dev.spdifOk (d : Dev) : Bool :=
  let c := d.get Fld.spdifCfgTxRate
  let f := d.get Fld.clkPlanFamily
  d.get Fld.spdifCfgRxVmode != 3 &&
    (!d.is Fld.spdifCfgTxAsrc || (if f = 0 then [6, 8, 10, 12].contains c else [7, 9, 11].contains c))

/-- The marked streams of the display rules (R310). -/
def Dev.npOk (d : Dev) : Bool :=
  let marks := (List.range 6).flatMap (fun n => (bitList 8 (d.get (Fld.spdifIecmapPairs n))).map (fun j => (n, j)))
  decide (marks.length + d.get Fld.spdifCfgRxNp ≤ 8) &&
    marks.all (fun m => !d.isMem m.1 false && d.slotWidth m.1 == 32 && d.dataWidth m.1 == 32 &&
      decide (2 * m.2 + 2 ≤ d.portSlots m.1))

/-- Converter channels of all groups (R316). -/
def Dev.convChannels (d : Dev) : Nat :=
  ((List.range 14).map (fun k => if d.isConv (k / 2) (k % 2 == 1) then (if k / 2 = 6 then 2 else d.portSlots (k / 2)) else 0)).sum

/-- Memory-path directions name distinct channels (R422). -/
def Dev.memChannels (d : Dev) : List Nat :=
  (List.range 6).flatMap (fun n =>
    (if d.isMem n false then [d.get (Fld.portPathRxChan n)] else []) ++
      (if d.isMem n true then [d.get (Fld.portPathTxChan n)] else []))

/-- The ring geometry of engine `e` (R376, R383): block length, depth, lag, bytes of a ring. -/
def Dev.ringB (d : Dev) (e : Nat) : Nat := 2 ^ d.get (Fld.engRinggeomBlog e)
def Dev.ringD (d : Dev) (e : Nat) : Nat := if d.is (Fld.engRinggeomDepth e) then 8 else 4
def Dev.ringBytes (d : Dev) (e : Nat) : Nat := 64 * d.ringB e * d.ringD e

/-- The ring conditions of R379. -/
def Dev.ringOk (d : Dev) (e : Nat) : Bool :=
  let lag := d.get (Fld.engRinggeomLag e)
  let i := 64 * d.get (Fld.engRinginBase e)
  let o := 64 * d.get (Fld.engRingoutBase e)
  let n := d.ringBytes e
  decide (2 ≤ lag ∧ lag ≤ 7) && decide (lag + 1 ≤ d.ringD e) && decide (3 ≤ (lag - 1) * d.ringB e) &&
    decide (i + n ≤ 0x40000) && decide (o + n ≤ 0x40000) && (decide (i + n ≤ o) || decide (o + n ≤ i))

/-- Window `j` of set `s` is enabled (R398). -/
def Dev.winEnabled (d : Dev) (s j : Nat) : Bool := bitsOf (d.rd (Reg.winVa j s)).toNat 0 3 != 0

/-- A window's size and bases keep R398. -/
def Dev.winOk (d : Dev) (s j : Nat) : Bool :=
  let size := d.get (Fld.winVaSize j s)
  size != 15 && d.get (Fld.winVaVbase j s) % 2 ^ size == 0 && d.get (Fld.winPaPbase j s) % 2 ^ size == 0

/-- The window sets that a keyplan uses (R398). -/
def Dev.setsInUse (d : Dev) (ws : List Ward) : List Nat :=
  let images := (ws.filter (fun w => w.kind == 5)).map (·.target)
  let fastOf (e : Nat) : Bool :=
    (List.range 448).any (fun i => d.is (Fld.intcSrcCfgFast i) && d.get (Fld.intcSrcCfgTarget i) == e) ||
      (List.range 48).any (fun i => bitOf (d.rd (Reg.intcPcfg e (i + 16))).toNat 28) || d.is (Fld.intcTPrivenFast e)
  let cfgs := ws.flatMap (fun w => if w.kind = 3 then [] else
    (w.entries.filter (fun e => decide (0x840000 ≤ e.1 ∧ e.1 < 0x841000) && e.1 % 0x40 == 0)).map (fun e => e.2 % 32))
  images ++ (images.filter fastOf).map (16 + ·) ++ cfgs.map (32 + ·) ++
    d.memChannels.map (fun c => 32 + d.get (Fld.dmaChCfgWset c))

/-- A slot table entry of the link ward (R472): port and index, of an odd slot at a double rate. -/
def Dev.linkEntryOk (d : Dev) (e : Nat × Nat) : Bool :=
  let dbl := d.get Fld.clkPlanRate != 0
  let en := bitOf e.2 31
  let alt := bitOf e.2 30
  let port := bitsOf e.2 24 2
  let idx := bitsOf e.2 0 9
  if 0x8B4000 ≤ e.1 ∧ e.1 < 0x8B4000 + 3 * 0x800 then
    let s := (e.1 - 0x8B4000) % 0x800 / 4
    decide (s ≤ 447) && port != 3 && (if alt then decide (idx ≤ 447) else decide (idx ≤ 255)) && !(dbl && en && s % 2 == 1)
  else if 0x8B6000 ≤ e.1 ∧ e.1 < 0x8B6400 then port != 3 && (if alt then decide (idx ≤ 255) else decide (idx ≤ 447)) && !(dbl && en && !alt && idx % 2 == 1)
  else true

/-- The content rules of the ward just read, over the device projected by it and the wards before it (R43). -/
def Dev.kpContent (d : Dev) (ws : List Ward) (w : Ward) : Bool :=
  let all := ws ++ [w]
  let pre := d.kpProjected ws
  let p := pre.kpLay w
  let imgs := (all.filter (fun w => w.kind != 5)).map (fun w => w.body.length)
  decide (imgs.sum ≤ 256 * 1024) && (w.kind == 3 || kpAddrsOk w.live w.entries) && !pre.kpSecondWriter w &&
    match w.kind with
    | 1 => decide (p.get Fld.clkPlanRate < 2)
    | 2 => (List.range 46).all (fun k => bitsOf (p.rd (Reg.pwrTarget (k / 16))).toNat (2 * (k % 16)) 2 != 3)
    | 3 => kpPinsOk w.entries
    | 4 => (w.entries.filterMap (fun e => winOf e.1)).all (fun e => p.winOk e.1 e.2.1)
    | 8 => (if w.target = 6 then p.spdifOk else p.portOk w.target) && p.npOk && decide (p.convChannels ≤ 32) &&
        decide (p.memChannels = p.memChannels.eraseDups)
    | 0x0B => usbWardOk p.houseRate w.body
    | 0x0C => !(p.isRoot && p.is (Fld.linkPortCfgUsed 0)) && (p.isRoot || p.get Fld.clkRefselPrimary == 2) &&
        w.entries.all p.linkEntryOk
    | 0x0D => p.get Fld.clkPllcfgRefdiv == 0 && p.get Fld.clkPllcfgInt == 120 && p.get Fld.clkPllfracFrac == 0 &&
        bitsOf (p.rd (Reg.pwrTarget 2)).toNat (2 * (Dom.hinge - 32)) 2 == 2 &&
        decide (10 ≤ p.get Fld.hingeCfgPairWait ∧ p.get Fld.hingeCfgPairWait ≤ 1000)
    | 0x0F => (List.range 16).all p.ringOk && (p.setsInUse ws).all (fun s => (List.range 16).any (p.winEnabled s)) &&
        !(ws.any (fun w => w.kind == 0x0D) && p.is Fld.hostifI2ccfgMode)
    | _ => true

/-- The content rules of a live ward (R38, R127): its addresses, and no second writer in the projected graph with the
earlier live wards taken as committed. -/
def Dev.kpLiveContent (d : Dev) (ws : List Ward) (w : Ward) : Bool :=
  kpAddrsOk true w.entries && !(ws.foldl Dev.kpLay d).kpSecondWriter w

/-- Where a scan of the bytes received stands: more are needed (the wards read so far), a check has failed (code and
ward), or the end ward has passed (its end, and the wards). -/
inductive KpScan where
  | more (ws : List Ward)
  | bad (code ward : Nat) (ws : List Ward)
  | done (off : Nat) (ws : List Ward)

/-- The ward checks from offset `off`, ward `idx`, block `blk` of the cipher stream. -/
def Dev.kpScanWards (d : Dev) (k : LoadKind) (key : List Byte) (img : List Byte) :
    Nat → Nat → Nat → Nat → List Ward → KpScan
  | 0, _, _, _, ws => .more ws
  | fuel + 1, off, idx, blk, ws =>
    if img.length < off + 16 then .more ws
    else if k = .live ∧ !kpLiveOk img off ws then .bad Kp.notLive idx ws
    else if !kpWardOk img off idx ws then .bad Kp.structure idx ws
    else
      let ty := kpLe img off 1
      let len := kpLe img (off + 4) 4
      if ty = 0x0F ∧ k ≠ .live ∧ !kpComplete ws then .bad Kp.structure idx ws
      else if img.length < off + 16 + len then .more ws
      else
        let raw := (img.drop (off + 16)).take len
        let body := if kpEncrypted img then gcmCtr key (kpIv img) blk raw else raw
        match kpWard ty (bitOf (kpLe img (off + 1) 1) 0) (kpLe img (off + 2) 2) body with
        | none => .bad Kp.content idx ws
        | some w =>
          if !(if k = .live then d.kpLiveContent ws w else d.kpContent ws w) then .bad Kp.content idx (ws ++ [w])
          else if ty = 0x0F then .done (off + 16) ws
          else d.kpScanWards k key img fuel (off + 16 + len) (idx + 1) (blk + len / 16) (ws ++ [w])

/-- The scan of the bytes received, after the header. -/
def Dev.kpScan (d : Dev) (k : LoadKind) (img : List Byte) : KpScan :=
  d.kpScanWards k (if kpEncrypted img then kpKey img else []) img (kpCount img + 1) 128 0 0 []

/-- The ward headers after the header, which with it are the additional data (R41), and the stored bodies. -/
def kpAad (img : List Byte) : Nat → Nat → List Byte × List Byte
  | 0, _ => ([], [])
  | n + 1, off =>
    let len := kpLe img (off + 4) 4
    let r := kpAad img n (off + 16 + len)
    ((img.drop off).take 16 ++ r.1, (img.drop (off + 16)).take len ++ r.2)

/-- The final checks (R40, R41, R43). -/
def Dev.kpFinal (d : Dev) (img : List Byte) (off : Nat) : Option Nat :=
  let sb := img.drop off
  let pub := sb.take 64
  let sig := (sb.drop 64).take 64
  if d.life ≠ Life.blank ∧ leNat (sha256 pub) ≠ d.kt! 1 then some Kp.key
  else if !ecdsaOk pub sig (sha256 (img.take off)) then some Kp.signature
  else if kpEncrypted img then
    let a := kpAad img (kpCount img) 128
    if gcmTag (kpKey img) (kpIv img) (img.take 128 ++ a.1) a.2 ≠ (sb.drop 128).take 16 then some Kp.decrypt else none
  else none

/-- The plan of an image whose checks have passed. -/
def kpPlan (img : List Byte) (off : Nat) (ws : List Ward) : Plan :=
  ⟨kpLe img 0x18 4, kpLe img 0x10 8, sha256 (img.take off), ws⟩

/-- Ward of a result that names none (R66). -/
abbrev noWard : Nat := 0xFFFF

/-- The verdict on the bytes received so far (R43): none while more are needed. Answers the wards read with it. -/
def Dev.kpVerdict (d : Dev) (k : LoadKind) (img : List Byte) : Option Verdict × List Ward :=
  if img.length < 128 then (none, [])
  else match d.kpHeader k img with
    | some c => (some (.bad c noWard), [])
    | none =>
      match d.kpScan k img with
      | .more ws => (none, ws)
      | .bad c w ws => (some (.bad c w), ws)
      | .done off ws =>
        if img.length < kpTotal img then (none, ws)
        else match d.kpFinal img off with
          | some c => (some (.bad c noWard), ws)
          | none => (some (.ok (kpPlan img off ws)), ws)

end Sys2Proof.Machine
end

