-- ==== Sys2Proof/Machine/Commit.lean ====
section
/-! DEFINITION. What each block does with a committed word (R124), the tumbler's commit, and a word that the boot
controller writes at a structural commit or when a domain leaves off (R558, R607). -/
namespace Sys2Proof.Machine

/-- The accumulator of tone generator `k` takes TONEk_PHASE (R199). -/
def Dev.toneLoad (d : Dev) (k : Nat) : Dev :=
  { d with key := { d.key with tone := SMap.set 0 d.key.tone k (d.get (Fld.tonePhasePhase k)) } }

/-- Tone generator `k` after a commit (R199): `d0` is the device before it, `phase` that its phase word committed. -/
def Dev.toneCommit (d d0 : Dev) (k : Nat) (phase : Bool) : Dev :=
  if d.is (Fld.toneCfgEn k) && (phase || !d0.is (Fld.toneCfgEn k)) then d.toneLoad k else d

/-- Output `o` after a commit (R183, R192, R211): a change of scale, then a change of the code it holds. In the current
persona refgain has no effect (R184). -/
def Dev.outCommit (d d0 : Dev) (o : Nat) : Dev :=
  let scale := if isSpk o then d.get (Fld.spkCfgFsp (o - 6)) != d0.get (Fld.spkCfgFsp (o - 6))
    else decide (o < 4) && !d.is (Fld.outStatusPersona o) && d.get (Fld.outCfgRefgain o) != d0.get (Fld.outCfgRefgain o)
  let d := if scale then d.scaleChange o else d
  let st := d.outSt o
  if (st = OutSt.powerup ∧ d.puCode o ≠ d0.puCode o) ∨
      ((st = OutSt.clear ∨ st = OutSt.failed) ∧ d.clrCode o ≠ d0.clrCode o) then d.codeChange o else d

/-- What the blocks do with the words that have committed (R124): `d0` is the device before, `keys` the words. -/
def Dev.blockCommits (d d0 : Dev) (keys : List Nat) : Dev :=
  let d := d.each (List.range 8) (fun d n => if keys.contains (Reg.anainChCfg n) then d.ainCommit n (d0.rd (Reg.anainChCfg n)) else d)
  let d := d.each (List.range 4) (fun d n => if keys.contains (Reg.micbCfg n) then d.micbCommit n else d)
  let d := d.each (List.range 32) (fun d c => if keys.contains (Reg.pdmChCfg c) then d.pdmCommit c (d0.rd (Reg.pdmChCfg c)) else d)
  let d := d.each (List.range 10) (fun d o =>
    if keys.contains (Reg.outCfg o) || keys.contains (Reg.outCodes o) then d.outCommit d0 o else d)
  let d := d.each (List.range 8) (fun d k => d.toneCommit d0 k (keys.contains (Reg.tonePhase k)))
  d.each (List.range 6) (fun d n => if keys.contains (Reg.portSlotmask n) then d.maskCommit n else d)

/-- Record a commit (R124, R141). -/
def Dev.commitMade (d : Dev) (n words : Nat) : Dev :=
  let d := ((d.put Fld.tumbLastcommitFrame n).incWrap Fld.tumbCommitsCommits).put Fld.tumbCommitsWords words
  d.happen Fld.keyEventsCommit

/-- Entries take effect together at boundary `n` (R124): crosspoint motions from the words before, then every word, then
what each block does. -/
def Dev.commitEntries (d : Dev) (es : List TumbEntry) (n : Nat) : Dev :=
  let d0 := d
  let d := d.commitXps es
  let d := d.each es (fun d e => d.wr e.key e.value)
  (d.blockCommits d0 (es.map (·.key))).commitMade n es.length

/-- The armed tumbler commits at boundary `n` (R122 to R124); afterwards it is empty and unarmed. -/
def Dev.tumbCommit (d : Dev) (n : Nat) : Dev :=
  match d.key.armed with
  | none => d
  | some f =>
    if !notBefore n f then d
    else
      let late := d.key.lateAt
      let es := d.key.entries
      let d := { d with key := { d.key with entries := [], armed := none, lateAt := false } }
      let d := d.commitEntries es n
      if late then (d.put Fld.tumbStatusLate 1).happen Fld.keyEventsLate else d

/-- The source whose configuration word lies at `a`, as a gate key (R454, R455). -/
def cfgSource (a : Nat) : Option Nat :=
  if 0x831200 ≤ a ∧ a < 0x832000 then some ((a - 0x831000) / 8)
  else if 0x834000 ≤ a ∧ a < 0x836000 then some (privKey ((a - 0x834000) / 0x200) (16 + (a - 0x834000) % 0x200 / 8))
  else none

/-- A write to SPDIF_NPCFG (R323): a hold above 2,000 is stored as 2,000. -/
def Dev.npCfg (d : Dev) (ag : Agent) (v : Word) : Dev :=
  let h := bitsOf v.toNat 0 11
  let d := d.wr Reg.spdifNpcfg (BitVec.ofNat 32 (setBits v.toNat 0 11 (min h 2000)))
  if 2000 < h then d.viol 3 ag Reg.spdifNpcfg else d

/-- A write to HOSTIF_I2CCFG (R586): stuck outside 5 to 100 is stored as the nearer limit. -/
def Dev.i2cCfg (d : Dev) (ag : Agent) (v : Word) : Dev :=
  let s := bitsOf v.toNat 0 7
  let t := max 5 (min 100 s)
  let d := d.wr Reg.hostifI2ccfg (BitVec.ofNat 32 (bitsOf v.toNat 30 2 * 2 ^ 30 + t))
  if s = t then d else d.viol 3 ag Reg.hostifI2ccfg

/-- The boot controller writes a word that a ward gives (R607): the clamps and substitutions of a host write, each such
word counted once. Only the fields that a keyplan supplies change (R8). -/
def Dev.bootWord (d : Dev) (a : Nat) (v : Word) : Dev :=
  let key := windowKey a (d.get Fld.keyXppagePage)
  let m := BitVec.ofNat 32 (kpMask key)
  let w := (d.rd key &&& ~~~ m) ||| (v &&& m)
  if rwtMask key ≠ 0 then
    let (x, sub) := d.clampRwt key w
    let d := d.wr key x
    let d := match sub with
      | some r => d.refuseRec r
      | none => d
    if x = w then d else d.viol 3 .boot a
  else match cfgSource a with
    | some k => if a % 8 = 0 then d.cfgWrite .boot k w else d.coalWrite .boot k w
    | none =>
      if 0x8A0000 ≤ a ∧ a < 0x8A0020 then
        (if a % 8 = 0 then d.jdWrite .boot ((a - 0x8A0000) / 8) w else d.jdMuteWrite ((a - 0x8A0000) / 8) w)
      else if a = Reg.hsBtncfg 0 then d.btnCfg .boot 0 w
      else if a = Reg.hsBtncfg 1 then d.btnCfg .boot 1 w
      else if a = Reg.sysWdtcfg then d.wdtCfg .boot w
      else if a = Reg.pwrSleepcfg then d.sleepCfg .boot w
      else if a = Reg.spdifNpcfg then d.npCfg .boot w
      else if a = Reg.hostifI2ccfg then d.i2cCfg .boot w
      else if 0x870000 ≤ a ∧ a < 0x870020 then d.pdmClkWrite .boot ((a - 0x870000) / 4) w
      else d.wr key w

end Sys2Proof.Machine
end

