-- ==== Sys2Proof/Machine/Pwr.lean ====
section
/-! DEFINITION. The power sequencer (chapter 19, R542 to R553, R558, R608): domain targets, transactions, wake, the switch to
PLL clocks and shackles. Writes held during a quiesce are served in Router.lean. -/
namespace Sys2Proof.Machine

/-- The domains of R542 other than AON. -/
def allDomains : List Nat := List.range 46

/-- The code of domain `k` in a word of two-bit codes. -/
def codeIn (w : Word) (k : Nat) : Nat := bitsOf w.toNat (2 * (k % 16)) 2

/-- PWR_TARGET's code of domain `k`. -/
def Dev.target (d : Dev) (k : Nat) : Nat := codeIn (d.rd (Reg.pwrTarget (k / 16))) k

/-- Set PWR_TARGET's code of domain `k`. -/
def Dev.setTarget (d : Dev) (k v : Nat) : Dev :=
  d.wr (Reg.pwrTarget (k / 16)) (BitVec.ofNat 32 (setBits (d.rd (Reg.pwrTarget (k / 16))).toNat (2 * (k % 16)) 2 v))

/-- Domain `k` is on PLL clocks (R550). -/
def Dev.onPll (d : Dev) (k : Nat) : Bool := d.bit (Fld.pwrClkselPll (k / 32)) (k % 32)

/-- Set PWR_CLKSEL's bit of domain `k`. -/
def Dev.setPll (d : Dev) (k : Nat) (b : Bool) : Dev := d.putBit (Fld.pwrClkselPll (k / 32)) (k % 32) b

/-- Domain `k` runs frames: it is on and its divided clocks come from the VCO (R550). -/
def Dev.frames (d : Dev) (k : Nat) : Bool := d.on k && d.onPll k

/-- The state of domain `k`, a rising domain counting as what it rises to (log 30). -/
def Dev.present (d : Dev) (k : Nat) : Nat :=
  if d.dom k = 3 then (((d.pwr.rise.find? (fun e => e.1 == k)).map (·.2)).getD 3) else d.dom k

/-- Domain `k` has been asked to quiesce (R546): writes that reach it are held. -/
def Dev.quiescing (d : Dev) (k : Nat) : Bool := d.pwr.lower.any (fun e => e.1 == k)

/-! ### Quiesce conditions (R542) -/

/-- Engine `e` is RUNNING or WAITING. -/
def Dev.engBusy (d : Dev) (e : Nat) : Bool :=
  let st := d.get (Fld.engStatusState e)
  st == 1 || st == 2

/-- Outputs of an output domain (R247). -/
def domOutputs (k : Nat) : List Nat :=
  if k = Dom.lineout then [0, 1, 2, 3] else if k = Dom.hp then [4, 5]
  else if k = Dom.spk 0 then [6, 7] else if k = Dom.spk 1 then [8, 9] else []

/-- An output's state waits: STOPPING, or DIAG on a speaker (R247). -/
def Dev.outWaits (d : Dev) (o : Nat) : Bool := d.outSt o == OutSt.stopping || (isSpk o && d.outSt o == OutSt.diag)

/-- An output's state refuses at once (R247). -/
def Dev.outRefuses (d : Dev) (o : Nat) : Bool :=
  !([OutSt.off, OutSt.hiz, OutSt.powerup, OutSt.failed].contains (d.outSt o)) && !d.outWaits o

/-- Link port `p` is completing an idle request (R484). -/
def Dev.portIdling (d : Dev) (p : Nat) : Bool :=
  d.lportSt p != LPortSt.idle && (decide (0 < (d.lport p).idleReq) || (d.lport p).partnerIdle)

/-- The condition of the column Refused at once (R542). -/
def Dev.refusesNow (d : Dev) (k : Nat) : Bool :=
  if k < 16 then d.engBusy k
  else if k = Dom.dma then
    (List.range 16).any d.engBusy || (List.range 64).any (fun c => d.get (Fld.dmaChStatusState c) == 3)
  else if k = Dom.ports then (List.range 14).any (fun i => d.is (runF (i / 2) (i % 2 == 1)))
  else if k = Dom.usb then !([UsbSt.detached, UsbSt.suspended, UsbSt.released].contains d.usbSt)
  else if k = Dom.link then [0, 1, 2].any (fun p =>
    d.is (Fld.linkPortCfgUsed p) && d.lportSt p != LPortSt.idle && !d.portIdling p)
  else if k = Dom.hinge then d.role != Role.solo
  else if k = Dom.pdm then (List.range 8).any (fun i => d.is (Fld.pdmClkCfgEn i))
  else (domOutputs k).any d.outRefuses

/-- The condition of the column Waits (R542). An access to a pool bank completes within the command that makes it. -/
def Dev.waitsNow (d : Dev) (k : Nat) : Bool :=
  if k < 16 then d.kt.swap == some k
  else if k < 32 then d.memc.copies.any (fun c => Loc.bank c.1 == 8 + (k - 16))
  else if k = Dom.keyway then d.key.armed.isSome || d.liveHeld
  else if k = Dom.dma then (List.range 64).any (fun c => [1, 2, 4].contains (d.get (Fld.dmaChStatusState c)))
  else if k = Dom.ports then !d.portsIdle
  else if k = Dom.asrc then (List.range 14).any (fun g => d.asrcSt g == AsrcSt.fadeOut)
  else if k = Dom.link then [0, 1, 2].any (fun p => d.is (Fld.linkPortCfgUsed p) && d.portIdling p)
  else (domOutputs k).any d.outWaits

/-! ### Domains that go down and come back (R403, R543, R557, R558) -/

/-- The register block of a domain, whose contents off loses (R27). -/
def regDom (a : Nat) : Option Nat :=
  if 0xA00000 ≤ a ∧ a < 0xA10000 then some ((a - 0xA00000) / 0x1000)
  else if 0x840000 ≤ a ∧ a < 0x850000 then (if 0x848000 ≤ a ∧ a < 0x84A180 then none else some Dom.dma)
  else if 0x850000 ≤ a ∧ a < 0x860000 then some Dom.keyway
  else if 0x860000 ≤ a ∧ a < 0x870000 then some Dom.ports
  else if 0x870000 ≤ a ∧ a < 0x878000 then some Dom.pdm
  else if 0x878000 ≤ a ∧ a < 0x880000 then some Dom.asrc
  else if 0x8B0000 ≤ a ∧ a < 0x8C0000 then some Dom.link
  else if 0x8C0000 ≤ a ∧ a < 0x8D0000 then some Dom.hinge
  else if 0x8D0000 ≤ a ∧ a < 0x8E0000 then some Dom.usb
  else none

/-- Fields that keep their value through off: records since POR, and the node ID with its valid bit (R557). -/
def keptFields : List Fld :=
  [Fld.keyFadeDropped, Fld.keyFadeSerial, Fld.tumbCommitsCommits, Fld.linkNodeidId, Fld.linkNodeidValid]

/-- The registers that satisfy `p` return to their hardware values, the kept fields aside. -/
def Dev.dropBlock (d : Dev) (p : Nat → Bool) : Dev :=
  let kept := (keptFields.filter (fun f => p f.addr)).map (fun f => (f, d.get f))
  (d.dropRegs p).each kept (fun d (e : Fld × Nat) => d.put e.1 e.2)

/-- Domain `k` loses its contents, but for memory (R543, R557). -/
def Dev.loseDomain (d : Dev) (k : Nat) : Dev :=
  let thr := d.get (Fld.engStatusThrottled k)
  let d := d.dropBlock (fun a => regDom (a % 2 ^ 32) == some k)
  if k < 16 then
    ({ d with engs := SMap.del d.engs k }).put (Fld.engStatusThrottled k) thr
  else if k < 32 then d
  else if k = Dom.keyway then { d with key := Key.init }
  else if k = Dom.dma then { d with chans := [] }
  else if k = Dom.ports then
    { d with ser := { d.ser with dirs := [], spdif := Spdif.init, rmon := [], np := [] } }
  else if k = Dom.asrc then { d with ser := { d.ser with asrc := [] } }
  else if k = Dom.usb then
    ({ d with usb := { Usb.init with vbusOk := d.usb.vbusOk } }).flag Fld.usbStatusVbus d.usb.vbusOk
  else if k = Dom.link then { d with link := { Link.init with key := d.link.key } }
  else if k = Dom.hinge then { d with hinge := { Hinge.init with dflt := d.hinge.dflt } }
  else if k = Dom.pdm then { d with inp := { d.inp with pdmClk := 0, pdmCh := 0 } }
  else d

/-- Passes, analogue chains and link ports follow their domain down (R128, R155, R196, R484). -/
def Dev.chainDown (d : Dev) (k : Nat) (off : Bool) : Dev :=
  if k = Dom.anain 0 ∨ k = Dom.anain 1 then d.anainDown
  else if k = Dom.keyway then d.put Fld.keyStatusRunning 0
  else if k = Dom.link then d.each [0, 1, 2] Dev.portIdle
  else if k = Dom.hp then ((domOutputs k).foldl (fun d o => d.outDown o off) d).put Fld.hpPumpReady 0
  else (domOutputs k).foldl (fun d o => d.outDown o off) d

/-- The domain holds digital pads: PORTS where the pin ward gives it one, PDM its own (R592, R593; DEDUCED, log 31). -/
def Dev.hasPads (d : Dev) (k : Nat) : Bool :=
  k == Dom.pdm || (k == Dom.ports && d.pins.pads.any (fun e => decide (16 ≤ e.2 % 256) && decide (e.2 % 256 < 66)))

/-- Shackle the pads of domain `k` (R552). -/
def Dev.shackle (d : Dev) (k : Nat) : Dev :=
  if d.hasPads k then d.setBit (Fld.pwrShackleHeld (k / 32)) (k % 32) else d

/-- The bank of R409 of a memory domain's bytes. -/
def State.clearDomain (s : State) (k : Nat) : State := if k < 32 then s.clearBank k else s

/-- Domain `k` reaches retention or off (R543, R546 step 3): its clocks stop, so its PLL bit clears. -/
def State.lowerDomain (s : State) (k v : Nat) : State :=
  let d := (s.dev.setDom k v).setPll k false
  let d := (d.chainDown k (v == 0)).shackle k
  let d := d.modPwr (fun p => { p with clkReq := clrBit p.clkReq k })
  if v = 0 then ({ s with dev := d.loseDomain k }).clearDomain k else { s with dev := d }

/-- The entries of the running keyplan, in ward order, that lie in the block of domain `k` (R558). -/
def Dev.defaults (d : Dev) (k : Nat) : List (Nat × Nat) :=
  match d.boot.run with
  | none => []
  | some p => (p.wards.flatMap (fun w => if w.kind = 3 then [] else w.entries)).filter (fun e => regDom e.1 == some k)

/-- Domain `k` leaves off (R558): the fields that the running keyplan covers are rewritten, and what a commit would start
in the domain starts. -/
def Dev.rewrite (d : Dev) (k : Nat) : Dev :=
  let d := d.each (d.defaults k) (fun d (e : Nat × Nat) => d.bootWord e.1 (BitVec.ofNat 32 e.2))
  if k = Dom.keyway then (d.each (List.range 8) Dev.toneLoad).flag Fld.keyStatusDouble (d.get Fld.clkPlanRate != 0)
  else if k = Dom.ports then d.bindNp
  else if k = Dom.asrc then d.bindAsrc
  else if k = Dom.link then d.linkStart
  else d

/-- Domain `k` counts as on (R550): what was waiting for it. -/
def Dev.domainUp (d : Dev) (k : Nat) : Dev :=
  if k = Dom.anain 0 then d.anainUp 0
  else if k = Dom.anain 1 then d.anainUp 1
  else if k = Dom.usb then d.usbCheck
  else (domOutputs k).foldl (fun d o => d.enterHiz o) d

/-! ### Transactions (R545 to R548, R608) -/

/-- A write to word `w` of PWR_TARGET (R545): ignored and counted while busy, a code of 3 stored as 2. -/
def Dev.targetWrite (d : Dev) (ag : Agent) (w : Nat) (v : Word) : Dev :=
  if d.is Fld.pwrTxnBusy then d.viol 0 ag (Reg.pwrTarget w)
  else
    let ks := (List.range 16).filter (fun i => decide (16 * w + i < 46))
    let word (f : Nat → Nat) : Word := BitVec.ofNat 32 ((ks.map (fun i => f (codeIn v i) * 4 ^ i)).sum)
    let d := d.modPwr (fun p => { p with staged := SMap.ins (SMap.del p.staged w) w (word (min 2)) })
    if ks.any (fun i => codeIn v i == 3) then d.viol 3 ag (Reg.pwrTarget w) else d

/-- PWR_TARGET is rewritten to the state in effect of each domain of a list (R547). -/
def Dev.restoreTargets (d : Dev) (ks : List Nat) : Dev := d.each ks (fun d k => d.setTarget k (d.present k))

/-- The transaction is refused by domain `k` (R547): the lowering domains return to running. -/
def Dev.refuseTxn (d : Dev) (k reason : Nat) : Dev :=
  let d := d.restoreTargets (d.pwr.lower.map (·.1))
  let d := d.modPwr (fun p => { p with lower := [], agreed := [] })
  let d := ((d.put Fld.pwrTxnBusy 0).put Fld.pwrTxnPhase 0).put Fld.pwrTxnResult 2
  let d := ((d.put Fld.pwrTxnReason reason).put Fld.pwrTxnDomain k).inc Fld.pwrTxnRefusals
  d.happen Fld.pwrEventsRefused

/-- A domain rises (R550): it comes up on CLK_FAST. -/
def Dev.startRise (d : Dev) (k v : Nat) : Dev :=
  let from_ := d.dom k
  ((d.setDom k 3).setPll k false).modPwr (fun p =>
    { p with rise := p.rise ++ [(k, v)], from_ := SMap.ins (SMap.del p.from_ k) k from_, clkReq := clrBit p.clkReq k })

/-- Every domain is in retention or off (R551). -/
def Dev.allDown (d : Dev) : Bool := allDomains.all (fun k => decide (d.dom k ≤ 1))

/-- PWR_SLEEPCFG acts (R551). -/
def Dev.sleepActs (d : Dev) : Dev :=
  if !d.allDown then d
  else
    let d := d.cond (d.is Fld.pwrSleepcfgPllOff) Dev.pllOff
    d.cond (d.is Fld.pwrSleepcfgFastOff) (·.modClk (fun c => { c with fastOff := true }))

/-- CLK_FAST starts again (R551). -/
def Dev.fastOn (d : Dev) : Dev := d.modClk (fun c => { c with fastOff := false })

/-- A wake transaction from a set of sources (R549). -/
def Dev.runWake (d : Dev) (src : Nat) : Dev :=
  let up := allDomains.filterMap (fun k =>
    let w := min 2 (codeIn (d.rd (Reg.pwrWakestate (k / 16))) k)
    if d.present k < w then some (k, w) else none)
  let d := ((d.put Fld.pwrWakesrcSrc src).happen Fld.pwrEventsWake).modPwr (fun p => { p with isWake := true, wakePend := 0 })
  let d := (d.restoreTargets allDomains).each up (fun d (e : Nat × Nat) => (d.setTarget e.1 e.2).startRise e.1 e.2)
  if d.pwr.rise = [] then
    (((d.put Fld.pwrTxnResult 1).put Fld.pwrTxnPhase 0).happen Fld.pwrEventsDone).modPwr (fun p => { p with isWake := false })
  else (d.put Fld.pwrTxnBusy 1).put Fld.pwrTxnPhase 4

/-- A recorded wake event runs once no transaction is busy (R548). -/
def Dev.pendingWake (d : Dev) : Dev :=
  if d.pwr.wakePend ≠ 0 ∧ !d.is Fld.pwrTxnBusy then d.runWake d.pwr.wakePend else d

/-- A wake event of source `src` (R548, R549), if it is enabled. -/
def Dev.wakeEvent (d : Dev) (src : Nat) : Dev :=
  if !d.bit Fld.pwrWakecfgEn src then d
  else
    let d := d.fastOn
    if d.is Fld.pwrTxnBusy then
      (d.modPwr (fun p => { p with wakePend := orBit p.wakePend src })).setBit Fld.pwrWakesrcSrc src
    else d.runWake (2 ^ src)

/-- The transaction is reported when every domain of it has arrived (R608). -/
def Dev.reportTxn (d : Dev) : Dev :=
  if !d.is Fld.pwrTxnBusy || d.pwr.rise != [] || d.pwr.lower != [] then d
  else
    let wake := d.pwr.isWake
    let d := (((d.put Fld.pwrTxnResult 1).put Fld.pwrTxnReason 0).put Fld.pwrTxnBusy 0).put Fld.pwrTxnPhase 0
    let d := (d.happen Fld.pwrEventsDone).modPwr (fun p => { p with isWake := false })
    (if wake then d else d.sleepActs).pendingWake

/-- Lowering domains are asked to quiesce (R546 steps 1 and 2): ASRC starts its fades, a refusal at once ends the
transaction, and the others agree as soon as nothing makes them wait. Retention agrees to off at once (R545). -/
def Dev.askQuiesce (d : Dev) : Dev :=
  let ask := (d.pwr.lower.map (·.1)).filter (fun k => d.dom k == 2)
  let d := if ask.contains Dom.asrc then d.each (List.range 14) Dev.asrcStop else d
  match ask.find? d.refusesNow with
  | some k => (d.refuseTxn k 1).pendingWake
  | none =>
    let agreed := (d.pwr.lower.map (·.1)).filter (fun k => !ask.contains k || !d.waitsNow k)
    d.modPwr (fun p => { p with agreed := agreed })

/-- A transaction from the present targets (R545). -/
def Dev.startTxn (d : Dev) : Dev :=
  let up := allDomains.filterMap (fun k => if d.present k < d.target k then some (k, d.target k) else none)
  let down := allDomains.filterMap (fun k => if d.target k < d.present k then some (k, d.target k) else none)
  let d := (d.put Fld.pwrTxnBusy 1).put Fld.pwrTxnPhase (if down = [] then 2 else 1)
  let d := d.each up (fun d (e : Nat × Nat) => d.startRise e.1 e.2)
  let d := d.modPwr (fun p => { p with lower := down, agreed := [], isWake := false })
  if down = [] then d.reportTxn else d.askQuiesce

/-- The end of an access (R545): staged PWR_TARGET words take effect, and a change of any code starts a transaction. -/
def Dev.pwrFlush (d : Dev) : Dev :=
  let st := d.pwr.staged
  if st = [] then d
  else
    let d := d.modPwr (fun p => { p with staged := [] })
    if st.all (fun e => e.2 == d.rd (Reg.pwrTarget e.1)) then d
    else (d.each st (fun d (e : Nat × Word) => d.wr (Reg.pwrTarget e.1) e.2)).startTxn

/-- QUIESCE_AGREE of domain `k` (R546): what it waited for has ended. -/
def Dev.quiesceAgree (d : Dev) (k : Nat) : Dev :=
  if d.quiescing k && !d.pwr.agreed.contains k && !d.waitsNow k then
    d.modPwr (fun p => { p with agreed := p.agreed ++ [k] })
  else d

/-- QUIESCE_TIMEOUT (R546): the lowest domain that has not agreed refuses. -/
def Dev.quiesceTimeout (d : Dev) : Dev :=
  match (d.pwr.lower.map (·.1)).find? (fun k => !d.pwr.agreed.contains k) with
  | some k => (d.refuseTxn k 2).pendingWake
  | none => d

/-- All lowering domains have agreed (R546 step 3). -/
def Dev.allAgreed (d : Dev) : Bool :=
  d.pwr.lower != [] && (d.pwr.lower.map (·.1)).all (fun k => d.pwr.agreed.contains k)

/-- PWR_COMMIT (R546 step 3): every lowering domain reaches its target. -/
def State.pwrCommit (s : State) : State :=
  if !s.dev.allAgreed then s
  else
    let s := s.dev.pwr.lower.foldl (fun s e => s.lowerDomain e.1 e.2) s
    let s := s.on (·.modPwr (fun p => { p with lower := [], agreed := [] }))
    s.on (fun d => (d.put Fld.pwrTxnPhase 2).reportTxn)

/-- DOMAIN_ARRIVE of domain `k` (R550, R558, R608). -/
def Dev.domainArrive (d : Dev) (k : Nat) : Dev :=
  match d.pwr.rise.find? (fun e => e.1 == k) with
  | none => d
  | some (_, v) =>
    let from_ := SMap.get 0 d.pwr.from_ k
    let d := d.modPwr (fun p => { p with rise := p.rise.filter (fun e => e.1 != k), from_ := SMap.del p.from_ k })
    let d := d.setDom k v
    let d := if from_ = 0 then d.rewrite k else d
    (if v = 2 then d.domainUp k else d).reportTxn

/-! ### PLL clocks and shackles (R550, R552, R553) -/

/-- A write to word `w` of PWR_CLKSEL (R550, R566): a 0 to a bit that reads 1 is counted once for the word. -/
def Dev.clkselWrite (d : Dev) (ag : Agent) (w : Nat) (v : Word) : Dev :=
  let ks := (List.range 32).filter (fun i => decide (32 * w + i < 46))
  let d := d.modPwr (fun p => { p with clkReq := ks.foldl (fun m i =>
    if bitOf v.toNat i && !d.onPll (32 * w + i) && decide (2 ≤ d.dom (32 * w + i)) then orBit m (32 * w + i) else m) p.clkReq })
  if ks.any (fun i => !bitOf v.toNat i && d.onPll (32 * w + i)) then d.viol 0 ag (Reg.pwrClksel w) else d

/-- DOMAIN_CLK_SWITCH of domain `k` (R550). -/
def Dev.clkSwitch (d : Dev) (k : Nat) : Dev :=
  if bitOf d.pwr.clkReq k && d.on k && (d.is Fld.clkStatusLocked || d.is Fld.clkStatusHoldover) then
    ((d.setPll k true).modPwr (fun p => { p with clkReq := clrBit p.clkReq k })).happen Fld.pwrEventsClk
  else d

/-- A write to word `w` of PWR_SHACKLE (R553): a 1 to a bit that holds no shackled pad is counted once for the word. -/
def Dev.shackleWrite (d : Dev) (ag : Agent) (w : Nat) (v : Word) : Dev :=
  let held := (d.rd (Reg.pwrShackle w)).toNat
  let d' := d.wr (Reg.pwrShackle w) (BitVec.ofNat 32 (held - (held &&& v.toNat)))
  if (List.range 32).any (fun i => bitOf v.toNat i && decide (32 * w + i < 46) && !bitOf held i) then
    d'.viol 13 ag (Reg.pwrShackle w)
  else d'

end Sys2Proof.Machine
end

