-- ==== Sys2Proof/Machine/Boot.lean ====
section
/-! DEFINITION. The boot controller (chapter 02): sources, loads, reseats, live reloads, and the commit of a keyplan up to
its wait for the frame boundary of step 7. The keyway start is in Frame.lean. -/
namespace Sys2Proof.Machine

/-- Change the boot controller's state. -/
def Dev.modBoot (d : Dev) (f : Boot → Boot) : Dev := { d with boot := f d.boot }

/-- Set BOOT_STATUS.state. -/
def Dev.setBoot (d : Dev) (st : Nat) : Dev := d.put Fld.bootStatusState st

/-- The key that BOOT_CTRL and the other guarded registers ask for. -/
abbrev guardKey : Nat := 0x9616

/-- Words the BOOT_HOSTDATA FIFO holds: 4 KiB (R54). -/
abbrev fifoWords : Nat := 1024

/-- The FIFO holds `n` words (R65). -/
def Dev.setFifo (d : Dev) (n : Nat) : Dev := (d.modBoot (fun b => { b with fifo := n })).put Fld.bootStatusFifoFree (fifoWords - n)

/-! ### Attempts and their results (R50, R65, R66) -/

/-- A load attempt of kind `k` from source code `src` begins. -/
def Dev.openLoad (d : Dev) (k : LoadKind) (src : Nat) : Dev :=
  let d := d.modBoot (fun b => { b with load := some k, image := [], verdict := none, wrote := [] })
  (((d.inc Fld.bootStatusAttempt).put Fld.bootStatusSource src).setFifo 0)

/-- The result of the attempt in progress (R66). -/
def Dev.bootResult (d : Dev) (code ward : Nat) : Dev :=
  let n := min (d.get Fld.bootStatusAttempt) 4 - 1
  d.wr (Reg.bootResult n) (BitVec.ofNat 32 (ward * 2 ^ 16 + d.get Fld.bootStatusSource * 2 ^ 8 + code))

/-- Host-wait (R53). -/
def Dev.hostWait (d : Dev) : Dev :=
  (d.modBoot (fun b => { b with load := none, image := [], verdict := none, reseat := 0, reload := false, rest := [],
                                irqHold := true, commit := 0, plan := none })).setBoot BootSt.hostwait

/-- Domain LINK follows the link boot before the first keyplan (R481, R544). -/
def Dev.linkForBoot (d : Dev) (on : Bool) : Dev :=
  if d.boot.run.isSome then d
  else
    let d := d.setDom Dom.link (if on then 2 else 0)
    if on then (((d.put (Fld.linkPortCfgUsed 0) 1).portAcquire 0).setLinkSt LinkSt.acquire)
    else d.loseDomain Dom.link

/-- The link boot plan (R80): refdiv 0, int 120, frac 0, primary 2. -/
def Dev.linkBootPlan (d : Dev) : Dev :=
  let d := (d.wr Reg.clkPllcfg 0x80000078).wr Reg.clkPllfrac 0
  (d.put Fld.clkRefselPrimary 2).acquire AcqCause.commit

/-- The boot controller tries the source codes that are left (R50). -/
def Dev.tryNext (d : Dev) : List Nat → Dev
  | [] => d.hostWait
  | c :: cs =>
    let d := d.modBoot (fun b => { b with rest := cs })
    if c = 0 ∨ c = 3 then d.hostWait
    else if c ≤ 2 then (d.openLoad .boot c).setBoot BootSt.loading
    else if c = 4 then (((d.linkForBoot true).openLoad .boot 4).setBoot BootSt.loading).linkBootPlan
    else d.tryNext cs

/-- The boot order of the keyturn store, tried from bits 3:0 upwards (R50). -/
def Dev.bootOrder (d : Dev) : List Nat := (List.range 4).map (fun i => bitsOf (d.kt! 24) (4 * i) 4)

/-! ### The image that streams in (R43, R47, R54) -/

/-- The kind of the checks of the load in progress. -/
def Dev.loadKind (d : Dev) : LoadKind := d.boot.load.getD .boot

/-- Image segments of the wards read so far, in order: destination and bytes. -/
def segsOf (ws : List Ward) : List (Nat × List Byte) := ws.flatMap (·.image)

/-- Segments that have not yet been written go to their destinations (R47). -/
def State.placeSegs (s : State) (ws : List Ward) : State :=
  let fresh := (segsOf ws).drop s.dev.boot.wrote.length
  let s := fresh.foldl (fun s e => s.store e.1 e.2) s
  s.on (·.modBoot (fun b => { b with wrote := b.wrote ++ fresh.map (fun e => (e.1, e.2.length)) }))

/-- Every byte that the load wrote is cleared (R47). -/
def State.unplace (s : State) : State :=
  let w := s.dev.boot.wrote
  (s.erase (fun a => w.any (fun e => decide (e.1 ≤ a) && decide (a < e.1 + e.2)))).on
    (·.modBoot (fun b => { b with wrote := [] }))

/-- A failed load goes on to the next source, to host-wait, or to the reload of the previous keyplan (R47, R54, R59). -/
def Dev.afterFail (d : Dev) : Dev :=
  match d.boot.load with
  | some .boot =>
    let d := if d.get Fld.bootStatusSource = 4 then d.linkForBoot false else d
    d.tryNext d.boot.rest
  | some .host => d.hostWait
  | some .reseat =>
    let src := d.boot.runSource
    if d.boot.reload || src = 3 || src = 0 then d.hostWait
    else (d.modBoot (fun b => { b with reload := true })).openLoad .reseat src
  | _ => d

/-- A structural load fails with a code at a ward (R47, R66). -/
def State.loadFail (s : State) (code ward : Nat) : State :=
  (s.unplace).on (fun d => ((d.bootResult code ward).setFifo 0).afterFail)

/-- A live reload that has not been accepted ends with a code at a ward (R61, R69). -/
def Dev.liveEnd (d : Dev) (code ward : Nat) : Dev :=
  let d := d.modBoot (fun b => { b with load := none, image := [], verdict := none })
  let d := (d.put Fld.bootLivestatCode code).put Fld.tumbStatusLive 0
  let d := if ward = noWard then d else d.put Fld.bootLivestatWard ward
  (if d.bootSt = BootSt.live then d.setBoot BootSt.running else d).setFifo 0

/-- A rejected live keyplan's violations: NOT_LIVE once (R61); a second writer of a sink (R127). `ws`: the wards read, the
rejected one last. -/
def Dev.liveViol (d : Dev) (code : Nat) (ws : List Ward) (ward : Nat) : Dev :=
  if code = Kp.notLive then d.viol 12 .host Reg.bootHostdata
  else match ws.getLast? with
    | some w => if code = Kp.content && decide (ws.length = ward + 1) && (ws.dropLast.foldl Dev.kpLay d).kpSecondWriter w then
        d.viol 5 .boot Reg.bootHostdata else d
    | none => d

/-- A live keyplan has passed its checks (R61 to R63): its wards wait for their boundaries. `at_`: the boundary of ward 0 of
a pair (R501). -/
def Dev.liveAccept (d : Dev) (p : Plan) (at_ : Option Nat) : Dev :=
  let d := d.modBoot (fun b => { b with load := none, image := [], verdict := none, live := p.wards, liveNext := 0, liveAt := at_ })
  let d := if d.bootSt = BootSt.live then d.setBoot BootSt.running else d
  let d := (d.setFifo 0).put Fld.tumbStatusAgent Agent.boot.code
  if p.wards = [] then (d.put Fld.bootLivestatCode Kp.ok).put Fld.tumbStatusLive 0 else d

/-- The checks after more bytes have come (R43): a failure ends the load, an accepted structural image waits for its commit
(VERIFY). `partner`: the code of the standby's own check of a live keyplan (R501). -/
def State.checkImage (s : State) (partner : Nat) : State :=
  let k := s.dev.loadKind
  let (v, ws) := s.dev.kpVerdict k s.dev.boot.image
  if k = .live then
    match v with
    | some (.bad c w) => s.on (fun d => (d.liveViol c ws w).liveEnd c w)
    | some (.ok p) =>
      if s.dev.hasStandby && partner != 0 then s.on (·.liveEnd partner noWard)
      else s.on (fun d => d.liveAccept p (if d.hasStandby then some d.mirrorAt else none))
    | none => s
  else
    let s := s.placeSegs ws
    match v with
    | some (.bad c w) => s.loadFail c w
    | some (.ok p) => s.on (fun d =>
        let d := (d.modBoot (fun b => { b with verdict := some (.ok p) })).setFifo 0
        if k = .reseat then d else d.setBoot BootSt.verify)
    | none => s

/-- A load takes its image from BOOT_HOSTDATA: a host load, a reseat from the host, or a live reload that still streams. -/
def Dev.hostLoads (d : Dev) : Bool :=
  d.boot.verdict.isNone && (match d.boot.load with
    | some .host => true
    | some .live => true
    | some .reseat => d.get Fld.bootStatusSource == 3
    | _ => false)

/-- The checks run on what has come, but for a reseat that has not reached step 5 (R56). -/
def Dev.checksRun (d : Dev) : Bool := d.boot.load != some .reseat || decide (5 ≤ d.boot.reseat)

/-- BOOT_HOSTDATA (R54): a word; the controller has consumed `taken` words since the word before. Over SPI (`spi`) a word
that finds the FIFO full is dropped and the load fails; over I2C it waits for room. -/
def State.hostData (s : State) (spi : Bool) (taken partner : Nat) (w : Word) : State :=
  if !s.dev.hostLoads then s
  else
    let n := s.dev.boot.fifo - taken
    if fifoWords ≤ n ∧ spi then
      (if s.dev.boot.load = some .live then s.on (·.liveEnd Kp.source noWard) else s.loadFail Kp.source noWard)
    else
      let n := min n (fifoWords - 1)
      let s := s.on (fun d => (d.setFifo (n + 1)).modBoot (fun b => { b with image := b.image ++ leBytes 4 w.toNat }))
      if s.dev.checksRun then s.checkImage partner else s

/-- BOOT_DATA's payload (R481): the chunk at the next expected offset of a link boot is taken; others are ignored. -/
def State.linkData (s : State) (payload : List Byte) : State :=
  if s.dev.boot.load.isSome && s.dev.boot.verdict.isNone && s.dev.get Fld.bootStatusSource == 4 &&
      leNat (payload.take 4) == s.dev.boot.image.length then
    let s := s.on (·.modBoot (fun b => { b with image := b.image ++ payload.drop 4 }))
    s.checkImage 0
  else s

/-- LOAD_SOURCE_TIMEOUT (R54, R481). -/
def State.sourceTimeout (s : State) : State :=
  if s.dev.hostLoads then
    (if s.dev.boot.load = some .live then s.on (·.liveEnd Kp.source noWard) else s.loadFail Kp.source noWard)
  else if s.dev.boot.load.isSome && s.dev.boot.verdict.isNone && s.dev.get Fld.bootStatusSource == 4 then
    s.loadFail Kp.source noWard
  else s

/-- A flash load is in progress: a boot, or a reseat at step 5. -/
def Dev.flashLoads (d : Dev) : Bool :=
  d.boot.load.isSome && d.boot.verdict.isNone && decide (1 ≤ d.get Fld.bootStatusSource) &&
    decide (d.get Fld.bootStatusSource ≤ 2) && d.checksRun && d.boot.load != some .live

/-- FLASH_LOAD_FAIL (R47): the image read from the slot fails a check. -/
def State.flashFail (s : State) (img : List Byte) : State :=
  if !s.dev.flashLoads then s
  else match (s.dev.kpVerdict s.dev.loadKind img).1 with
    | some (.bad c w) => s.loadFail c w
    | _ => s

/-! ### Commands of BOOT_CTRL (R68) -/

/-- A command that the state does not permit (R68). -/
def Dev.bootRefuse (d : Dev) (ag : Agent) : Dev := d.viol 0 ag Reg.bootCtrl

/-- An accepted BOOT_CTRL write releases IRQ_A_N (R53). -/
def Dev.irqFree (d : Dev) : Dev := d.modBoot (fun b => { b with irqHold := false })

/-- HOSTLOAD (R54). -/
def Dev.hostLoad (d : Dev) (ag : Agent) : Dev :=
  let d := d.irqFree
  if d.bootSt = BootSt.hostwait then (d.openLoad .host 3).setBoot BootSt.loading else d.bootRefuse ag

/-- A live reload in progress ends with ABORTED (R56 step 1). -/
def Dev.liveAbort (d : Dev) : Dev :=
  if d.liveHeld then (d.modBoot (fun b => { b with live := [] })).liveEnd Kp.aborted noWard else d

/-- RESEAT from source `src` (R56, R503, R505). -/
def Dev.reseat (d : Dev) (ag : Agent) (src : Nat) : Dev :=
  let d := d.irqFree
  if d.bootSt ≠ BootSt.running ∨ src = 0 ∨ 3 < src then d.bootRefuse ag
  else if d.hasStandby || d.role == Role.standby then d.viol 10 ag Reg.bootCtrl
  else
    let d := d.liveAbort
    let d := (d.put Fld.sysRstcauseLast 5).setBit Fld.sysRstcauseHistory 5
    ((d.openLoad .reseat src).modBoot (fun b => { b with reseat := 1, reload := false })).setBoot BootSt.reseat

/-- LIVE (R61, R62, R64). -/
def Dev.live (d : Dev) : Dev :=
  let d := d.irqFree
  if d.bootSt ≠ BootSt.running ∨ d.liveHeld ∨ d.key.armed.isSome ∨ d.key.entries ≠ [] then d.put Fld.bootLivestatCode Kp.busy
  else
    let d := d.modBoot (fun b => { b with load := some .live, image := [], verdict := none })
    ((d.setFifo 0).put Fld.tumbStatusLive 1).setBoot BootSt.live

/-- ABORT (R68). -/
def State.abort (s : State) (ag : Agent) : State :=
  let s := s.on Dev.irqFree
  if s.dev.boot.load = some .live ∧ s.dev.boot.verdict.isNone then s.on (·.liveEnd Kp.aborted noWard)
  else if s.dev.boot.load = some .host ∧ s.dev.boot.verdict.isNone then s.loadFail Kp.aborted noWard
  else s.on (·.bootRefuse ag)

/-- A write to BOOT_CTRL (R68). -/
def State.bootCtrl (s : State) (ag : Agent) (v : Word) : State :=
  if bitsOf v.toNat 16 16 ≠ guardKey then s.on (·.bootRefuse ag)
  else match bitsOf v.toNat 0 4 with
    | 1 => s.on (·.hostLoad ag)
    | 2 => s.on (·.reseat ag (bitsOf v.toNat 4 4))
    | 3 => s.on Dev.live
    | 4 => s.abort ag
    | _ => s.on Dev.irqFree

/-! ### Reseat (R56 to R59) -/

/-- The wards of an image that a reseat compares, by their headers: type, sequence and decrypted body. -/
def kpPeek (img : List Byte) : Nat → Nat → Nat → List (Nat × Nat × List Byte)
  | 0, _, _ => []
  | n + 1, off, blk =>
    let len := kpLe img (off + 4) 4
    if img.length < off + 16 + len then []
    else
      let raw := (img.drop (off + 16)).take len
      let body := if kpEncrypted img then gcmCtr (kpKey img) (kpIv img) blk raw else raw
      (kpLe img off 1, kpLe img (off + 8) 4, body) :: kpPeek img n (off + 16 + len) (blk + len / 16)

/-- Entries of a clock-plan ward with the house rate left out (R57). -/
def clockFields (body : List Byte) : List (Nat × Nat) :=
  (kpEntries body).map (fun e => if e.1 = Reg.clkPlan then (e.1, setBits e.2 1 2 0) else e)

/-- The body of a ward of the running keyplan. -/
def Dev.runBody (d : Dev) (kind : Nat) : Option (List Byte) :=
  (d.boot.run.bind (fun p => p.wards.find? (fun w => w.kind == kind))).map (·.body)

/-- The mismatch that refuses a reseat (R57): its code and ward. -/
def Dev.reseatMismatch (d : Dev) (img : List Byte) : Option (Nat × Nat) :=
  if kpLe img 0 4 ≠ 0x4C504B51 then none
  else
    let ws := kpPeek img (min (kpCount img) 4096) 128 0
    let new (t : Nat) := ws.find? (fun w => w.1 == t)
    let clock := match new 1, d.runBody 1 with
      | some w, some b => if clockFields w.2.2 = clockFields b then none else some (Kp.clock, w.2.1)
      | _, _ => none
    match clock with
    | some r => some r
    | none => ([0x0C, 0x0D].find? (fun t => (new t).map (·.2.2) != d.runBody t)).map
        (fun t => (Kp.link, ((new t).map (·.2.1)).getD noWard))

/-- Reseat step 3 (R56, R193, R289): every output runs its stop sequence and clears run; every direction stops. -/
def Dev.reseatStop (d : Dev) : Dev :=
  let d := d.each (List.range 10) (fun d o =>
    let st := d.outSt o
    let d := d.put (Fld.outCtrlRun o) 0
    if st = OutSt.starting ∨ st = OutSt.running ∨ st = OutSt.persona then d.stopOut o else d)
  (d.portsStop).modBoot (fun b => { b with reseat := 3 })

/-- RESEAT_COMPARE (R57); `img` is what a flash slot holds, and a host source's image is what has streamed in. -/
def Dev.reseatCompare (d : Dev) (img : List Byte) : Dev :=
  if d.bootSt ≠ BootSt.reseat ∨ d.boot.reseat ≠ 1 then d
  else
    let img := if d.get Fld.bootStatusSource = 3 then d.boot.image else img
    match d.reseatMismatch img with
    | some (c, w) =>
      ((d.bootResult c w).modBoot (fun b => { b with load := none, image := [], reseat := 0 })).setBoot BootSt.running
    | none => d.reseatStop

/-- Every stop sequence has ended (R56, R289). -/
def Dev.allStopped (d : Dev) : Bool :=
  d.portsIdle && (List.range 10).all (fun o =>
    !([OutSt.starting, OutSt.running, OutSt.stopping, OutSt.persona].contains (d.outSt o)))

/-- A register of an AON block that a reseat returns to its hardware value before the keyplan's (R557): the writable and
W1C bits of SYS, INTC, the windows, MEM, ANAIN, OUT and JACK, PWR_SLEEPCFG, PWR_EVENTS, MON_CFG, MON_SUPEV, REP_CFG and
REP_EVENTS; status stays. -/
def reseatMask (a : Nat) : Nat :=
  let b := a / 0x10000
  let m := (regRow (a % 2 ^ 32)).elim 0 (fun r => r.rw ||| r.rwt ||| r.k ||| r.w1c)
  if b = 0x83 then 2 ^ 32 - 1
  else if a = Reg.sysWdtcfg ∨ a = Reg.pwrSleepcfg ∨ a = Reg.pwrEvents ∨ a = Reg.monCfg ∨ a = Reg.monSupev ∨
      a = Reg.repCfg ∨ a = Reg.repEvents then m
  else if b = 0x84 ∨ b = 0x88 ∨ b = 0x89 ∨ b = 0x8A then m
  else 0

/-- AON registers at reseat step 4 (R557); the warning of a supply that is still low is set again (R560). -/
def Dev.aonReseat (d : Dev) : Dev :=
  let d := d.each (d.regs.map (·.1)) (fun d a =>
    let m := BitVec.ofNat 32 (reseatMask a)
    d.wr a ((d.rd a &&& ~~~ m) ||| (Regs.hw a &&& m)))
  let d := d.each (bitList 4 d.pins.low) (fun d i => d.setBit Fld.monSupevWarn i)
  { d with intc := { d.intc with gates := [], last := [] }, hs := [] }

/-- The domains that a reseat tears down: all but LINK, HINGE and the analogue ones (R56). -/
def reseatDomains : List Nat :=
  (List.range 16) ++ [Dom.keyway, Dom.dma, Dom.ports, Dom.asrc, Dom.usb, Dom.pdm]

/-- What stops at reseat step 4, memories aside (R56). -/
def Dev.teardown (d : Dev) : Dev :=
  let d := d.modBoot (fun b => { b with reseat := 5 })
  let d := (d.usbCheck).each reseatDomains Dev.loseDomain
  let d := d.each allDomains (fun d k => if d.on k then d.shackle k else d)
  let d := (d.aonReseat).jackMutes
  let d := d.modPins (fun p => { p with pads := [] })
  { d with memc := { d.memc with wb := [], seen := [] } }

/-- RESEAT_TEARDOWN (R56 step 4): the functions stop, pads are shackled and memories cleared; then step 5 begins. -/
def State.reseatTeardown (s : State) : State :=
  if s.dev.bootSt = BootSt.reseat ∧ s.dev.boot.reseat = 3 ∧ s.dev.allStopped then
    let s := (s.on Dev.teardown).erase (fun a => decide (a < 0x600000))
    if s.dev.get Fld.bootStatusSource = 3 then s.checkImage 0 else s
  else s

/-! ### Commit (R48, R607) -/

/-- A word of the clock-plan ward (R48 step 1, R96). -/
def Dev.clockEntry (d : Dev) (a : Nat) (v : Word) : Dev :=
  if a = Reg.clkPllcfg ∨ a = Reg.clkPllfrac then d.pllWrite .boot a v
  else if a = Reg.clkRefsel then d.refselWrite .boot v
  else if a = Reg.clkPlan then d.wr a (v &&& 7)
  else d.bootWord a v

/-- The wards of a type, in order. -/
def Plan.of (p : Plan) (kind : Nat) : List Ward := p.wards.filter (fun w => w.kind == kind)

/-- The entries of the wards of a type, in order. -/
def Plan.entries (p : Plan) (kind : Nat) : List (Nat × Nat) := (p.of kind).flatMap (·.entries)

/-- Commit step 1 (R48, R80): the clock plan, and acquisition. A keyplan loaded over the link leaves a running PLL untouched
where its plan asks for what runs. -/
def Dev.clockCommit (d : Dev) (p : Plan) (link : Bool) : Dev :=
  let pll (d : Dev) := (d.get Fld.clkPllcfgRefdiv, d.get Fld.clkPllcfgInt, d.get Fld.clkPllfracFrac, d.get Fld.clkRefselPrimary)
  let d' := (p.entries 1).foldl (fun d e => d.clockEntry e.1 (BitVec.ofNat 32 e.2)) d
  let d' := (d'.put Fld.clkPllcfgRun 1).modClk (fun c => { c with pend := false })
  if link && decide (pll d' = pll d) && !d.clk.fallback then d' else d'.acquire AcqCause.commit

/-- Commit step 3 (R48): the power-domain map. -/
def State.mapCommit (s : State) (p : Plan) : State :=
  let s := s.on (fun d =>
    let d := d.clrRegs [Reg.pwrTarget 0, Reg.pwrTarget 1, Reg.pwrTarget 2]
    (p.entries 2).foldl (fun d e => d.bootWord e.1 (BitVec.ofNat 32 e.2)) d)
  let s := allDomains.foldl (fun s k =>
    let v := s.dev.target k
    if v < s.dev.dom k then s.lowerDomain k v else s.on (·.setDom k v)) s
  s.on (fun d => d.each allDomains (fun d k => d.setPll k (d.on k)))

/-- The wards of commit step 5, in the order of R48. -/
def step5 : List Nat := [4, 0x0A, 8, 9, 0x0B, 0x0C, 0x0D, 6, 7, 0x0E]

/-- Commit step 5 (R48): the settings, and what follows in each block from the values it takes. -/
def Dev.settingsCommit (d : Dev) (p : Plan) : Dev :=
  let d0 := d
  let d := d.modBoot (fun b => { b with commit := 5 })
  let d := step5.foldl (fun d k => (p.entries k).foldl (fun d e => d.bootWord e.1 (BitVec.ofNat 32 e.2)) d) d
  let d := match p.of 0x0C with
    | w :: _ => { d with link := { d.link with key := some (w.body.take 32) } }
    | [] => d
  let d := (d.each (List.range 8) Dev.toneLoad).ceilings
  let d := d.each (List.range 4) Dev.micbCommit
  let d := d.each (List.range 32) (fun d c => d.pdmCommit c 0)
  let d := (d.anainUp 0).anainUp 1
  let d := d.each (List.range 10) (fun d o => if d.upper o then d.enterHiz o else d.outCommit d0 o)
  let d := ((d.bindNp).bindAsrc).linkStart
  d.each allDomains (fun d k => if d.dom k = 0 then d.loseDomain k else d)

/-- Commit step 6 (R48, R69): the registers of the running keyplan. -/
def Dev.runCommit (d : Dev) (p : Plan) : Dev :=
  let d := (d.wr Reg.bootRunver (BitVec.ofNat 32 p.version)).wr Reg.bootRunlike0 (BitVec.ofNat 32 p.likeness)
  let d := d.wr Reg.bootRunlike1 (BitVec.ofNat 32 (p.likeness / 2 ^ 32))
  let d := d.each (List.range 8) (fun d w => d.wr (Reg.bootRunhash w) (BitVec.ofNat 32 (leNat ((p.hash.drop (4 * w)).take 4))))
  d.modBoot (fun b => { b with run := some p, runSource := d.get Fld.bootStatusSource, plan := none, commit := 7, load := none,
                               image := [], verdict := none, wrote := [] })

/-- Commit steps 3 to 6 (R48). -/
def State.commitApply (s : State) : State :=
  match s.dev.boot.plan with
  | none => s
  | some p =>
    let s := (s.on (·.modBoot (fun b => { b with commit := 3 }))).mapCommit p
    let s := s.on (·.modPins (fun x => { x with pads := (p.entries 3).foldl (fun m e => SMap.set 0 m e.1 e.2) [] }))
    let s := s.on (·.settingsCommit p)
    (s.erase (fun a => decide (0x5C0000 ≤ a) && decide (a < 0x600000))).on (·.runCommit p)

/-- COMMIT (R48 step 1, R56 step 6): the final checks have passed. `img` is what a flash slot holds; a host or link image has
streamed in. -/
def State.commit (s : State) (img : List Byte) : State :=
  let k := s.dev.loadKind
  let v := match s.dev.boot.verdict with
    | some v => (some v, [])
    | none => if s.dev.flashLoads then s.dev.kpVerdict k img else (none, [])
  match v with
  | (some (.ok p), ws) =>
    let s := (s.placeSegs ws).on (fun d => (d.bootResult Kp.ok noWard).modBoot (fun b =>
      { b with plan := some p, commit := 1, verdict := some (.ok p) }))
    if k = .reseat then (s.on (fun d =>
      (p.entries 1).foldl (fun d e => if e.1 = Reg.clkPlan then d.clockEntry e.1 (BitVec.ofNat 32 e.2) else d) d)).commitApply
    else
      let link := s.dev.get Fld.bootStatusSource == 4
      let s := s.on (fun d => (d.clockCommit p link).setBoot BootSt.commit)
      if s.dev.clk.fallback then s else s.commitApply
  | _ => s

/-- FALLBACK_EXIT (R84): the divided clocks leave fallback, and a commit that waits for lock goes on (R48 step 2). -/
def State.fallbackExit (s : State) : State :=
  if s.dev.clk.stage ≠ AcqStage.locked then s
  else
    let s := s.on Dev.switchBack
    if s.dev.boot.commit = 1 then s.commitApply else s

/-! ### Live wards (R63) -/

/-- The entries that a live ward stages, with the clamps and substitutions of R127 and R607, each such word counted. -/
def Dev.liveStage (d : Dev) (w : Ward) : Dev × List TumbEntry :=
  w.entries.foldl (fun (a : Dev × List TumbEntry) e =>
    let (d, es) := a
    let page := match es.find? (fun x => x.key == Reg.keyXppage) with
      | some x => bitsOf x.value.toNat 0 2
      | none => d.get Fld.keyXppagePage
    let key := windowKey e.1 page
    let v := BitVec.ofNat 32 (e.2 &&& rwtMask key)
    let (x, sub) := d.clampRwt key v
    let d := match sub with
      | some r => d.refuseRec r
      | none => d
    (if x = v then d else d.viol 3 .boot e.1, putEntry es key x)) (d, [])

/-- The live ward due at boundary `n` commits whole (R63). -/
def Dev.liveCommit (d : Dev) (n : Nat) : Dev :=
  match d.boot.live with
  | [] => d
  | w :: ws =>
    if !((d.boot.liveAt).all (fun a => notBefore n a)) then d
    else
      let i := d.boot.liveNext
      let (d, es) := d.liveStage w
      let d := d.commitEntries es n
      let d := (d.inc Fld.bootLivestatCommits).put Fld.bootLivestatWard i
      let d := d.modBoot (fun b => { b with live := ws, liveNext := i + 1 })
      if ws = [] then (d.put Fld.bootLivestatCode Kp.ok).put Fld.tumbStatusLive 0 else d

end Sys2Proof.Machine
end

