-- ==== Sys2Proof/Machine/EngCtl.lean ====
section
/-! DEFINITION. Engine control (chapter 12: commands, stops and halts, register access, ring settings) and DMA channel control
(chapter 14: commands and configuration). Bundles are in Engine.lean and beats in Dma.lean. -/
namespace Sys2Proof.Machine

/-! ### Engines -/

/-- ENGn_STATUS.state (R382). -/
abbrev EngSt.reset : Nat := 0
abbrev EngSt.running : Nat := 1
abbrev EngSt.waiting : Nat := 2
abbrev EngSt.stopped : Nat := 3
abbrev EngSt.halted : Nat := 4

/-- Engine `e`. -/
def Dev.eng (d : Dev) (e : Nat) : Eng := SMap.get Eng.init d.engs e

/-- Set engine `e`. -/
def Dev.setEng (d : Dev) (e : Nat) (x : Eng) : Dev := { d with engs := SMap.set Eng.init d.engs e x }

/-- Change engine `e`. -/
def Dev.modEng (d : Dev) (e : Nat) (f : Eng → Eng) : Dev := d.setEng e (f (d.eng e))

/-- The state of engine `e` (R382). -/
def Dev.engSt (d : Dev) (e : Nat) : Nat := d.get (Fld.engStatusState e)

/-- Set the state of engine `e`. -/
def Dev.setEngSt (d : Dev) (e st : Nat) : Dev := d.put (Fld.engStatusState e) st

/-- MODE (R355). -/
def Eng.mode (x : Eng) : Nat := (SMap.get 0 x.c 0).toNat
def Eng.accept (x : Eng) : Bool := bitOf x.mode 0
def Eng.trap (x : Eng) : Bool := bitOf x.mode 1
def Eng.fast (x : Eng) : Bool := bitOf x.mode 2
def Eng.loop (x : Eng) : Bool := bitOf x.mode 3
def Eng.kept (x : Eng) : Bool := bitOf x.mode 4

/-- Set control register `i`. -/
def Eng.setC (x : Eng) (i : Nat) (v : Word) : Eng := { x with c := SMap.set 0 x.c i v }

/-- Set bit `i` of MODE. -/
def Eng.setMode (x : Eng) (i : Nat) (b : Bool) : Eng :=
  x.setC 0 (BitVec.ofNat 32 (if b then orBit x.mode i else clrBit x.mode i))

/-- Control register `i` of engine `e` as it reads (R355). -/
def Dev.readC (d : Dev) (e i : Nat) : Word :=
  let x := d.eng e
  if i = 11 then BitVec.ofNat 32 x.blocks
  else if i = 12 then BitVec.ofNat 32 x.cycles
  else if i = 13 then d.rd Reg.keyFramecnt
  else if i = 15 then BitVec.ofNat 32 e
  else SMap.get 0 x.c i

/-- The bits of control register `i` that hold a value (R355). -/
def cMask (i : Nat) : Word := if i = 9 then 0xFFFFFC00 else if i = 10 then 0xFFFFFFC0 else 0xFFFFFFFF

/-- Control register `i` is read-only (R355). -/
def cReadOnly (i : Nat) : Bool := i == 11 || i == 12 || i == 13 || i == 15

/-- Scalar register `i` of an engine, in the bank of a class (R353). -/
def Eng.readS (x : Eng) (fast : Bool) (i : Nat) : Word :=
  if i = 0 then 0 else if fast && decide (24 ≤ i) then SMap.get 0 x.fs i else SMap.get 0 x.s i

/-- Write scalar register `i`; s0 discards. -/
def Eng.writeS (x : Eng) (fast : Bool) (i : Nat) (v : Word) : Eng :=
  if i = 0 then x
  else if fast && decide (24 ≤ i) then { x with fs := SMap.set 0 x.fs i v } else { x with s := SMap.set 0 x.s i v }

/-- Predicate register `i` (R353). -/
def Eng.readP (x : Eng) (i : Nat) : Nat := if i = 0 then 0xFFFF else SMap.get 0 x.p i

/-- Write predicate register `i`; p0 discards. -/
def Eng.writeP (x : Eng) (i v : Nat) : Eng := if i = 0 then x else { x with p := SMap.set 0 x.p i (v % 2 ^ 16) }

/-- Vector register `i`, as a number of 256 bits. -/
def Eng.readV (x : Eng) (i : Nat) : Nat := SMap.get 0 x.v i

/-- Write vector register `i`. -/
def Eng.writeV (x : Eng) (i v : Nat) : Eng := { x with v := SMap.set 0 x.v i (v % 2 ^ 256) }

/-- The register that ENGn_REGSEL selects, as it reads (R383). -/
def Dev.regData (d : Dev) (e : Nat) : Word :=
  let x := d.eng e
  let i := d.get (Fld.engRegselIndex e)
  if d.engSt e ≠ EngSt.stopped ∧ d.engSt e ≠ EngSt.halted then 0
  else if i < 32 then x.readS false i
  else if i < 40 then x.readS true (i - 8)
  else if i < 48 then BitVec.ofNat 32 (x.readP (i - 40))
  else if i < 64 then d.readC e (i - 48)
  else if i = 64 then d.rd (Reg.engPc e)
  else if 128 ≤ i then BitVec.ofNat 32 (bitsOf (x.readV ((i - 128) / 8)) (32 * (i % 8)) 32)
  else 0

/-- REGDATA_WRITE (R383): read-only control registers, and the read-only bits of MODE, keep their value. -/
def Dev.regDataWrite (d : Dev) (ag : Agent) (e : Nat) (v : Word) : Dev :=
  let x := d.eng e
  let i := d.get (Fld.engRegselIndex e)
  if d.engSt e ≠ EngSt.stopped ∧ d.engSt e ≠ EngSt.halted then d.viol 0 ag (Reg.engRegdata e)
  else if i < 32 then d.setEng e (x.writeS false i v)
  else if i < 40 then d.setEng e (x.writeS true (i - 8) v)
  else if i < 48 then d.setEng e (x.writeP (i - 40) v.toNat)
  else if i = 48 then d.setEng e ((x.setMode 0 (bitOf v.toNat 0)).setMode 4 (bitOf v.toNat 4))
  else if i < 64 then (if cReadOnly (i - 48) then d else d.setEng e (x.setC (i - 48) (v &&& cMask (i - 48))))
  else if i = 64 then d.wr (Reg.engPc e) (v &&& 0xFFFFFFF8)
  else if 128 ≤ i then
    let k := (i - 128) / 8
    d.setEng e (x.writeV k (setBits (x.readV k) (32 * (i % 8)) 32 v.toNat))
  else d

/-- A command that the engine's state does not permit (R384). -/
def Dev.engRefuse (d : Dev) (ag : Agent) (e : Nat) : Dev := d.viol 0 ag (Reg.engCtrl e)

/-- Frames of zeros after START or RESUME (R378). -/
def Dev.engZeros (d : Dev) (e : Nat) : Nat := d.get (Fld.engRinggeomLag e) * d.ringB e

/-- The effect of START (R384). -/
def Dev.engBegin (d : Dev) (e : Nat) : Dev :=
  let d := d.setEng e { Eng.init with zeros := d.engZeros e }
  ((d.wr (Reg.engPc e) (d.rd (Reg.engEntry e))).put (Fld.engLoadPeak e) 0).setEngSt e EngSt.running

/-- ENGINE_START (R384, R564). -/
def Dev.engStart (d : Dev) (ag : Agent) (e : Nat) : Dev :=
  let st := d.engSt e
  if d.tooHot || st == EngSt.running || st == EngSt.waiting then d.engRefuse ag e else d.engBegin e

/-- The engine's sources fall silent (R375). -/
def Dev.engSilence (d : Dev) (e : Nat) : Dev := d.modEng e (fun x => { x with sil := .half, stepReq := false })

/-- The effect of STOP (R375, R384). -/
def Dev.engHalt (d : Dev) (e : Nat) : Dev := (d.setEngSt e EngSt.stopped).engSilence e

/-- ENGINE_STOP (R384). -/
def Dev.engStop (d : Dev) (ag : Agent) (e : Nat) : Dev := if d.engBusy e then d.engHalt e else d.engRefuse ag e

/-- ENGINE_RESUME (R378, R384, R564). -/
def Dev.engResume (d : Dev) (ag : Agent) (e : Nat) : Dev :=
  if d.tooHot || d.engSt e != EngSt.stopped then d.engRefuse ag e
  else (d.modEng e (fun x => { x with sil := .off, zeros := d.engZeros e, stepReq := false })).setEngSt e EngSt.running

/-- STEP commanded (R384): the bundle issues by ENGINE_STEP or ENGINE_BUNDLE. -/
def Dev.engStepReq (d : Dev) (ag : Agent) (e : Nat) : Dev :=
  if d.engSt e = EngSt.stopped then d.modEng e (fun x => { x with stepReq := true }) else d.engRefuse ag e

/-- ENGINE_CLR_CNT (R381). -/
def Dev.engClr (d : Dev) (e : Nat) : Dev := d.wr (Reg.engRingstat e) 0

/-- A write to ENGn_CTRL (R381). -/
def Dev.engCtrl (d : Dev) (ag : Agent) (e : Nat) (v : Word) : Dev :=
  let d := if bitOf v.toNat 4 then d.engClr e else d
  match bitsOf v.toNat 0 4 with
  | 1 => d.engStart ag e
  | 2 => d.engStop ag e
  | 3 => d.engResume ag e
  | 4 => d.engStepReq ag e
  | _ => d

/-- DOORBELL (R380). -/
def Dev.doorbell (d : Dev) (e : Nat) (v : Word) : Dev := (d.wr (Reg.engDoorbell e) v).raise e 18

/-- RING_CONFIG_WRITE to RINGIN, RINGOUT or RINGGEOM (R379): stored only in RESET or STOPPED and within the conditions. -/
def Dev.ringWrite (d : Dev) (ag : Agent) (e a : Nat) (v : Word) : Dev :=
  let m : Word := if a = Reg.engRinggeom e then 0x1717 else 0x3FFC0
  let d' := d.wr a (v &&& m)
  if (d.engSt e = EngSt.reset ∨ d.engSt e = EngSt.stopped) ∧ d'.ringOk e then d' else d.viol 0 ag a

/-- ENGn_STATUS as it reads (R382). -/
def Dev.engStatus (d : Dev) (e : Nat) : Word :=
  let x := d.eng e
  let w := (d.rd (Reg.engStatus e)).toNat
  BitVec.ofNat 32 (setBits (setBits (setBits w 27 1 (if x.fast then 1 else 0)) 26 1 (if x.trap then 1 else 0)) 25 1
    (if x.loop then 1 else 0))

/-- DIE0_SHUTDOWN (R564): throttled for 50 ms (`long`), or 135 °C: every engine is stopped as by STOP. -/
def Dev.shutdown (d : Dev) (t : Int) (long : Bool) : Dev :=
  let d := d.showTemp 0 t
  if t < 1080 ∧ !(long && d.is (Fld.engStatusThrottled 0) && decide (1000 ≤ t)) then d
  else
    let d := d.each (List.range 16) (fun d e => if d.engBusy e then d.engHalt e else d)
    (d.modPwr (fun p => { p with hot := true })).happen Fld.monThevShutdown

/-! ### DMA channels -/

/-- DMA_CHc_STATUS.state (R432). -/
abbrev ChSt.idle : Nat := 0
abbrev ChSt.fetch : Nat := 1
abbrev ChSt.active : Nat := 2
abbrev ChSt.waitDesc : Nat := 3
abbrev ChSt.stopping : Nat := 4
abbrev ChSt.stopped : Nat := 5
abbrev ChSt.faulted : Nat := 6

/-- Channel `c`. -/
def Dev.chan (d : Dev) (c : Nat) : Chan := SMap.get Chan.init d.chans c

/-- Set channel `c`; its beats in flight show in STATUS (R432). -/
def Dev.setChan (d : Dev) (c : Nat) (x : Chan) : Dev :=
  ({ d with chans := SMap.set Chan.init d.chans c x }).put (Fld.dmaChStatusInflight c) x.beats.length

/-- Change channel `c`. -/
def Dev.modChan (d : Dev) (c : Nat) (f : Chan → Chan) : Dev := d.setChan c (f (d.chan c))

/-- The state of channel `c` (R432). -/
def Dev.chSt (d : Dev) (c : Nat) : Nat := d.get (Fld.dmaChStatusState c)

/-- Set the state of channel `c`. -/
def Dev.setChSt (d : Dev) (c st : Nat) : Dev := d.put (Fld.dmaChStatusState c) st

/-- A command or a write that the channel's state does not permit (R429 to R431). -/
def Dev.dmaRefuse (d : Dev) (ag : Agent) (a : Nat) : Dev := d.viol 0 ag a

/-- The fault record is cleared (R431). -/
def Dev.clearFault (d : Dev) (c : Nat) : Dev :=
  d.clrRegs [Reg.dmaChFault0 c, Reg.dmaChFault1 c, Reg.dmaChFault2 c, Reg.dmaChFault3 c, Reg.dmaChFault4 c]

/-- Fetch the descriptor at address `a` (R413). -/
def Dev.dmaFetch (d : Dev) (c a : Nat) (resume : Bool) : Dev :=
  let d := d.wr (Reg.dmaChCurdesc c) (BitVec.ofNat 32 (a / 32 * 32))
  let d := if resume then d else d.put (Fld.dmaChOffsetBytes c) 0
  let refused := if resume then (d.chan c).refused else 0
  (d.setChan c { Chan.init with resume := resume, refused := refused }).setChSt c ChSt.fetch

/-- DMA_START (R431). -/
def Dev.dmaStart (d : Dev) (ag : Agent) (c : Nat) : Dev :=
  let st := d.chSt c
  if st = ChSt.idle ∨ st = ChSt.stopped ∨ st = ChSt.faulted then
    (d.clearFault c).dmaFetch c (d.rd (Reg.dmaChDesc c)).toNat false
  else d.dmaRefuse ag (Reg.dmaChCtrl c)

/-- The channel stops as by STOP (R421): beats in flight commit first. -/
def Dev.dmaHalt (d : Dev) (c : Nat) : Dev :=
  d.setChSt c (if d.chSt c = ChSt.active ∧ (d.chan c).beats ≠ [] then ChSt.stopping else ChSt.stopped)

/-- DMA_STOP (R421, R431). -/
def Dev.dmaStop (d : Dev) (ag : Agent) (c : Nat) : Dev :=
  let st := d.chSt c
  if st = ChSt.fetch ∨ st = ChSt.active ∨ st = ChSt.waitDesc then d.dmaHalt c else d.dmaRefuse ag (Reg.dmaChCtrl c)

/-- DMA_RESUME (R420, R423). -/
def Dev.dmaResume (d : Dev) (ag : Agent) (c : Nat) : Dev :=
  let st := d.chSt c
  if st = ChSt.stopped ∨ st = ChSt.faulted then d.dmaFetch c (d.rd (Reg.dmaChCurdesc c)).toNat true
  else d.dmaRefuse ag (Reg.dmaChCtrl c)

/-- KICK (R413, R431): outside WAIT_DESC it is ignored and not counted. -/
def Dev.dmaKick (d : Dev) (c : Nat) : Dev :=
  if d.chSt c = ChSt.waitDesc then d.setChSt c ChSt.fetch else d

/-- DMA_CLR_CNT (R430). -/
def Dev.dmaClr (d : Dev) (c : Nat) : Dev := d.wr (Reg.dmaChCount c) 0

/-- A write to DMA_CHc_CTRL (R430). -/
def Dev.dmaCtrl (d : Dev) (ag : Agent) (c : Nat) (v : Word) : Dev :=
  let d := if bitOf v.toNat 4 then d.dmaClr c else d
  match bitsOf v.toNat 0 4 with
  | 1 => d.dmaStart ag c
  | 2 => d.dmaStop ag c
  | 3 => d.dmaResume ag c
  | 4 => d.dmaKick c
  | _ => d

/-- DMA_CFG_WRITE to CFG or DESC (R429, R430). -/
def Dev.dmaCfg (d : Dev) (ag : Agent) (c a : Nat) (v : Word) : Dev :=
  if d.chanBusy c then d.dmaRefuse ag a
  else d.wr a (v &&& (if a = Reg.dmaChCfg c then 0x8FFF001F else 0xFFFFFFE0))

/-- Beats in flight across the device (R435). -/
def Dev.inflight (d : Dev) : Nat := (d.chans.map (fun e => e.2.beats.length)).sum

/-- The bitmap word `w` of the channels that satisfy a condition (R435). -/
def chanMap (w : Nat) (p : Nat → Bool) : Word :=
  BitVec.ofNat 32 ((List.range 32).foldl (fun m i => if p (32 * w + i) then orBit m i else m) 0)

/-- A double fault or a halt of engine `e` stops the channels linked to it (R426). -/
def Dev.haltLinked (d : Dev) (e : Nat) : Dev :=
  d.each (List.range 64) (fun d c =>
    if d.is (Fld.dmaChCfgHaltLink c) && d.get (Fld.dmaChCfgOwner c) == e &&
        [ChSt.fetch, ChSt.active, ChSt.waitDesc].contains (d.chSt c) then d.dmaHalt c
    else d)

end Sys2Proof.Machine
end

