-- ==== Sys2Proof/Machine/Reset.lean ====
section
/-! DEFINITION. Resets, the boot tests and what survives a reset (chapters 18 and 19, R517 to R519, R554, R555, R557). -/
namespace Sys2Proof.Machine

/-- Codes of the resets (R554). -/
abbrev Rst.por : Nat := 0
abbrev Rst.bor : Nat := 1
abbrev Rst.pin : Nat := 2
abbrev Rst.wdt : Nat := 3
abbrev Rst.soft : Nat := 4
abbrev Rst.link : Nat := 6
abbrev Rst.hinge : Nat := 7

/-- Counters and records since POR (R557). -/
def sincePor : List Fld :=
  [Fld.clkStatusAcqFail, Fld.keyFadeDropped, Fld.keyFadeSerial, Fld.tumbCommitsCommits, Fld.outClrstatAsserts,
   Fld.lbxStatusWipes, Fld.ktTamperCount, Fld.pwrTxnRefusals]

/-- Fields that every reset keeps: the keyturn store's boot count and the repair pool's use (R523, R529, R557). -/
def keptAlways : List Fld := [Fld.ktBootcntCount, Fld.repStatusFull, Fld.repStatusUsed]

/-- Failed marks of channels and outputs, the clear cause of row 4 of R196 among them (R557). -/
def failedMarks : List Fld :=
  (List.range 8).map Fld.anainChStatusFailed ++ (List.range 4).map Fld.spkStatusHizCauseStage

/-- The fields that reset `c` keeps (R557). -/
def keptBy (c : Nat) : List Fld :=
  keptAlways ++
    (if c = Rst.por then [] else
      sincePor ++ [Fld.sysRstcauseHistory, Fld.sysRstcauseSupply, Fld.sysRstcauseLast, Fld.pwrWakecfgEn, Fld.monSupcntPvdd,
        Fld.monSupcntAvdd18, Fld.monSupcntIo33, Fld.monSupcntCore]) ++
    (if c = Rst.bor ∨ c = Rst.hinge then [Fld.linkNodeidId, Fld.linkNodeidValid] else []) ++
    (if c = Rst.bor ∨ c = Rst.link ∨ c = Rst.hinge then failedMarks else [])

/-- Whole registers that reset `c` keeps: the pool's entries, and the wake states but for POR (R523, R557). -/
def keepsReg (c a : Nat) : Bool :=
  decide (Reg.repEntryLoc 0 ≤ a ∧ a ≤ Reg.repEntryInfo 511) ||
    (c != Rst.por && (List.range 3).any (fun w => a == Reg.pwrWakestate w))

/-- The registers after reset `c` (R557, R517): hardware values but for what survives. -/
def Dev.resetRegs (d : Dev) (c : Nat) : Dev :=
  let d' := { d with regs := (d.regs.filter (fun e => keepsReg c e.1)) }
  let d' := d'.each [0, 1, 2] (fun x w => x.wr (Reg.pwrState w) (SMap.get 0 Regs.reset (Reg.pwrState w)))
  let d' := d'.each (List.range 10) (fun x o => x.wr (Reg.outStatus o) 0x1000000F)
  let d' := d'.each (keptBy c) (fun x f => x.put f (d.get f))
  let failed (o : Nat) : Bool := (c == Rst.bor || c == Rst.link || c == Rst.hinge) && bitOf (d.clrCauses o) Cause.failed
  d'.each (List.range 10) (fun x o => if failed o then x.setCause o Cause.failed true else x)

/-- Levels of pins that a reset does not change: OUT_CLR_N, and the supplies below their warning thresholds, which a POR or a
BOR begins again but for PVDD (R194, R560, R562). -/
def Dev.resetPins (d : Dev) (old : Dev) (c : Nat) : Dev :=
  let low := if c = Rst.por ∨ c = Rst.bor then old.pins.low &&& 8 else old.pins.low
  let d := d.modPins (fun p => { p with twinSel := old.pins.twinSel, outClr := old.pins.outClr, low := low, pvdd := old.pins.pvdd })
  let d := (d.put Fld.monSupstatBelow low).each (bitList 4 low) (fun d i => d.happenAt Fld.monSupevWarn i)
  let d := if old.pins.outClr then
    (d.put Fld.outClrstatPinLow 1).each (List.range 10) (fun d o => d.setCause o Cause.outClr true) else d
  ({ d with intc := { d.intc with ext := old.intc.ext }, usb := { d.usb with vbusOk := old.usb.vbusOk } }).flag
    Fld.usbStatusVbus old.usb.vbusOk

/-- What reset `c` leaves of the device: the keyturn store and the pool, with a turn or burn in progress cut short (R524,
R525), the registers of R557, and the pins. -/
def Dev.afterReset (d : Dev) (c : Nat) : Dev :=
  let d := (d.cutTurn).cutBurn
  let kt := { Kt.init with slots := d.kt.slots, sealed := d.kt.sealed, lost := d.kt.lost,
                           hold := if c = Rst.por then [] else d.kt.hold }
  let d' := { Dev.reset with regs := d.regs, kt := kt, free := d.free }
  (d'.resetRegs c).resetPins d c

/-- The record of a reset (R555, R565); `supply`: for BOR the supplies that fell. -/
def Dev.recordReset (d : Dev) (c supply : Nat) : Dev :=
  let d := (d.put Fld.sysRstcauseLast c).setBit Fld.sysRstcauseHistory c
  if c = Rst.bor then d.put Fld.sysRstcauseSupply supply else d

/-- Reset `c` is asserted (R554, R555, R557): pads and outputs go to their reset states, memories are cleared (the lockbox
at POR only), and the device stays in reset until its release. -/
def State.assertReset (s : State) (c supply : Nat) : State :=
  let s := s.erase (fun a => c == Rst.por || decide (a < 0x600000))
  s.on (fun d => ((d.afterReset c).recordReset c supply).modPwr (fun p => { p with inReset := true }))

/-- POR (R554, R529): the boot count advances and saturates. -/
def State.por (s : State) : State := (s.assertReset Rst.por 0).on (·.inc Fld.ktBootcntCount)

/-- BOR (R554): `supply` bit 0 VDD_CORE, 1 VDD_IO33, 2 AVDD18. -/
def State.bor (s : State) (supply : Nat) : State := s.assertReset Rst.bor supply

/-- WDT_RESET (R556): the watchdog expires. -/
def State.wdtReset (s : State) : State := if s.dev.wdtCounts then s.assertReset Rst.wdt 0 else s

/-- A write to SYS_RSTCTRL (R565). -/
def State.rstCtrl (s : State) (ag : Agent) (v : Word) : State :=
  if bitsOf v.toNat 16 16 ≠ guardKey then s.on (·.viol 0 ag Reg.sysRstctrl)
  else if bitsOf v.toNat 0 4 = 1 then s.assertReset Rst.soft 0
  else s

/-- The I2C base in effect (R571): while no turn is spent, a package whose TWIN_SEL is high uses base 0x3C. -/
def Dev.i2cBase (d : Dev) : Nat :=
  if (d.ktTop 23).isNone && d.pins.twinSel then 0x033C else d.kt! 23

/-- RESET_RELEASE (R517 step 1, R523, R525, R571): TWIN_SEL is sampled, hard repairs are applied, and a turn that was cut
short is reported. -/
def Dev.resetRelease (d : Dev) (twinSel : Bool) : Dev :=
  if !d.pwr.inReset then d
  else
    let d := (d.modPwr (fun p => { p with inReset := false })).modPins (fun p => { p with twinSel := twinSel })
    let d := (d.put Fld.hostifI2cnowBase d.i2cBase).applyPool
    if d.kt.lost then ({ d with kt := { d.kt with lost := false } }).happen Fld.repEventsTurnLost else d

/-! ### Boot tests (R517 to R519) -/

/-- What a boot-test finding is (R518): its number as an operand. -/
abbrev Find.row : Nat := 1
abbrev Find.group : Nat := 2
abbrev Find.logic : Nat := 3
abbrev Find.lockbox : Nat := 4
abbrev Find.adc : Nat := 5
abbrev Find.dac : Nat := 6
abbrev Find.segment : Nat := 7

/-- A finding: what it is, and its location word. -/
abbrev Finding := Nat × Nat

/-- A memory finding (R518): a spare of the bank; without one physical bank 16 takes a pool bank. The tile that fails
instead is left to `failingTiles`. -/
def Dev.memFinding (d : Dev) (kind l : Nat) : Dev :=
  let used := d.sparesUsed l kind
  if used < spareLimit kind then (d.takeSpare l kind).softRepair l kind used true
  else if Loc.bank l ≠ 0 ∧ d.memc.pool16.isNone then
    ({ d with memc := { d.memc with pool16 := some (Loc.bank l - 8) } }).softRepair (locWord 0 0 0 (Loc.bank l) 0 0) 4 16 true
  else d

/-- An ADC slice fails its test (R149, R150, R518). -/
def Dev.adcFinding (d : Dev) (l : Nat) : Dev :=
  let n := 4 * Loc.tile l + Loc.bank l
  let k := Loc.group l
  let r := d.get (Fld.anainChStatusRetired n)
  if r = k then d
  else if 9 ≤ r then
    ((d.retireAdc n k).happen (Fld.anainChEventsRetired n)).softRepair (adcLoc n k) 5 (if k = 8 then 7 else 8) true
  else (d.put (Fld.anainChStatusFailed n) 1).happen (Fld.anainChEventsFailed n)

/-- A DAC slice fails its test (R180, R181, R518): a third one in an output fails the output. -/
def Dev.dacFinding (d : Dev) (l : Nat) : Dev :=
  let o := locOutput l
  let k := Loc.group l
  if d.bit (Fld.outStatusRetiredMask o) k then d
  else if d.get (Fld.outStatusRetired o) < 2 then
    ((d.retireDac o k).happen (Fld.outEventsRetired o)).softRepair (dacLoc o k) 6
      (9 - d.get (Fld.outStatusRetired o)) true
  else (d.setCause o Cause.failed true).happen (Fld.outEventsFailed o)

/-- One finding (R518, R519). -/
def Dev.finding (d : Dev) (f : Finding) : Dev :=
  let (k, l) := f
  if k = Find.row ∨ k = Find.group then d.memFinding k l
  else if k = Find.lockbox then d.put Fld.repStatusLbxFail 1
  else if k = Find.adc then d.adcFinding l
  else if k = Find.dac then d.dacFinding l
  else if k = Find.segment then
    (if d.pins.pvdd then d.segBoot (2 * Loc.cluster l + Loc.tile l) (Loc.bank l) (Loc.group l) (Loc.cell l) else d)
  else d

/-- Findings of a bank of a physical tile that its spares do not cover, `used` of them taken before (R518). -/
def overSpares (d : Dev) (fs : List Finding) (c p kind : Nat) : Bool :=
  let l := locWord 0 c p 0 0 0
  decide (spareLimit kind < d.sparesUsed l kind +
    (fs.filter (fun f => f.1 == kind && Loc.die f.2 == 0 && locBank f.2 == locBank l)).length)

/-- Physical tile `p` of cluster `c` fails its tests (R518). -/
def tileFails (d : Dev) (fs : List Finding) (c p : Nat) : Bool :=
  fs.any (fun f => f.1 == Find.logic && Loc.cluster f.2 == c && Loc.tile f.2 == p) ||
    overSpares d fs c p 1 || overSpares d fs c p 2

/-- Failing tiles, cluster by cluster (R23, R518). -/
def Dev.failingTiles (d : Dev) (fs : List Finding) : Dev :=
  let bad := ((List.range 4).flatMap (fun c => (List.range 5).map (fun p => (c, p)))).filter (fun e => tileFails d fs e.1 e.2)
  let d := d.each fs Dev.finding
  d.each bad (fun d e => d.tileFailed e.1 e.2 (!bad.contains (e.1, 4)) true)

/-- The domain states between the boot tests and the first commit (R544), or in the diagnostic state (R532). -/
def bootDomain (diag : Bool) (k : Nat) : Nat :=
  if k ≤ Dom.dma then 2
  else if Dom.lineout ≤ k then (if diag then 0 else 2)
  else 0

/-- BOOT_TESTS_DONE (R517 to R519, R532, R544): findings repaired, results written, domains as R544, and the load from
BOOT_ORDER begins (R50); a RETIRED part enters the diagnostic state. -/
def Dev.bootTestsDone (d : Dev) (fs : List Finding) : Dev :=
  if d.bootSt ≠ BootSt.selftest ∨ d.pwr.inReset then d
  else
    let d := (d.failingTiles fs).flag Fld.repStatusSpkDeferred (!d.pins.pvdd)
    let d := (d.each (List.range 8) Dev.bootAin).each (List.range 10) Dev.bootSlices
    let d := (d.each (List.range 4) Dev.switchPersona).ceilings
    let diag := d.life == Life.retired
    let d := d.each allDomains (fun d k => (d.setDom k (bootDomain diag k)).setTarget k (bootDomain diag k))
    let d := d.releaseOuts
    if diag then d.setBoot BootSt.diagnostic else d.tryNext d.bootOrder

end Sys2Proof.Machine
end

