-- ==== Sys2Proof/Machine/Router.lean ====
section
/-! DEFINITION. Accesses of agents to the address map (R7, R9, R27 to R32): who is refused and in which category, what a write
to each register does, what a register reads, the writes held during a quiesce, and the end of an access. -/
namespace Sys2Proof.Machine

/-- Nothing out of the ordinary. -/
def Env.quiet : Env := ⟨false, false, false, 0, 0, []⟩

/-! ### Writes to registers -/

/-- The bits of an access mask of the register at `a`. -/
def maskOf (f : RegRow → Nat) (a : Nat) : Nat := (regRow a).elim 0 f

/-- A write to the RW and W1C bits of a register (R7, R9): the other bits keep their value. -/
def Dev.plain (d : Dev) (a : Nat) (v : Word) : Dev :=
  let rw := BitVec.ofNat 32 (maskOf (·.rw) a)
  let d := if rw = 0 then d else d.wr a ((d.rd a &&& ~~~ rw) ||| (v &&& rw))
  let w := maskOf (·.w1c) a
  if w = 0 then d else d.w1c a w v

/-- A write to EXTINTk (R450, R453): a level that begins to hold is an event, and one that no longer holds is withdrawn. -/
def Dev.extintWrite (d : Dev) (k : Nat) (v : Word) : Dev :=
  let was := d.level (160 + k)
  let d := d.plain (Reg.extint k) v
  if !d.isEdge (160 + k) && d.level (160 + k) && !was then d.srcEvent (160 + k) else d.settle [160 + k]

/-- A write to PORTn_CTRL or SPDIF_CTRL (R270, R277 to R279, R295, R322): without a port ward a 1 to either run bit is refused, and
counted once. -/
def Dev.unitCtrlWrite (d : Dev) (ag : Agent) (n : Nat) (v : Word) : Dev :=
  let d := if bitOf v.toNat 2 then d.portClr n else d
  if !d.portWard n && (bitOf v.toNat 0 || bitOf v.toNat 1) then d.viol 0 ag (unitCtrl n)
  else
    let one (d : Dev) (tx : Bool) : Dev :=
      if bitOf v.toNat (if tx then 1 else 0) then d.portStart ag n tx else d.portStop n tx
    one (one d false) true

/-- A go may issue a flash command (R584). -/
def Dev.flashFree (d : Dev) : Bool :=
  d.boot.everRun && d.bootSt != BootSt.hostwait && d.bootSt != BootSt.loading && !d.is Fld.qspiCmdBusy &&
    !(d.boot.load == some .boot || (d.boot.load == some .reseat && decide (1 ≤ d.get Fld.bootStatusSource) &&
        decide (d.get Fld.bootStatusSource ≤ 2)))

/-- A write to QSPI_CMD (R584, R587): a length above 256 is stored as 256; a go that may not issue is ignored and counted. -/
def Dev.qspiWrite (d : Dev) (ag : Agent) (v : Word) : Dev :=
  let n := v.toNat
  let len := bitsOf n 0 9
  let free := d.flashFree
  let d := d.plain Reg.qspiCmd (BitVec.ofNat 32 (setBits n 0 9 (min len 256)))
  if bitOf n 31 && !free then d.viol 0 ag Reg.qspiCmd
  else
    let d := if bitOf n 31 then d.put Fld.qspiCmdBusy 1 else d
    if 256 < len then d.viol 3 ag Reg.qspiCmd else d

/-- A write to OUT_CALCTRL (R208): a period below 480 is stored as 480. -/
def Dev.outCalWrite (d : Dev) (ag : Agent) (v : Word) : Dev :=
  let p := bitsOf v.toNat 16 16
  let d := d.plain Reg.outCalctrl (BitVec.ofNat 32 (setBits v.toNat 16 16 (max 480 p)))
  if p < 480 then d.viol 3 ag Reg.outCalctrl else d

/-- A write to SPKn_PILOT (R237): a count of 0 is stored as 1. -/
def Dev.pilotWrite (d : Dev) (ag : Agent) (n : Nat) (v : Word) : Dev :=
  let f := Fld.spkPilotCount n
  if f.of v = 0 then (d.plain f.addr (f.into v 1)).viol 3 ag f.addr else d.plain f.addr v

/-- Events of an output cleared (R186, R189, R219): what waits for the clear follows. -/
def Dev.outEventsWrite (d : Dev) (o : Nat) (v : Word) : Dev :=
  let d := d.plain (Reg.outEvents o) v
  if o < 4 then d.complianceCleared o else if o < 6 then d.hpCleared o else d.shortCleared (o - 6)

/-- A write to an output's CTRL (R205, R233): run, and on a speaker diag. -/
def Dev.outCtrlWrite (d : Dev) (ag : Agent) (o : Nat) (v : Word) : Dev :=
  let d := d.outputRun ag o (bitOf v.toNat 0)
  if isSpk o && bitOf v.toNat 4 then d.spkDiag ag (o - 6) else d

/-- The output whose register block of R27 holds `a`, and the register's offset. -/
def outOf (a : Nat) : Option (Nat × Nat) :=
  if 0x890000 ≤ a ∧ a < 0x890100 then some ((a - 0x890000) / 64, (a - 0x890000) % 64)
  else if 0x891000 ≤ a ∧ a < 0x891080 then some (4 + (a - 0x891000) / 64, (a - 0x891000) % 64)
  else if 0x892000 ≤ a ∧ a < 0x892100 then some (6 + (a - 0x892000) / 64, (a - 0x892000) % 64)
  else none

/-- A write to block OUT (chapters 06 and 07). -/
def Dev.outWrite (d : Dev) (ag : Agent) (a : Nat) (v : Word) : Dev :=
  if a = Reg.outCalctrl then d.outCalWrite ag v
  else match outOf a with
    | some (o, 8) => d.outCtrlWrite ag o v
    | some (o, 16) => d.outEventsWrite o v
    | some (o, 0x24) => if isSpk o then d.pilotWrite ag (o - 6) v else d.plain a v
    | _ => d.plain a v

/-- A write to block INTC (chapter 15). -/
def Dev.intcWrite (d : Dev) (ag : Agent) (a : Nat) (v : Word) : Dev :=
  if a = Reg.intcSwset then d.swset ag v
  else if 0x830100 ≤ a ∧ a < 0x830140 then d.extintWrite ((a - 0x830100) / 4) v
  else if 0x833000 ≤ a ∧ a < 0x833480 then
    let t := (a - 0x833000) / 64
    let r := (a - 0x833000) % 64
    if r = 0 then d.complete ag t false (bitsOf v.toNat 0 10)
    else if r = 16 then (if t < 16 then d.complete ag t true (bitsOf v.toNat 0 10) else d)
    else d.plain a v
  else match cfgSource a with
    | some k => if (regRow a).isNone then d else if a % 8 = 0 then d.cfgWrite ag k v else d.coalWrite ag k v
    | none => d.plain a v

/-- A write to block DMA with the windows and MEM (chapters 13 and 14). -/
def Dev.dmaWrite (d : Dev) (ag : Agent) (a : Nat) (v : Word) : Dev :=
  if a < 0x841000 then
    let c := (a - 0x840000) / 64
    let r := (a - 0x840000) % 64
    if r = 0 ∨ r = 4 then d.dmaCfg ag c a v else if r = 8 then d.dmaCtrl ag c v else d.plain a v
  else if 0x848000 ≤ a ∧ a < 0x84A000 then d.winWrite ag a v
  else if a = Reg.memCtrl then d.memCtrl v
  else if a = Reg.memScrubcfg then d.scrubCfg ag v
  else d.plain a v

/-- A write to block PORT with S/PDIF and the rate monitors (chapters 09 and 10). -/
def Dev.portWrite (d : Dev) (ag : Agent) (a : Nat) (v : Word) : Dev :=
  if a < 0x866000 ∧ a % 0x1000 = 0x10 then d.unitCtrlWrite ag ((a - 0x860000) / 0x1000) v
  else if a = Reg.spdifCtrl then d.unitCtrlWrite ag 6 v
  else if a = Reg.spdifNpcfg then d.npCfg ag v
  else if a = Reg.rmonCtrl then d.rmonClr v
  else d.plain a v

/-- A write to block LINK (chapter 16). -/
def Dev.linkWrite (d : Dev) (ag : Agent) (a : Nat) (v : Word) : Dev :=
  if a = Reg.linkNodeid then d.nodeIdWrite ag v
  else if a = Reg.linkCtrl then (if bitOf v.toNat 0 then d.linkClr else d)
  else if a = Reg.linkTxctrl then (if bitOf v.toNat 0 then d.linkSend else d)
  else if a = Reg.linkRxstat then (if bitOf v.toNat 0 then d.linkPop else d)
  else if 0x8B0100 ≤ a ∧ a < 0x8B0160 ∧ a % 32 = 4 then d.lportCtrl ((a - 0x8B0100) / 32) v
  else d.plain a v

/-- A write to block PWR (chapter 19). -/
def Dev.pwrWrite (d : Dev) (ag : Agent) (a : Nat) (v : Word) : Dev :=
  if a < 0x82000C then d.targetWrite ag ((a - 0x820000) / 4) v
  else if a = Reg.pwrShackle 0 then d.shackleWrite ag 0 v
  else if a = Reg.pwrShackle 1 then d.shackleWrite ag 1 v
  else if a = Reg.pwrClksel 0 then d.clkselWrite ag 0 v
  else if a = Reg.pwrClksel 1 then d.clkselWrite ag 1 v
  else if a = Reg.pwrSleepcfg then d.sleepCfg ag v
  else if a = Reg.pwrWakestate 2 then d.plain a (v &&& 0x0FFFFFFF)
  else d.plain a v

/-- The setting whose KT register lies at `a` (R538). -/
def ktSetting (a : Nat) : Option Nat := (List.range 26).find? (fun i => ktReg i == a)

/-- The holding word whose register lies at `a` (R528). -/
def ktHoldOf (a : Nat) : Option Nat :=
  if a = Reg.ktLikeness0 then some 0
  else if Reg.ktRoothash 0 ≤ a ∧ a < Reg.ktRoothash 7 then some ((a - Reg.ktRoothash 0) / 4 + 1) else none

/-- A write to blocks KEYTURN and REPAIR by the host (chapter 18). -/
def Dev.ktBlockWrite (d : Dev) (ag : Agent) (a : Nat) (v : Word) : Dev :=
  match ktSetting a with
  | some i => d.ktWrite i v
  | none => match ktHoldOf a with
    | some w => d.ktHolding w v
    | none => if a = Reg.repCtrl then d.repCtrl ag v else d.plain a v

/-- A write to blocks MON and VIOL (R537, R541, R567). -/
def Dev.monWrite (d : Dev) (a : Nat) (v : Word) : Dev :=
  if a = Reg.monSupev then d.supevClear v
  else if a = Reg.monThev then d.thevClear v
  else if a = Reg.monCtrl then (if bitOf v.toNat 0 then d.supplyResume else d)
  else if 0x908000 ≤ a ∧ a < 0x908040 then d.wr a 0
  else d.plain a v

/-- A write to an engine's control block (chapter 12). -/
def Dev.engWrite (d : Dev) (ag : Agent) (a : Nat) (v : Word) : Dev :=
  let e := (a - 0xA00000) / 0x1000
  if a = Reg.engCtrl e then d.engCtrl ag e v
  else if a = Reg.engRingin e ∨ a = Reg.engRingout e ∨ a = Reg.engRinggeom e then d.ringWrite ag e a v
  else if a = Reg.engDoorbell e then d.doorbell e v
  else if a = Reg.engRegdata e then d.regDataWrite ag e v
  else d.plain a v

/-- A write to blocks JACK, CLK, PDM with ASRC, ANAIN, USB and HOSTIF, and to SYS's watchdog. -/
def Dev.miscWrite (d : Dev) (env : Env) (ag : Agent) (a : Nat) (v : Word) : Dev :=
  if a = Reg.sysWdtcfg then d.wdtCfg ag v
  else if a = Reg.sysWdtkick then d.wdtKick ag v
  else if a = Reg.clkPllcfg ∨ a = Reg.clkPllfrac then d.pllWrite ag a v
  else if a = Reg.clkRefsel then d.refselWrite ag v
  else if a = Reg.clkCtrl then d.clkCtrl ag env.near v
  else if 0x870000 ≤ a ∧ a < 0x870020 then d.pdmClkWrite ag ((a - 0x870000) / 4) v
  else if a = Reg.asrcCtrl then d.asrcClr v
  else if a = Reg.anainCalctrl then d.ainCalWrite ag v
  else if 0x8A0000 ≤ a ∧ a < 0x8A0020 then
    (if a % 8 = 0 then d.jdWrite ag ((a - 0x8A0000) / 8) v else d.jdMuteWrite ((a - 0x8A0000) / 8) v)
  else if a = Reg.hsCtrl 0 then d.hsCtrl 0 v
  else if a = Reg.hsCtrl 1 then d.hsCtrl 1 v
  else if a = Reg.hsBtncfg 0 then d.btnCfg ag 0 v
  else if a = Reg.hsBtncfg 1 then d.btnCfg ag 1 v
  else if 0x8A0100 ≤ a ∧ a < 0x8A01A0 ∧ a % 16 = 4 then d.seqMute ((a - 0x8A0100) / 16) (bitOf v.toNat 0)
  else if a = Reg.usbCtrl then d.usbCtrl v
  else if a = Reg.usbHidin then d.usbHidin v
  else if a = Reg.hostifI2ccfg then d.i2cCfg ag v
  else if a = Reg.qspiCmd then d.qspiWrite ag v
  else d.plain a v

/-- A write to a register that has been let through (R7): RWT words are staged (R118); the others act by block. -/
def Dev.regWrite (d : Dev) (env : Env) (ag : Agent) (a : Nat) (v : Word) : Dev :=
  if rwtMask a ≠ 0 then d.stage ag a v
  else if a / 0x10000 = 0x82 then d.pwrWrite ag a v
  else if a / 0x10000 = 0x83 then d.intcWrite ag a v
  else if a / 0x10000 = 0x84 then d.dmaWrite ag a v
  else if a = Reg.tumbCtrl then d.tumbCtrl ag env.late v
  else if a / 0x10000 = 0x86 then d.portWrite ag a v
  else if a / 0x10000 = 0x89 then d.outWrite ag a v
  else if a / 0x10000 = 0x8B then d.linkWrite ag a v
  else if a = Reg.hingeCtrl then d.hingeCtrl ag v
  else if a / 0x10000 = 0x8F then d.ktBlockWrite ag a v
  else if a / 0x10000 = 0x90 then d.monWrite a v
  else if a / 0x10000 = 0xA0 then d.engWrite ag a v
  else d.miscWrite env ag a v

/-! ### Who is let through (R23, R29 to R31, R49, R58, R502, R526) -/

/-- The power domain that holds the storage at an address (R27, R28). -/
def Dev.addrDom (d : Dev) (a : Nat) : Option Nat :=
  match d.region a with
  | .tile n => some n
  | .pool b => some (Dom.pool b)
  | .reg => regDom a
  | _ => none

/-- The control block of an engine whose tile is unavailable (R23). -/
def Dev.tileGone (d : Dev) (a : Nat) : Bool :=
  decide (0xA00000 ≤ a ∧ a < 0xA10000) && d.unavail ((a - 0xA00000) / 0x1000)

/-- A register access that its domain refuses (R23, R30); an RWT register needs the tumbler's domain (R118). -/
def Dev.downHere (d : Dev) (a : Nat) (write : Bool) : Bool :=
  (regDom a).any (fun k => !d.on k) || d.tileGone a || (write && rwtMask a != 0 && !d.on Dom.keyway)

/-- Host writes that a package in STANDBY or PAIRING accepts (R502): the HINGE block, KEYTURN and REPAIR, MON and VIOL, W1C
fields, host-load commands in host-wait, and RESEAT in PAIRING. -/
def Dev.roleAccepts (d : Dev) (a : Nat) (v : Word) : Bool :=
  let b := a / 0x10000
  b == 0x8C || b == 0x8F || b == 0x90 || maskOf (·.w1c) a != 0 ||
    (a == Reg.bootCtrl && d.bootSt == BootSt.hostwait) || (a == Reg.bootHostdata && d.hostLoads && d.boot.load == some .host) ||
    (a == Reg.bootCtrl && d.boot.load == some .host && bitsOf v.toNat 0 4 == 4) ||
    (d.role == Role.pairing && (a == Reg.bootCtrl && bitsOf v.toNat 0 4 == 2)) ||
    (a == Reg.bootHostdata && d.boot.load == some .reseat)

/-- The category in which a write is refused, or none; refusals in no category are those of unmapped addresses. The lowest
category that applies counts (R535). -/
def Dev.writeGate (d : Dev) (ag : Agent) (a : Nat) (v : Word) : Option Nat :=
  let host := ag == Agent.host
  let mem : Option Nat := match d.region a with
    | .reg => if d.downHere a true then some 4 else none
    | _ => match d.reach false a with
      | .refused c => some c
      | _ => none
  if host && !d.boot.everRun && a / 0x10000 != 0x8E && (ktSetting a).isNone then some 0
  else if !host && a / 0x10000 = 0x8F then some 0
  else match mem with
    | some c => some c
    | none =>
      if host && d.released && !d.roleAccepts a v then some 10
      else if host && d.boot.reseat ≠ 0 && a / 0x10000 = 0x81 then some 14
      else none

/-- The write waits for the end of a quiesce (R546), or behind a write of the same host access that does. -/
def Dev.holdsWrite (d : Dev) (ag : Agent) (a : Nat) : Bool :=
  (d.addrDom a).any (fun k => d.quiescing k && d.on k) || (ag == .host && d.pwr.held.any (fun h => h.1 == 16))

/-! ### Mirroring (R500) -/

/-- The WO counter-clear bits of a register (R500). -/
def clearBits (a : Nat) : Nat :=
  if (0x860000 ≤ a ∧ a < 0x866000 ∧ a % 0x1000 = 0x10) ∨ a = Reg.spdifCtrl then 4
  else if 0xA00000 ≤ a ∧ a < 0xA10000 ∧ a % 0x1000 = 0 then 16
  else if 0x840000 ≤ a ∧ a < 0x841000 ∧ a % 64 = 8 then 16
  else if a = Reg.memCtrl then 3
  else if a = Reg.rmonCtrl then 0x1FFF
  else if a = Reg.asrcCtrl then 0x3FFF
  else if a = Reg.linkCtrl then 1
  else if a = Reg.usbCtrl then 8
  else 0

/-- The counters that a write clears (R500): this part is never mirrored. -/
def Dev.clearPart (d : Dev) (a : Nat) (v : Word) : Dev :=
  let n := v.toNat
  if clearBits a &&& n = 0 then d
  else if a = Reg.spdifCtrl then d.portClr 6
  else if a / 0x10000 = 0x86 ∧ a < 0x866000 then d.portClr ((a - 0x860000) / 0x1000)
  else if a / 0x10000 = 0xA0 then d.engClr ((a - 0xA00000) / 0x1000)
  else if a = Reg.memCtrl then d.memCtrl v
  else if a / 0x10000 = 0x84 then d.dmaClr ((a - 0x840000) / 64)
  else if a = Reg.rmonCtrl then d.rmonClr v
  else if a = Reg.asrcCtrl then d.asrcClr v
  else if a = Reg.linkCtrl then d.linkClr
  else (d.wr Reg.usbCount0 0).wr Reg.usbCount1 0

/-- A host write of a pair (R500): what is not mirrored acts at once, and the rest is carried as a batch entry. -/
def Dev.mirrorWrite (d : Dev) (a : Nat) (v : Word) : Dev :=
  let c := clearBits a
  let d := d.clearPart a v
  if c = 3 ∨ c = 1 ∨ c = 0x1FFF ∨ c = 0x3FFF then d
  else d.mirror a (v &&& ~~~ BitVec.ofNat 32 c)

/-- The write is carried to both packages of a pair. -/
def Dev.mirrors (d : Dev) (ag : Agent) (a : Nat) : Bool :=
  ag == Agent.host && d.hasStandby && !unmirrored a && maskOf (·.w1c) a == 0

/-! ### One word -/

/-- The effect of a write of one word that has been let through. -/
def State.applyWord (s : State) (env : Env) (ag : Agent) (a : Nat) (v : Word) : State :=
  match s.dev.region a with
  | .unmapped => s
  | .reg =>
    if a = Reg.sysRstctrl then s.rstCtrl ag v
    else if a = Reg.bootCtrl then s.bootCtrl ag v
    else if a = Reg.bootHostdata then s.hostData env.spi env.taken env.partner v
    else s.on (·.regWrite env ag a v)
  | _ => s.agentWrite ag ag.code false env.errs a (leBytes 4 v.toNat)

/-- A write of one word by an agent at an address (R7, R29 to R32): aligned to 4. -/
def State.writeWord (s : State) (env : Env) (ag : Agent) (addr : Nat) (v : Word) : State :=
  let a := addr / 4 * 4
  if s.dev.region a = .unmapped then s
  else match s.dev.writeGate ag a v with
    | some c => s.on (·.viol c ag a)
    | none =>
      if s.dev.holdsWrite ag a then s.on (·.modPwr (fun p => { p with held := p.held ++ [(ag.code, a, v)] }))
      else if s.dev.mirrors ag a then s.on (·.mirrorWrite a v)
      else s.applyWord env ag a v

/-- What a KT setting register reads (R528, R538): the current value. -/
def Dev.ktRead (d : Dev) (a : Nat) : Option Word :=
  if a = Reg.ktLikeness0 then some (BitVec.ofNat 32 (d.kt! 0))
  else if a = Reg.ktLikeness1 then some (BitVec.ofNat 32 (d.kt! 0 / 2 ^ 32))
  else if Reg.ktRoothash 0 ≤ a ∧ a ≤ Reg.ktRoothash 7 then
    some (BitVec.ofNat 32 (bitsOf (d.kt! 1) (32 * ((a - Reg.ktRoothash 0) / 4)) 32))
  else if a = Reg.ktSecret then some 0
  else (ktSetting a).map (fun i => BitVec.ofNat 32 (d.kt! i))

/-- What a register of block KEYTURN reads (R538, R539). -/
def Dev.ktBlockRead (d : Dev) (a : Nat) : Word :=
  match d.ktRead a with
  | some w => w
  | none =>
    if a = Reg.ktStatus then Fld.ktStatusLifecycle.into (d.rd a) d.life
    else if Reg.ktUse 0 ≤ a ∧ a ≤ Reg.ktUse 25 then
      let i := (a - Reg.ktUse 0) / 4
      BitVec.ofNat 32 (ktBudget i * 2 ^ 8 + d.ktSpent i)
    else if a = Reg.ktRec then
      let x := d.ktRec
      BitVec.ofNat 32 ((if x.used then 2 ^ 31 else 0) + (if x.sealed then 2 ^ 30 else 0) + x.stamp)
    else if a = Reg.ktRecval then (if d.get Fld.ktRecselSetting = 25 then 0 else BitVec.ofNat 32 d.ktRec.value)
    else d.rd a

/-- What a register of block INTC reads, claims apart (R453 to R457). -/
def Dev.intcRead (d : Dev) (a : Nat) : Word :=
  if 0x832000 ≤ a ∧ a < 0x832040 then d.pendWord ((a - 0x832000) / 4)
  else if 0x832040 ≤ a ∧ a < 0x832080 then d.actWord ((a - 0x832040) / 4)
  else if 0x832100 ≤ a ∧ a < 0x832200 then
    let e := (a - 0x832100) / 16
    d.stateWord (1024 + 64 * e) (32 * (a / 4 % 2)) (8 ≤ a % 16)
  else if 0x833000 ≤ a ∧ a < 0x833480 ∧ a % 64 = 12 then d.targetStatus ((a - 0x833000) / 64) false
  else if 0x833000 ≤ a ∧ a < 0x833480 ∧ a % 64 = 24 then d.targetStatus ((a - 0x833000) / 64) true
  else match cfgSource a with
    | some k => if a % 8 = 0 then BitVec.ofNat 32 (setBits (d.rd a).toNat 1 1 (d.edgeBit k / 2)) else d.rd a
    | none => d.rd a

/-- What a register of block KEYWAY reads (R121, R130, R131, R140, R141). -/
def Dev.keyRead (d : Dev) (a : Nat) : Word :=
  if a = Reg.keyUsage then d.usage
  else if a = Reg.keyFade then Fld.keyFadeShadows.into (d.rd a) d.shadows
  else if a = Reg.tumbStatus then
    Fld.tumbStatusCount.into (Fld.tumbStatusArmed.into (d.rd a) (if d.key.armed.isSome then 1 else 0)) d.key.entries.length
  else if 0x858400 ≤ a ∧ a < 0x858C00 then
    match d.key.entries[(a - 0x858400) / 8]? with
    | some e => if a % 8 = 0 then BitVec.ofNat 32 (e.key % 2 ^ 32 + e.key / 2 ^ 32) else e.value
    | none => 0
  else d.rd (windowKey a (d.get Fld.keyXppagePage))

/-- What a register of block DMA reads (R435). -/
def Dev.dmaRead (d : Dev) (a : Nat) : Word :=
  if a = Reg.dmaInflight then BitVec.ofNat 32 d.inflight
  else if a = Reg.dmaActive 0 then chanMap 0 d.chanBusy
  else if a = Reg.dmaActive 1 then chanMap 1 d.chanBusy
  else if a = Reg.dmaFaulted 0 then chanMap 0 (fun c => d.chSt c == ChSt.faulted)
  else if a = Reg.dmaFaulted 1 then chanMap 1 (fun c => d.chSt c == ChSt.faulted)
  else d.rd a

/-- The bits of a register that read as written or shown: WO bits read 0 (R7). -/
def shownBits (a : Nat) (w : Word) : Word := w &&& ~~~ BitVec.ofNat 32 (maskOf (·.wo) a)

/-- What PORTn_FMT reads: with an I2S or left-justified format, fs_width and fs_offset read what the format fixes (R266). -/
def Dev.fmtRead (d : Dev) (n : Nat) : Word :=
  let w := (d.rd (Reg.portFmt n)).toNat
  let f := d.get (Fld.portFmtFormat n)
  if d.portWard n && decide (f < 2) then BitVec.ofNat 32 (setBits (setBits w 17 2 2) 19 1 (1 - f)) else BitVec.ofNat 32 w

/-- What a register reads (R7), claims apart. -/
def Dev.regRead (d : Dev) (a : Nat) : Word :=
  if (regRow a).isNone then 0
  else if a / 0x10000 = 0x83 then d.intcRead a
  else if a / 0x10000 = 0x84 then d.dmaRead a
  else if a / 0x10000 = 0x85 then d.keyRead a
  else if a / 0x10000 = 0x86 ∧ a < 0x866000 ∧ a % 0x1000 = 0 then d.fmtRead ((a - 0x860000) / 0x1000)
  else if a / 0x10000 = 0x8F ∧ a < 0x8F8000 then d.ktBlockRead a
  else if a / 0x10000 = 0xA0 ∧ a % 0x1000 = 4 then d.engStatus ((a - 0xA00000) / 0x1000)
  else if a / 0x10000 = 0xA0 ∧ a % 0x1000 = 0x3C then d.regData ((a - 0xA00000) / 0x1000)
  else shownBits a (d.rd a)

/-- A read of a register with its side effect: a claim (R444). -/
def Dev.readReg (d : Dev) (a : Nat) : Dev × Word :=
  if 0x833000 ≤ a ∧ a < 0x833480 ∧ (a % 64 = 0 ∨ (a % 64 = 16 ∧ a < 0x833400)) then
    let (id, d) := d.claim ((a - 0x833000) / 64) (a % 64 == 16)
    (d, BitVec.ofNat 32 id)
  else (d, d.regRead a)

/-- A read of one word by an agent (R7, R23, R29 to R32, R49). -/
def State.readWord (s : State) (env : Env) (ag : Agent) (addr : Nat) : State × Word :=
  let a := addr / 4 * 4
  match s.dev.region a with
  | .unmapped => (s, 0)
  | .reg =>
    if s.dev.downHere a false && !(ag == Agent.host && !s.dev.boot.everRun) then (s.on (·.viol 4 ag a), 0)
    else
      let (d, w) := s.dev.readReg a
      ({ s with dev := d }, w)
  | _ =>
    let (s, bs) := s.agentRead ag ag.code false env.errs a 4
    (s, BitVec.ofNat 32 (leNat bs))

/-- The end of an access (R80, R545). -/
def State.endAccess (s : State) : State := s.on (fun d => (d.clkFlush).pwrFlush)

/-! ### The I2C read (R568 to R576) -/

/-- Change the host targets' state. -/
def Dev.modHost (d : Dev) (f : HostIf → HostIf) : Dev := { d with host := f d.host }

/-- The device is in neither host-wait nor the diagnostic state and a keyplan has committed (R570). -/
def Dev.i2cFree (d : Dev) : Bool :=
  d.boot.everRun && d.bootSt != BootSt.hostwait && d.bootSt != BootSt.diagnostic

/-- The target answers in mode 1 (R570). -/
def Dev.i2cFour (d : Dev) : Bool := d.i2cFree && d.is Fld.hostifI2ccfgMode

/-- The slot of HOSTIF_I2CADDR that answers address `a` (R570). -/
def Dev.i2cSlot (d : Dev) (a : Nat) : Option Nat :=
  let w := (d.rd Reg.hostifI2caddr).toNat
  (List.range 4).find? (fun k => bitOf w (8 * k + 7) && bitsOf w (8 * k) 7 == a)

/-- CRC-8 is used at address `a` (R574). -/
def Dev.i2cCrc (d : Dev) (a : Nat) : Bool :=
  if d.i2cFour then (d.i2cSlot a).any (fun k => d.bit Fld.hostifI2ccrcCrc k) else d.is Fld.hostifI2ccfgCrc

/-- The pointer advances past a word (R569). -/
def Dev.stepPtr (d : Dev) : Dev := d.modHost (fun h => { h with ptr := (h.ptr + 4) % 2 ^ 32 })

/-- The bytes of words in wire order, each followed by the check of what has been sent so far (R568, R574, R579). -/
def wireOut (crc : Option (List Byte → List Byte)) (head : List Byte) : List Word → List Byte
  | [] => []
  | w :: ws =>
    let bs := beBytes 4 w.toNat
    bs ++ (match crc with
      | some f => f (head ++ bs)
      | none => []) ++ wireOut crc (head ++ bs) ws

/-- Fetch the `n` words left of an I2C read from the pointer on, with their side effects (R569, R575), and send them all. A
word that reaches a domain asked to quiesce stretches the clock (R546, R576): the rest is fetched later. -/
def State.i2cFetch (s : State) (env : Env) (a : Nat) : Nat → List Word → State
  | 0, ws =>
    let f := if s.dev.i2cCrc a then some (fun bs => [BitVec.ofNat 8 (crc8 bs)]) else none
    (s.on (·.modHost (fun h => { h with out := wireOut f [BitVec.ofNat 8 (2 * a + 1)] ws }))).endAccess
  | n + 1, ws =>
    if s.dev.holdsWrite .host s.dev.host.ptr then s.on (·.modHost (fun h => { h with stretched := some (a, n + 1, ws) }))
    else
      let (s, w) := s.readWord env .host s.dev.host.ptr
      (s.on Dev.stepPtr).i2cFetch env a n (ws ++ [w])

/-! ### Held accesses (R80, R545 to R547) -/

/-- The agent of a code of R541. -/
def Agent.ofCode (c : Nat) : Agent :=
  if c < 16 then .engine c else if c = 16 then .host else if c = 17 then .boot else if c = 18 then .dma else .proto

/-- Held writes, the posted words of the SPI target (R580) and a stretched I2C read are served once no domain is asked to quiesce (R546 step 3,
R547). -/
def State.serveHeld (s : State) : State :=
  if s.dev.pwr.lower ≠ [] then s
  else
    let h := s.dev.pwr.held
    let p := s.dev.host.posted
    let s := s.on (fun d => { d.modPwr (fun x => { x with held := [] }) with host := { d.host with posted := [] } })
    let s := h.foldl (fun s e => s.writeWord Env.quiet (Agent.ofCode e.1) e.2.1 e.2.2) s
    let s := (p.foldl (fun s e => s.writeWord Env.quiet .host e.1 e.2) s).endAccess
    match s.dev.host.stretched with
    | some (b, n, ws) => (s.on (·.modHost (fun h => { h with stretched := none }))).i2cFetch Env.quiet b n ws
    | none => s

/-- A host access that writes words one after another (R545: one burst is one access); none is served in reset. -/
def State.hostWrite (s : State) (env : Env) (ws : List (Nat × Word)) : State :=
  if s.dev.pwr.inReset then s else (ws.foldl (fun s e => s.writeWord env .host e.1 e.2) s).endAccess

/-- A host access that writes one word. -/
def State.hostWord (s : State) (env : Env) (a : Nat) (v : Word) : State :=
  if s.dev.pwr.inReset then s else (s.writeWord env .host a v).endAccess

end Sys2Proof.Machine
end

