-- ==== Sys2Proof/Machine/Engine.lean ====
section
/-! DEFINITION. The Yelnik engines at work (chapter 12): fetch, the bundle with its memory access, its commit, the loop, traps,
both interrupt classes, WAIT and the double fault. -/
namespace Sys2Proof.Machine

/-- A fault of a bundle: its code of R372, the virtual address of R372's last column, the location word of R394. -/
structure EngFault where
  code : Nat
  addr : Nat
  loc : Nat
  deriving DecidableEq, Repr

/-- A translated part of an access: physical address, bytes, secure attribute (R399). -/
structure Span where
  pa : Nat
  len : Nat
  secure : Bool
  deriving DecidableEq, Repr

/-- The window set of an engine's class (R361, R397). -/
def Eng.winSet (x : Eng) (e : Nat) : Nat := if x.fast then 16 + e else e

/-- Take `n` free values (log 3). -/
def Dev.took (d : Dev) (n : Nat) : Dev := { d with free := d.free + n }

/-! ### Faults (R368, R372 to R375) -/

/-- The double fault of R375: nothing more issues; the record, ENGINE_HALT, the completions of R448 and the links of R426. -/
def Dev.engDouble (d : Dev) (e situation p : Nat) (f : EngFault) : Dev :=
  let x := d.eng e
  let first := if situation = 0 then (SMap.get 0 x.c 2).toNat % 256 else 0
  let d := d.wr (Reg.engHaltrec0 e)
    (BitVec.ofNat 32 (first * 2 ^ 24 + f.code * 2 ^ 16 + (if x.fast then 2 ^ 15 else 0) + situation * 2 ^ 12))
  let d := ((d.wr (Reg.engHaltrec1 e) (BitVec.ofNat 32 p)).wr (Reg.engHaltrec2 e) (BitVec.ofNat 32 f.addr)).wr
    (Reg.engHaltrec3 e) (BitVec.ofNat 32 f.loc)
  let d := ((d.setEngSt e EngSt.halted).engSilence e).completeAll e
  (d.happenAt Fld.intcHaltevHalted e).haltLinked e

/-- The entry of a trap (R368): `addr` none for an interrupt, which leaves TRAPADDR. -/
def Dev.engTrap (d : Dev) (e code ret : Nat) (addr : Option Nat) : Dev :=
  let x := d.eng e
  let x := (x.setC 1 (BitVec.ofNat 32 ret)).setC 2 (BitVec.ofNat 32 code)
  let x := match addr with
    | some a => x.setC 3 (BitVec.ofNat 32 a)
    | none => x
  let x := ((x.setMode 4 x.accept).setMode 0 false).setMode 1 true
  (d.setEng e { x with entering := 4 }).wr (Reg.engPc e) (SMap.get 0 x.c 9 + BitVec.ofNat 32 (0x20 * code))

/-- The fetch at `p` in the class in effect (R361): a fault; or the physical address; or none where the bank answers 0. -/
def Dev.fetchAt (d : Dev) (e : Nat) (errs : List EccErr) (p : Nat) : Dev × Except EngFault (Option Nat) :=
  match d.translate ((d.eng e).winSet e) .fetch p 8 with
  | .translation => (d, .error ⟨0x02, p, 0⟩)
  | .permission => (d, .error ⟨0x03, p, 0⟩)
  | .ok pa secure =>
    match d.reach secure pa with
    | .refused c => (d.viol c (.engine e) pa, .ok none)
    | .silent => (d, .ok none)
    | .ok =>
      if spanBad errs pa 8 then
        let d := d.eccSpan e errs pa 8
        (d, .error ⟨0x0B, p, (d.rd Reg.memUeloc).toNat⟩)
      else (d, .ok (some pa))

/-- A fetch that faults just after an entry or a return is situation 2, 3 or 4 of R374. -/
def Dev.engEntry (d : Dev) (e : Nat) (errs : List EccErr) : Dev :=
  let p := (d.rd (Reg.engPc e)).toNat
  match d.fetchAt e errs p with
  | (d', .error f) => d'.engDouble e (d.eng e).entering p f
  | (_, .ok _) => d

/-- A faulting bundle at `p` (R373, R374): a trap, or a double fault. -/
def Dev.engFault (d : Dev) (e p : Nat) (errs : List EccErr) (fetch : Bool) (f : EngFault) : Dev :=
  let x := d.eng e
  if fetch && x.entering != 0 then d.engDouble e x.entering p f
  else if x.fast then d.engDouble e 1 p f
  else if x.trap then d.engDouble e 0 p f
  else (d.engTrap e f.code p (some f.addr)).engEntry e errs

/-! ### Memory access of the scalar slot (R361, R362, R389) -/

/-- The parts of an access: a 256-bit one is two of 16 bytes (R389). -/
def accessParts (v n : Nat) : List (Nat × Nat) := if n = 32 then [(v, 16), ((v + 16) % 2 ^ 32, 16)] else [(v, n)]

/-- Translate every part of an access; `codes`: those of the translation and the permission fault. -/
def Dev.translateAll (d : Dev) (set : Nat) (k : Access) (codes : Nat × Nat) : List (Nat × Nat) → Except EngFault (List Span)
  | [] => .ok []
  | (v, n) :: ps =>
    match d.translate set k v n with
    | .translation => .error ⟨codes.1, v, 0⟩
    | .permission => .error ⟨codes.2, v, 0⟩
    | .ok pa secure =>
      match d.translateAll set k codes ps with
      | .ok l => .ok (⟨pa, n, secure⟩ :: l)
      | .error f => .error f

/-- Read one part: its bytes, or an uncorrectable error (R394). A register answers in whole words; what a narrower load of one
gives is free (log 43). -/
def State.engReadSpan (s : State) (env : Env) (e : Nat) (t : Span) : State × Except EngFault (List Byte) :=
  match s.dev.region t.pa with
  | .reg =>
    let r := (List.range ((t.len + 3) / 4)).foldl (fun (a : State × List Byte) i =>
      let (s, w) := a.1.readWord env (.engine e) (t.pa + 4 * i)
      (s, a.2 ++ leBytes 4 w.toNat)) (s, [])
    if 4 ≤ t.len then (r.1, .ok r.2)
    else (r.1.on (·.took 1), .ok (leBytes t.len (Config.freeValue r.1.dev.free).toNat))
  | _ =>
    let (s', bs) := s.agentRead (.engine e) e t.secure env.errs t.pa t.len
    if s.dev.reach t.secure t.pa == .ok && spanBad env.errs t.pa t.len then
      (s', .error ⟨0x0B, 0, (s'.dev.rd Reg.memUeloc).toNat⟩)
    else (s', .ok bs)

/-- Write one part. What a narrow store to a register puts into the other bytes of its word is free (log 43). -/
def State.engWriteSpan (s : State) (env : Env) (e : Nat) (t : Span) (bs : List Byte) : State :=
  match s.dev.region t.pa with
  | .reg =>
    if 4 ≤ t.len then
      (List.range (t.len / 4)).foldl (fun s i =>
        s.writeWord env (.engine e) (t.pa + 4 * i) (BitVec.ofNat 32 (leNat ((bs.drop (4 * i)).take 4)))) s
    else
      let w := setBits (Config.freeValue s.dev.free).toNat (8 * (t.pa % 4)) (8 * t.len) (leNat bs)
      (s.on (·.took 1)).writeWord env (.engine e) t.pa (BitVec.ofNat 32 w)
  | _ => s.agentWrite (.engine e) e t.secure env.errs t.pa bs

/-- A load of `n` bytes (R361): the number read, or a fault. -/
def State.engLoad (s : State) (env : Env) (e v n : Nat) : State × Except EngFault Nat :=
  if v % min n 16 ≠ 0 then (s, .error ⟨0x08, v, 0⟩)
  else match s.dev.translateAll ((s.dev.eng e).winSet e) .load (0x04, 0x05) (accessParts v n) with
    | .error f => (s, .error f)
    | .ok l =>
      let r := l.foldl (fun (a : State × Except EngFault (List Byte)) t =>
        match a.2 with
        | .error f => (a.1, .error f)
        | .ok bs => match a.1.engReadSpan env e t with
          | (s, .ok b) => (s, .ok (bs ++ b))
          | (s, .error f) => (s, .error { f with addr := v + bs.length })) (s, .ok [])
      match r with
      | (s, .ok bs) => (s, .ok (leNat bs))
      | (s, .error f) => (s, .error f)

/-- A store of the low `n` bytes of a number (R361). One that reached registers ends its access (R80, R545). -/
def State.engStore (s : State) (env : Env) (e v n x : Nat) : State × Except EngFault Nat :=
  if v % min n 16 ≠ 0 then (s, .error ⟨0x08, v, 0⟩)
  else match s.dev.translateAll ((s.dev.eng e).winSet e) .store (0x06, 0x07) (accessParts v n) with
    | .error f => (s, .error f)
    | .ok l =>
      let r := l.foldl (fun (a : State × List Byte) t =>
        (a.1.engWriteSpan env e t (a.2.take t.len), a.2.drop t.len)) (s, leBytes n x)
      (if l.any (fun t => s.dev.region t.pa == .reg) then r.1.endAccess else r.1, .ok 0)

/-- An atomic (R361, R362): the word read before; `x` what is added, or put in its place. -/
def State.engAtomic (s : State) (env : Env) (e v : Nat) (swap : Bool) (x : Word) : State × Except EngFault Nat :=
  let set := (s.dev.eng e).winSet e
  if v % 4 ≠ 0 then (s, .error ⟨0x09, v, 0⟩)
  else match s.dev.translateAll set .load (0x04, 0x05) [(v, 4)], s.dev.translateAll set .store (0x06, 0x07) [(v, 4)] with
    | .error f, _ => (s, .error f)
    | .ok _, .error f => (s, .error f)
    | .ok l, .ok _ =>
      let t := l.headD ⟨0, 4, false⟩
      if 0x600000 ≤ t.pa then (s, .error ⟨0x0A, v, 0⟩)
      else match s.dev.reach t.secure t.pa with
        | .ok => match s.engReadSpan env e t with
          | (s, .error f) => (s, .error { f with addr := v })
          | (s, .ok bs) =>
            let old := leNat bs
            let new := if swap then x.toNat else (old + x.toNat) % 2 ^ 32
            (s.store t.pa (leBytes 4 new), .ok old)
        | .refused c => (s.on (·.viol c (.engine e) t.pa), .ok 0)
        | .silent => (s, .ok 0)

/-- The memory access of a scalar instruction that executes (R359, R362); 0 where it makes none. -/
def State.engMemory (s : State) (env : Env) (e w : Nat) : State × Except EngFault Nat :=
  let x := s.dev.eng e
  let a := x.readS x.fast (raOf w)
  let op := opOf w
  let v := (a + BitVec.ofInt 32 (memOff w)).toNat
  if op = 0x1E ∨ op = 0x1F then s.engAtomic env e a.toNat (op == 0x1F) (x.readS x.fast (rbOf w))
  else match memShape op with
    | none => (s, .ok 0)
    | some (n, true) => s.engLoad env e v n
    | some (n, false) =>
      let src := if op < 0x18 then (x.readS x.fast (rdOf w)).toNat
        else if op = 0x1D then bitsOf (x.readV (rdOf w)) 128 128 else x.readV (rdOf w)
      s.engStore env e v n src

/-! ### Commit of a bundle -/

/-- What a loaded number puts into rd or vd (R359), with `old` the vector register before. -/
def Eng.putLoad (x : Eng) (w old val : Nat) : Eng :=
  let op := opOf w
  let rd := rdOf w
  if op = 0x11 then x.writeS x.fast rd (BitVec.ofInt 32 (sgn 16 val))
  else if op = 0x13 then x.writeS x.fast rd (BitVec.ofInt 32 (sgn 8 val))
  else if op = 0x18 then x.writeV rd val
  else if op = 0x1A then x.writeV rd (setBits old 0 128 val)
  else if op = 0x1C then x.writeV rd (setBits old 128 128 val)
  else x.writeS x.fast rd (BitVec.ofNat 32 val)

/-- MTC (R355, R366): the engine after it, and whether a violation is counted. -/
def Eng.mtc (x0 x : Eng) (i : Nat) (v : Word) : Eng × Bool :=
  if cReadOnly i || (x0.loop && decide (4 ≤ i ∧ i ≤ 6)) then (x, true)
  else if i = 0 then ((x.setMode 0 (bitOf v.toNat 0)).setMode 4 (bitOf v.toNat 4), false)
  else (x.setC i (v &&& cMask i), false)

/-- What a scalar instruction that executes writes into the engine (R355, R359, R360, R368, R369). `x0` is the engine before the
bundle, `val` what the memory access read, `c` the control register that MFC reads. -/
def Eng.scalarWrite (x0 x : Eng) (free : Word) (p w val : Nat) (c : Word) : Eng :=
  let op := opOf w
  let rd := rdOf w
  let a := x0.readS x0.fast (raOf w)
  let b := x0.readS x0.fast (rbOf w)
  let d := x0.readS x0.fast rd
  let pa := x0.readP (raOf w % 8)
  let pb := x0.readP (rbOf w % 8)
  if op = 0 then (match aluWrites (fnOf w) with
    | some 1 => x.writeS x0.fast rd (aluWord free (fnOf w) d a b pa)
    | some 2 => x.writeP rd (aluPred (fnOf w) a b pa pb)
    | _ => x)
  else if op ≤ 0x07 ∨ op = 0x0A then x.writeS x0.fast rd (immWord w d a)
  else if op = 0x08 then x.writeP rd (allBits (a == BitVec.ofInt 32 (sgn 12 (immOf w))))
  else if op = 0x09 then x.writeP rd (allBits (decide (a.toInt < sgn 12 (immOf w))))
  else if (0x10 ≤ op ∧ op ≤ 0x14) ∨ op = 0x18 ∨ op = 0x1A ∨ op = 0x1C ∨ op = 0x1E ∨ op = 0x1F then x.putLoad w (x0.readV rd) val
  else if op = 0x21 then x.writeS x0.fast 31 (BitVec.ofNat 32 (p + 8))
  else if op = 0x22 then x.writeS x0.fast rd (BitVec.ofNat 32 (p + 8))
  else if op = 0x25 then x.writeS x0.fast rd c
  else if op = 0x26 then (x0.mtc x rd a).1
  else if op = 0x24 ∧ fnOf w = 4 then
    (if x0.fast then { x.setMode 2 false with entering := 3 } else (x.setMode 0 x0.kept).setMode 1 false)
  else if op = 0x24 ∧ fnOf w = 5 then x.setMode 0 true
  else if op = 0x24 ∧ fnOf w = 6 then x.setMode 0 false
  else x

/-- What the vector instruction writes (R354, R363). -/
def Eng.vectorWrite (x0 x : Eng) (free : Nat → Word) (w : Nat) : Eng :=
  let m := effMask (x0.readP (pgOf w)) (piOf w)
  let va := x0.readV (vaOf w)
  let vb := x0.readV (vbOf w)
  match vectorDest w with
  | .none => x
  | .s i => if bitOf m 0 then x.writeS x0.fast i (lane32 va (imm9Of w)) else x
  | .p i => x.writeP i (vectorPred w m (x0.readP i) va vb)
  | .v i => x.writeV i (vectorResult free w m (x0.readV i) va vb (x0.readS x0.fast (sbOf w)))

/-- Where a bundle leads: on, to a target, into a loop body of `len` bundles run `count` times, or over it. -/
inductive Flow where
  | on
  | jump (t : Nat)
  | loop (count len : Nat)
  deriving DecidableEq, Repr

/-- The flow of a scalar instruction (R359, R365, R368, R369). -/
def Eng.flow (x0 : Eng) (ex : Bool) (p w : Nat) : Flow :=
  let op := opOf w
  if !ex then .on
  else if op = 0x20 ∨ op = 0x21 then .jump (BitVec.ofInt 32 (p + offOf w)).toNat
  else if op = 0x22 then .jump ((x0.readS x0.fast (raOf w)).toNat / 8 * 8)
  else if op = 0x23 then .loop (x0.readS x0.fast (loopRaOf w)).toNat (loopLenOf w)
  else if op = 0x24 ∧ fnOf w = 4 then .jump ((SMap.get 0 x0.c (if x0.fast then 7 else 1)).toNat / 8 * 8)
  else .on

/-- The next PC, with the loop's counting (R365, R366): only in the normal class outside a trap. -/
def Eng.next (x0 x : Eng) (p : Nat) (f : Flow) : Eng × Nat :=
  let live := x0.loop && !x0.trap && !x0.fast
  let first := (SMap.get 0 x0.c 5).toNat
  let last := (SMap.get 0 x0.c 6).toNat
  let n := (SMap.get 0 x0.c 4).toNat
  match f with
  | .on =>
    if live && p == last then
      if n ≤ 1 then ((x.setC 4 0).setMode 3 false, (p + 8) % 2 ^ 32)
      else (x.setC 4 (BitVec.ofNat 32 (n - 1)), first)
    else (x, (p + 8) % 2 ^ 32)
  | .jump t => (if live && !(decide (first ≤ t) && decide (t ≤ last)) then x.setMode 3 false else x, t)
  | .loop count len =>
    if count = 0 then (x, (p + 8 + 8 * len) % 2 ^ 32)
    else
      let x := ((x.setC 4 (BitVec.ofNat 32 count)).setC 5 (BitVec.ofNat 32 (p + 8))).setC 6 (BitVec.ofNat 32 (p + 8 * len))
      ({ x.setMode 3 true with lbuf := [] }, (p + 8) % 2 ^ 32)

/-- The instructions of a bundle take free values (log 41). -/
def bundleFree (b : Nat) : Bool :=
  let v := opOf (vectorOf b)
  (opOf (scalarOf b) == 0 && fnOf (scalarOf b) == 0x2B) || v == 0x06 || v == 0x07 || v == 0x0E || v == 0x0F

/-- The scalar instruction executes (R354). -/
def Eng.executes (x : Eng) (b : Nat) : Bool :=
  bitOf (effMask (x.readP (pgOf (scalarOf b))) (piOf (scalarOf b))) 0

/-- The commit of the bundle `b` at `p` of an engine that was `x0` (R356), then WAIT, SVC and BREAK (R371, R372). -/
def Dev.engCommit (d : Dev) (e p b : Nat) (errs : List EccErr) (x0 : Eng) (val : Nat) : Dev :=
  if d.engSt e = EngSt.reset then d
  else
    let w := scalarOf b
    let ex := x0.executes b
    let free := fun i => Config.freeValue (d.free + i)
    let c := d.readC e (rbOf w)
    let x := d.eng e
    let x := if ex then x0.scalarWrite x (free 8) p w val c else x
    let x := x0.vectorWrite x free (vectorOf b)
    let (x, next) := x0.next x p (x0.flow ex p w)
    let d := (d.setEng e x).wr (Reg.engPc e) (BitVec.ofNat 32 next)
    let d := if bundleFree b then d.took 9 else d
    let d := if ex && opOf w == 0x26 && (x0.mtc x0 (rdOf w) 0).2 then d.viol 0 (.engine e) 0 else d
    if ex && opOf w == 0x24 then
      if fnOf w = 1 then (if d.engSt e = EngSt.running then d.setEngSt e EngSt.waiting else d)
      else if fnOf w = 2 ∨ fnOf w = 3 then (d.engTrap e (0x0A + fnOf w) next (some 0)).engEntry e errs
      else if fnOf w = 4 ∧ x0.fast then d.engEntry e errs
      else d
    else d

/-- A bundle that has been fetched at `p` (R356, R358, R366, R373). -/
def State.engIssue (s : State) (env : Env) (e p b : Nat) : State :=
  let x0 := s.dev.eng e
  let w := scalarOf b
  let ex := x0.executes b
  let sys := ex && opOf w == 0x24 && (fnOf w == 2 || fnOf w == 3)
  if !bundleLegal b || (ex && opOf w == 0x23 && (x0.loop || x0.trap || x0.fast)) then
    s.on (·.engFault e p env.errs false ⟨0x01, p, 0⟩)
  else if sys && (x0.fast || x0.trap) then s.on (·.engFault e p env.errs false ⟨0x0A + fnOf w, 0, 0⟩)
  else match (if ex then s.engMemory env e w else (s, .ok 0)) with
    | (s, .error f) => s.on (·.engFault e p env.errs false f)
    | (s, .ok val) => s.on (·.engCommit e p b env.errs x0 val)

/-- The engine's loop buffer serves (R365). -/
def Eng.buffered (x : Eng) (p : Nat) : Option Nat :=
  if x.loop && !x.trap && !x.fast then (x.lbuf.find? (fun q => q.1 == p)).map (·.2) else none

/-- Keep a fetched bundle of the loop body (R365). -/
def Eng.keep (x : Eng) (p b : Nat) : Eng :=
  if x.loop && !x.trap && !x.fast && decide ((SMap.get 0 x.c 5).toNat ≤ p) && decide (p ≤ (SMap.get 0 x.c 6).toNat) then
    { x with lbuf := x.lbuf ++ [(p, b)] }
  else x

/-- Fetch and issue the bundle at the engine's PC (R356, R361, R365). -/
def State.engBundle (s : State) (env : Env) (e : Nat) : State :=
  let p := (s.dev.rd (Reg.engPc e)).toNat
  let x := s.dev.eng e
  let go (s : State) (b : Nat) : State := (s.on (·.modEng e (fun x => { x with entering := 0 }))).engIssue env e p b
  match x.buffered p with
  | some b => go s b
  | none =>
    match s.dev.fetchAt e env.errs p with
    | (d, .error f) => { s with dev := d.engFault e p env.errs true f }
    | (d, .ok none) => go { s with dev := d } 0
    | (d, .ok (some pa)) =>
      let b := leNat (s.bytes pa 8)
      go { s with dev := (d.eccSpan e env.errs pa 8).modEng e (·.keep p b) } b

/-! ### Interrupts (R368 to R371, R445) -/

/-- A normal-class interrupt may be taken (R368, R370). -/
def Dev.takesNormal (d : Dev) (e : Nat) : Bool :=
  let x := d.eng e
  x.accept && !x.trap && !x.fast && d.ready e false

/-- A fast-class interrupt may be taken (R369). -/
def Dev.takesFast (d : Dev) (e : Nat) : Bool := !(d.eng e).fast && d.ready e true

/-- Entry to the fast class (R369, R445): a claim of 1023 enters nothing. -/
def Dev.fastEntry (d : Dev) (e : Nat) (errs : List EccErr) : Dev :=
  let (id, d) := d.claim e true
  if id = 1023 then d
  else
    let x := d.eng e
    let x := (x.setC 7 (d.rd (Reg.engPc e))).setC 8 (BitVec.ofNat 32 id)
    ((d.setEng e { x.setMode 2 true with entering := 2 }).wr (Reg.engPc e) (SMap.get 0 x.c 10)).engEntry e errs

/-- The trap of a normal-class interrupt (R368). -/
def Dev.irqTrap (d : Dev) (e : Nat) (errs : List EccErr) : Dev :=
  (d.engTrap e 0x10 (d.rd (Reg.engPc e)).toNat none).engEntry e errs

/-- Take what is ready at a bundle boundary, the fast class first (R370). -/
def Dev.takeIrq (d : Dev) (e : Nat) (errs : List EccErr) : Dev :=
  if d.takesFast e then d.fastEntry e errs else if d.takesNormal e then d.irqTrap e errs else d

/-- Engine `e` can issue: its domain is on and its tile available (R22, R23). -/
def Dev.engPowered (d : Dev) (e : Nat) : Bool := d.on e && !d.unavail e

/-- `n` cycles pass (R355 c12, R383 ENGn_LOAD). -/
def Dev.engCycles (d : Dev) (e n : Nat) : Dev :=
  d.modEng e (fun x => { x with cycles := (x.cycles + n) % 2 ^ 32, busy := x.busy + n })

/-- A bundle that STEP lets issue (R384): an interrupt is taken after it only where the bundle itself made one deliverable. -/
def State.engStepNow (s : State) (env : Env) (e : Nat) : State :=
  let due (d : Dev) : Bool := let d := d.setEngSt e EngSt.running; d.takesFast e || d.takesNormal e
  let before := due s.dev
  let s := (s.on (·.modEng e (fun x => { x with stepReq := false }))).engBundle env e
  s.on (fun d =>
    if d.engSt e = EngSt.stopped ∧ !before ∧ due d then
      let d := (d.setEngSt e EngSt.running).takeIrq e env.errs
      if d.engSt e = EngSt.halted then d else d.setEngSt e EngSt.stopped
    else d)

/-- ENGINE_BUNDLE (R356): a running engine, or a stopped one that an agent has told to STEP, issues a bundle, `n` cycles after
the one before it. -/
def State.engineBundle (s : State) (e n : Nat) (env : Env) : State :=
  if !s.dev.engPowered e then s
  else if s.dev.engSt e = EngSt.running then (s.on (·.engCycles e n)).engBundle env e
  else if s.dev.engSt e = EngSt.stopped ∧ (s.dev.eng e).stepReq then (s.on (·.engCycles e n)).engStepNow env e
  else s

/-- INTERRUPT_TRAP (R368, R370). -/
def Dev.interruptTrap (d : Dev) (e : Nat) (errs : List EccErr) : Dev :=
  if d.engPowered e && d.engSt e == EngSt.running && d.takesNormal e && !d.takesFast e then d.irqTrap e errs else d

/-- FAST_ENTRY (R369, R445): where the claim finds nothing, 1023 is counted and the engine goes on. -/
def Dev.fastEntryAt (d : Dev) (e : Nat) (errs : List EccErr) : Dev :=
  if d.engPowered e && d.engSt e == EngSt.running && !(d.eng e).fast then d.fastEntry e errs else d

/-- WAIT_WAKE (R371, R443): the engine takes the interrupt or continues after WAIT. -/
def Dev.waitWake (d : Dev) (e n : Nat) (errs : List EccErr) : Dev :=
  if d.engPowered e && d.engSt e == EngSt.waiting && (d.ready e false || d.ready e true) then
    let d := d.modEng e (fun x => { x with cycles := (x.cycles + n) % 2 ^ 32 })
    (d.setEngSt e EngSt.running).takeIrq e errs
  else d

/-- ENGINE_STEP (R384): the host's write of command 4, and the bundle. -/
def State.engineStep (s : State) (e : Nat) (env : Env) : State :=
  let s := s.hostWord env (Reg.engCtrl e) 4
  if s.dev.engPowered e && s.dev.engSt e == EngSt.stopped && (s.dev.eng e).stepReq then s.engStepNow env e else s

end Sys2Proof.Machine
end

