-- ==== Sys2Proof/Machine/Dma.lean ====
section
/-! DEFINITION. DMA channels at work (chapter 14): descriptor fetch, the issue of beats, read returns, commits, completion,
faults, port blocks and stalls. -/
namespace Sys2Proof.Machine

/-! ### The descriptor in hand (R411) -/

/-- Word `i` of the descriptor, and its fields. -/
def Chan.word (x : Chan) (i : Nat) : Nat := (x.desc.getD i 0).toNat
def Chan.rows (x : Chan) : Nat := bitsOf (x.word 2) 20 12 + 1
def Chan.rowLen (x : Chan) : Nat := bitsOf (x.word 2) 0 20
def Chan.tag (x : Chan) : Nat := bitsOf (x.word 6) 16 16
def Chan.fill (x : Chan) : Bool := bitOf (x.word 6) 4
def Chan.port (x : Chan) : Bool := bitOf (x.word 6) 3
def Chan.arm (x : Chan) : Bool := bitOf (x.word 6) 2
def Chan.irq (x : Chan) : Bool := bitOf (x.word 6) 1
def Chan.last (x : Chan) : Bool := bitOf (x.word 6) 0

/-- The address of offset `o` from a base with a stride between rows (R411). -/
def rowAddr (base stride rowLen o : Nat) : Nat :=
  (BitVec.ofInt 32 (base + sgn 32 stride * ((o / rowLen : Nat) : Int) + ((o % rowLen : Nat) : Int))).toNat

/-- Source and destination of the beat at offset `o` (R411). -/
def Chan.srcAt (x : Chan) (o : Nat) : Nat := rowAddr (x.word 0) (x.word 3) x.rowLen o
def Chan.dstAt (x : Chan) (o : Nat) : Nat := rowAddr (x.word 1) (x.word 4) x.rowLen o

/-- The memory direction that names channel `c` (R412): unit, and whether it transmits. -/
def Dev.chanPort (d : Dev) (c : Nat) : Option (Nat × Bool) :=
  ((List.range 12).map (fun k => (k / 2, k % 2 == 1))).find? (fun (p : Nat × Bool) =>
    if p.2 then d.get (Fld.portPathTxPath p.1) == 1 && d.get (Fld.portPathTxChan p.1) == c
    else d.get (Fld.portPathRxPath p.1) == 1 && d.get (Fld.portPathRxChan p.1) == c)

/-- The direction of the port descriptor in hand, none for an ordinary one (R422). -/
def Dev.portSide (d : Dev) (c : Nat) : Option (Nat × Bool) := if (d.chan c).port then d.chanPort c else none

/-- A descriptor with own = 1 breaks R412. -/
def Dev.descBad (d : Dev) (c : Nat) (x : Chan) : Bool :=
  let odd (i : Nat) : Bool := x.word i % 16 != 0
  let side := if x.port then d.chanPort c else none
  x.rowLen == 0 || x.rowLen % 16 != 0 || decide (16777200 < x.rows * x.rowLen) ||
    bitsOf (x.word 6) 5 11 != 0 || bitsOf (x.word 7) 24 4 != 0 || bitsOf (x.word 5) 0 5 != 0 ||
    (!side.any (·.2) && (odd 1 || odd 4)) || (!x.fill && !side.any (!·.2) && (odd 0 || odd 3)) ||
    (x.port && (x.rows != 1 || x.fill || x.arm || side.isNone))

/-- Frames of a block and bytes of one, from its header (R284, R285, R287). -/
def Dev.blockShape (d : Dev) (n : Nat) (bs : List Byte) : Nat × Nat :=
  let mask := bitsOf (leNat ((bs.drop 4).take 4)) 0 16
  (bitsOf (leNat (bs.take 4)) 0 16, (bitList (d.unitSlots n) mask).length * packBytes (d.get (Fld.portPathPack n)))

/-- Bytes of the transmit block whose header has been read: the frames that are sent, padded (R284, R287). -/
def Dev.txSize (d : Dev) (n : Nat) (bs : List Byte) : Nat :=
  let (fr, fb) := d.blockShape n bs
  16 + (min fr (d.get (Fld.portPathFrames n) + 1) * fb + 15) / 16 * 16

/-- Bytes of the block on the port side, where it is known (R422). -/
def Dev.portBytes (d : Dev) (c : Nat) (side : Nat × Bool) : Option Nat :=
  if side.2 then (if (d.chan c).block.length < 16 then none else some (d.txSize side.1 (d.chan c).block))
  else (d.dir side.1 false).closed.map (·.length)

/-- The length of the descriptor in hand, where it is known: that of a block is limited to row_len (R422). -/
def Dev.descLen (d : Dev) (c : Nat) : Option Nat :=
  match d.portSide c with
  | none => some ((d.chan c).rows * (d.chan c).rowLen)
  | some side => (d.portBytes c side).map (fun n => min n (d.chan c).rowLen)

/-- A channel's window set (R410). -/
def Dev.chanSet (d : Dev) (c : Nat) : Nat := 32 + d.get (Fld.dmaChCfgWset c)

/-- Bytes committed (R415). -/
def Dev.chanOff (d : Dev) (c : Nat) : Nat := d.get (Fld.dmaChOffsetBytes c)

/-! ### Issue (R414, R416, R417) -/

/-- Put a beat in flight. -/
def Dev.putBeat (d : Dev) (c : Nat) (data : Option (List Byte)) : Dev :=
  d.modChan c (fun x => { x with beats := x.beats ++ [⟨x.next, data⟩], next := x.next + 16 })

/-- Issue the source read at the next offset: a fault of the translation marks the beat. -/
def Dev.issueRead (d : Dev) (c : Nat) : Dev :=
  let x := d.chan c
  let v := x.srcAt x.next
  match d.translate (d.chanSet c) .load v 16 with
  | .translation => d.setChan c { x with bad := some (x.next, 0x05, v, 0) }
  | .permission => d.setChan c { x with bad := some (x.next, 0x06, v, 0) }
  | .ok pa _ => if d.region pa = .reg ∧ x.beats ≠ [] then d else d.putBeat c none

/-- Issue one beat of channel `c`, where the limits allow (R414, R416). -/
def Dev.issueOne (d : Dev) (c : Nat) : Dev :=
  let x := d.chan c
  if d.chSt c ≠ ChSt.active ∨ x.bad.isSome ∨ 4 ≤ x.beats.length ∨ 128 ≤ d.inflight then d
  else match d.descLen c with
    | none => if x.next = 0 ∧ (d.portSide c).any (·.2) then d.issueRead c else d
    | some total =>
      if total ≤ x.next then d
      else if x.fill then d.putBeat c (some ((List.range 4).flatMap (fun _ => leBytes 4 (x.word 0))))
      else match d.portSide c with
        | some (n, false) => d.putBeat c (((d.dir n false).closed).map (fun bs => (bs.drop x.next).take 16))
        | _ => d.issueRead c

/-- Every channel in ACTIVE issues, round robin, up to its limits (R414). -/
def Dev.dmaIssue (d : Dev) : Dev :=
  d.each (List.range 4) (fun d _ => d.each ((List.range 64).filter (fun c => d.chSt c == ChSt.active)) Dev.issueOne)

/-! ### Faults (R417 to R419, R423) -/

/-- The writeback of words 0x10 to 0x1C with word 0x1C given (R413, R419); a fault of it answers its code. -/
def State.writeback (s : State) (env : Env) (c : Nat) (w : Nat) : State × Option Nat :=
  let x := s.dev.chan c
  let v := ((s.dev.rd (Reg.dmaChCurdesc c)).toNat + 16) % 2 ^ 32
  match s.dev.translate (s.dev.chanSet c) .store v 16 with
  | .translation => (s, some 0x01)
  | .permission => (s, some 0x02)
  | .ok pa secure =>
    let ws := [x.word 4, x.word 5, x.word 6, w]
    match s.dev.region pa with
    | .reg =>
      (((List.range 4).foldl (fun s i => s.writeWord env .dma (pa + 4 * i) (BitVec.ofNat 32 (ws.getD i 0))) s).endAccess, none)
    | _ => (s.agentWrite .dma EccAgent.dma secure env.errs pa (ws.flatMap (leBytes 4)), none)

/-- A fault during a port block abandons it (R423): the frames of a receive block that were not written whole are overruns. -/
def Dev.portAbandon (d : Dev) (c : Nat) : Dev :=
  match d.portSide c with
  | some (n, false) =>
    match (d.dir n false).closed with
    | none => d
    | some bs =>
      let (fr, fb) := d.blockShape n bs
      let whole := if fb = 0 then 0 else (d.chanOff c - 16) / fb
      let d := d.modDir n false (fun y => { y with closed := none, blkGap := true })
      d.each (List.range (fr - whole)) (fun d _ => d.portCount n PortEv.rxOver)
  | _ => d

/-- Channel `c` faults (R417, R419): `fetch` at its descriptor fetch, which is not written back. -/
def State.dmaFault (s : State) (env : Env) (c off code addr loc : Nat) (fetch : Bool) : State :=
  let x := s.dev.chan c
  let d := s.dev
  let d := d.wr (Reg.dmaChFault0 c) (BitVec.ofNat 32 ((if fetch && code != 0x03 then 0 else x.tag) * 2 ^ 16 + code))
  let d := (d.wr (Reg.dmaChFault1 c) (d.rd (Reg.dmaChCurdesc c))).wr (Reg.dmaChFault2 c) (BitVec.ofNat 32 off)
  let d := (d.wr (Reg.dmaChFault3 c) (BitVec.ofNat 32 addr)).wr (Reg.dmaChFault4 c) (BitVec.ofNat 32 loc)
  let d := (if fetch then d else d.portAbandon c).modChan c (fun x => { x with beats := [], bad := none })
  let s := { s with dev := (d.setChSt c ChSt.faulted).happen (Fld.dmaChEventsFault c) }
  if fetch || code ≤ 0x02 then s else (s.writeback env c (2 ^ 31 + 2 ^ 29 + off)).1

/-- A marked beat faults once no lower beat is in flight; a channel that stops and has none left is STOPPED (R417, R421). -/
def State.dmaSettle (s : State) (env : Env) (c : Nat) : State :=
  let x := s.dev.chan c
  if x.beats ≠ [] then s
  else match x.bad with
    | some (off, code, addr, loc) => s.dmaFault env c off code addr loc false
    | none => if s.dev.chSt c = ChSt.stopping then s.on (·.setChSt c ChSt.stopped) else s

/-- Issue on every channel, and settle what that marks. -/
def State.dmaRun (s : State) (env : Env) : State :=
  let s := s.on Dev.dmaIssue
  ((List.range 64).filter (fun c => (s.dev.chan c).bad.isSome)).foldl (fun s c => s.dmaSettle env c) s

/-- Mark a beat as faulting, drop it and those above it, and settle (R417). -/
def State.dmaMark (s : State) (env : Env) (c off code addr loc : Nat) : State :=
  (s.on (·.modChan c (fun x => { x with beats := x.beats.filter (fun b => decide (b.off < off)), bad := some (off, code, addr, loc) }))).dmaSettle
    env c

/-! ### Descriptor fetch (R410, R412, R413, R420) -/

/-- Read the descriptor's 32 bytes in two beats: its words, or the fault. -/
def State.readDesc (s : State) (env : Env) (c : Nat) : State × Except (Nat × Nat) (List Word) :=
  let a := (s.dev.rd (Reg.dmaChCurdesc c)).toNat
  [0, 16].foldl (fun (r : State × Except (Nat × Nat) (List Word)) (o : Nat) =>
    match r with
    | (s, .error f) => (s, .error f)
    | (s, .ok ws) =>
      match s.dev.translate (s.dev.chanSet c) .load ((a + o) % 2 ^ 32) 16 with
      | .translation => (s, .error (0x01, 0))
      | .permission => (s, .error (0x02, 0))
      | .ok pa secure =>
        match s.dev.region pa with
        | .reg =>
          (List.range 4).foldl (fun (r : State × Except (Nat × Nat) (List Word)) i =>
            match r with
            | (s, .ok ws) => let (s, w) := s.readWord env .dma (pa + 4 * i); (s, .ok (ws ++ [w]))
            | r => r) (s, .ok ws)
        | _ =>
          let bad := s.dev.reach secure pa == .ok && spanBad env.errs pa 16
          let (s, bs) := s.agentRead .dma EccAgent.dma secure env.errs pa 16
          if bad then (s, .error (0x04, (s.dev.rd Reg.memUeloc).toNat))
          else (s, .ok (ws ++ (List.range 4).map (fun i => BitVec.ofNat 32 (leNat ((bs.drop (4 * i)).take 4)))))) (s, .ok [])

/-- DESC_FETCH (R413). -/
def State.descFetch (s : State) (env : Env) (c : Nat) : State :=
  if !s.dev.on Dom.dma || s.dev.chSt c != ChSt.fetch then s
  else
    let a := (s.dev.rd (Reg.dmaChCurdesc c)).toNat
    match s.readDesc env c with
    | (s, .error (code, loc)) => s.dmaFault env c (s.dev.chanOff c) code a loc true
    | (s, .ok ws) =>
      let x := { s.dev.chan c with desc := ws }
      if !bitOf (x.word 7) 31 then
        s.on (fun d => ((d.setChan c { x with waited := true }).setChSt c ChSt.waitDesc).cond (!x.waited)
          (fun d => d.happen (Fld.dmaChEventsWaitDesc c)))
      else
        let s := s.on (fun d => (d.setChan c x).put (Fld.dmaChStatusTag c) x.tag)
        if s.dev.descBad c x then s.dmaFault env c (s.dev.chanOff c) 0x03 a 0 true
        else
          let s := s.on (fun d =>
            let d := if x.port || !x.resume then d.put (Fld.dmaChOffsetBytes c) 0 else d
            let d := (d.setChan c { x with next := d.chanOff c, waited := false, resume := false, idle := 0,
                                           block := [] }).setChSt c ChSt.active
            match d.portSide c with
            | some (n, false) => d.fillBlock n
            | _ => d)
          s.dmaRun env

/-! ### Read returns and commits (R415 to R417, R422 to R424) -/

/-- DMA_READ_RETURN (R417): the read of the `k`-th beat in flight returns. -/
def State.dmaReadReturn (s : State) (env : Env) (c k : Nat) : State :=
  let x := s.dev.chan c
  match x.beats[k]? with
  | some ⟨off, none⟩ =>
    let v := x.srcAt off
    match s.dev.translate (s.dev.chanSet c) .load v 16 with
    | .ok pa secure =>
      let got (s : State) (bs : List Byte) : State :=
        s.on (·.modChan c (fun x => { x with beats := x.beats.map (fun b => if b.off = off then ⟨off, some bs⟩ else b) }))
      match s.dev.region pa with
      | .reg =>
        let r := (List.range 4).foldl (fun (r : State × List Byte) i =>
          let (s, w) := r.1.readWord env .dma (pa + 4 * i)
          (s, r.2 ++ leBytes 4 w.toNat)) (s, [])
        got r.1 r.2
      | _ =>
        let bad := s.dev.reach secure pa == .ok && spanBad env.errs pa 16
        let (s, bs) := s.agentRead .dma EccAgent.dma secure env.errs pa 16
        if bad then s.dmaMark env c off 0x07 v (s.dev.rd Reg.memUeloc).toNat else got s bs
    | _ => s
  | _ => s

/-- A beat's write: four words of a register block, each staging word refused by the tumbler counted (R424); or 16 bytes of
memory. -/
def State.beatWrite (s : State) (env : Env) (c pa : Nat) (secure : Bool) (bs : List Byte) : State :=
  match s.dev.region pa with
  | .reg =>
    ((List.range 4).foldl (fun s i =>
      let a := pa + 4 * i
      let v := BitVec.ofNat 32 (leNat ((bs.drop (4 * i)).take 4))
      let no := rwtMask a != 0 && (s.dev.writeGate .dma a v).isNone && s.dev.stageRefused .dma a v
      let s := s.writeWord env .dma a v
      if no then s.on (·.modChan c (fun x => { x with refused := x.refused + 1 })) else s) s).endAccess
  | _ => s.agentWrite .dma EccAgent.dma secure env.errs pa bs

/-- A beat has committed: the offset advances (R415), and more issue. -/
def State.beatDone (s : State) (env : Env) (c off : Nat) : State :=
  match (s.dev.chan c).beats with
  | b :: rest =>
    if b.off = off then
      let s := s.on (fun d => (d.modChan c (fun x => { x with beats := rest, idle := 0 })).put (Fld.dmaChOffsetBytes c) (off + 16))
      (s.dmaSettle env c).dmaRun env
    else s
  | [] => s

/-- Frames of the block that the bytes read so far complete. -/
def Dev.txReady (d : Dev) (n : Nat) (bs : List Byte) : List PFrame :=
  let fs := (d.decodeBlock n bs).1
  let fb := (d.blockShape n bs).2
  if bs.length < 16 then [] else if fb = 0 then fs else fs.take ((bs.length - 16) / fb)

/-- The transmit side takes a beat (R287, R422): a frame count above the limit is counted when the header arrives. -/
def Dev.txBeat (d : Dev) (c n : Nat) (bs : List Byte) : Dev :=
  let old := (d.chan c).block
  let new := old ++ bs
  let fs := (d.txReady n new).drop (d.txReady n old).length
  let d := (d.modChan c (fun x => { x with block := new })).modDir n true (fun y => { y with sending := y.sending ++ fs })
  let d := d.refill n
  if old = [] ∧ (d.decodeBlock n new).2 then d.viol 3 .dma (Reg.portPath n) else d

/-- DMA_BEAT_COMMIT (R415): the lowest beat's write is granted. A transmit port grants none while its FIFO is full. -/
def State.dmaBeatCommit (s : State) (env : Env) (c : Nat) : State :=
  if !s.dev.on Dom.dma || !(s.dev.chSt c == ChSt.active || s.dev.chSt c == ChSt.stopping) then s
  else
    let s := s.dmaRun env
    let x := s.dev.chan c
    match x.beats with
    | ⟨off, some bs⟩ :: _ =>
      match s.dev.portSide c with
      | some (n, true) => if (s.dev.dir n true).sending ≠ [] then s else (s.on (·.txBeat c n bs)).beatDone env c off
      | _ =>
        let v := x.dstAt off
        match s.dev.translate (s.dev.chanSet c) .store v 16 with
        | .translation => s.dmaMark env c off 0x08 v 0
        | .permission => s.dmaMark env c off 0x09 v 0
        | .ok pa secure => (s.beatWrite env c pa secure bs).beatDone env c off
    | _ => s

/-! ### Completion and stalls (R413, R424, R427) -/

/-- The arm of a completed descriptor (R424). -/
def State.dmaArm (s : State) (env : Env) (c : Nat) : State :=
  let x := s.dev.chan c
  if !x.arm then s
  else if x.refused = 0 ∧ s.dev.key.armed.isNone then s.writeWord env .dma Reg.tumbCtrl 1
  else s.on (·.happen (Fld.dmaChEventsTumbSkip c))

/-- The block of a port descriptor is done with (R422): a truncated one is counted; the port may fill the next. -/
def Dev.portDone (d : Dev) (c : Nat) : Dev :=
  match d.portSide c with
  | none => d
  | some (n, tx) =>
    let d := d.cond (d.chan c).trunc (fun d => d.viol 3 .dma (Reg.portPath n))
    if tx then d else d.modDir n false (fun y => { y with closed := none })

/-- DESC_COMPLETE (R413). -/
def State.descComplete (s : State) (env : Env) (c : Nat) : State :=
  let x := s.dev.chan c
  if !s.dev.on Dom.dma || s.dev.chSt c != ChSt.active || x.beats != [] || x.bad.isSome ||
      s.dev.descLen c != some (s.dev.chanOff c) then s
  else
    let total := s.dev.chanOff c
    let cut := (s.dev.portSide c).any (fun p => (s.dev.portBytes c p).any (fun n => decide (x.rowLen < n)))
    let s := s.on (·.modChan c (fun x => { x with trunc := cut }))
    let s := s.dmaArm env c
    match s.writeback env c (2 ^ 30 + (if cut then 2 ^ 28 else 0) + total) with
    | (s, some code) => s.dmaFault env c total code (s.dev.rd (Reg.dmaChCurdesc c)).toNat 0 false
    | (s, none) =>
      s.on (fun d =>
        let d := (d.portDone c).inc (Fld.dmaChCountDescs c)
        let d := d.cond x.irq (fun d => d.happen (Fld.dmaChEventsDone c))
        if d.chSt c ≠ ChSt.active then d
        else if x.last then (d.setChan c { d.chan c with desc := [], next := 0 }).setChSt c ChSt.idle
        else d.dmaFetch c (x.word 5) false)

/-- DMA_STALL (R427): the boundaries without a commit have reached the timeout. -/
def Dev.dmaStall (d : Dev) (c : Nat) : Dev :=
  let t := d.get (Fld.dmaChCfgTimeout c)
  if d.chSt c = ChSt.active ∧ t ≠ 0 ∧ t ≤ (d.chan c).idle then
    ((d.modChan c (fun x => { x with idle := 0 })).inc (Fld.dmaChCountStalls c)).happen (Fld.dmaChEventsStall c)
  else d

/-- A frame boundary at the channels (R413, R427): those that wait fetch again, and those whose beats wait count. -/
def Dev.dmaBoundary (d : Dev) : Dev :=
  if !d.on Dom.dma then d
  else d.each (List.range 64) (fun d c =>
    if d.chSt c = ChSt.waitDesc then d.setChSt c ChSt.fetch
    else if d.chSt c = ChSt.active ∧ (d.chan c).beats ≠ [] then d.modChan c (fun x => { x with idle := x.idle + 1 })
    else d)

end Sys2Proof.Machine
end

