-- ==== Sys2Proof/Machine/Host.lean ====
section
/-! DEFINITION. The host control interfaces (chapter 20): the I2C and SPI targets with their CRCs, the shared access pointer, and
the flash commands of the host. -/
namespace Sys2Proof.Machine

/-- The I2C target answers the 7-bit address `a` (R570, R571). -/
def Dev.i2cMatch (d : Dev) (a : Nat) : Bool :=
  if d.i2cFour then (d.i2cSlot a).isSome
  else
    let b := d.get Fld.hostifI2cnowBase
    (bitsOf (a ^^^ b) 0 7) &&& (bitsOf b 8 7 ^^^ 0x7F) == 0

/-- The words of a run of bytes in wire order (R568); bytes of an unfinished word are left out. -/
def wireWords : Nat → List Byte → List Word
  | 0, _ => []
  | n + 1, bs => if bs.length < 4 then [] else BitVec.ofNat 32 (beNat (bs.take 4)) :: wireWords n (bs.drop 4)

/-- The address phase sets the pointer (R569): bits 1:0 are cleared, and counted in category `cat`. -/
def Dev.setPtr (d : Dev) (cat a : Nat) : Dev :=
  let d := if a % 4 = 0 then d else d.viol cat .proto a
  d.modHost (fun h => { h with ptr := a / 4 * 4 })

/-! ### I2C (R570 to R577) -/

/-- An aborted byte (R577). -/
def Dev.i2cAborted (d : Dev) : Dev := ((d.viol 7 .proto 0).inc Fld.hostifI2ccntAbort).happen Fld.hostifEventsI2cAbort

/-- A transaction with address byte `a` reaches the target: an address match is a wake source (R549, R572). -/
def Dev.i2cHears (d : Dev) (a : Nat) : Bool := !d.pwr.inReset && d.i2cMatch a

/-- Write words from the pointer on (R569). -/
def State.ptrWrite (s : State) (env : Env) (ws : List Word) : State :=
  ws.foldl (fun s w => (s.writeWord env .host s.dev.host.ptr w).on Dev.stepPtr) s

/-- I2C_WRITE (R573, R574) of the register address `reg` and the bytes after it, with the CRC byte where one is used. -/
def State.i2cWrite (s : State) (env : Env) (a reg : Nat) (bs : List Byte) : State :=
  if !s.dev.i2cHears a then s
  else
    let s := s.on (fun d => (d.wakeEvent 2).setPtr 7 reg)
    if bs = [] then s
    else if s.dev.i2cCrc a then
      let n := bs.length - 1
      let head := BitVec.ofNat 8 (2 * a) :: beBytes 4 reg ++ bs.take n
      if n % 4 = 0 ∧ n ≤ 256 ∧ crc8 head = (bs.getD n 0).toNat then
        (s.ptrWrite env (wireWords 64 (bs.take n))).endAccess
      else s.on (fun d => (d.viol 7 .proto 0).happen Fld.hostifEventsI2cCrc)
    else
      let s := (s.ptrWrite env (wireWords bs.length bs)).endAccess
      if bs.length % 4 = 0 then s else s.on Dev.i2cAborted

/-- I2C_SET_POINTER (R569, R573). -/
def Dev.i2cSetPtr (d : Dev) (a reg : Nat) : Dev :=
  if d.i2cHears a then (d.wakeEvent 2).setPtr 7 reg else d

/-- I2C_READ (R573 to R576) of `n` words. -/
def State.i2cRead (s : State) (env : Env) (a n : Nat) : State :=
  if !s.dev.i2cHears a then s
  else
    (s.on (·.wakeEvent 2)).i2cFetch env a n []

/-- I2C_ABORT (R577). -/
def Dev.i2cAbort (d : Dev) : Dev := if d.pwr.inReset then d else d.i2cAborted

/-- I2C_STUCK (R577). -/
def Dev.i2cStuck (d : Dev) : Dev :=
  if d.pwr.inReset then d else ((d.viol 7 .proto 0).inc Fld.hostifI2ccntStuck).happen Fld.hostifEventsI2cStuck

/-- I2C_STRETCH_TIMEOUT (R576): the host write or read that is held completes as one to a domain in retention, and what is
behind it goes on; a word that finds the FIFO of BOOT_HOSTDATA full is not acknowledged, and the load fails. -/
def State.stretchTimeout (s : State) : State :=
  match s.dev.pwr.held.find? (fun h => h.1 == 16) with
  | some (c, a, v) =>
    let rest := s.dev.pwr.held.erase (c, a, v)
    let mine := rest.filter (fun h => h.1 == 16)
    let s := s.on (fun d => (d.modPwr (fun p => { p with held := rest.filter (fun h => h.1 != 16) })).viol 4 .host a)
    (mine.foldl (fun s h => s.writeWord Env.quiet .host h.2.1 h.2.2) s).endAccess
  | none =>
    match s.dev.host.stretched with
    | some (b, n, ws) =>
      let s := s.on (fun d => ((d.viol 4 .host d.host.ptr).stepPtr).modHost (fun h => { h with stretched := none }))
      s.i2cFetch Env.quiet b (n - 1) (ws ++ [0])
    | none =>
    if s.dev.hostLoads && decide (fifoWords ≤ s.dev.boot.fifo) then
      (s.sourceTimeout).on (·.viol 7 .proto Reg.bootHostdata)
    else s

/-! ### SPI (R578 to R582) -/

/-- A framing error (R581). -/
def Dev.spiFrame (d : Dev) : Dev :=
  ((d.viol 8 .proto 0).modHost (fun h => { h with sticky := orBit h.sticky 4 })).happen Fld.hostifEventsSpiFrame

/-- A word without CRC enters the posted-write buffer of 16 words, and leaves it when its access completes (R580). -/
def State.spiPost (s : State) (env : Env) (w : Word) : State :=
  let a := s.dev.host.ptr
  let s' :=
    if s.dev.host.posted ≠ [] ∨ s.dev.holdsWrite .proto a then
      if 16 ≤ s.dev.host.posted.length then
        s.on (fun d => ((d.viol 8 .proto a).modHost (fun h => { h with sticky := orBit h.sticky 1 })).happen Fld.hostifEventsSpiOver)
      else s.on (·.modHost (fun h => { h with posted := h.posted ++ [(a, w)] }))
    else s.writeWord env .host a w
  s'.on Dev.stepPtr

/-- SPI_WRITE (R578 to R581) of the bytes after the command and the address; `cut`: SPI_CS_N is released inside a byte. -/
def State.spiWrite (s : State) (env : Env) (adr bs : List Byte) (cut : Bool) : State :=
  let env := { env with spi := true }
  if s.dev.pwr.inReset then s
  else if adr.length < 4 then s.on Dev.spiFrame
  else
    let s := s.on (·.setPtr 8 (beNat adr))
    if s.dev.is Fld.hostifSpicfgCrc then
      let n := bs.length - 2
      if bs.length < 2 ∨ n % 4 ≠ 0 ∨ 256 < n ∨ cut then s.on Dev.spiFrame
      else if crc16 (0x02 :: adr ++ bs.take n) = beNat (bs.drop n) then (s.ptrWrite env (wireWords 64 (bs.take n))).endAccess
      else s.on (fun d => (d.spiFrame).modHost (fun h => { h with sticky := orBit h.sticky 3 }))
    else
      let s := ((wireWords bs.length bs).foldl (fun s w => s.spiPost env w) s).endAccess
      if bs.length % 4 ≠ 0 ∨ cut then s.on Dev.spiFrame else s

/-- Fetch `n` words from the pointer on, with their side effects (R569): each word, and whether it reaches a domain that is
asked to quiesce, so that it is not ready (R546, R580). -/
def State.ptrRead (s : State) (env : Env) (n : Nat) : State × List (Word × Bool) :=
  (List.range n).foldl (fun (r : State × List (Word × Bool)) _ =>
    let held := r.1.dev.holdsWrite .proto r.1.dev.host.ptr
    let (s, w) := r.1.readWord env .host r.1.dev.host.ptr
    (s.on Dev.stepPtr, r.2 ++ [(w, held)])) (s, [])

/-- SPI_READ (R578 to R581) of `n` words, those of `late` not ready in time; `cut`: SPI_CS_N is released inside a word. -/
def State.spiRead (s : State) (env : Env) (adr : List Byte) (n : Nat) (late : List Nat) (cut : Bool) : State :=
  let env := { env with spi := true }
  if s.dev.pwr.inReset then s
  else if adr.length < 4 then s.on Dev.spiFrame
  else
    let (s, ws) := (s.on (·.setPtr 8 (beNat adr))).ptrRead env n
    let slow (i : Nat) : Bool := late.contains i || (ws.getD i (0, false)).2
    let missed := (List.range n).filter slow
    let sent := (List.range n).map (fun i => if slow i then 0 else (ws.getD i (0, false)).1)
    let f := if s.dev.is Fld.hostifSpicfgCrc then some (fun bs => beBytes 2 (crc16 bs)) else none
    let s := s.on (fun d =>
      let d := d.each missed (fun d _ => (d.viol 8 .proto 0).modHost (fun h => { h with sticky := orBit h.sticky 2 }))
      d.modHost (fun h => { h with out := wireOut f (0x03 :: adr) sent }))
    (if cut then s.on Dev.spiFrame else s).endAccess

/-- The status byte (R582). -/
def Dev.spiStatusByte (d : Dev) : Nat :=
  (if d.host.posted = [] then 0 else 1) + bitsOf d.host.sticky 1 4 * 2 + if 256 ≤ d.get Fld.bootStatusFifoFree then 32 else 0

/-- SPI_STATUS (R582): the byte is sent and its sticky bits clear. -/
def Dev.spiStatus (d : Dev) : Dev :=
  if d.pwr.inReset then d
  else d.modHost (fun h => { h with out := [BitVec.ofNat 8 d.spiStatusByte], sticky := 0 })

/-- SPI_UNKNOWN_COMMAND (R581). -/
def Dev.spiUnknown (d : Dev) (cmd : Nat) : Dev :=
  if d.pwr.inReset || cmd == 2 || cmd == 3 || cmd == 5 then d else d.spiFrame

/-! ### Flash commands (R584, R587) -/

/-- QSPI_DONE (R584): the data read from the flash are placed in QSPI_DATA. -/
def Dev.qspiDone (d : Dev) (bs : List Byte) : Dev :=
  if !d.is Fld.qspiCmdBusy then d
  else
    let n := min (d.get Fld.qspiCmdLen) bs.length
    let d := if d.is Fld.qspiCmdDir then d
      else d.each (List.range n) (fun d k =>
        let a := Reg.qspiData (k / 4)
        d.wr a (BitVec.ofNat 32 (setBits (d.rd a).toNat (8 * (k % 4)) 8 (bs.getD k 0).toNat)))
    (d.put Fld.qspiCmdBusy 0).happen Fld.hostifEventsQspiDone

end Sys2Proof.Machine
end

