-- ==== Sys2Proof/Machine/Pair.lean ====
section
/-! DEFINITION. What joins blocks at an event: the reference of a role and a takeover (chapter 17), the seal of a turn and its
consequences, tamper (chapter 18), and wake sources (chapter 19). A synchronisation's boundary is in Sync.lean. -/
namespace Sys2Proof.Machine

/-! ### The PLL reference of a role (R491, R496, R509) -/

/-- CLK_REFSEL as the clock plan of the running keyplan gives it. -/
def Dev.planRefsel (d : Dev) : Nat :=
  match d.boot.run.bind (fun p => (p.entries 1).find? (fun e => e.1 == Reg.clkRefsel)) with
  | some e => e.2
  | none => 0

/-- The clock-plan primary. -/
def Dev.planPrimary (d : Dev) : Nat := bitsOf d.planRefsel 0 3

/-- CLK_REFSEL takes the clock plan's fields again. -/
def Dev.planFields (d : Dev) : Dev := d.wr Reg.clkRefsel (BitVec.ofNat 32 (d.planRefsel &&& 0x377))

/-- The partner that synchronises selects reference 3, with the clock-plan primary as alternate and alt_en 1, and acquisition
restarts (R491, R496 step 1). -/
def Dev.hingeRef (d : Dev) : Dev :=
  (((d.put Fld.clkRefselAlt d.planPrimary).put Fld.clkRefselAltEn 1).put Fld.clkRefselPrimary 3).acquire AcqCause.write

/-- A package that leaves a synchronisation or STANDBY for PAIRING or SOLO goes back to its clock plan's references; with the
primary changed, acquisition restarts (R80, R491). -/
def Dev.ownRef (d : Dev) : Dev :=
  if d.get Fld.clkRefselPrimary = 3 ∧ d.planPrimary ≠ 3 then (d.planFields).acquire AcqCause.write else d

/-- What a pairing that has just begun or ended does to the reference (R491, R496): `d0` is the package before. -/
def Dev.syncEdge (d d0 : Dev) : Dev :=
  if d.hinge.sync && !d0.hinge.sync && d.role == Role.pairing then d.hingeRef
  else if d.role = Role.pairing ∧ !d.hinge.sync ∧ (d0.hinge.sync ∨ d0.role = Role.standby) then d.ownRef
  else d

/-- A mirrored DETACH reaches its boundary (R511): the standby leaves the active's reference. -/
def Dev.detachDue (d : Dev) : Dev := (d.detachNow).syncEdge d

/-- Takeover at T (R246, R343, R509). `priOk`: the clock-plan primary is usable. -/
def Dev.takeover (d : Dev) (priOk : Bool) : Dev :=
  let on3 := d.get Fld.clkStatusRefUsed == 3
  let d := d.modHinge (fun h => { h with sync := false, copy := [], copyTumb := none, syncAt := none })
  let d := ((d.setRole Role.active).happen Fld.hingeEventsFailover).inc Fld.hingeCount0Takeovers
  let d := d.each (List.range 10) Dev.takeoverOut
  let d := ({ d with usb := { d.usb with vbusOk := false } }).usbCheck
  let d := (d.planFields).put Fld.clkStatusOnAlt 0
  if !on3 then d
  else if priOk then (d.put Fld.clkStatusRefUsed d.planPrimary).happen Fld.clkEventsRefSwitch
  else d.enterHoldover

/-- HEARTBEAT_MISS (R506, R509, R510). `high`: TWIN_HOLD_N has read high since b − 1 base frame. -/
def Dev.heartbeatMiss (d : Dev) (high priOk : Bool) : Dev :=
  if d.role ≠ Role.standby ∨ d.hinge.beat then d
  else
    let was := d.get Fld.hingeStatusMiss
    let d := ((d.inc Fld.hingeStatusMiss).inc Fld.hingeCount2Missed).modHinge (fun h => { h with beat := true })
    if was < 5 then d
    else if high then d.takeover priOk
    else if was = 5 then d.happen Fld.hingeEventsHingeLost
    else d

/-- HINGE_FRAME_RX (R497 to R501, R504, R510, R511): the frame, a resynchronisation when heartbeats resume, the reference of a
synchronisation that begins, a live keyplan of the active, and a HINGE reset that the partner asks for. -/
def State.hingeRx (s : State) (f : HingeIn) : State :=
  let d0 := s.dev
  let d := d0.hingeFrame f
  let d := if d.role = Role.standby ∧ 6 ≤ d0.get Fld.hingeStatusMiss ∧ d.get Fld.hingeStatusMiss = 0 then d.resync else d
  let d := d.syncEdge d0
  let d := if f.ok && d.role == Role.standby && f.live != [] then
      match (d.kpVerdict .live f.live).1 with
      | some (.ok p) => (d.put Fld.tumbStatusLive 1).liveAccept p (some f.liveAt)
      | _ => d
    else d
  let s := { s with dev := d }
  if f.ok && f.req == 3 && d0.hingeOn then s.assertReset Rst.hinge 0 else s

/-- PAIR_WAIT_EXPIRE (R493). -/
def Dev.pairWaitEnds (d : Dev) : Dev := (d.pairWaitExpire).syncEdge d

/-- PAIR_SYNC_TIMEOUT (R496). -/
def Dev.syncTimesOut (d : Dev) : Dev := (d.syncTimeout).syncEdge d

/-! ### Turns and tamper (R525, R531, R534) -/

/-- The slot of the turn in progress is sealed, and the holding words take the current values (R525, R528). -/
def Dev.sealSlot (d : Dev) (i t : Nat) : Dev :=
  let d := d.setSlot i t { d.slot i t with sealed := true }
  let d := { d with kt := { d.kt with turn := none, hold := [] } }
  ((d.put Fld.ktStatusBusy 0).ktResult i 1).happen Fld.repEventsTurnDone

/-- A new power-up code acts at once on an output that holds it (R192, R527). -/
def Dev.codeSealed (d d0 : Dev) (i : Nat) : Dev :=
  if 9 ≤ i ∧ i ≤ 18 then
    let o := i - 9
    let st := d.outSt o
    if (st = OutSt.powerup ∧ d.puCode o ≠ d0.puCode o) ∨
        ((st = OutSt.clear ∨ st = OutSt.failed) ∧ d.clrCode o ≠ d0.clrCode o) then d.codeChange o else d
  else d

/-- KT_SEAL (R525, R527, R531): the value takes effect; a LIFECYCLE turn starts a wipe, at whose end the part resets. A failed
lockbox has no wipe to wait for (R518). -/
def State.ktSeal (s : State) : State :=
  match s.dev.kt.turn with
  | none => s
  | some (i, t, _) =>
    let s := s.on (fun d => (d.sealSlot i t).codeSealed d i)
    if i ≠ 3 then s
    else if s.dev.is Fld.repStatusLbxFail then s.assertReset Rst.soft 0
    else (s.wipe).on (fun d => { d with kt := { d.kt with advance := true } })

/-- LBX_WIPE_DONE (R402, R531). -/
def State.lbxWipeDone (s : State) : State :=
  if !s.dev.is Fld.lbxStatusWiping then s
  else
    let advance := s.dev.kt.advance
    let s := s.on Dev.wipeDone
    if advance then s.assertReset Rst.soft 0 else s

/-- TAMPER (R534) of cause 1 to 3 (R533). -/
def State.tamper (s : State) (cause : Nat) : State :=
  ((s.on Dev.fastOn).wipe).on (fun d =>
    let d := (d.cutTurn).cutBurn
    (((d.happen Fld.ktEventsTamper).inc Fld.ktTamperCount).put Fld.ktTamperCause cause))

/-! ### Wake sources (R248, R249, R344, R485, R549, R560) -/

/-- The running keyplan uses link port `p`, whose squelch detector is then in use (R484). -/
def Dev.portUsed (d : Dev) (p : Nat) : Bool :=
  let f := Fld.linkPortCfgUsed p
  d.is f || (d.dom Dom.link == 0 && (d.defaults Dom.link).any (fun e => e.1 == f.addr && f.of (BitVec.ofNat 32 e.2) != 0))

/-- SQUELCH_WAKE of port `p` (R485, R549). -/
def Dev.squelchWake (d : Dev) (p : Nat) : Dev :=
  if d.lportSt p = LPortSt.idle ∧ d.portUsed p then (d.wakeEvent 0).squelch p else d

/-- USB_RESUME (R344, R549). -/
def Dev.resumeSignal (d : Dev) (reset high : Bool) : Dev :=
  if d.released then d else (d.wakeEvent 1).usbResume reset high

/-- JACK_DEBOUNCED of jack `k` (R249, R344, R549). -/
def Dev.jackChange (d : Dev) (k : Nat) : Dev :=
  let (d, changed) := d.jackDebounced k
  if changed then (d.wakeEvent 3).usbWakeUp Fld.usbCtrlWakeJack else d

/-- SUPPLY_WARNING of supply `i` (R551, R560). -/
def Dev.supplyWarned (d : Dev) (i mv : Nat) : Dev := (d.fastOn).supplyWarning i mv

/-! ### Link messages (R479, R481) -/

/-- LINK_RESET (R479). -/
def State.linkReset (s : State) (p : Nat) (m : Msg) : State :=
  let (d, go) := s.dev.linkResetMsg p m
  let s := { s with dev := d }
  if go then s.assertReset Rst.link 0 else s

/-- BOOT_DATA (R477, R478, R481): bytes 0 to 3 of the payload give the offset. -/
def State.bootData (s : State) (p : Nat) (m : Msg) : State :=
  let (d, mine) := s.dev.arrive MsgType.bootData p m
  let s := { s with dev := d }
  if mine then s.linkData ((m.drop 16).take (min 64 (msgNat m 6 1))) else s

/-! ### Power (R545 to R547) -/

/-- PWR_TRANSACTION (R545): one access that writes words of PWR_TARGET. A refusal at once serves what was held. -/
def State.pwrTransaction (s : State) (ws : List (Nat × Word)) : State :=
  (s.hostWrite Env.quiet (ws.map (fun e => (Reg.pwrTarget e.1, e.2)))).serveHeld

/-- PWR_COMMIT (R546): the commit, and the accesses that waited for it. -/
def State.pwrCommitAll (s : State) : State := (s.pwrCommit).serveHeld

/-- QUIESCE_TIMEOUT (R546, R547). -/
def State.quiesceEnds (s : State) : State := (s.on Dev.quiesceTimeout).serveHeld

/-- QUIESCE_AGREE of domain `k` (R546). -/
def Dev.quiesceAgrees (d : Dev) (k : Nat) : Dev := d.quiesceAgree k

/-! ### Writes of the host to one register -/

/-- A write of the host to a register, nothing out of the ordinary. -/
def State.hostReg (s : State) (a : Nat) (v : Word) : State := s.hostWord Env.quiet a v

/-- A write of the host to the run bit of one direction of port `n` (6: S/PDIF), the other bit as it reads (R270, R322). -/
def State.hostRun (s : State) (n : Nat) (tx on : Bool) : State :=
  let other := if s.dev.is (runF n (!tx)) then (if tx then 1 else 2) else 0
  s.hostReg (unitCtrl n) (BitVec.ofNat 32 (other + (if on then (if tx then 2 else 1) else 0)))

/-- A write of the host of 1 to PORTn_CTRL.clr_cnt, the run bits as they read (R295). -/
def State.hostClrCnt (s : State) (n : Nat) : State :=
  s.hostReg (unitCtrl n) (BitVec.ofNat 32 (4 + (if s.dev.is (runF n false) then 1 else 0) + (if s.dev.is (runF n true) then 2 else 0)))

/-- A read of one register by the host (R444: a claim has its side effect). -/
def State.hostRead (s : State) (a : Nat) : State :=
  if s.dev.pwr.inReset then s else (s.readWord Env.quiet .host a).1

end Sys2Proof.Machine
end

