-- ==== Sys2Proof/Machine/Frame.lean ====
section
/-! DEFINITION. The frame boundary and the keyway's pass (R48 steps 7 and 8, R104 to R106, R124, R376 to R378), with what every
block does at a boundary. -/
namespace Sys2Proof.Machine

/-! ### Engine rings (R376 to R378) -/

/-- D of the ring (R376). -/
def Dev.ringDepth (d : Dev) (e : Nat) : Nat := if d.is (Fld.engRinggeomDepth e) then 8 else 4

/-- The offset of slot `f`, channel `k` (R376). -/
def Dev.ringOff (d : Dev) (e f k : Nat) : Nat :=
  let b := d.ringB e
  if d.is (Fld.engRinggeomCmaj e) then 64 * b * (f / b) + 4 * (b * k + f % b) else 4 * (16 * f + k)

/-- The addresses of the sixteen samples of frame `n` in a ring whose base field is `base`. -/
def Dev.ringAddrs (d : Dev) (e base n : Nat) : List Nat :=
  let f := n % (d.ringB e * d.ringDepth e)
  (List.range 16).map (fun k => 0x40000 * e + 64 * base + d.ringOff e f k)

/-- The rings of engine `e` move: it has started, its tile serves, and it has not halted (R375). -/
def Dev.ringOn (d : Dev) (e : Nat) : Bool :=
  d.engPowered e && (d.engBusy e || d.engSt e == EngSt.stopped)

/-- A ring transfer was late (R377, R378). -/
def Dev.ringLate (d : Dev) (e : Nat) (cnt : Fld) : Dev := (d.inc cnt).raise e 17

/-- The sink samples of pass `n` go to the input ring of engine `e` (R377). -/
def State.ringIn (s : State) (f : FrameIn) (n e : Nat) : State :=
  if bitOf f.lateIn e then s.on (·.ringLate e (Fld.engRingstatInLate e))
  else
    let xs := (List.range 16).map (fun k => leBytes 4 (unsg 32 (SMap.get 0 s.dev.key.sink (512 + 16 * e + k))))
    let as := s.dev.ringAddrs e (s.dev.get (Fld.engRinginBase e)) n
    if s.dev.is (Fld.engRinggeomCmaj e) then
      (as.zip xs).foldl (fun s p =>
        let (d, good) := s.dev.eccWrite EccAgent.ring f.errs p.1 4
        if good then { s with dev := d }.store p.1 p.2 else { s with dev := d }) s
    else s.store (as.headD 0) xs.flatten

/-- The block that ends with pass `n` is complete (R377, R355 c11, R383 ENGn_LOAD). -/
def Dev.ringBlock (d : Dev) (n e : Nat) : Dev :=
  if n % d.ringB e + 1 ≠ d.ringB e then d
  else
    let x := d.eng e
    let last := min 0xFFFF (x.busy / 16)
    let d := if x.hadBlock then (d.put (Fld.engLoadLast e) last).put (Fld.engLoadPeak e) (max last (d.get (Fld.engLoadPeak e))) else d
    (d.setEng e { x with blocks := (x.blocks + 1) % 2 ^ 32, busy := 0, hadBlock := true }).raise e 16

/-- The sources of engine `e` in pass `n` (R375, R378): silent, silenced by half, in the zeros after START, late, or read from
the output ring, where an uncorrectable word reads as 0 (R394). -/
def Dev.ringOut (d : Dev) (mem : List Host.Cell) (f : FrameIn) (n e : Nat) : Dev × List Int :=
  let x := d.eng e
  if !d.engPowered e then (d, [])
  else match x.sil with
    | .zero => (d, [])
    | .half =>
      (d.setEng e { x with sil := .zero }, (List.range 16).map (fun k => SMap.get 0 d.key.src (512 + 16 * e + k) / 2))
    | .off =>
      if !d.engBusy e then (d, [])
      else if x.zeros ≠ 0 then (d.setEng e { x with zeros := x.zeros - 1 }, [])
      else if bitOf f.lateOut e then (d.ringLate e (Fld.engRingstatOutLate e), [])
      else
        let m := (n + 2 ^ 32 - d.engZeros e) % 2 ^ 32
        let as := d.ringAddrs e (d.get (Fld.engRingoutBase e)) m
        let d := d.each (as.map (· / 16 * 16)).eraseDups (fun d w => d.eccRead EccAgent.ring f.errs w)
        (d, as.map (fun a => if badCw f.errs a then 0 else sgn 32 (leNat (memRead mem a 4))))

/-! ### The source latch (R101, R103, R104) -/

/-- Tone generator `k`'s sample, and its accumulator's step (R197, R198). -/
def Dev.toneLatch (d : Dev) (k : Nat) : Dev × Int :=
  if !d.is (Fld.toneCfgEn k) then (d, 0)
  else
    let acc := SMap.get 0 d.key.tone k
    let d' := { d with key := { d.key with tone := SMap.set 0 d.key.tone k ((acc + d.get (Fld.toneFreqInc k)) % 2 ^ 32) } }
    (d', toneSample acc (d.get (Fld.toneCfgAmp k)))

/-- Latch a run of instances in turn: `base e` is the first source of instance `e`. -/
def Dev.latchEach (d : Dev) (es : List Nat) (base : Nat → Nat) (f : Dev → Nat → Dev × List Int) : Dev × List (Nat × Int) :=
  es.foldl (fun (a : Dev × List (Nat × Int)) e =>
    let (d, xs) := f a.1 e
    (d, a.2 ++ (List.range xs.length).map (fun i => (base e + i, xs.getD i 0)))) (d, [])

/-- The source latch of pass `n` (R101, R103): the samples that are not 0, by source, in ascending order. -/
def Dev.latch (d : Dev) (mem : List Host.Cell) (f : FrameIn) (n : Nat) : Dev × SMap Int :=
  let ains := (List.range 8).map (fun i => (i, d.ainSample i (f.ain.getD i 0)))
  let pdms := (List.range 32).map (fun c => (8 + c, d.pdmSample c (f.pdm.getD c 0)))
  let (d, ports) := d.latchEach (List.range 7) unitSource (fun d k => d.portLatch k n)
  let (d, usb) := d.latchEach [0] (fun _ => 176) (fun d _ => d.usbLatch)
  let (d, link) := d.latchEach [0] (fun _ => 192) (fun d _ => d.linkLatch n)
  let (d, engs) := d.latchEach (List.range 16) (fun e => 512 + 16 * e) (fun d e => d.ringOut mem f n e)
  let buses := d.key.src.filter (fun e => decide (768 ≤ e.1) && decide (e.1 ≤ 895))
  let (d, tones) := d.latchEach (List.range 8) (fun k => 896 + k) (fun d k =>
    let (d, x) := d.toneLatch k
    (d, [x]))
  (d, (ains ++ pdms ++ ports ++ usb ++ link ++ engs ++ buses ++ tones).filter (fun e => e.2 != 0))

/-- A pass (R104, R106, R377, R378): the ring writes of the pass before, the latch, crosspoints and routes, and the write-out to
the sinks' owners. -/
def State.pass (s : State) (f : FrameIn) (n : Nat) : State :=
  let es := (List.range 16).filter s.dev.ringOn
  let back (k : Nat) : Nat := (n + 2 ^ 32 - k) % 2 ^ 32
  let s := if s.dev.key.age ≤ 1 then s else es.foldl (fun s e => s.ringIn f (back 1) e) s
  let s := if s.dev.key.age ≤ 2 then s else s.on (fun d => d.each es (fun d e => d.ringBlock (back 2) e))
  let (d, x) := s.dev.latch s.mem f n
  let d := (d.mixPass x).lockCrcs n
  let d := d.each (List.range 7) (fun d k => d.portHand k n)
  { s with dev := (d.usbHand).linkHand n }

/-! ### The boundary (R105) -/

/-- The frame strobe runs: a keyplan has started, the divided clocks come from the VCO, and no start is awaited (R105). -/
def Dev.strobes (d : Dev) : Bool :=
  d.boot.everRun && d.boot.commit != 7 && !d.clk.fallback && !d.pwr.inReset

/-- Passes run (R105): KEYWAY is on its PLL clocks; a package that synchronises as a standby waits for its boundary (R496). -/
def Dev.passOn (d : Dev) : Bool :=
  d.alive && d.frames Dom.keyway && !(d.hinge.sync && d.role == Role.pairing)

/-- The number of the next boundary (R105): a first pass is pass 0, or follows the root's number on a joined link node. -/
def Dev.nextFrame (d : Dev) : Nat :=
  if d.key.age ≠ 0 then (d.frame + 1) % 2 ^ 32
  else if !d.isRoot && (d.linkSt == LinkSt.joined || d.linkSt == LinkSt.slew) then ((d.lport 0).frame + 1) % 2 ^ 32
  else 0

/-- Boundary `n` begins a pass: the counter, KEY_STATUS (R128, R129). -/
def Dev.countFrame (d : Dev) (n : Nat) : Dev :=
  let d := (d.put Fld.keyFramecntCount n).put Fld.keyStatusRunning 1
  let d := d.flag Fld.keyStatusDouble (d.get Fld.clkPlanRate != 0)
  { d with key := { d.key with age := min 3 (d.key.age + 1) } }

/-- The mirrored writes due at boundary `n` take effect, in order (R500, R501, R511). -/
def State.mirrorsDue (s : State) (n : Nat) : State :=
  let (d, ws) := s.dev.dueMirrors n
  let s := { s with dev := d }
  if s.dev.role ≠ Role.active ∧ s.dev.role ≠ Role.standby then s
  else (ws.foldl (fun s w =>
    if w.1 = Reg.hingeCtrl then s.on Dev.detachDue else s.applyWord Env.quiet .host w.1 w.2) s).endAccess

/-- The servo of output `o` tracks (R241): while the output drives, by at most 10 µV a frame, within its range. -/
def Dev.servoTrack (d : Dev) (o : Nat) (t : Int) : Dev :=
  let st := d.outSt o
  let old := sgn 16 (d.get (Fld.seqTrimTrim o))
  let top : Int := if isSpk o then 10000 else 20000
  let step : Int := if isSpk o then 1 else 10
  if !(d.out o).acquired || st == OutSt.off || st == OutSt.hiz || st == OutSt.clear || st == OutSt.failed then d
  else
    let v := max (-top) (min top (max (old - step) (min (old + step) t)))
    let hit := decide (v.natAbs = top.natAbs)
    let was := d.get (Fld.seqStatusServo o) == 3
    let d := (d.put (Fld.seqTrimTrim o) (unsg 16 v)).put (Fld.seqStatusServo o) (if hit then 3 else 2)
    if hit && !was then d.happenAt Fld.seqEventsServoLimit o else d

/-- What the surroundings show in a frame (R145, R151, R156, R176, R218, R241, R392, R563, R567). -/
def Dev.observe (d : Dev) (f : FrameIn) : Dev :=
  let d := d.each (List.range 8) (fun d n => (d.ainOverload n (f.ain.getD n 0)).ainStep n)
  let d := d.each (bitList 10 f.clips) (fun d o => d.happen (if isSpk o then Fld.spkEventsClip (o - 6) else Fld.outEventsClip o))
  let d := d.put Fld.micbStatusLimit (f.micb &&& d.get Fld.micbStatusDriving)
  let d := d.each (List.range (min 4 f.supplies.length)) (fun d i => d.showSupply i (f.supplies.getD i 0))
  let d := d.each (List.range (min 3 f.temps.length)) (fun d k => d.showTemp k (f.temps.getD k 0))
  let d := d.each f.servo (fun d (e : Nat × Int) => if e.1 < 10 then d.servoTrack e.1 e.2 else d)
  d.each f.banks (fun d (b : Nat × Nat × Bool) => if b.1 ≤ 32 then d.bankFrame b.1 b.2.1 b.2.2 else d)

/-- A base frame begins at this boundary: every one at a base rate, every even one at a double rate (R460, R497). -/
def Dev.baseFrame (d : Dev) : Bool := d.frame % d.linkStep == 0

/-- The blocks' own part of a boundary (R174, R192, R224, R313, R396, R413, R427, R460, R497). -/
def Dev.boundaryEnd (d : Dev) : Dev :=
  let d := d.each (List.range 10) (fun d o => d.blkProgress o d.ppf)
  let d := ((d.ceilings).dmaBoundary).remap
  let d := d.each (List.range 8) Dev.npTick
  if d.baseFrame then (if d.on Dom.link then d.linkTick else d).hingeTick else d

/-- Boundary `n` with a pass: counted, mirrored writes and then the pass; every engine's FRAME source (R439). -/
def State.runPass (s : State) (f : FrameIn) (n : Nat) : State :=
  let s := (s.on (·.countFrame n)).mirrorsDue n
  (s.pass f n).on (fun d => d.each (List.range 16) (fun d e => d.raise e 51))

/-- FRAME_BOUNDARY (R105): the commit phase of the pass that ends, then the boundary. -/
def State.frameBoundary (s : State) (f : FrameIn) : State :=
  if !s.dev.strobes then s
  else
    let s := s.on (·.observe f)
    let s := s.on (fun d => d.each (List.range 7) Dev.portBoundary)
    let s := if s.dev.passOn then
        let n := s.dev.nextFrame
        (s.on (fun d => (d.tumbCommit n).liveCommit n)).runPass f n
      else s
    s.on Dev.boundaryEnd

/-- Engines that the running keyplan has an image for (R37, R48 step 7). -/
def Dev.imaged (d : Dev) : List Nat :=
  (d.boot.run.elim [] (fun p => (p.of 5).map (·.target))).filter (fun e => decide (e < 16) && d.engPowered e)

/-- KEYWAY_START (R48 steps 7 and 8, R105, R492, R493, R556): a reseat keeps its role (R505). -/
def State.keywayStart (s : State) (f : FrameIn) : State :=
  if s.dev.boot.commit ≠ 7 ∨ s.dev.clk.fallback ∨ s.dev.pwr.inReset then s
  else
    let again := s.dev.boot.reseat != 0
    let s := s.on (fun d =>
      let d := (d.modBoot (fun b => { b with commit := 0, reseat := 0, everRun := true })).setBoot BootSt.running
      let d := d.each d.imaged Dev.engBegin
      let d := if again then d else d.twinStart
      (d.usbCheck).wdtRestart)
    let s := s.on (fun d => d.each (List.range 7) Dev.portBoundary)
    let s := if s.dev.passOn then s.runPass f s.dev.nextFrame else s
    s.on Dev.boundaryEnd

end Sys2Proof.Machine
end

