-- ==== Sys2Proof/Machine/Sync.lean ====
section
/-! DEFINITION. The boundary at which a partner becomes the standby (R496 steps 4 and 5, R500, R510). -/
namespace Sys2Proof.Machine

/-- The copy of the active's settings is applied (R496 step 4): committed words to their registers, run and mute bits as
writes. -/
def State.applyCopy (s : State) : State :=
  let c := s.dev.hinge.copy
  let es := c.filter (fun e => rwtMask e.1 != 0)
  let s := s.on (fun d =>
    let d1 := d.each es (fun d (e : Nat × Word) => d.wr e.1 e.2)
    d1.blockCommits d (es.map (·.1)))
  (c.filter (fun e => rwtMask e.1 == 0)).foldl (fun s e => s.applyWord Env.quiet .host e.1 e.2) s

/-- The tumbler's entries and armed state of the copy; a keyway that starts has no crosspoint in motion (R114). -/
def Dev.takeTumbler (d : Dev) (start : Bool) : Dev :=
  let k := if start then { Key.init with entries := d.key.entries, armed := d.key.armed } else d.key
  let d := { d with key := match d.hinge.copyTumb with
    | some (es, ar) => { k with entries := es, armed := ar }
    | none => k }
  if start then d.each (List.range 8) Dev.toneLoad else d

/-- What starts at boundary `b` (R496 step 4): the batches due, converters and PDM channels settle, engines with an image are
given START, and then the role (step 5). -/
def State.standbyStart (s : State) (b : Nat) : State :=
  let start := s.dev.role == Role.pairing
  let s := (s.on (·.takeTumbler start)).applyCopy
  let due := s.dev.hinge.batch.filter (fun m => notBefore b m.eff)
  let s := s.on (·.modHinge (fun h => { h with batch := h.batch.filter (fun m => !notBefore b m.eff) }))
  let s := (due.foldl (fun s m => s.applyWord Env.quiet .host m.addr m.value) s).endAccess
  s.on (fun d =>
    let d := (d.anainUp 0).anainUp 1
    let d := d.each (List.range 32) (fun d c => d.pdmCommit c 0)
    let d := d.each d.imaged Dev.engBegin
    let d := d.modHinge (fun h => { h with sync := false, copy := [], copyTumb := none, syncAt := none, beat := true })
    ((d.setRole Role.standby).put Fld.hingeStatusMiss 0).happen Fld.hingeEventsPaired)

/-- STANDBY_SYNC (R496 steps 4 and 5, R500, R510): at the announced boundary the partner becomes, or is again, the standby; the
active arms its dead-man circuit. -/
def State.standbySync (s : State) (f : FrameIn) : State :=
  let d := s.dev
  if !d.hinge.sync || !d.hingeOn then s
  else if d.role = Role.active then
    s.on (fun d => ((d.modHinge (fun h => { h with sync := false })).put Fld.hingeStatusArmed 1).happen Fld.hingeEventsPaired)
  else match d.hinge.syncAt with
    | none => s
    | some b =>
      if d.clk.fallback ∨ d.role = Role.solo ∨ d.pwr.inReset then s
      else
        let s := (s.on (·.observe f)).on (fun d => d.each (List.range 7) Dev.portBoundary)
        (((s.standbyStart b)).runPass f b).on Dev.boundaryEnd

end Sys2Proof.Machine
end

