-- ==== Sys2Proof/Machine/ExecBoot.lean ====
section
/-! DEFINITION. The meanings of the commands of resets, the boot controller and the commit (chapters 02, 18 and 19). -/
namespace Sys2Proof.Machine

/-- POR: power-on reset (R529, R554, R557). -/
def execPor (s : State) : Host.Outcome State Fault Refusal :=
  .next s.por

/-- BOR: brown-out reset (R554, R555); `supply`: bit 0 VDD_CORE, 1 VDD_IO33, 2 AVDD18. -/
def execBor (supply : Nat) (s : State) : Host.Outcome State Fault Refusal :=
  .next (s.bor supply)

/-- PIN_RESET: RESET_N (R554). -/
def execPinReset (s : State) : Host.Outcome State Fault Refusal :=
  .next (s.assertReset Rst.pin 0)

/-- WDT_RESET: the watchdog expires (R556). -/
def execWdtReset (s : State) : Host.Outcome State Fault Refusal :=
  .next s.wdtReset

/-- SOFT: the SOFT command of SYS_RSTCTRL (R554, R565). -/
def execSoft (s : State) : Host.Outcome State Fault Refusal :=
  .next (s.hostReg Reg.sysRstctrl 0x96160001)

/-- RESET_RELEASE: the reset ends and the boot tests begin (R517); `twinSel`: the level of TWIN_SEL (R571). -/
def execResetRelease (twinSel : Bool) (s : State) : Host.Outcome State Fault Refusal :=
  .next (s.on (·.resetRelease twinSel))

/-- BOOT_TESTS_DONE: the boot tests end with findings: what failed and its location word (R517 to R519). -/
def execBootTestsDone (findings : List (Nat × Nat)) (s : State) : Host.Outcome State Fault Refusal :=
  .next (s.on (·.bootTestsDone findings))

/-- SPK_SEGMENT_TESTS_DEFERRED: the deferred segment tests (R519): failing channel, half-bridge, segment and cell. -/
def execSpkSegmentTestsDeferred (findings : List (Nat × Nat × Nat × Nat)) (s : State) : Host.Outcome State Fault Refusal :=
  .next (s.on (·.segTests findings))

/-- COMMIT: the final checks have passed and the commit begins (R48); `img`: the image in the flash slot, where one is read. -/
def execCommit (img : List Byte) (s : State) : Host.Outcome State Fault Refusal :=
  .next (s.commit img)

/-- KEYWAY_START: the frame boundary of commit step 7 (R48). -/
def execKeywayStart (f : FrameIn) (s : State) : Host.Outcome State Fault Refusal :=
  .next (s.keywayStart f)

/-- HOSTLOAD: BOOT_CTRL command HOSTLOAD (R54). -/
def execHostload (s : State) : Host.Outcome State Fault Refusal :=
  .next (s.hostReg Reg.bootCtrl 0x96160001)

/-- RESEAT: BOOT_CTRL command RESEAT from a source code (R56). -/
def execReseat (src : Fin 16) (s : State) : Host.Outcome State Fault Refusal :=
  .next (s.hostReg Reg.bootCtrl (BitVec.ofNat 32 (0x96160002 + 16 * src)))

/-- RESEAT_COMPARE: the compare of R57; `img`: the image in the flash slot, where one is read. -/
def execReseatCompare (img : List Byte) (s : State) : Host.Outcome State Fault Refusal :=
  .next (s.on (·.reseatCompare img))

/-- RESEAT_TEARDOWN: reseat step 4 (R56). -/
def execReseatTeardown (s : State) : Host.Outcome State Fault Refusal :=
  .next s.reseatTeardown

/-- LIVE: BOOT_CTRL command LIVE (R61). -/
def execLive (s : State) : Host.Outcome State Fault Refusal :=
  .next (s.hostReg Reg.bootCtrl 0x96160003)

/-- ABORT: BOOT_CTRL command ABORT (R68). -/
def execAbort (s : State) : Host.Outcome State Fault Refusal :=
  .next (s.hostReg Reg.bootCtrl 0x96160004)

/-- BOOT_CTRL_BAD_KEY: a BOOT_CTRL write that is ignored (R68). -/
def execBootCtrlBadKey (v : Word) (s : State) : Host.Outcome State Fault Refusal :=
  .next (s.hostReg Reg.bootCtrl v)

/-- BOOT_HOSTDATA: a word of a keyplan (R54). -/
def execBootHostdata (env : Env) (w : Word) (s : State) : Host.Outcome State Fault Refusal :=
  .next (s.hostWord env Reg.bootHostdata w)

/-- LOAD_SOURCE_TIMEOUT: the source has fallen silent (R54, R481). -/
def execLoadSourceTimeout (s : State) : Host.Outcome State Fault Refusal :=
  .next s.sourceTimeout

/-- FLASH_LOAD_FAIL: the image in the flash slot fails (R47). -/
def execFlashLoadFail (img : List Byte) (s : State) : Host.Outcome State Fault Refusal :=
  .next (s.flashFail img)

end Sys2Proof.Machine
end

