-- ==== Sys2Proof/Machine/ExecClock.lean ====
section
/-! DEFINITION. The meanings of the commands of the clock root (chapter 03). -/
namespace Sys2Proof.Machine

/-- PLL_WRITE: a write to CLK_PLLCFG or CLK_PLLFRAC (R76, R80, R92, R93). -/
def execPllWrite (frac : Bool) (v : Word) (s : State) : Host.Outcome State Fault Refusal :=
  .next (s.hostReg (if frac then Reg.clkPllfrac else Reg.clkPllcfg) v)

/-- REFSEL_WRITE: a write to CLK_REFSEL (R80, R94). -/
def execRefselWrite (v : Word) (s : State) : Host.Outcome State Fault Refusal :=
  .next (s.hostReg Reg.clkRefsel v)

/-- REACQUIRE: a write of 1 to CLK_CTRL.reacquire (R80, R95). -/
def execReacquire (s : State) : Host.Outcome State Fault Refusal :=
  .next (s.hostReg Reg.clkCtrl 2)

/-- SWAP: a write of 1 to CLK_CTRL.swap (R88, R95); `near`: the other reference lies within 100 ppm. -/
def execSwap (near : Bool) (s : State) : Host.Outcome State Fault Refusal :=
  .next (s.hostWord { Env.quiet with near := near } Reg.clkCtrl 1)

/-- BAND_SEARCH_DONE: the band search ends (R77). -/
def execBandSearchDone (band : Fin 64) (s : State) : Host.Outcome State Fault Refusal :=
  .next (s.on (·.bandDone band))

/-- PLL_LOCK: lock (R77) on a reference of `fref` Hz. -/
def execPllLock (fref : Nat) (s : State) : Host.Outcome State Fault Refusal :=
  .next (s.on (·.pllLock fref))

/-- ACQ_TIMEOUT: no lock within 2 ms (R79). -/
def execAcqTimeout (s : State) : Host.Outcome State Fault Refusal :=
  .next (s.on Dev.acqTimeout)

/-- FALLBACK_EXIT: the alignment point after lock (R84). -/
def execFallbackExit (s : State) : Host.Outcome State Fault Refusal :=
  .next s.fallbackExit

/-- PHASE_FREEZE: the phase detector freezes the loop (R85). -/
def execPhaseFreeze (s : State) : Host.Outcome State Fault Refusal :=
  .next (s.on Dev.phaseFreeze)

/-- FREEZE_DECISION: the decision 1 µs after a freeze (R85). -/
def execFreezeDecision (phaseOk near : Bool) (s : State) : Host.Outcome State Fault Refusal :=
  .next (s.on (·.freezeDecision phaseOk near))

/-- REF_LOST: a reference becomes invalid (R86). -/
def execRefLost (ref : Fin 4) (s : State) : Host.Outcome State Fault Refusal :=
  .next (s.on (·.refLost ref))

/-- REF_RETURNED: a reference becomes valid (R86, R87). -/
def execRefReturned (ref : Fin 4) (near : Bool) (s : State) : Host.Outcome State Fault Refusal :=
  .next (s.on (·.refReturned ref near))

/-- REFMON_REFRESH: the monitors are refreshed (R99). -/
def execRefmonRefresh (count : Nat) (s : State) : Host.Outcome State Fault Refusal :=
  .next (s.on (·.refmonRefresh count))

end Sys2Proof.Machine
end

