-- ==== Sys2Proof/Machine/ExecDma.lean ====
section
/-! DEFINITION. The meanings of the commands of DMA (chapter 14). -/
namespace Sys2Proof.Machine

/-- DMA_START: DMA command START (R431). -/
def execDmaStart (c : Fin 64) (s : State) : Host.Outcome State Fault Refusal :=
  .next (s.hostReg (Reg.dmaChCtrl c) 1)

/-- DMA_STOP: DMA command STOP (R421). -/
def execDmaStop (c : Fin 64) (s : State) : Host.Outcome State Fault Refusal :=
  .next (s.hostReg (Reg.dmaChCtrl c) 2)

/-- DMA_RESUME: DMA command RESUME (R420). -/
def execDmaResume (c : Fin 64) (s : State) : Host.Outcome State Fault Refusal :=
  .next (s.hostReg (Reg.dmaChCtrl c) 3)

/-- KICK: DMA command KICK (R413). -/
def execKick (c : Fin 64) (s : State) : Host.Outcome State Fault Refusal :=
  .next (s.hostReg (Reg.dmaChCtrl c) 4)

/-- DMA_CLR_CNT: a write of 1 to DMA_CHc_CTRL.clr_cnt (R430). -/
def execDmaClrCnt (c : Fin 64) (s : State) : Host.Outcome State Fault Refusal :=
  .next (s.hostReg (Reg.dmaChCtrl c) 16)

/-- DMA_CFG_WRITE: a write to DMA_CHc_CFG or DMA_CHc_DESC (R429, R430). -/
def execDmaCfgWrite (c : Fin 64) (desc : Bool) (v : Word) (s : State) : Host.Outcome State Fault Refusal :=
  .next (s.hostReg (if desc then Reg.dmaChDesc c else Reg.dmaChCfg c) v)

/-- DESC_FETCH: a descriptor fetch completes (R413). -/
def execDescFetch (c : Fin 64) (env : Env) (s : State) : Host.Outcome State Fault Refusal :=
  .next (s.descFetch env c)

/-- DMA_READ_RETURN: the read of beat `k` in flight returns (R414, R417). -/
def execDmaReadReturn (c : Fin 64) (k : Fin 4) (env : Env) (s : State) : Host.Outcome State Fault Refusal :=
  .next (s.dmaReadReturn env c k)

/-- DMA_BEAT_COMMIT: the write of the lowest beat is granted (R415). -/
def execDmaBeatCommit (c : Fin 64) (env : Env) (s : State) : Host.Outcome State Fault Refusal :=
  .next (s.dmaBeatCommit env c)

/-- DESC_COMPLETE: a descriptor completes (R413). -/
def execDescComplete (c : Fin 64) (env : Env) (s : State) : Host.Outcome State Fault Refusal :=
  .next (s.descComplete env c)

/-- DMA_STALL: no beat has committed for timeout boundaries (R427). -/
def execDmaStall (c : Fin 64) (s : State) : Host.Outcome State Fault Refusal :=
  .next (s.on (·.dmaStall c))

end Sys2Proof.Machine
end

