-- ==== Sys2Proof/Machine/ExecEngine.lean ====
section
/-! DEFINITION. The meanings of the commands of the Yelnik engines (chapter 12). -/
namespace Sys2Proof.Machine

/-- ENGINE_BUNDLE: an engine issues a bundle (R356); `cycles`: CLK_CORE cycles since the last (R355). -/
def execEngineBundle (e : Fin 16) (cycles : Nat) (env : Env) (s : State) : Host.Outcome State Fault Refusal :=
  .next (s.engineBundle e cycles env)

/-- INTERRUPT_TRAP: a normal-class interrupt is taken (R368). -/
def execInterruptTrap (e : Fin 16) (errs : List EccErr) (s : State) : Host.Outcome State Fault Refusal :=
  .next (s.on (·.interruptTrap e errs))

/-- FAST_ENTRY: a fast-class interrupt is taken (R369). -/
def execFastEntry (e : Fin 16) (errs : List EccErr) (s : State) : Host.Outcome State Fault Refusal :=
  .next (s.on (·.fastEntryAt e errs))

/-- WAIT_WAKE: a waiting engine goes on (R371). -/
def execWaitWake (e : Fin 16) (cycles : Nat) (errs : List EccErr) (s : State) : Host.Outcome State Fault Refusal :=
  .next (s.on (·.waitWake e cycles errs))

/-- ENGINE_START: ENGn_CTRL command START (R384). -/
def execEngineStart (e : Fin 16) (s : State) : Host.Outcome State Fault Refusal :=
  .next (s.hostReg (Reg.engCtrl e) 1)

/-- ENGINE_STOP: ENGn_CTRL command STOP (R384). -/
def execEngineStop (e : Fin 16) (s : State) : Host.Outcome State Fault Refusal :=
  .next (s.hostReg (Reg.engCtrl e) 2)

/-- ENGINE_RESUME: ENGn_CTRL command RESUME (R384). -/
def execEngineResume (e : Fin 16) (s : State) : Host.Outcome State Fault Refusal :=
  .next (s.hostReg (Reg.engCtrl e) 3)

/-- ENGINE_STEP: ENGn_CTRL command STEP (R384). -/
def execEngineStep (e : Fin 16) (env : Env) (s : State) : Host.Outcome State Fault Refusal :=
  .next (s.engineStep e env)

/-- ENGINE_CLR_CNT: a write of 1 to ENGn_CTRL.clr_cnt (R381). -/
def execEngineClrCnt (e : Fin 16) (s : State) : Host.Outcome State Fault Refusal :=
  .next (s.hostReg (Reg.engCtrl e) 16)

/-- DOORBELL: a write to ENGn_DOORBELL (R380). -/
def execDoorbell (e : Fin 16) (v : Word) (s : State) : Host.Outcome State Fault Refusal :=
  .next (s.hostReg (Reg.engDoorbell e) v)

/-- REGDATA_WRITE: a write to ENGn_REGDATA (R383). -/
def execRegdataWrite (e : Fin 16) (v : Word) (s : State) : Host.Outcome State Fault Refusal :=
  .next (s.hostReg (Reg.engRegdata e) v)

/-- RING_CONFIG_WRITE: a write to RINGIN, RINGOUT or RINGGEOM (R379). -/
def execRingConfigWrite (e : Fin 16) (which : Fin 3) (v : Word) (s : State) : Host.Outcome State Fault Refusal :=
  .next (s.hostReg (if which = 0 then Reg.engRingin e else if which = 1 then Reg.engRingout e else Reg.engRinggeom e) v)

end Sys2Proof.Machine
end

