-- ==== Sys2Proof/Machine/ExecHost.lean ====
section
/-! DEFINITION. The meanings of the commands of the host interfaces (chapter 20). -/
namespace Sys2Proof.Machine

/-- I2C_WRITE: an I2C write (R573, R574). -/
def execI2cWrite (env : Env) (adr : Fin 128) (reg : Nat) (bytes : List Byte) (s : State) : Host.Outcome State Fault Refusal :=
  .next (s.i2cWrite env adr reg bytes)

/-- I2C_SET_POINTER: an I2C address phase alone (R573). -/
def execI2cSetPointer (adr : Fin 128) (reg : Nat) (s : State) : Host.Outcome State Fault Refusal :=
  .next (s.on (·.i2cSetPtr adr reg))

/-- I2C_READ: an I2C read (R575). -/
def execI2cRead (env : Env) (adr : Fin 128) (words : Nat) (s : State) : Host.Outcome State Fault Refusal :=
  .next (s.i2cRead env adr words)

/-- I2C_ABORT: an irregular condition on the bus (R577). -/
def execI2cAbort (s : State) : Host.Outcome State Fault Refusal :=
  .next (s.on Dev.i2cAbort)

/-- I2C_STUCK: a line held low (R577). -/
def execI2cStuck (s : State) : Host.Outcome State Fault Refusal :=
  .next (s.on Dev.i2cStuck)

/-- I2C_STRETCH_TIMEOUT: 500 µs of stretching (R576). -/
def execI2cStretchTimeout (s : State) : Host.Outcome State Fault Refusal :=
  .next s.stretchTimeout

/-- SPI_WRITE: SPI command 0x02 (R578 to R581). -/
def execSpiWrite (env : Env) (adr bytes : List Byte) (cut : Bool) (s : State) : Host.Outcome State Fault Refusal :=
  .next (s.spiWrite env adr bytes cut)

/-- SPI_READ: SPI command 0x03 (R578 to R581). -/
def execSpiRead (env : Env) (adr : List Byte) (words : Nat) (late : List Nat) (cut : Bool)
    (s : State) : Host.Outcome State Fault Refusal :=
  .next (s.spiRead env adr words late cut)

/-- SPI_STATUS: SPI command 0x05 (R582). -/
def execSpiStatus (s : State) : Host.Outcome State Fault Refusal :=
  .next (s.on Dev.spiStatus)

/-- QSPI_GO: a write of 1 to QSPI_CMD.go (R584). -/
def execQspiGo (v : Word) (s : State) : Host.Outcome State Fault Refusal :=
  .next (s.hostReg Reg.qspiCmd (v ||| 0x80000000))

/-- QSPI_DONE: a flash command ends (R584), with the bytes it read. -/
def execQspiDone (bytes : List Byte) (s : State) : Host.Outcome State Fault Refusal :=
  .next (s.on (·.qspiDone bytes))

/-- REGISTER_WRITE: a write of the host to any register or memory word (R7, R9, R29 to R32). -/
def execRegisterWrite (env : Env) (a : Nat) (v : Word) (s : State) : Host.Outcome State Fault Refusal :=
  .next (s.hostWord env a v)

/-- SPI_UNKNOWN_COMMAND: another SPI command (R581). -/
def execSpiUnknownCommand (cmd : Nat) (s : State) : Host.Outcome State Fault Refusal :=
  .next (s.on (·.spiUnknown cmd))

end Sys2Proof.Machine
end

