-- ==== Sys2Proof/Machine/ExecInput.lean ====
section
/-! DEFINITION. The meanings of the commands of microphone and line inputs (chapter 05). -/
namespace Sys2Proof.Machine

/-- ANAIN_SETTLE_END: a channel has settled (R146). -/
def execAnainSettleEnd (n : Fin 8) (s : State) : Host.Outcome State Fault Refusal :=
  .next (s.on (·.ainSettleEnd n))

/-- ADC_SLICE_SWAP: slices rotate (R148). -/
def execAdcSliceSwap (n : Fin 8) (s : State) : Host.Outcome State Fault Refusal :=
  .next (s.on (·.adcSwap n))

/-- ADC_SLICE_CAL_DONE: a calibration ends, its trim beyond range or not (R149). -/
def execAdcSliceCalDone (n : Fin 8) (beyond : Bool) (s : State) : Host.Outcome State Fault Refusal :=
  .next (s.on (·.adcCalDone n beyond))

/-- ADC_SLICE_CHECK_FAIL: slice `k` disagrees (R150). -/
def execAdcSliceCheckFail (n : Fin 8) (k : Fin 9) (s : State) : Host.Outcome State Fault Refusal :=
  .next (s.on (·.adcFail n k))

/-- MICB_TRIP: a bias output trips (R156). -/
def execMicbTrip (n : Fin 4) (s : State) : Host.Outcome State Fault Refusal :=
  .next (s.on (·.micbTrip n))

/-- PDM_CLK_LOST: a received clock stops (R161). -/
def execPdmClkLost (k : Fin 8) (s : State) : Host.Outcome State Fault Refusal :=
  .next (s.on (·.pdmLost k))

/-- PDM_CLK_RETURN: a received clock returns (R161). -/
def execPdmClkReturn (k : Fin 8) (s : State) : Host.Outcome State Fault Refusal :=
  .next (s.on (·.pdmReturn k))

/-- PDM_SETTLE_END: an interval of R162 ends: of channel `k`, or of clock pin `k`. -/
def execPdmSettleEnd (ch : Bool) (k : Fin 32) (s : State) : Host.Outcome State Fault Refusal :=
  .next (s.on (fun d => if ch then d.pdmChSettled k else d.pdmClkSettled (k % 8)))

end Sys2Proof.Machine
end

