-- ==== Sys2Proof/Machine/ExecIntc.lean ====
section
/-! DEFINITION. The meanings of the commands of the interrupt controller (chapter 15); a source is its gate key. -/
namespace Sys2Proof.Machine

/-- COAL_TIMER_EXPIRE: a coalescer timer expires (R441). -/
def execCoalTimerExpire (k : Fin 2048) (s : State) : Host.Outcome State Fault Refusal :=
  .next (s.on (·.coalExpire k))

/-- CLAIM: a read of a claim register (R444). -/
def execClaim (t : Fin 18) (fast : Bool) (s : State) : Host.Outcome State Fault Refusal :=
  .next (s.hostRead (Reg.intcTClaim t + if fast then 16 else 0))

/-- COMPLETE: a write to a claim register (R446). -/
def execComplete (t : Fin 18) (fast : Bool) (id : Fin 1024) (s : State) : Host.Outcome State Fault Refusal :=
  .next (s.hostReg (Reg.intcTClaim t + if fast then 16 else 0) (BitVec.ofNat 32 id))

/-- SWSET: a write to INTC_SWSET (R452). -/
def execSwset (v : Word) (s : State) : Host.Outcome State Fault Refusal :=
  .next (s.hostReg Reg.intcSwset v)

/-- INTC_HOLD_WRITE: a write to INTC_CTRL.hold (R449). -/
def execIntcHoldWrite (hold : Bool) (s : State) : Host.Outcome State Fault Refusal :=
  .next (s.hostReg Reg.intcCtrl (if hold then 1 else 0))

/-- INTC_CFG_WRITE: a write to a source's configuration or coalescer (R454, R455). -/
def execIntcCfgWrite (k : Fin 2048) (coal : Bool) (v : Word) (s : State) : Host.Outcome State Fault Refusal :=
  .next (s.hostReg (srcCfg k + if coal then 4 else 0) v)

/-- EXTINT_CHANGE: a filtered EXTINT level changes (R450). -/
def execExtintChange (k : Fin 16) (high : Bool) (s : State) : Host.Outcome State Fault Refusal :=
  .next (s.on (·.extintChange k high))

end Sys2Proof.Machine
end

