-- ==== Sys2Proof/Machine/ExecJack.lean ====
section
/-! DEFINITION. The meanings of the commands of jacks, headsets and buttons (chapter 08). -/
namespace Sys2Proof.Machine

/-- JACK_RAW_CHANGE: a comparator changes (R248). -/
def execJackRawChange (k : Fin 4) (high : Bool) (s : State) : Host.Outcome State Fault Refusal :=
  .next (s.on (·.jackRaw k high))

/-- JACK_DEBOUNCED: the raw state has held (R249). -/
def execJackDebounced (k : Fin 4) (s : State) : Host.Outcome State Fault Refusal :=
  .next (s.on (·.jackChange k))

/-- JD_CFG_WRITE: a write to JDk_CFG (R249, R255). -/
def execJdCfgWrite (k : Fin 4) (v : Word) (s : State) : Host.Outcome State Fault Refusal :=
  .next (s.hostReg (Reg.jdCfg k) v)

/-- HS_START: a write of 1 to HSh_CTRL.start (R250). -/
def execHsStart (h : Fin 2) (s : State) : Host.Outcome State Fault Refusal :=
  .next (s.hostReg (Reg.hsCtrl h) 1)

/-- HS_ABORT: a write of 1 to HSh_CTRL.abort (R251). -/
def execHsAbort (h : Fin 2) (s : State) : Host.Outcome State Fault Refusal :=
  .next (s.hostReg (Reg.hsCtrl h) 2)

/-- HS_SETTLE_END: the settle ends (R250). -/
def execHsSettleEnd (h : Fin 2) (s : State) : Host.Outcome State Fault Refusal :=
  .next (s.on (·.hsSettleEnd h))

/-- HS_DETECT_DONE: averaging ends with |Z| of `z` ohms (R251). -/
def execHsDetectDone (h : Fin 2) (z : Nat) (s : State) : Host.Outcome State Fault Refusal :=
  .next (s.on (·.hsDetectDone h z))

/-- BUTTON_SAMPLE: a button sample (R253). -/
def execButtonSample (h : Fin 2) (level : Nat) (reached : Bool) (s : State) : Host.Outcome State Fault Refusal :=
  .next (s.on (·.buttonSample h level reached))

/-- BTNCFG_WRITE: a write to HSh_BTNCFG (R254). -/
def execBtncfgWrite (h : Fin 2) (v : Word) (s : State) : Host.Outcome State Fault Refusal :=
  .next (s.hostReg (Reg.hsBtncfg h) v)

end Sys2Proof.Machine
end

