-- ==== Sys2Proof/Machine/ExecKeyway.lean ====
section
/-! DEFINITION. The meanings of the commands of the keyway and the tumbler (chapter 04). -/
namespace Sys2Proof.Machine

/-- FRAME_BOUNDARY: the next frame boundary (R105). -/
def execFrameBoundary (f : FrameIn) (s : State) : Host.Outcome State Fault Refusal :=
  .next (s.frameBoundary f)

/-- TUMBLER_STAGE: a write to an RWT word (R118 to R121). -/
def execTumblerStage (a : Nat) (v : Word) (s : State) : Host.Outcome State Fault Refusal :=
  .next (s.hostReg a v)

/-- ARM: TUMB_CTRL command ARM (R122); `late`: the commit phase has begun. -/
def execArm (late : Bool) (s : State) : Host.Outcome State Fault Refusal :=
  .next (s.hostWord { Env.quiet with late := late } Reg.tumbCtrl 1)

/-- ARM_AT: TUMB_CTRL command ARM_AT (R123). -/
def execArmAt (late : Bool) (s : State) : Host.Outcome State Fault Refusal :=
  .next (s.hostWord { Env.quiet with late := late } Reg.tumbCtrl 2)

/-- DISARM: TUMB_CTRL command DISARM (R125). -/
def execDisarm (late : Bool) (s : State) : Host.Outcome State Fault Refusal :=
  .next (s.hostWord { Env.quiet with late := late } Reg.tumbCtrl 3)

/-- DISCARD: TUMB_CTRL command DISCARD (R125). -/
def execDiscard (s : State) : Host.Outcome State Fault Refusal :=
  .next (s.hostReg Reg.tumbCtrl 4)

/-- XP_RAMP_END: a gain ramp reaches its target (R112, R114). -/
def execXpRampEnd (c : Fin 8192) (s : State) : Host.Outcome State Fault Refusal :=
  .next (s.on (·.xpRampEnd c))

/-- FADE_SHADOW_END: a fade shadow ends (R115). -/
def execFadeShadowEnd (c : Fin 8192) (s : State) : Host.Outcome State Fault Refusal :=
  .next (s.on (·.shadowEnd c))

/-- SERIAL_FADE_HALF: the first half of a serial fade ends (R115). -/
def execSerialFadeHalf (c : Fin 8192) (s : State) : Host.Outcome State Fault Refusal :=
  .next (s.on (·.serialHalf c))

end Sys2Proof.Machine
end

