-- ==== Sys2Proof/Machine/ExecLink.lean ====
section
/-! DEFINITION. The meanings of the commands of the Wokin link (chapter 16); port 0 is UP, 1 DOWN_A, 2 DOWN_B. -/
namespace Sys2Proof.Machine

/-- LINK_FRAME_RX: a link frame arrives (R461 to R475). -/
def execLinkFrameRx (p : Fin 3) (f : LinkIn) (s : State) : Host.Outcome State Fault Refusal :=
  .next (s.on (·.linkFrame p f))

/-- LINK_RANGING_DONE: ranging over 32 base frames ends (R469, R471, R483). -/
def execLinkRangingDone (same : Bool) (s : State) : Host.Outcome State Fault Refusal :=
  .next (s.on (·.linkRangingDone same))

/-- LINK_ROOT_LOSS: root loss (R482). -/
def execLinkRootLoss (s : State) : Host.Outcome State Fault Refusal :=
  .next (s.on Dev.rootLoss)

/-- APP: an APP message arrives (R477 to R479). -/
def execApp (p : Fin 3) (m : List Byte) (s : State) : Host.Outcome State Fault Refusal :=
  .next (s.on (·.linkApp p m))

/-- ASSIGN: an ASSIGN message arrives (R466, R479). -/
def execAssign (p : Fin 3) (m : List Byte) (s : State) : Host.Outcome State Fault Refusal :=
  .next (s.on (·.linkAssign p m))

/-- JOIN: a JOIN message arrives (R479). -/
def execJoin (p : Fin 3) (m : List Byte) (s : State) : Host.Outcome State Fault Refusal :=
  .next (s.on (·.linkJoin p m))

/-- LINK_RESET: a RESET message arrives (R479). -/
def execLinkReset (p : Fin 3) (m : List Byte) (s : State) : Host.Outcome State Fault Refusal :=
  .next (s.linkReset p m)

/-- BOOT_DATA: a BOOT_DATA message arrives (R479, R481). -/
def execBootData (p : Fin 3) (m : List Byte) (s : State) : Host.Outcome State Fault Refusal :=
  .next (s.bootData p m)

/-- LINK_SEND: a write of 1 to LINK_TXCTRL.send (R488). -/
def execLinkSend (s : State) : Host.Outcome State Fault Refusal :=
  .next (s.hostReg Reg.linkTxctrl 1)

/-- LINK_POP: a write of 1 to LINK_RXSTAT.pop (R488). -/
def execLinkPop (s : State) : Host.Outcome State Fault Refusal :=
  .next (s.hostReg Reg.linkRxstat 1)

/-- LINK_NODEID_WRITE: a write to LINK_NODEID (R466, R487). -/
def execLinkNodeidWrite (v : Word) (s : State) : Host.Outcome State Fault Refusal :=
  .next (s.hostReg Reg.linkNodeid v)

/-- LINK_IDLE: a write of 1 to LINK_PORTp_CTRL.idle (R484). -/
def execLinkIdle (p : Fin 3) (s : State) : Host.Outcome State Fault Refusal :=
  .next (s.hostReg (Reg.linkPortCtrl p) 1)

/-- LINK_WAKE: a write of 1 to wake with idle as it reads, or of 0 to idle (R485). -/
def execLinkWake (p : Fin 3) (wake : Bool) (s : State) : Host.Outcome State Fault Refusal :=
  .next (s.hostReg (Reg.linkPortCtrl p) (if wake then BitVec.ofNat 32 (2 + s.dev.get (Fld.linkPortCtrlIdle p)) else 0))

/-- SQUELCH_WAKE: activity on an idle port (R485, R549). -/
def execSquelchWake (p : Fin 3) (s : State) : Host.Outcome State Fault Refusal :=
  .next (s.on (·.squelchWake p))

/-- LINK_CLR_CNT: a write of 1 to LINK_CTRL.clr_cnt (R487). -/
def execLinkClrCnt (s : State) : Host.Outcome State Fault Refusal :=
  .next (s.hostReg Reg.linkCtrl 1)

end Sys2Proof.Machine
end

