-- ==== Sys2Proof/Machine/ExecMem.lean ====
section
/-! DEFINITION. The meanings of the commands of memories, windows and the lockbox (chapter 13). -/
namespace Sys2Proof.Machine

/-- ECC_WRITEBACK: a corrected word is written back (R393). -/
def execEccWriteback (a : Nat) (s : State) : Host.Outcome State Fault Refusal :=
  .next (s.on (·.eccWriteback a))

/-- SCRUB_READ: the scrubber reads a word (R395). -/
def execScrubRead (a : Nat) (errs : List EccErr) (s : State) : Host.Outcome State Fault Refusal :=
  .next (s.on (·.scrubRead a errs))

/-- REPAIR_COPY_DONE: a repair copy ends (R396, R521). -/
def execRepairCopyDone (loc kind : Nat) (s : State) : Host.Outcome State Fault Refusal :=
  .next (s.on (·.copyDone loc kind))

/-- WINDOW_WRITE: a write to a window word (R400). -/
def execWindowWrite (set : Fin 64) (win : Fin 16) (pa : Bool) (v : Word) (s : State) : Host.Outcome State Fault Refusal :=
  .next (s.hostReg (0x848000 + 0x80 * set + 8 * win + if pa then 4 else 0) v)

/-- LBX_WIPE_DONE: a lockbox wipe ends (R402, R531). -/
def execLbxWipeDone (s : State) : Host.Outcome State Fault Refusal :=
  .next s.lbxWipeDone

/-- MEM_CTRL_WRITE: a write to MEM_CTRL (R407). -/
def execMemCtrlWrite (v : Word) (s : State) : Host.Outcome State Fault Refusal :=
  .next (s.hostReg Reg.memCtrl v)

end Sys2Proof.Machine
end

