-- ==== Sys2Proof/Machine/ExecOutput.lean ====
section
/-! DEFINITION. The meanings of the commands of line and headphone outputs and the sequencer (chapters 06 and 08). -/
namespace Sys2Proof.Machine

/-- DAC_SLICE_SWAP: slices rotate (R179). -/
def execDacSliceSwap (o : Fin 10) (s : State) : Host.Outcome State Fault Refusal :=
  .next (s.on (·.dacSwap o))

/-- DAC_SLICE_CAL_DONE: a calibration ends (R180). -/
def execDacSliceCalDone (o : Fin 10) (beyond : Bool) (s : State) : Host.Outcome State Fault Refusal :=
  .next (s.on (·.dacCalDone o beyond))

/-- DAC_SLICE_CHECK_FAIL: slice `k` disagrees (R181). -/
def execDacSliceCheckFail (o : Fin 10) (k : Fin 10) (s : State) : Host.Outcome State Fault Refusal :=
  .next (s.on (·.dacFail o k))

/-- COMPLIANCE_TRIP: a pin leaves the window (R185). -/
def execComplianceTrip (o : Fin 4) (s : State) : Host.Outcome State Fault Refusal :=
  .next (s.on (·.complianceTrip o))

/-- COMPLIANCE_HIZ: the pin is still outside 1 ms after the hold (R185). -/
def execComplianceHiz (o : Fin 4) (s : State) : Host.Outcome State Fault Refusal :=
  .next (s.on (·.complianceHiz o))

/-- COMPLIANCE_CLEARED: software clears protect and hiz (R186). -/
def execComplianceCleared (o : Fin 4) (s : State) : Host.Outcome State Fault Refusal :=
  .next (s.hostReg (Reg.outEvents o) 3)

/-- COMPLIANCE_RECOVER: the pin has stayed inside for 1 ms (R186). -/
def execComplianceRecover (o : Fin 4) (s : State) : Host.Outcome State Fault Refusal :=
  .next (s.on (·.complianceRecover o))

/-- HP_CURRENT_LIMIT: a headphone channel stays in limit (R189). -/
def execHpCurrentLimit (h : Fin 2) (s : State) : Host.Outcome State Fault Refusal :=
  .next (s.on (·.hpLimit (4 + h)))

/-- HP_PROTECT_CLEARED: software clears protect (R189). -/
def execHpProtectCleared (h : Fin 2) (s : State) : Host.Outcome State Fault Refusal :=
  .next (s.hostReg (Reg.outEvents (4 + h)) 1)

/-- PUMP_READY: the charge pump is ready (R188). -/
def execPumpReady (s : State) : Host.Outcome State Fault Refusal :=
  .next (s.on Dev.pumpReady)

/-- CHAIN_READY: the chain of an output becomes ready (R193). -/
def execChainReady (o : Fin 10) (s : State) : Host.Outcome State Fault Refusal :=
  .next (s.on (·.chainReadyEvent o))

/-- OUTPUT_RUN: a write to CTRL.run (R193). -/
def execOutputRun (o : Fin 10) (run : Bool) (s : State) : Host.Outcome State Fault Refusal :=
  .next (s.hostReg (Reg.outCtrl o) (if run then 1 else 0))

/-- OUT_CLR_ASSERT: OUT_CLR_N counts as low (R194). -/
def execOutClrAssert (s : State) : Host.Outcome State Fault Refusal :=
  .next (s.on Dev.outClrAssert)

/-- OUT_CLR_RELEASE: OUT_CLR_N counts as high (R194). -/
def execOutClrRelease (s : State) : Host.Outcome State Fault Refusal :=
  .next (s.on Dev.outClrRelease)

/-- HOLD_END: a hold ends (R195). -/
def execHoldEnd (o : Fin 10) (s : State) : Host.Outcome State Fault Refusal :=
  .next (s.on (·.holdEnd o))

/-- SEQ_BLOCK_DONE: a block of a sequence ends (R242), a servo with its trim (R241). -/
def execSeqBlockDone (o : Fin 10) (trim : Int) (limit : Bool) (s : State) : Host.Outcome State Fault Refusal :=
  .next (s.on (·.blkDone o trim limit))

/-- SEQ_MUTE_WRITE: a write to SEQn_CTRL.mute (R243). -/
def execSeqMuteWrite (o : Fin 10) (mute : Bool) (s : State) : Host.Outcome State Fault Refusal :=
  .next (s.hostReg (Reg.seqCtrl o) (if mute then 1 else 0))

/-- PERSONA_SEQUENCE: the boundary after an OUTPUT_PERSONA turn (R182, R245). -/
def execPersonaSequence (o : Fin 4) (s : State) : Host.Outcome State Fault Refusal :=
  .next (s.on (·.personaSeq o))

end Sys2Proof.Machine
end

