-- ==== Sys2Proof/Machine/ExecPort.lean ====
section
/-! DEFINITION. The meanings of the commands of serial ports, S/PDIF, rate monitors and converters (chapters 09 and 10); unit 6 is S/PDIF. -/
namespace Sys2Proof.Machine

/-- PORT_RUN_START: a write of 1 to a run bit (R277). -/
def execPortRunStart (n : Fin 7) (tx : Bool) (s : State) : Host.Outcome State Fault Refusal :=
  .next (s.hostRun n tx true)

/-- PORT_RUN_STOP: a write of 0 to a run bit (R278). -/
def execPortRunStop (n : Fin 7) (tx : Bool) (s : State) : Host.Outcome State Fault Refusal :=
  .next (s.hostRun n tx false)

/-- PORT_CLR_CNT: a write of 1 to clr_cnt (R295). -/
def execPortClrCnt (n : Fin 7) (s : State) : Host.Outcome State Fault Refusal :=
  .next (s.hostClrCnt n)

/-- PORT_FRAME_RECEIVED: a receive pin frame completes (R271); the bits of its slots. -/
def execPortFrameReceived (n : Fin 6) (slots : List Nat) (s : State) : Host.Outcome State Fault Refusal :=
  .next (s.on (·.portFrame n slots))

/-- PORT_FS_EDGE: an FS edge after `bits` bit clocks (R275, R276). -/
def execPortFsEdge (pair : Fin 12) (bits : Nat) (s : State) : Host.Outcome State Fault Refusal :=
  .next (s.on (·.fsEdge pair bits))

/-- PORT_PIN_FRAME_START: a transmit pin frame starts (R273). -/
def execPortPinFrameStart (n : Fin 7) (s : State) : Host.Outcome State Fault Refusal :=
  .next (s.on (·.pinStart n))

/-- SPDIF_FRAME_RECEIVED: an S/PDIF frame arrives (R301 to R304). -/
def execSpdifFrameReceived (f : SpdifIn) (s : State) : Host.Outcome State Fault Refusal :=
  .next (s.on (·.spdifFrame f))

/-- NP_UNMUTE: PCM time reaches the hold (R313). -/
def execNpUnmute (k : Fin 8) (s : State) : Host.Outcome State Fault Refusal :=
  .next (s.on (·.npUnmute k))

/-- RMON_STOP: a rate monitor declares a stop (R315). -/
def execRmonStop (m : Fin 13) (s : State) : Host.Outcome State Fault Refusal :=
  .next (s.on (·.rmonStop m))

/-- RMON_PERIOD: a period of `c` CLK_PER cycles ends (R314, R315). -/
def execRmonPeriod (m : Fin 13) (c : Nat) (s : State) : Host.Outcome State Fault Refusal :=
  .next (s.on (·.rmonPeriod m c))

/-- RMON_CLR: a write to RMON_CTRL.clr (R325). -/
def execRmonClr (mask : Word) (s : State) : Host.Outcome State Fault Refusal :=
  .next (s.hostReg Reg.rmonCtrl mask)

/-- ASRC_ACQUIRED: a ratio has settled (R318). -/
def execAsrcAcquired (g : Fin 14) (s : State) : Host.Outcome State Fault Refusal :=
  .next (s.on (·.asrcAcquired g))

/-- ASRC_FADE_DONE: a fade ends (R318). -/
def execAsrcFadeDone (g : Fin 14) (s : State) : Host.Outcome State Fault Refusal :=
  .next (s.on (·.asrcFadeDone g))

/-- ASRC_HOLD_TIMEOUT: HOLD has lasted 64 frames (R318). -/
def execAsrcHoldTimeout (g : Fin 14) (s : State) : Host.Outcome State Fault Refusal :=
  .next (s.on (·.asrcHoldTimeout g))

/-- ASRC_CLR: a write to ASRC_CTRL.clr (R327). -/
def execAsrcClr (mask : Word) (s : State) : Host.Outcome State Fault Refusal :=
  .next (s.hostReg Reg.asrcCtrl mask)

end Sys2Proof.Machine
end

