-- ==== Sys2Proof/Machine/ExecPwr.lean ====
section
/-! DEFINITION. The meanings of the commands of the power sequencer (chapter 19). -/
namespace Sys2Proof.Machine

/-- PWR_TRANSACTION: an access that writes PWR_TARGET (R545). -/
def execPwrTransaction (ws : List (Fin 3 × Word)) (s : State) : Host.Outcome State Fault Refusal :=
  .next (s.pwrTransaction (ws.map (fun e => ((e.1 : Nat), e.2))))

/-- QUIESCE_AGREE: a waiting domain agrees (R546). -/
def execQuiesceAgree (k : Fin 46) (s : State) : Host.Outcome State Fault Refusal :=
  .next (s.on (·.quiesceAgrees k))

/-- QUIESCE_TIMEOUT: qtime ends (R546, R547). -/
def execQuiesceTimeout (s : State) : Host.Outcome State Fault Refusal :=
  .next s.quiesceEnds

/-- PWR_COMMIT: all domains have agreed (R546). -/
def execPwrCommit (s : State) : Host.Outcome State Fault Refusal :=
  .next s.pwrCommitAll

/-- DOMAIN_ARRIVE: a rising domain arrives (R550, R608). -/
def execDomainArrive (k : Fin 46) (s : State) : Host.Outcome State Fault Refusal :=
  .next (s.on (·.domainArrive k))

/-- WAKE: a wake event (R548, R549). -/
def execWake (src : Fin 6) (s : State) : Host.Outcome State Fault Refusal :=
  .next (s.on (·.wakeEvent src))

/-- WAKE_PIN: a low level on WAKE0 or WAKE1 (R549). -/
def execWakePin (k : Fin 2) (s : State) : Host.Outcome State Fault Refusal :=
  .next (s.on (·.wakeEvent (4 + k)))

/-- PWR_CLKSEL_WRITE: a write to PWR_CLKSEL (R550, R566). -/
def execPwrClkselWrite (w : Fin 2) (v : Word) (s : State) : Host.Outcome State Fault Refusal :=
  .next (s.hostReg (Reg.pwrClksel w) v)

/-- DOMAIN_CLK_SWITCH: a domain moves to PLL clocks (R550). -/
def execDomainClkSwitch (k : Fin 46) (s : State) : Host.Outcome State Fault Refusal :=
  .next (s.on (·.clkSwitch k))

/-- SHACKLE_RELEASE: a write to PWR_SHACKLE (R553). -/
def execShackleRelease (w : Fin 2) (v : Word) (s : State) : Host.Outcome State Fault Refusal :=
  .next (s.hostReg (Reg.pwrShackle w) v)

end Sys2Proof.Machine
end

