-- ==== Sys2Proof/Machine/ExecRepair.lean ====
section
/-! DEFINITION. The meanings of the commands of repair, the keyturn store, tamper and violations (chapter 18). -/
namespace Sys2Proof.Machine

/-- TILE_SWAP: REP_CTRL command TILE_SWAP (R522). -/
def execTileSwap (n : Fin 16) (s : State) : Host.Outcome State Fault Refusal :=
  .next (s.hostReg Reg.repCtrl (BitVec.ofNat 32 (0x96160001 + 16 * n)))

/-- TILE_SWAP_DONE: the copy of a tile swap has ended and a boundary has come (R522). -/
def execTileSwapDone (s : State) : Host.Outcome State Fault Refusal :=
  .next (s.on Dev.swapDone)

/-- REPAIR_BURN_START: a queued repair begins to burn (R524). -/
def execRepairBurnStart (s : State) : Host.Outcome State Fault Refusal :=
  .next (s.on Dev.burnStart)

/-- REPAIR_BURN_DONE: a burn is sealed (R524). -/
def execRepairBurnDone (s : State) : Host.Outcome State Fault Refusal :=
  .next (s.on Dev.burnDone)

/-- KT_WRITE: a write to the KT register of a setting (R526). -/
def execKtWrite (setting : Fin 26) (v : Word) (s : State) : Host.Outcome State Fault Refusal :=
  .next (s.hostReg (ktReg setting) v)

/-- KT_HOLDING_WRITE: a write to a holding word (R528). -/
def execKtHoldingWrite (w : Fin 8) (v : Word) (s : State) : Host.Outcome State Fault Refusal :=
  .next (s.hostReg (if (w : Nat) = 0 then Reg.ktLikeness0 else Reg.ktRoothash (w - 1)) v)

/-- KT_SEAL: a turn is sealed (R525, R527, R531). -/
def execKtSeal (s : State) : Host.Outcome State Fault Refusal :=
  .next s.ktSeal

/-- TAMPER: a tamper event (R533, R534). -/
def execTamper (cause : Fin 3) (s : State) : Host.Outcome State Fault Refusal :=
  .next (s.tamper (cause + 1))

/-- VIOL_CLEAR: a write to VIOL_CNTi (R537). -/
def execViolClear (cat : Fin 16) (v : Word) (s : State) : Host.Outcome State Fault Refusal :=
  .next (s.hostReg (Reg.violCnt cat) v)

end Sys2Proof.Machine
end

