-- ==== Sys2Proof/Machine/ExecSpeaker.lean ====
section
/-! DEFINITION. The meanings of the commands of speaker stages (chapter 07). -/
namespace Sys2Proof.Machine

/-- SEGMENT_FAILING: a segment disagrees (R215, R216). -/
def execSegmentFailing (n : Fin 4) (h : Fin 2) (seg : Fin 18) (cell : Fin 3) (s : State) : Host.Outcome State Fault Refusal :=
  .next (s.on (·.segFailing n h seg cell))

/-- SPK_SHORT_TRIP: a short circuit (R219). -/
def execSpkShortTrip (n : Fin 4) (s : State) : Host.Outcome State Fault Refusal :=
  .next (s.on (·.shortTrip n))

/-- SPK_SHORT_CLEARED: software clears EVENTS.short (R219). -/
def execSpkShortCleared (n : Fin 4) (s : State) : Host.Outcome State Fault Refusal :=
  .next (s.hostReg (Reg.spkEvents n) 1)

/-- SPK_DIAG: a write of 1 to CTRL.diag (R220). -/
def execSpkDiag (n : Fin 4) (s : State) : Host.Outcome State Fault Refusal :=
  .next (s.hostReg (Reg.spkCtrl n) (BitVec.ofNat 32 (16 + s.dev.get (Fld.outCtrlRun (6 + n)))))

/-- DIAG_DONE: a load diagnostic ends (R220, R221): the pin that failed a phase, or the resistance. -/
def execDiagDone (n : Fin 4) (pin : Option Bool) (r : Nat) (s : State) : Host.Outcome State Fault Refusal :=
  .next (s.on (·.diagDone n pin r))

/-- PILOT_MEASURE: a pilot measurement ends (R222, R223). -/
def execPilotMeasure (n : Fin 4) (amps : Bool) (z : Nat) (s : State) : Host.Outcome State Fault Refusal :=
  .next (s.on (·.pilotMeasure n amps z))

/-- SPK_PVDD_READY: PVDD is in range and the bootstrap is charged (R225). -/
def execSpkPvddReady (s : State) : Host.Outcome State Fault Refusal :=
  .next (s.on Dev.pvddReady)

/-- PVDD_CUTOFF: PVDD below 7.0 V (R225). -/
def execPvddCutoff (s : State) : Host.Outcome State Fault Refusal :=
  .next (s.on Dev.pvddCutoff)

/-- PVDD_OVERVOLTAGE: PVDD above the overvoltage threshold (R225). -/
def execPvddOvervoltage (s : State) : Host.Outcome State Fault Refusal :=
  .next (s.on Dev.pvddOver)

/-- DERATE_STEP: a millisecond of derating at `t`/8 °C (R226). -/
def execDerateStep (t : Int) (s : State) : Host.Outcome State Fault Refusal :=
  .next (s.on (·.derateStep t))

/-- SPK_THERMAL_SHUTDOWN: die 2 at 140 °C (R227). -/
def execSpkThermalShutdown (t : Int) (s : State) : Host.Outcome State Fault Refusal :=
  .next (s.on (·.spkHot t))

/-- SPK_THERMAL_CLEARED: die 2 below 125 °C and the event cleared (R227). -/
def execSpkThermalCleared (n : Fin 4) (t : Int) (s : State) : Host.Outcome State Fault Refusal :=
  .next (s.on (·.spkCooled n t))

end Sys2Proof.Machine
end

