-- ==== Sys2Proof/Machine/ExecSupply.lean ====
section
/-! DEFINITION. The meanings of the commands of supplies, temperatures and the watchdog (chapter 19). -/
namespace Sys2Proof.Machine

/-- WDT_KICK: a write to SYS_WDTKICK with the key (R556). -/
def execWdtKick (s : State) : Host.Outcome State Fault Refusal :=
  .next (s.hostReg Reg.sysWdtkick 0x96160000)

/-- WDTCFG_WRITE: a write to SYS_WDTCFG (R556). -/
def execWdtcfgWrite (v : Word) (s : State) : Host.Outcome State Fault Refusal :=
  .next (s.hostReg Reg.sysWdtcfg v)

/-- WATCHDOG_PRE: the watchdog nears expiry (R556). -/
def execWatchdogPre (s : State) : Host.Outcome State Fault Refusal :=
  .next (s.on Dev.wdtPre)

/-- SUPPLY_WARNING: a supply falls below its warning threshold (R560). -/
def execSupplyWarning (sup : Fin 4) (mv : Nat) (s : State) : Host.Outcome State Fault Refusal :=
  .next (s.on (·.supplyWarned sup mv))

/-- SUPPLY_RECOVER: a supply recovers (R561). -/
def execSupplyRecover (sup : Fin 4) (mv : Nat) (s : State) : Host.Outcome State Fault Refusal :=
  .next (s.on (·.supplyRecover sup mv))

/-- RESUME: a write of 1 to MON_CTRL.resume (R561). -/
def execResume (s : State) : Host.Outcome State Fault Refusal :=
  .next (s.hostReg Reg.monCtrl 1)

/-- THERMAL_WARNING: a die at 115 °C (R563). -/
def execThermalWarning (k : Fin 3) (t : Int) (s : State) : Host.Outcome State Fault Refusal :=
  .next (s.on (·.thermalWarning k t))

/-- DIE0_THROTTLE: die 0 at 125 °C (R564). -/
def execDie0Throttle (t : Int) (s : State) : Host.Outcome State Fault Refusal :=
  .next (s.on (·.throttle t))

/-- DIE0_THROTTLE_END: die 0 below 120 °C (R564). -/
def execDie0ThrottleEnd (t : Int) (s : State) : Host.Outcome State Fault Refusal :=
  .next (s.on (·.throttleEnd t))

/-- DIE0_SHUTDOWN: die 0 at 135 °C, or throttled for 50 ms (R564). -/
def execDie0Shutdown (t : Int) (long : Bool) (s : State) : Host.Outcome State Fault Refusal :=
  .next (s.on (·.shutdown t long))

end Sys2Proof.Machine
end

