-- ==== Sys2Proof/Machine/ExecTwin.lean ====
section
/-! DEFINITION. The meanings of the commands of twin operation (chapter 17). -/
namespace Sys2Proof.Machine

/-- HINGE_FRAME_RX: a hinge frame arrives (R497 to R501, R504). -/
def execHingeFrameRx (f : HingeIn) (s : State) : Host.Outcome State Fault Refusal :=
  .next (s.hingeRx f)

/-- PAIR_WAIT_EXPIRE: pair_wait ends (R493). -/
def execPairWaitExpire (s : State) : Host.Outcome State Fault Refusal :=
  .next (s.on Dev.pairWaitEnds)

/-- STANDBY_SYNC: the announced boundary of a synchronisation (R496). -/
def execStandbySync (f : FrameIn) (s : State) : Host.Outcome State Fault Refusal :=
  .next (s.standbySync f)

/-- PAIR_SYNC_TIMEOUT: STANDBY not reached in 50 ms (R496). -/
def execPairSyncTimeout (s : State) : Host.Outcome State Fault Refusal :=
  .next (s.on Dev.syncTimesOut)

/-- HEARTBEAT_MISS: no heartbeat by b + 1 µs (R506, R509, R510). -/
def execHeartbeatMiss (high priOk : Bool) (s : State) : Host.Outcome State Fault Refusal :=
  .next (s.on (·.heartbeatMiss high priOk))

/-- DEADMAN_FIRE: the dead-man circuit fires (R507). -/
def execDeadmanFire (s : State) : Host.Outcome State Fault Refusal :=
  .next (s.on Dev.deadman)

/-- PARTNER_LOST: no valid partner frame for six base frames (R510). -/
def execPartnerLost (s : State) : Host.Outcome State Fault Refusal :=
  .next (s.on Dev.partnerLost)

/-- DETACH: HINGE_CTRL command DETACH (R511). -/
def execDetach (s : State) : Host.Outcome State Fault Refusal :=
  .next (s.hostReg Reg.hingeCtrl 0x96160001)

/-- ATTACH: HINGE_CTRL command ATTACH (R511). -/
def execAttach (s : State) : Host.Outcome State Fault Refusal :=
  .next (s.hostReg Reg.hingeCtrl 0x96160002)

/-- RESET_TWIN: HINGE_CTRL command RESET_TWIN (R511). -/
def execResetTwin (s : State) : Host.Outcome State Fault Refusal :=
  .next (s.hostReg Reg.hingeCtrl 0x96160003)

/-- HINGE_CLR_CNT: a write of 1 to HINGE_CTRL.clr_cnt (R513). -/
def execHingeClrCnt (s : State) : Host.Outcome State Fault Refusal :=
  .next (s.hostReg Reg.hingeCtrl 0x96160008)

end Sys2Proof.Machine
end

