-- ==== Sys2Proof/Machine/ExecUsb.lean ====
section
/-! DEFINITION. The meanings of the commands of the USB function (chapter 11). -/
namespace Sys2Proof.Machine

/-- USB_OUT_PACKET: a playback packet (R334, R336). -/
def execUsbOutPacket (bytes : List Byte) (s : State) : Host.Outcome State Fault Refusal :=
  .next (s.on (·.usbOut bytes))

/-- USB_IN_TOKEN: an IN token (R336, R341); `up`: the adaptive size of R336 is the larger one. -/
def execUsbInToken (ep : Fin 4) (up : Bool) (s : State) : Host.Outcome State Fault Refusal :=
  .next (s.on (·.usbIn ep up))

/-- USB_SOF: a start of frame (R335), with the measured rate. -/
def execUsbSof (frame micro : Nat) (meas : Int) (s : State) : Host.Outcome State Fault Refusal :=
  .next (s.on (·.usbSof frame micro meas))

/-- SET_INTERFACE: an alternate setting is selected (R337). -/
def execSetInterface (cap : Bool) (alt ch sub res : Nat) (s : State) : Host.Outcome State Fault Refusal :=
  .next (s.on (·.usbInterface cap alt ch sub res))

/-- SET_CUR_SAMPLING_FREQ: SET_CUR of a sampling frequency (R338). -/
def execSetCurSamplingFreq (cap : Bool) (hz : Nat) (s : State) : Host.Outcome State Fault Refusal :=
  .next (s.on (·.usbFreq cap hz))

/-- USB_CLASS_REQUEST: a class or HID request (R339). -/
def execUsbClassRequest (req : UsbClassReq) (s : State) : Host.Outcome State Fault Refusal :=
  .next (s.on (·.usbClass req))

/-- USB_STANDARD_REQUEST: a standard request (R339). -/
def execUsbStandardRequest (req : UsbStdReq) (s : State) : Host.Outcome State Fault Refusal :=
  .next (s.on (·.usbStd req))

/-- FEATURE_UNIT_SET: SET_CUR of mute or volume (R340). -/
def execFeatureUnitSet (cap : Bool) (mute : Option Bool) (vol : Option Int) (s : State) : Host.Outcome State Fault Refusal :=
  .next (s.on (·.usbFeature cap mute vol))

/-- SET_REPORT: an HID output report (R341). -/
def execSetReport (report : Nat) (s : State) : Host.Outcome State Fault Refusal :=
  .next (s.on (·.usbReport report))

/-- HIDIN_WRITE: a write to USB_HIDIN (R341, R344). -/
def execHidinWrite (v : Word) (s : State) : Host.Outcome State Fault Refusal :=
  .next (s.hostReg Reg.usbHidin v)

/-- USB_CONNECT: USB_VBUS has been present for 10 ms (R342). -/
def execUsbConnect (s : State) : Host.Outcome State Fault Refusal :=
  .next (s.on Dev.usbConnect)

/-- USB_DISCONNECT: a condition of R342 ceases; `vbus`: USB_VBUS is still present. -/
def execUsbDisconnect (vbus : Bool) (s : State) : Host.Outcome State Fault Refusal :=
  .next (s.on (·.usbDisconnect vbus))

/-- USB_SUSPEND: 3 ms of bus idle (R344). -/
def execUsbSuspend (s : State) : Host.Outcome State Fault Refusal :=
  .next (s.on Dev.usbSuspend)

/-- USB_RESUME: resume signalling, or a bus reset at high or full speed (R344). -/
def execUsbResume (reset high : Bool) (s : State) : Host.Outcome State Fault Refusal :=
  .next (s.on (·.resumeSignal reset high))

/-- LPM: an LPM transaction (R345). -/
def execLpm (s : State) : Host.Outcome State Fault Refusal :=
  .next (s.on Dev.usbLpm)

/-- USB_CTRL_WRITE: a write to USB_CTRL (R348). -/
def execUsbCtrlWrite (v : Word) (s : State) : Host.Outcome State Fault Refusal :=
  .next (s.hostReg Reg.usbCtrl v)

end Sys2Proof.Machine
end

