-- ==== Sys2Proof/Machine/Dispatch.lean ====
section
/-! DEFINITION. The one case split over the commands: each arm calls its meaning. -/
namespace Sys2Proof.Machine

open Sys2Proof

/-- The effect of a command on everything but the queue. -/
def exec (i : Instr) (s : State) : Host.Outcome State Fault Refusal :=
  match i with
  | .por => Sys2Proof.Machine.execPor s
  | .bor supply => Sys2Proof.Machine.execBor supply s
  | .pinReset => Sys2Proof.Machine.execPinReset s
  | .wdtReset => Sys2Proof.Machine.execWdtReset s
  | .soft => Sys2Proof.Machine.execSoft s
  | .resetRelease twinSel => Sys2Proof.Machine.execResetRelease twinSel s
  | .bootTestsDone findings => Sys2Proof.Machine.execBootTestsDone findings s
  | .spkSegmentTestsDeferred findings => Sys2Proof.Machine.execSpkSegmentTestsDeferred findings s
  | .commit img => Sys2Proof.Machine.execCommit img s
  | .keywayStart f => Sys2Proof.Machine.execKeywayStart f s
  | .hostload => Sys2Proof.Machine.execHostload s
  | .reseat src => Sys2Proof.Machine.execReseat src s
  | .reseatCompare img => Sys2Proof.Machine.execReseatCompare img s
  | .reseatTeardown => Sys2Proof.Machine.execReseatTeardown s
  | .live => Sys2Proof.Machine.execLive s
  | .abort => Sys2Proof.Machine.execAbort s
  | .bootCtrlBadKey v => Sys2Proof.Machine.execBootCtrlBadKey v s
  | .bootHostdata env w => Sys2Proof.Machine.execBootHostdata env w s
  | .loadSourceTimeout => Sys2Proof.Machine.execLoadSourceTimeout s
  | .pllWrite frac v => Sys2Proof.Machine.execPllWrite frac v s
  | .refselWrite v => Sys2Proof.Machine.execRefselWrite v s
  | .reacquire => Sys2Proof.Machine.execReacquire s
  | .swap near => Sys2Proof.Machine.execSwap near s
  | .bandSearchDone band => Sys2Proof.Machine.execBandSearchDone band s
  | .pllLock fref => Sys2Proof.Machine.execPllLock fref s
  | .acqTimeout => Sys2Proof.Machine.execAcqTimeout s
  | .fallbackExit => Sys2Proof.Machine.execFallbackExit s
  | .phaseFreeze => Sys2Proof.Machine.execPhaseFreeze s
  | .freezeDecision phaseOk near => Sys2Proof.Machine.execFreezeDecision phaseOk near s
  | .refLost ref => Sys2Proof.Machine.execRefLost ref s
  | .refReturned ref near => Sys2Proof.Machine.execRefReturned ref near s
  | .refmonRefresh count => Sys2Proof.Machine.execRefmonRefresh count s
  | .frameBoundary f => Sys2Proof.Machine.execFrameBoundary f s
  | .tumblerStage a v => Sys2Proof.Machine.execTumblerStage a v s
  | .arm late => Sys2Proof.Machine.execArm late s
  | .armAt late => Sys2Proof.Machine.execArmAt late s
  | .disarm late => Sys2Proof.Machine.execDisarm late s
  | .discard => Sys2Proof.Machine.execDiscard s
  | .xpRampEnd c => Sys2Proof.Machine.execXpRampEnd c s
  | .fadeShadowEnd c => Sys2Proof.Machine.execFadeShadowEnd c s
  | .serialFadeHalf c => Sys2Proof.Machine.execSerialFadeHalf c s
  | .anainSettleEnd n => Sys2Proof.Machine.execAnainSettleEnd n s
  | .adcSliceSwap n => Sys2Proof.Machine.execAdcSliceSwap n s
  | .adcSliceCalDone n beyond => Sys2Proof.Machine.execAdcSliceCalDone n beyond s
  | .adcSliceCheckFail n k => Sys2Proof.Machine.execAdcSliceCheckFail n k s
  | .micbTrip n => Sys2Proof.Machine.execMicbTrip n s
  | .pdmClkLost k => Sys2Proof.Machine.execPdmClkLost k s
  | .pdmClkReturn k => Sys2Proof.Machine.execPdmClkReturn k s
  | .pdmSettleEnd ch k => Sys2Proof.Machine.execPdmSettleEnd ch k s
  | .dacSliceSwap o => Sys2Proof.Machine.execDacSliceSwap o s
  | .dacSliceCalDone o beyond => Sys2Proof.Machine.execDacSliceCalDone o beyond s
  | .dacSliceCheckFail o k => Sys2Proof.Machine.execDacSliceCheckFail o k s
  | .complianceTrip o => Sys2Proof.Machine.execComplianceTrip o s
  | .complianceHiz o => Sys2Proof.Machine.execComplianceHiz o s
  | .complianceCleared o => Sys2Proof.Machine.execComplianceCleared o s
  | .complianceRecover o => Sys2Proof.Machine.execComplianceRecover o s
  | .hpCurrentLimit h => Sys2Proof.Machine.execHpCurrentLimit h s
  | .hpProtectCleared h => Sys2Proof.Machine.execHpProtectCleared h s
  | .pumpReady => Sys2Proof.Machine.execPumpReady s
  | .chainReady o => Sys2Proof.Machine.execChainReady o s
  | .outputRun o run => Sys2Proof.Machine.execOutputRun o run s
  | .outClrAssert => Sys2Proof.Machine.execOutClrAssert s
  | .outClrRelease => Sys2Proof.Machine.execOutClrRelease s
  | .holdEnd o => Sys2Proof.Machine.execHoldEnd o s
  | .segmentFailing n h seg cell => Sys2Proof.Machine.execSegmentFailing n h seg cell s
  | .spkShortTrip n => Sys2Proof.Machine.execSpkShortTrip n s
  | .spkShortCleared n => Sys2Proof.Machine.execSpkShortCleared n s
  | .spkDiag n => Sys2Proof.Machine.execSpkDiag n s
  | .diagDone n pin r => Sys2Proof.Machine.execDiagDone n pin r s
  | .pilotMeasure n amps z => Sys2Proof.Machine.execPilotMeasure n amps z s
  | .spkPvddReady => Sys2Proof.Machine.execSpkPvddReady s
  | .pvddCutoff => Sys2Proof.Machine.execPvddCutoff s
  | .pvddOvervoltage => Sys2Proof.Machine.execPvddOvervoltage s
  | .derateStep t => Sys2Proof.Machine.execDerateStep t s
  | .spkThermalShutdown t => Sys2Proof.Machine.execSpkThermalShutdown t s
  | .spkThermalCleared n t => Sys2Proof.Machine.execSpkThermalCleared n t s
  | .seqBlockDone o trim limit => Sys2Proof.Machine.execSeqBlockDone o trim limit s
  | .seqMuteWrite o mute => Sys2Proof.Machine.execSeqMuteWrite o mute s
  | .personaSequence o => Sys2Proof.Machine.execPersonaSequence o s
  | .jackRawChange k high => Sys2Proof.Machine.execJackRawChange k high s
  | .jackDebounced k => Sys2Proof.Machine.execJackDebounced k s
  | .jdCfgWrite k v => Sys2Proof.Machine.execJdCfgWrite k v s
  | .hsStart h => Sys2Proof.Machine.execHsStart h s
  | .hsAbort h => Sys2Proof.Machine.execHsAbort h s
  | .hsSettleEnd h => Sys2Proof.Machine.execHsSettleEnd h s
  | .hsDetectDone h z => Sys2Proof.Machine.execHsDetectDone h z s
  | .buttonSample h level reached => Sys2Proof.Machine.execButtonSample h level reached s
  | .btncfgWrite h v => Sys2Proof.Machine.execBtncfgWrite h v s
  | .portRunStart n tx => Sys2Proof.Machine.execPortRunStart n tx s
  | .portRunStop n tx => Sys2Proof.Machine.execPortRunStop n tx s
  | .portClrCnt n => Sys2Proof.Machine.execPortClrCnt n s
  | .portFrameReceived n slots => Sys2Proof.Machine.execPortFrameReceived n slots s
  | .portFsEdge pair bits => Sys2Proof.Machine.execPortFsEdge pair bits s
  | .portPinFrameStart n => Sys2Proof.Machine.execPortPinFrameStart n s
  | .spdifFrameReceived f => Sys2Proof.Machine.execSpdifFrameReceived f s
  | .npUnmute k => Sys2Proof.Machine.execNpUnmute k s
  | .rmonStop m => Sys2Proof.Machine.execRmonStop m s
  | .rmonPeriod m c => Sys2Proof.Machine.execRmonPeriod m c s
  | .rmonClr mask => Sys2Proof.Machine.execRmonClr mask s
  | .asrcAcquired g => Sys2Proof.Machine.execAsrcAcquired g s
  | .asrcFadeDone g => Sys2Proof.Machine.execAsrcFadeDone g s
  | .asrcHoldTimeout g => Sys2Proof.Machine.execAsrcHoldTimeout g s
  | .asrcClr mask => Sys2Proof.Machine.execAsrcClr mask s
  | .usbOutPacket bytes => Sys2Proof.Machine.execUsbOutPacket bytes s
  | .usbInToken ep up => Sys2Proof.Machine.execUsbInToken ep up s
  | .usbSof frame micro meas => Sys2Proof.Machine.execUsbSof frame micro meas s
  | .setInterface cap alt ch sub res => Sys2Proof.Machine.execSetInterface cap alt ch sub res s
  | .setCurSamplingFreq cap hz => Sys2Proof.Machine.execSetCurSamplingFreq cap hz s
  | .usbClassRequest req => Sys2Proof.Machine.execUsbClassRequest req s
  | .usbStandardRequest req => Sys2Proof.Machine.execUsbStandardRequest req s
  | .featureUnitSet cap mute vol => Sys2Proof.Machine.execFeatureUnitSet cap mute vol s
  | .setReport report => Sys2Proof.Machine.execSetReport report s
  | .hidinWrite v => Sys2Proof.Machine.execHidinWrite v s
  | .usbConnect => Sys2Proof.Machine.execUsbConnect s
  | .usbDisconnect vbus => Sys2Proof.Machine.execUsbDisconnect vbus s
  | .usbSuspend => Sys2Proof.Machine.execUsbSuspend s
  | .usbResume reset high => Sys2Proof.Machine.execUsbResume reset high s
  | .lpm => Sys2Proof.Machine.execLpm s
  | .usbCtrlWrite v => Sys2Proof.Machine.execUsbCtrlWrite v s
  | .engineBundle e cycles env => Sys2Proof.Machine.execEngineBundle e cycles env s
  | .interruptTrap e errs => Sys2Proof.Machine.execInterruptTrap e errs s
  | .fastEntry e errs => Sys2Proof.Machine.execFastEntry e errs s
  | .waitWake e cycles errs => Sys2Proof.Machine.execWaitWake e cycles errs s
  | .engineStart e => Sys2Proof.Machine.execEngineStart e s
  | .engineStop e => Sys2Proof.Machine.execEngineStop e s
  | .engineResume e => Sys2Proof.Machine.execEngineResume e s
  | .engineStep e env => Sys2Proof.Machine.execEngineStep e env s
  | .engineClrCnt e => Sys2Proof.Machine.execEngineClrCnt e s
  | .doorbell e v => Sys2Proof.Machine.execDoorbell e v s
  | .regdataWrite e v => Sys2Proof.Machine.execRegdataWrite e v s
  | .ringConfigWrite e which v => Sys2Proof.Machine.execRingConfigWrite e which v s
  | .eccWriteback a => Sys2Proof.Machine.execEccWriteback a s
  | .scrubRead a errs => Sys2Proof.Machine.execScrubRead a errs s
  | .repairCopyDone loc kind => Sys2Proof.Machine.execRepairCopyDone loc kind s
  | .windowWrite set win pa v => Sys2Proof.Machine.execWindowWrite set win pa v s
  | .lbxWipeDone => Sys2Proof.Machine.execLbxWipeDone s
  | .memCtrlWrite v => Sys2Proof.Machine.execMemCtrlWrite v s
  | .dmaStart c => Sys2Proof.Machine.execDmaStart c s
  | .dmaStop c => Sys2Proof.Machine.execDmaStop c s
  | .dmaResume c => Sys2Proof.Machine.execDmaResume c s
  | .kick c => Sys2Proof.Machine.execKick c s
  | .dmaClrCnt c => Sys2Proof.Machine.execDmaClrCnt c s
  | .dmaCfgWrite c desc v => Sys2Proof.Machine.execDmaCfgWrite c desc v s
  | .descFetch c env => Sys2Proof.Machine.execDescFetch c env s
  | .dmaReadReturn c k env => Sys2Proof.Machine.execDmaReadReturn c k env s
  | .dmaBeatCommit c env => Sys2Proof.Machine.execDmaBeatCommit c env s
  | .descComplete c env => Sys2Proof.Machine.execDescComplete c env s
  | .dmaStall c => Sys2Proof.Machine.execDmaStall c s
  | .coalTimerExpire k => Sys2Proof.Machine.execCoalTimerExpire k s
  | .claim t fast => Sys2Proof.Machine.execClaim t fast s
  | .complete t fast id => Sys2Proof.Machine.execComplete t fast id s
  | .swset v => Sys2Proof.Machine.execSwset v s
  | .intcHoldWrite hold => Sys2Proof.Machine.execIntcHoldWrite hold s
  | .intcCfgWrite k coal v => Sys2Proof.Machine.execIntcCfgWrite k coal v s
  | .extintChange k high => Sys2Proof.Machine.execExtintChange k high s
  | .linkFrameRx p f => Sys2Proof.Machine.execLinkFrameRx p f s
  | .linkRangingDone same => Sys2Proof.Machine.execLinkRangingDone same s
  | .linkRootLoss => Sys2Proof.Machine.execLinkRootLoss s
  | .app p m => Sys2Proof.Machine.execApp p m s
  | .assign p m => Sys2Proof.Machine.execAssign p m s
  | .join p m => Sys2Proof.Machine.execJoin p m s
  | .linkReset p m => Sys2Proof.Machine.execLinkReset p m s
  | .bootData p m => Sys2Proof.Machine.execBootData p m s
  | .linkSend => Sys2Proof.Machine.execLinkSend s
  | .linkPop => Sys2Proof.Machine.execLinkPop s
  | .linkNodeidWrite v => Sys2Proof.Machine.execLinkNodeidWrite v s
  | .linkIdle p => Sys2Proof.Machine.execLinkIdle p s
  | .linkWake p wake => Sys2Proof.Machine.execLinkWake p wake s
  | .squelchWake p => Sys2Proof.Machine.execSquelchWake p s
  | .linkClrCnt => Sys2Proof.Machine.execLinkClrCnt s
  | .hingeFrameRx f => Sys2Proof.Machine.execHingeFrameRx f s
  | .pairWaitExpire => Sys2Proof.Machine.execPairWaitExpire s
  | .standbySync f => Sys2Proof.Machine.execStandbySync f s
  | .pairSyncTimeout => Sys2Proof.Machine.execPairSyncTimeout s
  | .heartbeatMiss high priOk => Sys2Proof.Machine.execHeartbeatMiss high priOk s
  | .deadmanFire => Sys2Proof.Machine.execDeadmanFire s
  | .partnerLost => Sys2Proof.Machine.execPartnerLost s
  | .detach => Sys2Proof.Machine.execDetach s
  | .attach => Sys2Proof.Machine.execAttach s
  | .resetTwin => Sys2Proof.Machine.execResetTwin s
  | .hingeClrCnt => Sys2Proof.Machine.execHingeClrCnt s
  | .tileSwap n => Sys2Proof.Machine.execTileSwap n s
  | .tileSwapDone => Sys2Proof.Machine.execTileSwapDone s
  | .repairBurnStart => Sys2Proof.Machine.execRepairBurnStart s
  | .repairBurnDone => Sys2Proof.Machine.execRepairBurnDone s
  | .ktWrite setting v => Sys2Proof.Machine.execKtWrite setting v s
  | .ktHoldingWrite w v => Sys2Proof.Machine.execKtHoldingWrite w v s
  | .ktSeal => Sys2Proof.Machine.execKtSeal s
  | .tamper cause => Sys2Proof.Machine.execTamper cause s
  | .violClear cat v => Sys2Proof.Machine.execViolClear cat v s
  | .pwrTransaction ws => Sys2Proof.Machine.execPwrTransaction ws s
  | .quiesceAgree k => Sys2Proof.Machine.execQuiesceAgree k s
  | .quiesceTimeout => Sys2Proof.Machine.execQuiesceTimeout s
  | .pwrCommit => Sys2Proof.Machine.execPwrCommit s
  | .domainArrive k => Sys2Proof.Machine.execDomainArrive k s
  | .wake src => Sys2Proof.Machine.execWake src s
  | .wakePin k => Sys2Proof.Machine.execWakePin k s
  | .pwrClkselWrite w v => Sys2Proof.Machine.execPwrClkselWrite w v s
  | .domainClkSwitch k => Sys2Proof.Machine.execDomainClkSwitch k s
  | .shackleRelease w v => Sys2Proof.Machine.execShackleRelease w v s
  | .wdtKick => Sys2Proof.Machine.execWdtKick s
  | .wdtcfgWrite v => Sys2Proof.Machine.execWdtcfgWrite v s
  | .watchdogPre => Sys2Proof.Machine.execWatchdogPre s
  | .supplyWarning sup mv => Sys2Proof.Machine.execSupplyWarning sup mv s
  | .supplyRecover sup mv => Sys2Proof.Machine.execSupplyRecover sup mv s
  | .resume => Sys2Proof.Machine.execResume s
  | .thermalWarning k t => Sys2Proof.Machine.execThermalWarning k t s
  | .die0Throttle t => Sys2Proof.Machine.execDie0Throttle t s
  | .die0ThrottleEnd t => Sys2Proof.Machine.execDie0ThrottleEnd t s
  | .die0Shutdown t long => Sys2Proof.Machine.execDie0Shutdown t long s
  | .i2cWrite env adr reg bytes => Sys2Proof.Machine.execI2cWrite env adr reg bytes s
  | .i2cSetPointer adr reg => Sys2Proof.Machine.execI2cSetPointer adr reg s
  | .i2cRead env adr words => Sys2Proof.Machine.execI2cRead env adr words s
  | .i2cAbort => Sys2Proof.Machine.execI2cAbort s
  | .i2cStuck => Sys2Proof.Machine.execI2cStuck s
  | .i2cStretchTimeout => Sys2Proof.Machine.execI2cStretchTimeout s
  | .spiWrite env adr bytes cut => Sys2Proof.Machine.execSpiWrite env adr bytes cut s
  | .spiRead env adr words late cut => Sys2Proof.Machine.execSpiRead env adr words late cut s
  | .spiStatus => Sys2Proof.Machine.execSpiStatus s
  | .qspiGo v => Sys2Proof.Machine.execQspiGo v s
  | .qspiDone bytes => Sys2Proof.Machine.execQspiDone bytes s
  | .registerWrite env a v => Sys2Proof.Machine.execRegisterWrite env a v s
  | .flashLoadFail img => Sys2Proof.Machine.execFlashLoadFail img s
  | .spiUnknownCommand cmd => Sys2Proof.Machine.execSpiUnknownCommand cmd s

end Sys2Proof.Machine
end

