-- ==== Sys2Proof/Safety.lean ====
section
/-! DEFINITION. The terms that claims use: a safe step, a host whose accesses the rules let through, and which registers a
command leaves alone. -/
namespace Sys2Proof.Machine

/-- The block goes on: no command of this block faults or is refused. -/
def Safe (o : Host.Outcome State Fault Refusal) : Prop := ∃ t, o = .next t

/-- A host access to a register of blocks HOSTIF and boot is served at once (R49, R500, R502, R545, R546, R554): no reset is
asserted, the package is neither STANDBY nor PAIRING and has no standby, no reseat runs, no domain is asked to quiesce, and
nothing waits from an access before. -/
def Dev.hostFree (d : Dev) : Bool :=
  !d.pwr.inReset && !d.released && !d.hasStandby && d.boot.reseat == 0 && d.pwr.lower == [] && d.pwr.held == [] &&
    d.pwr.staged == [] && !d.clk.pend

/-- So is one to any register once a keyplan has committed (R49). -/
def Dev.hostReady (d : Dev) : Bool := d.hostFree && d.boot.everRun

/-- No access is under way: no restart of the PLL waits for the end of one (R80), nor a write of PWR_TARGET (R545). -/
def Dev.accessEnded (d : Dev) : Prop := d.clk.pend = false ∧ d.pwr.staged = []

/-- The device once a word has gone into the FIFO behind BOOT_HOSTDATA (R54), `taken` words having left it. -/
def Dev.takeWord (d : Dev) (taken : Nat) (w : Word) : Dev :=
  (d.setFifo (min (d.boot.fifo - taken) (fifoWords - 1) + 1)).modBoot (fun b => { b with image := b.image ++ leBytes 4 w.toNat })

/-- The register at `a` is in reach of a write: its domain is on, and the tumbler's where the write is staged (R23, R30, R118). -/
def Dev.regUp (d : Dev) (a : Nat) : Bool := isRegAddr a && a % 4 == 0 && !d.downHere a true

/-- Every register that `p` does not name holds what it held. -/
def Dev.regsBut (p : Nat → Prop) (d t : Dev) : Prop := ∀ a, ¬ p a → t.rd a = d.rd a

/-! ### Frames -/

/-- The parts of the device beside its registers; of outputs, headsets, engines and DMA channels, one or all of the kind. -/
inductive Part where
  | intc
  | boot
  | clk
  | key
  | inp
  | outs
  | out (o : Nat)
  | hsets
  | hset (h : Nat)
  | ser
  | usb
  | engs
  | eng (e : Nat)
  | memc
  | chans
  | chan (c : Nat)
  | link
  | hinge
  | kt
  | pwr
  | host
  | pins
  | free
  deriving DecidableEq, Repr

/-- Bit `b` of the register at `a` lies in the field. -/
def Fld.covers (f : Fld) (a b : Nat) : Prop := f.addr = a ∧ f.lo ≤ b ∧ b ≤ f.hi

/-- Bit `i` of a field, as a field of its own. -/
def Fld.at (f : Fld) (i : Nat) : Fld := ⟨f.addr, f.lo + i, f.lo + i⟩

/-- The whole register at `a`, as a field. -/
def Fld.whole (a : Nat) : Fld := ⟨a, 31, 0⟩

/-- From `d` to `t` no part of the device beside its registers changes but `ps`. -/
structure Dev.PartsBut (ps : List Part) (d t : Dev) : Prop where
  intc : .intc ∈ ps ∨ t.intc = d.intc
  boot : .boot ∈ ps ∨ t.boot = d.boot
  clk : .clk ∈ ps ∨ t.clk = d.clk
  key : .key ∈ ps ∨ t.key = d.key
  inp : .inp ∈ ps ∨ t.inp = d.inp
  outs : ∀ o, .outs ∈ ps ∨ .out o ∈ ps ∨ t.out o = d.out o
  hsets : ∀ h, .hsets ∈ ps ∨ .hset h ∈ ps ∨ t.hsd h = d.hsd h
  ser : .ser ∈ ps ∨ t.ser = d.ser
  usb : .usb ∈ ps ∨ t.usb = d.usb
  engs : ∀ e, .engs ∈ ps ∨ .eng e ∈ ps ∨ t.eng e = d.eng e
  memc : .memc ∈ ps ∨ t.memc = d.memc
  chans : ∀ c, .chans ∈ ps ∨ .chan c ∈ ps ∨ t.chan c = d.chan c
  link : .link ∈ ps ∨ t.link = d.link
  hinge : .hinge ∈ ps ∨ t.hinge = d.hinge
  kt : .kt ∈ ps ∨ t.kt = d.kt
  pwr : .pwr ∈ ps ∨ t.pwr = d.pwr
  host : .host ∈ ps ∨ t.host = d.host
  pins : .pins ∈ ps ∨ t.pins = d.pins
  free : .free ∈ ps ∨ t.free = d.free

/-- Every bit of every register that no field of `fs` covers keeps its value. -/
def Dev.bitsBut (fs : List Fld) (d t : Dev) : Prop :=
  ∀ a b, (∀ f ∈ fs, ¬ f.covers a b) → (t.rd a).getLsbD b = (d.rd a).getLsbD b

/-- From `d` to `t` nothing changes but the parts `ps` and the bits of the fields `fs`. -/
structure Dev.Changes (ps : List Part) (fs : List Fld) (d t : Dev) : Prop where
  parts : d.PartsBut ps t
  bits : d.bitsBut fs t

/-- From `s` to `t` memory and the queue stay as they are, and of the device only the parts `ps` and the fields `fs` change. -/
structure State.Changes (ps : List Part) (fs : List Fld) (s t : State) : Prop where
  mem : t.mem = s.mem
  pending : t.pending = s.pending
  dev : s.dev.Changes ps fs t.dev

/-- The fields that counting a violation of a category in `cats` writes (R535, R541). -/
def violFields (cats : List Nat) : List Fld :=
  cats.map Fld.violCntCount ++ [Fld.violLastCategory, Fld.violLastAgent, Fld.violLastaddrAddr]

/-- Registers outside the domains' blocks that the end or the beginning of a load writes (R50 to R66), with those that a
restart of the clock and a refusal reach (R80, R535). -/
def loadRegs : List Nat :=
  [Reg.bootStatus, Reg.bootLivestat, Reg.bootResult 0, Reg.bootResult 1, Reg.bootResult 2, Reg.bootResult 3, Reg.clkPllcfg,
    Reg.clkPllfrac, Reg.clkRefsel, Reg.clkStatus, Reg.sysRstcause, Reg.violLast, Reg.violLastaddr] ++
    (List.range 10).map Reg.outStatus ++ (List.range 10).map Reg.seqStatus ++ (List.range 16).map Reg.violCnt

/-- Every byte of the lockbox reads as before (R28). -/
def State.lockboxKept (s t : State) : Prop := ∀ a, 0x600000 ≤ a → memGet t.mem a = memGet s.mem a

/-- Every byte of memory but the lockbox reads as before (R28). -/
def State.tilesKept (s t : State) : Prop := ∀ a, a < 0x600000 → memGet t.mem a = memGet s.mem a

/-- What reset `c` keeps beside the lockbox (R557): the fields of `keptBy` but for the record of the reset itself, the keyturn
slots, the repair pool's entries, and the levels of the pins. -/
structure Dev.ResetKeeps (c : Nat) (d t : Dev) : Prop where
  fields : ∀ f ∈ keptBy c, f.addr ≠ Reg.sysRstcause → t.get f = d.get f
  pool : ∀ k, k < 512 → t.rd (Reg.repEntryLoc k) = d.rd (Reg.repEntryLoc k) ∧ t.rd (Reg.repEntryInfo k) = d.rd (Reg.repEntryInfo k)
  slots : t.kt.slots = d.kt.slots
  twinSel : t.pins.twinSel = d.pins.twinSel
  outClr : t.pins.outClr = d.pins.outClr
  pvdd : t.pins.pvdd = d.pins.pvdd

/-- A running engine's bundle at its PC is fetched from `pa` without an error (R356, R361). -/
abbrev Dev.fetches (d : Dev) (e pa : Nat) (secure : Bool) : Prop :=
  d.engPowered e = true ∧ d.engSt e = EngSt.running ∧ (d.eng e).loop = false ∧
    d.translate ((d.eng e).winSet e) .fetch (d.rd (Reg.engPc e)).toNat 8 = .ok pa secure ∧ d.reach secure pa = .ok

end Sys2Proof.Machine
end

