-- ==== Sys2Proof/Certificates/Slice0/Obligations.lean ====
section
/-! DEFINITION. The statements for the provers. First the machine as a whole, then for each family of commands that they take
effect and what they leave unchanged, then rules of the spec. A clause of the second kind ends in a next state and what it
holds, under conditions on the state and the operands alone. -/
open Sys2Proof Sys2Proof.Machine

/-- Taking the command at the front of the queue runs it on the state with the queue's rest; with an empty queue the block idles
(the model's choice, log 1). -/
def Obligations.StepRunsFrontCommand : Prop :=
  (∀ (c : Instr) (q : List Instr) (s : State), step { s with pending := c :: q } = exec c { s with pending := q }) ∧
  (∀ s : State, s.pending = [] → step s = .next s)

/-- Every command answers a next state in every state. -/
def Obligations.CommandsNeverStop : Prop := ∀ (c : Instr) (s : State), Safe (exec c s)

/-- No command touches the queue of the commands that wait. -/
def Obligations.ExecKeepsTheQueue : Prop := ∀ (c : Instr) (s t : State), exec c s = .next t → t.pending = s.pending

/-- Every step keeps memory in its canonical form. -/
def Obligations.StepKeepsMemoryCanonical : Prop :=
  ∀ s t : State, Memory.wf s.mem = true → step s = .next t → Memory.wf t.mem = true

/-- R80, R545: an access ends within the step that makes it: no step leaves a restart of the PLL or a write of PWR_TARGET that
waits for the end of its access. -/
def Obligations.StepEndsEveryAccess : Prop :=
  ∀ s t : State, s.dev.accessEnded → step s = .next t → t.dev.accessEnded

/-- Memory after reset lists nothing and is in canonical form, and no access is under way: both invariants that every step keeps
hold at reset. -/
def Obligations.ResetMeetsInvariants : Prop :=
  Memory.wf State.reset.mem = true ∧ State.reset.mem = [] ∧ State.reset.dev.accessEnded

/-- What the release of the first power-on reset leaves: SYS_RSTCAUSE 0x00010000, every domain on for the boot tests, the boot
controller in its self-test, no command waiting; every register that is not listed here holds its hardware value. -/
def Obligations.ResetValues : Prop :=
  State.reset.dev.rd Reg.sysRstcause = 0x00010000 ∧ (∀ k, k < 46 → State.reset.dev.dom k = 2) ∧
  State.reset.dev.bootSt = BootSt.selftest ∧ State.reset.pending = [] ∧ State.reset.dev.boot.everRun = false ∧
  (∀ o, o < 10 → State.reset.dev.outSt o = OutSt.hiz) ∧
  (∀ a, a ∉ [Reg.pwrState 0, Reg.pwrState 1, Reg.pwrState 2, Reg.hostifI2cnow, Reg.ktBootcnt] →
    (∀ o, o < 10 → a ≠ Reg.outStatus o) → State.reset.dev.rd a = Regs.hw a)

/-- The commands of resets, the boot controller and the commit take effect: under the conditions named, on the state and the
operands alone, each answers a next state that holds what its rules give it. Readings and choices of the model that clauses
may rest on: log 10, 11, 19, 20, 21, 24, 25. -/
def Obligations.BootCommandsComplete : Prop :=
  (∀ (s : State), ∃ t, exec (.por) s = .next t ∧ t.dev.get Fld.sysRstcauseLast = 0 ∧ t.dev.pwr.inReset = true ∧ t.mem = [] ∧
      t.dev.get Fld.ktBootcntCount = min (s.dev.get Fld.ktBootcntCount + 1) (2 ^ 24 - 1)) ∧
  (∀ (s : State) (supply : Nat), ∃ t, exec (.bor supply) s = .next t ∧ t.dev.get Fld.sysRstcauseLast = 1 ∧
    t.dev.get Fld.sysRstcauseSupply = supply % 2 ^ Fld.sysRstcauseSupply.width ∧ t.dev.pwr.inReset = true) ∧
  (∀ (s : State), ∃ t, exec (.pinReset) s = .next t ∧ t.dev.get Fld.sysRstcauseLast = 2 ∧ t.dev.pwr.inReset = true) ∧
  (∀ (s : State), s.dev.wdtCounts = true →
      ∃ t, exec (.wdtReset) s = .next t ∧ t.dev.get Fld.sysRstcauseLast = 3 ∧ t.dev.pwr.inReset = true) ∧
  (∀ (s : State), s.dev.hostReady = true →
      ∃ t, exec (.soft) s = .next t ∧ t.dev.get Fld.sysRstcauseLast = 4 ∧ t.dev.pwr.inReset = true) ∧
  (∀ (s : State) (twinSel : Bool), s.dev.pwr.inReset = true →
      ∃ t, exec (.resetRelease twinSel) s = .next t ∧ t.dev.pwr.inReset = false ∧ t.dev.pins.twinSel = twinSel) ∧
  (∀ (s : State) (findings : List (Nat × Nat)), s.dev.bootSt = BootSt.selftest ∧ s.dev.pwr.inReset = false →
      ∃ t, exec (.bootTestsDone findings) s = .next t ∧ t.dev.bootSt ≠ BootSt.selftest) ∧
  (∀ (s : State) (findings : List (Nat × Nat × Nat × Nat)), s.dev.get Fld.repStatusSpkDeferred ≠ 0 →
      ∃ t, exec (.spkSegmentTestsDeferred findings) s = .next t ∧ t.dev.get Fld.repStatusSpkDeferred = 0) ∧
  (∀ (s : State) (img : List Byte) (p : Plan), s.dev.boot.verdict = some (.ok p) ∧ s.dev.boot.load = some .boot ∧
    s.dev.get Fld.bootStatusSource ≠ 4 →
      ∃ t, exec (.commit img) s = .next t ∧ t.dev.boot.plan = some p ∧ t.dev.boot.commit = 1 ∧ t.dev.bootSt = BootSt.commit) ∧
  (∀ (s : State) (f : FrameIn), s.dev.boot.commit = 7 ∧ s.dev.clk.fallback = false ∧ s.dev.pwr.inReset = false →
      ∃ t, exec (.keywayStart f) s = .next t ∧ t.dev.boot.commit = 0 ∧ t.dev.boot.everRun = true ∧ t.dev.boot.reseat = 0) ∧
  (∀ (s : State), s.dev.hostFree = true ∧ s.dev.bootSt = BootSt.hostwait →
      ∃ t, exec (.hostload) s = .next t ∧ t.dev.bootSt = BootSt.loading ∧ t.dev.boot.load = some .host ∧
        t.dev.get Fld.bootStatusSource = 3) ∧
  (∀ (s : State) (src : Fin 16), s.dev.hostReady = true ∧ s.dev.bootSt = BootSt.running ∧ 1 ≤ (src : Nat) ∧ (src : Nat) ≤ 3 →
      ∃ t, exec (.reseat src) s = .next t ∧ t.dev.bootSt = BootSt.reseat ∧ t.dev.boot.reseat = 1 ∧
        t.dev.get Fld.bootStatusSource = src ∧ t.dev.get Fld.sysRstcauseLast = 5) ∧
  (∀ (s : State) (img : List Byte), s.dev.bootSt = BootSt.reseat ∧ s.dev.boot.reseat = 1 ∧ s.dev.get Fld.bootStatusSource ≠ 3 ∧
    s.dev.reseatMismatch img = none →
      ∃ t, exec (.reseatCompare img) s = .next t ∧ t.dev.boot.reseat = 3) ∧
  (∀ (s : State) (img : List Byte) (code ward : Nat), s.dev.bootSt = BootSt.reseat ∧ s.dev.boot.reseat = 1 ∧
    s.dev.get Fld.bootStatusSource ≠ 3 ∧ s.dev.reseatMismatch img = some (code, ward) →
      ∃ t, exec (.reseatCompare img) s = .next t ∧ t.dev.bootSt = BootSt.running ∧ t.dev.boot.load = none) ∧
  (∀ (s : State), s.dev.bootSt = BootSt.reseat ∧ s.dev.boot.reseat = 3 ∧ s.dev.allStopped = true ∧
    s.dev.get Fld.bootStatusSource ≠ 3 →
      ∃ t, exec (.reseatTeardown) s = .next t ∧ t.dev.boot.reseat = 5 ∧ t.mem.all (fun c => decide (0x600000 ≤ c.1)) = true) ∧
  (∀ (s : State), s.dev.hostFree = true ∧ s.dev.bootSt = BootSt.running ∧ s.dev.liveHeld = false ∧ s.dev.key.armed = none ∧
    s.dev.key.entries = [] →
      ∃ t, exec (.live) s = .next t ∧ t.dev.bootSt = BootSt.live ∧ t.dev.boot.load = some .live ∧ t.dev.liveHeld = true) ∧
  (∀ (s : State), s.dev.hostFree = true ∧ s.dev.boot.load = some .live ∧ s.dev.boot.verdict = none →
      ∃ t, exec (.abort) s = .next t ∧ t.dev.get Fld.bootLivestatCode = Kp.aborted ∧ t.dev.boot.load = none ∧
        t.dev.liveHeld = false) ∧
  (∀ (s : State) (v : Word), s.dev.hostFree = true ∧ bitsOf v.toNat 16 16 ≠ guardKey →
      ∃ t, exec (.bootCtrlBadKey v) s = .next t ∧ t = s.on (·.viol 0 .host Reg.bootCtrl)) ∧
  (∀ (s : State) (env : Env) (w : Word), s.dev.hostFree = true ∧ s.dev.hostLoads = true ∧
    ¬ (fifoWords ≤ s.dev.boot.fifo - env.taken ∧ env.spi = true) ∧ s.dev.checksRun = false →
      ∃ t, exec (.bootHostdata env w) s = .next t ∧ t.dev.boot.image = s.dev.boot.image ++ leBytes 4 w.toNat) ∧
  (∀ (s : State) (env : Env) (w : Word), s.dev.hostFree = true ∧ s.dev.hostLoads = true ∧
    ¬ (fifoWords ≤ s.dev.boot.fifo - env.taken ∧ env.spi = true) ∧ s.dev.checksRun = true ∧
      ((s.dev.takeWord env.taken w).kpVerdict s.dev.loadKind (s.dev.boot.image ++ leBytes 4 w.toNat)).1 = none →
      ∃ t, exec (.bootHostdata env w) s = .next t ∧ t.dev.boot.image = s.dev.boot.image ++ leBytes 4 w.toNat) ∧
  (∀ (s : State), s.dev.hostLoads = true ∧ s.dev.boot.load = some .live →
      ∃ t, exec (.loadSourceTimeout) s = .next t ∧ t.dev.get Fld.bootLivestatCode = Kp.source ∧ t.dev.boot.load = none) ∧
  (∀ (s : State), s.dev.hostLoads = true ∧ s.dev.boot.load = some .host →
      ∃ t, exec (.loadSourceTimeout) s = .next t ∧ t.dev.bootSt = BootSt.hostwait ∧ t.dev.boot.load = none) ∧
  (∀ (s : State) (img : List Byte) (code ward : Nat), s.dev.flashLoads = true ∧ s.dev.boot.load = some .boot ∧
    s.dev.boot.rest = [] ∧
      (s.dev.kpVerdict s.dev.loadKind img).1 = some (.bad code ward) →
      ∃ t, exec (.flashLoadFail img) s = .next t ∧ t.dev.bootSt = BootSt.hostwait ∧ t.dev.boot.load = none)

/-- The commands of the clock root take effect: under the conditions named, on the state and the operands alone, each answers a
next state that holds what its rules give it. Readings and choices of the model that clauses may rest on: log 22, 60. -/
def Obligations.ClockCommandsComplete : Prop :=
  (∀ (s : State) (v : Word), s.dev.hostReady = true →
      ∃ t, exec (.pllWrite false v) s = .next t ∧ t.dev.get Fld.clkPllcfgInt = max 48 (Fld.clkPllcfgInt.of v) ∧
      t.dev.get Fld.clkPllcfgRefdiv = Fld.clkPllcfgRefdiv.of v ∧ t.dev.get Fld.clkPllcfgRun = Fld.clkPllcfgRun.of v ∧
      t.dev.get Fld.clkStatusLocked = 0 ∧ t.dev.get Fld.clkStatusAcquiring = Fld.clkPllcfgRun.of v) ∧
  (∀ (s : State) (v : Word), s.dev.hostReady = true →
      ∃ t, exec (.pllWrite true v) s = .next t ∧ t.dev.get Fld.clkPllfracFrac = Fld.clkPllfracFrac.of v ∧
        t.dev.get Fld.clkStatusLocked = 0 ∧
      t.dev.get Fld.clkStatusAcquiring = s.dev.get Fld.clkPllcfgRun) ∧
  (∀ (s : State) (v : Word), s.dev.hostReady = true →
      ∃ t, exec (.refselWrite v) s = .next t ∧
        t.dev.get Fld.clkRefselPrimary = (if Fld.clkRefselPrimary.of v < 4 then Fld.clkRefselPrimary.of v else 0) ∧
      t.dev.get Fld.clkRefselAlt = (if Fld.clkRefselAlt.of v < 4 then Fld.clkRefselAlt.of v else 0) ∧
      t.dev.get Fld.clkRefselAltEn = Fld.clkRefselAltEn.of v ∧ t.dev.get Fld.clkRefselHoldoverEn = Fld.clkRefselHoldoverEn.of v) ∧
  (∀ (s : State), s.dev.hostReady = true →
      ∃ t, exec (.reacquire) s = .next t ∧ t.dev.get Fld.clkStatusLocked = 0 ∧
        t.dev.get Fld.clkStatusAcquiring = s.dev.get Fld.clkPllcfgRun ∧ t.dev.clk.fallback = true) ∧
  (∀ (s : State) (near : Bool), s.dev.hostReady = true ∧ s.dev.get Fld.clkStatusLocked ≠ 0 ∧ s.dev.otherUsable near = true →
      ∃ t, exec (.swap near) s = .next t ∧ t.dev.get Fld.clkStatusRefUsed = s.dev.otherRef ∧
        t.dev.get Fld.clkEventsRefSwitch = 1) ∧
  (∀ (s : State) (band : Fin 64), s.dev.clk.stage = AcqStage.band →
      ∃ t, exec (.bandSearchDone band) s = .next t ∧ t.dev.get Fld.clkStatusBand = band ∧ t.dev.clk.stage = AcqStage.lock) ∧
  (∀ (s : State) (fref : Nat), s.dev.clk.stage = AcqStage.lock ∧ s.dev.rootInRange fref = true →
      ∃ t, exec (.pllLock fref) s = .next t ∧ t.dev.get Fld.clkStatusAcquiring = 0 ∧ t.dev.clk.stage = AcqStage.locked) ∧
  (∀ (s : State), s.dev.clk.stage = AcqStage.band ∨ s.dev.clk.stage = AcqStage.lock →
      ∃ t, exec (.acqTimeout) s = .next t ∧ t.dev.get Fld.clkStatusAcqFail = min (s.dev.get Fld.clkStatusAcqFail + 1) 255 ∧
      t.dev.get Fld.clkEventsAcqTimeout = 1 ∧ t.dev.clk.stage = AcqStage.band) ∧
  (∀ (s : State), s.dev.clk.stage = AcqStage.locked ∧ s.dev.boot.commit ≠ 1 →
      ∃ t, exec (.fallbackExit) s = .next t ∧ t.dev.get Fld.clkStatusLocked = 1 ∧ t.dev.clk.fallback = false ∧
        t.dev.clk.stage = AcqStage.none) ∧
  (∀ (s : State), s.dev.get Fld.clkStatusLocked ≠ 0 →
      ∃ t, exec (.phaseFreeze) s = .next t ∧ t.dev.clk.frozen = true) ∧
  (∀ (s : State) (near : Bool), s.dev.clk.frozen = true ∧ s.dev.refValid (s.dev.get Fld.clkStatusRefUsed) = true →
      ∃ t, exec (.freezeDecision true near) s = .next t ∧ t.dev.get Fld.clkEventsSlip = 1 ∧ t.dev.clk.frozen = false) ∧
  (∀ (s : State) (phaseOk near : Bool), s.dev.clk.frozen = true ∧ s.dev.refValid (s.dev.get Fld.clkStatusRefUsed) = false ∧
    s.dev.otherUsable near = true →
      ∃ t, exec (.freezeDecision phaseOk near) s = .next t ∧ t.dev.get Fld.clkStatusRefUsed = s.dev.otherRef ∧
        t.dev.get Fld.clkEventsRefSwitch = 1 ∧ t.dev.clk.frozen = false) ∧
  (∀ (s : State) (ref : Fin 4), s.dev.refValid ref = true →
      ∃ t, exec (.refLost ref) s = .next t ∧ t.dev.refValid ref = false ∧ t.dev.get Fld.clkEventsRefLost = 1) ∧
  (∀ (s : State) (ref : Fin 4) (near : Bool), s.dev.refValid ref = false ∧ s.dev.get Fld.clkStatusHoldover = 0 →
      ∃ t, exec (.refReturned ref near) s = .next t ∧ t.dev.refValid ref = true ∧ t.dev.get Fld.clkEventsRefReturned = 1) ∧
  (∀ (s : State) (count : Nat), ∃ t, exec (.refmonRefresh count) s = .next t ∧ t.dev.get Fld.clkRefmonPriCount = count % 2 ^ 20 ∧
      t.dev.get Fld.clkRefmonPriValid = (if s.dev.refValid (s.dev.get Fld.clkRefselPrimary) then 1 else 0) ∧
      t.dev.get Fld.clkRefmonAltValid = (if s.dev.refValid (s.dev.get Fld.clkRefselAlt) then 1 else 0))

/-- The commands of the keyway and the tumbler take effect: under the conditions named, on the state and the operands alone, each
answers a next state that holds what its rules give it. Readings and choices of the model that clauses may rest on: log 13,
35, 36. -/
def Obligations.KeywayCommandsComplete : Prop :=
  (∀ (s : State) (f : FrameIn), s.dev.strobes = true →
      ∃ t, exec (.frameBoundary f) s = .next t ∧
      let u := (s.on (·.observe f)).on (fun d => d.each (List.range 7) Dev.portBoundary)
      let n := u.dev.nextFrame
      t = (if u.dev.passOn then (u.on (fun d => (d.tumbCommit n).liveCommit n)).runPass f n else u).on Dev.boundaryEnd) ∧
  (∀ (s : State) (a : Nat) (v : Word), s.dev.hostReady = true ∧ s.dev.regUp (a) = true ∧ rwtMask a ≠ 0 ∧
    s.dev.stageRefused .host a v = false →
      ∃ t, exec (.tumblerStage a v) s = .next t ∧
        t.dev.key.entries = putEntry s.dev.key.entries (s.dev.stageKey a) (s.dev.stageWord a v).1 ∧
      t.dev.get Fld.tumbStatusAgent = 16) ∧
  (∀ (s : State) (late : Bool), s.dev.hostReady = true ∧ s.dev.regUp (Reg.tumbCtrl) = true ∧ s.dev.liveHeld = false ∧
    s.dev.key.armed = none ∧ s.dev.key.entries ≠ [] →
      ∃ t, exec (.arm late) s = .next t ∧ t.dev.key.armed = some (s.dev.earliest late) ∧ t.dev.key.lateAt = false ∧
        t.dev.get Fld.tumbStatusLate = 0 ∧
      t.dev.key.entries = s.dev.key.entries) ∧
  (∀ (s : State) (late : Bool), s.dev.hostReady = true ∧ s.dev.regUp (Reg.tumbCtrl) = true ∧ s.dev.liveHeld = false ∧
    s.dev.key.armed = none ∧ s.dev.key.entries ≠ [] ∧ notBefore (s.dev.get Fld.tumbAtframeFrame) (s.dev.earliest late) = true →
      ∃ t, exec (.armAt late) s = .next t ∧ t.dev.key.armed = some (s.dev.get Fld.tumbAtframeFrame) ∧ t.dev.key.lateAt = false ∧
        t.dev.get Fld.tumbStatusLate = 0) ∧
  (∀ (s : State) (late : Bool), s.dev.hostReady = true ∧ s.dev.regUp (Reg.tumbCtrl) = true ∧ s.dev.liveHeld = false ∧
    s.dev.key.armed = none ∧ s.dev.key.entries ≠ [] ∧ notBefore (s.dev.get Fld.tumbAtframeFrame) (s.dev.earliest late) = false →
      ∃ t, exec (.armAt late) s = .next t ∧ t.dev.key.armed = some (s.dev.earliest late) ∧ t.dev.key.lateAt = true) ∧
  (∀ (s : State) (late : Bool) (n : Nat), s.dev.hostReady = true ∧ s.dev.regUp (Reg.tumbCtrl) = true ∧ s.dev.liveHeld = false ∧
    s.dev.key.armed = some n ∧ (late && notBefore (s.dev.frame + 1) n) = false →
      ∃ t, exec (.disarm late) s = .next t ∧ t.dev.key.armed = none ∧ t.dev.key.entries = s.dev.key.entries) ∧
  (∀ (s : State), s.dev.hostReady = true ∧ s.dev.regUp (Reg.tumbCtrl) = true ∧ s.dev.liveHeld = false ∧ s.dev.key.armed = none →
      ∃ t, exec (.discard) s = .next t ∧ t.dev.key.entries = []) ∧
  (∀ (s : State) (c : Fin 8192) (x : Xp), s.dev.xp c = some x ∧ x.main.due = true ∧ x.serial = none ∧ x.shadow = none →
      ∃ t, exec (.xpRampEnd c) s = .next t ∧ t.dev.xp c = none) ∧
  (∀ (s : State) (c : Fin 8192) (x : Xp) (r : Ramp), s.dev.xp c = some x ∧ x.shadow = some r ∧ r.due = true ∧ x.main.due = false →
      ∃ t, exec (.fadeShadowEnd c) s = .next t ∧ t.dev.xp c = some { x with shadow := none }) ∧
  (∀ (s : State) (c : Fin 8192) (x : Xp) (src gt n : Nat), s.dev.xp c = some x ∧ x.serial = some (src, gt, n) ∧
    x.main.due = true →
      ∃ t, exec (.serialFadeHalf c) s = .next t ∧ t.dev.xp c = some ⟨⟨src, 0, gt, n, 0⟩, false, x.shadow, none⟩)

/-- The commands of the microphone and line inputs take effect: under the conditions named, on the state and the operands alone,
each answers a next state that holds what its rules give it. Readings and choices of the model that clauses may rest on: log
14, 37. -/
def Obligations.InputCommandsComplete : Prop :=
  (∀ (s : State) (n : Fin 8), ∃ t, exec (.anainSettleEnd n) s = .next t ∧ t.dev.get (Fld.anainChStatusSettling n) = 0) ∧
  (∀ (s : State) (n : Fin 8) (a : Nat) (rest : List Nat), (s.dev.ain n).svc = a :: rest ∧
    s.dev.bit Fld.anainCalctrlRotEn n = true ∧
      s.dev.get (Fld.anainChStatusOutSlice n) ≠ 15 ∧ (s.dev.ain n).ready = true →
      ∃ t, exec (.adcSliceSwap n) s = .next t ∧ (t.dev.ain n).svc = rest ++ [s.dev.get (Fld.anainChStatusOutSlice n)] ∧
        (t.dev.ain n).ready = false ∧
      t.dev.get (Fld.anainChStatusOutSlice n) = a % 16) ∧
  (∀ (s : State) (n : Fin 8), s.dev.get (Fld.anainChStatusOutSlice n) ≠ 15 ∧ (s.dev.ain n).ready = false →
      ∃ t, exec (.adcSliceCalDone n false) s = .next t ∧ (t.dev.ain n).ready = true) ∧
  (∀ (s : State) (n : Fin 8), s.dev.get (Fld.anainChStatusOutSlice n) ≠ 15 ∧ (s.dev.ain n).ready = false →
      ∃ t, exec (.adcSliceCalDone n true) s = .next t ∧ t.dev.get (Fld.anainChStatusOutSlice n) = 15 ∧
        t.dev.get (Fld.anainChEventsRetired n) = 1) ∧
  (∀ (s : State) (n : Fin 8) (k : Fin 9), (s.dev.ain n).svc.contains k = true ∧ s.dev.get (Fld.anainChStatusOutSlice n) ≠ 15 ∧
    (s.dev.ain n).ready = true →
      ∃ t, exec (.adcSliceCheckFail n k) s = .next t ∧
        (t.dev.ain n).svc = (s.dev.ain n).svc.filter (· != (k : Nat)) ++ [s.dev.get (Fld.anainChStatusOutSlice n)] ∧
      t.dev.get (Fld.anainChStatusOutSlice n) = 15 ∧ t.dev.get (Fld.anainChEventsRetired n) = 1) ∧
  (∀ (s : State) (n : Fin 8) (k : Fin 9), (s.dev.ain n).svc.contains k = true ∧ s.dev.get (Fld.anainChStatusOutSlice n) = 15 →
      ∃ t, exec (.adcSliceCheckFail n k) s = .next t ∧ t.dev.get (Fld.anainChStatusFailed n) = 1 ∧
        t.dev.get (Fld.anainChEventsFailed n) = 1) ∧
  (∀ (s : State) (n : Fin 4), s.dev.bit Fld.micbStatusDriving n = true ∧ bitOf s.dev.inp.micbBusy n = false →
      ∃ t, exec (.micbTrip n) s = .next t ∧ t.dev.bit Fld.micbStatusTripped n = true ∧ t.dev.bit Fld.micbStatusLimit n = false ∧
      t.dev.bit Fld.micbEventsTripped n = true ∧ t.dev.bit Fld.micbStatusDriving n = false) ∧
  (∀ (s : State) (k : Fin 8), s.dev.bit Fld.pdmStatusReceiving k = true ∧ s.dev.bit Fld.pdmStatusClkPresent k = true →
      ∃ t, exec (.pdmClkLost k) s = .next t ∧ t.dev.bit Fld.pdmStatusClkPresent k = false ∧
        t.dev.bit Fld.pdmEventsClkLost k = true) ∧
  (∀ (s : State) (k : Fin 8), s.dev.bit Fld.pdmStatusReceiving k = true →
      ∃ t, exec (.pdmClkReturn k) s = .next t ∧ t.dev.bit Fld.pdmStatusClkPresent k = true) ∧
  (∀ (s : State) (k : Fin 32), ∃ t, exec (.pdmSettleEnd true k) s = .next t ∧ bitOf t.dev.inp.pdmCh k = false) ∧
  (∀ (s : State) (k : Fin 32), (k : Nat) < 8 →
      ∃ t, exec (.pdmSettleEnd false k) s = .next t ∧ bitOf t.dev.inp.pdmClk k = false)

/-- The commands of the outputs and the sequencer take effect: under the conditions named, on the state and the operands alone,
each answers a next state that holds what its rules give it. Readings and choices of the model that clauses may rest on: log
7, 34. -/
def Obligations.OutputCommandsComplete : Prop :=
  (∀ (s : State) (o : Fin 10) (w a : Nat) (rest : List Nat), (s.dev.out o).wait = some w ∧ (s.dev.out o).svc = a :: rest ∧
    s.dev.bit Fld.outCalctrlRotEn o = true →
      ∃ t, exec (.dacSliceSwap o) s = .next t ∧ (t.dev.out o).svc = rest ++ [w] ∧ (t.dev.out o).cal = some a ∧
        (t.dev.out o).wait = (s.dev.out o).cal ∧
      t.dev.get (Fld.outStatusOutSlice o) = a % 16) ∧
  (∀ (s : State) (o : Fin 10) (k : Nat), (s.dev.out o).cal = some k ∧ (s.dev.out o).wait = none →
      ∃ t, exec (.dacSliceCalDone o false) s = .next t ∧ (t.dev.out o).wait = some k ∧ (t.dev.out o).cal = none) ∧
  (∀ (s : State) (o : Fin 10) (k : Nat), (s.dev.out o).cal = some k →
      ∃ t, exec (.dacSliceCalDone o true) s = .next t ∧ (t.dev.out o).cal = none ∧ t.dev.get (Fld.outEventsRetired o) = 1) ∧
  (∀ (s : State) (o : Fin 10) (k : Fin 10) (w : Nat), (s.dev.out o).svc.contains k = true ∧ (s.dev.out o).wait = some w →
      ∃ t, exec (.dacSliceCheckFail o k) s = .next t ∧ (t.dev.out o).svc = (s.dev.out o).svc.filter (· != (k : Nat)) ++ [w] ∧
        (t.dev.out o).wait = none ∧
      t.dev.get (Fld.outEventsRetired o) = 1) ∧
  (∀ (s : State) (o : Fin 10) (k : Fin 10), (s.dev.out o).svc.contains k = true ∧ (s.dev.out o).wait = none →
      ∃ t, exec (.dacSliceCheckFail o k) s = .next t ∧ t.dev.get (Fld.outEventsFailed o) = 1 ∧
        t.dev.bit (Fld.outStatusClrCause o) Cause.failed = true) ∧
  (∀ (s : State) (o : Fin 4), s.dev.get (Fld.outStatusPersona o) ≠ 0 ∧ s.dev.undriven o = false →
      ∃ t, exec (.complianceTrip o) s = .next t ∧ t.dev.get (Fld.outEventsProtect o) = 1 ∧
        t.dev.bit (Fld.outStatusClrCause o) Cause.protect = true) ∧
  (∀ (s : State) (o : Fin 4), bitOf (s.dev.clrCauses o) Cause.protect = true ∧ s.dev.get (Fld.outStatusPersona o) ≠ 0 ∧
    s.dev.undriven o = false ∧
      (s.dev.out o).hold = .none ∧ (s.dev.out o).recovering = false →
      ∃ t, exec (.complianceHiz o) s = .next t ∧ (t.dev.out o).esc = true ∧ (t.dev.out o).spk = .hiz ∧
        t.dev.get (Fld.outEventsHiz o) = 1) ∧
  (∀ (s : State) (o : Fin 4), s.dev.hostReady = true ∧ bitOf (s.dev.clrCauses o) Cause.protect = true →
      ∃ t, exec (.complianceCleared o) s = .next t ∧ t.dev.get (Fld.outEventsProtect o) = 0 ∧
        t.dev.get (Fld.outEventsHiz o) = 0 ∧ (t.dev.out o).esc = false ∧
      (t.dev.out o).recovering = true) ∧
  (∀ (s : State) (o : Fin 4), (s.dev.out o).recovering = true ∧ (s.dev.out o).hold = .none →
      ∃ t, exec (.complianceRecover o) s = .next t ∧ (t.dev.out o).recovering = false ∧
        t.dev.bit (Fld.outStatusClrCause o) Cause.protect = false) ∧
  (∀ (s : State) (h : Fin 2), s.dev.undriven (4 + h) = false →
      ∃ t, exec (.hpCurrentLimit h) s = .next t ∧ t.dev.get Fld.hpPumpLimit = 1 ∧ t.dev.get (Fld.outEventsProtect (4 + h)) = 1 ∧
      t.dev.bit (Fld.outStatusClrCause (4 + h)) Cause.protect = true) ∧
  (∀ (s : State) (h : Fin 2), s.dev.hostReady = true →
      ∃ t, exec (.hpProtectCleared h) s = .next t ∧ t.dev.get (Fld.outEventsProtect (4 + h)) = 0 ∧
        t.dev.bit (Fld.outStatusClrCause (4 + h)) Cause.protect = false) ∧
  (∀ (s : State), s.dev.on Dom.hp = true ∧ s.dev.bootSt ≠ BootSt.selftest →
      ∃ t, exec (.pumpReady) s = .next t ∧ t.dev.get Fld.hpPumpReady = 1 ∧ (t.dev.out 4).ready = true ∧
        (t.dev.out 5).ready = true) ∧
  (∀ (s : State) (o : Fin 10), s.dev.on (outDom o) = true ∧ s.dev.bootSt ≠ BootSt.selftest ∧
      ((o : Nat) < 4 ∨ ((o : Nat) < 6 ∧ s.dev.get Fld.hpPumpReady ≠ 0) ∨
        (6 ≤ (o : Nat) ∧ s.dev.get Fld.spkPvddReady ≠ 0 ∧ s.dev.get Fld.repStatusSpkDeferred = 0)) →
      ∃ t, exec (.chainReady o) s = .next t ∧ (t.dev.out o).ready = true) ∧
  (∀ (s : State) (o : Fin 10) (run : Bool), s.dev.hostReady = true ∧ s.dev.upper o = false →
      ∃ t, exec (.outputRun o run) s = .next t ∧ t.dev.get (Fld.outCtrlRun o) = (if run then 1 else 0)) ∧
  (∀ (s : State) (o : Fin 10), s.dev.hostReady = true ∧ s.dev.upper o = false ∧ s.dev.get (Fld.outCtrlRun o) = 0 ∧
    s.dev.outSt o = OutSt.powerup →
      ∃ t, exec (.outputRun o true) s = .next t ∧ t.dev.get (Fld.outCtrlRun o) = 1 ∧
        (t.dev.outSt o = OutSt.starting ∨ t.dev.outSt o = OutSt.running)) ∧
  (∀ (s : State), s.dev.pins.outClr = false →
      ∃ t, exec (.outClrAssert) s = .next t ∧ t.dev.pins.outClr = true ∧ t.dev.get Fld.outClrstatPinLow = 1 ∧
      ∀ o : Fin 10, t.dev.bit (Fld.outStatusClrCause o) Cause.outClr = true) ∧
  (∀ (s : State), s.dev.pins.outClr = true →
      ∃ t, exec (.outClrRelease) s = .next t ∧ t.dev.pins.outClr = false ∧ t.dev.get Fld.outClrstatPinLow = 0 ∧
      ∀ o : Fin 10, t.dev.bit (Fld.outStatusClrCause o) Cause.outClr = false) ∧
  (∀ (s : State) (o : Fin 10), ((s.dev.out o).hold = .refgain ∨ (s.dev.out o).hold = .slice ∨ (s.dev.out o).hold = .segment ∨ (s.dev.out o).hold = .fsp) →
      ∃ t, exec (.holdEnd o) s = .next t ∧ (t.dev.out o).hold = .none ∧ t.dev.get (Fld.outStatusHolding o) = 0) ∧
  (∀ (s : State) (o : Fin 10), ((s.dev.out o).hold = .entry ∨ (s.dev.out o).hold = .restart) ∧ s.dev.clrCauses o ≠ 0 →
      ∃ t, exec (.holdEnd o) s = .next t ∧ (t.dev.out o).hold = .none ∧ t.dev.get (Fld.outStatusHolding o) = 0) ∧
  (∀ (s : State) (o : Fin 10), ((s.dev.out o).hold = .entry ∨ (s.dev.out o).hold = .restart) ∧ s.dev.outSt o = OutSt.clear ∧
    s.dev.clrCauses o = 0 ∧
      (s.dev.out o).recovering = false ∧ s.dev.pinHiz o = false →
      ∃ t, exec (.holdEnd o) s = .next t ∧ (t.dev.out o).hold = .exit ∧ t.dev.get (Fld.outStatusHolding o) = 1) ∧
  (∀ (s : State) (o : Fin 10), (s.dev.out o).hold = .exit ∧ s.dev.get (Fld.outCtrlRun o) ≠ 0 →
      ∃ t, exec (.holdEnd o) s = .next t ∧ (t.dev.out o).hold = .none ∧
        (t.dev.outSt o = OutSt.starting ∨ t.dev.outSt o = OutSt.running)) ∧
  (∀ (s : State) (o : Fin 10) (trim : Int) (limit : Bool) (st : Nat), (s.dev.out o).blocks = [.rampUp] ∧
    (s.dev.out o).fin = .state st →
      ∃ t, exec (.seqBlockDone o trim limit) s = .next t ∧ t.dev.gain o = fullGain ∧ (t.dev.out o).blocks = [] ∧
        t.dev.outSt o = st % 16) ∧
  (∀ (s : State) (o : Fin 10) (trim : Int) (limit : Bool) (st : Nat), (s.dev.out o).blocks = [.rampDown] ∧
    (s.dev.out o).fin = .state st →
      ∃ t, exec (.seqBlockDone o trim limit) s = .next t ∧ t.dev.gain o = 0 ∧ (t.dev.out o).blocks = [] ∧
        t.dev.outSt o = st % 16) ∧
  (∀ (s : State) (o : Fin 10) (mute : Bool), s.dev.hostReady = true →
      ∃ t, exec (.seqMuteWrite o mute) s = .next t ∧ t.dev.get (Fld.seqCtrlMute o) = (if mute then 1 else 0) ∧
        t.dev.get (Fld.seqStatusMuteSoftware o) = (if mute then 1 else 0)) ∧
  (∀ (s : State) (o : Fin 4), s.dev.kt! (5 + o) ≠ s.dev.get (Fld.outStatusPersona o) ∧ s.dev.outSt o ≠ OutSt.persona ∧
      (s.dev.undriven o = true ∨ s.dev.outSt o = OutSt.clear ∨ s.dev.outSt o = OutSt.failed) →
      ∃ t, exec (.personaSequence o) s = .next t ∧ t.dev.get (Fld.outStatusPersona o) = s.dev.kt! (5 + o) % 2) ∧
  (∀ (s : State) (o : Fin 4), s.dev.kt! (5 + o) ≠ s.dev.get (Fld.outStatusPersona o) ∧ s.dev.outSt o ≠ OutSt.persona ∧
    s.dev.gain o ≠ 0 ∧
      s.dev.undriven o = false ∧ s.dev.outSt o ≠ OutSt.clear ∧ s.dev.outSt o ≠ OutSt.failed →
      ∃ t, exec (.personaSequence o) s = .next t ∧ t.dev.outSt o = OutSt.persona ∧ (t.dev.out o).fin = .persona ∧
        (t.dev.out o).blocks.head? = some .rampDown)

/-- The commands of the speaker stages take effect: under the conditions named, on the state and the operands alone, each answers
a next state that holds what its rules give it. Readings and choices of the model that clauses may rest on: log 8, 34. -/
def Obligations.SpeakerCommandsComplete : Prop :=
  (∀ (s : State) (n : Fin 4) (h : Fin 2) (seg : Fin 18) (cell : Fin 3) (spare : Nat), s.dev.bit (segFld n h) seg = true ∧
    (s.dev.out (6 + n)).swap = none ∧ s.dev.get (segRetFld n h) < 2 ∧
      [16, 17].find? (fun k => !s.dev.bit (segFld n h) k) = some spare →
      ∃ t, exec (.segmentFailing n h seg cell) s = .next t ∧
        (t.dev.out (6 + n)).swap = some ((h : Nat), (seg : Nat), (cell : Nat), spare) ∧
        t.dev.get (Fld.outStatusHolding (6 + n)) = 1) ∧
  (∀ (s : State) (n : Fin 4) (h : Fin 2) (seg : Fin 18) (cell : Fin 3), s.dev.bit (segFld n h) seg = true ∧
    (s.dev.out (6 + n)).swap = none ∧ 2 ≤ s.dev.get (segRetFld n h) →
      ∃ t, exec (.segmentFailing n h seg cell) s = .next t ∧ t.dev.get (Fld.spkStatusHizCauseStage n) = 1 ∧
        t.dev.get (Fld.spkEventsFailed n) = 1 ∧ (t.dev.out (6 + n)).spk = .hiz) ∧
  (∀ (s : State) (n : Fin 4), ∃ t, exec (.spkShortTrip n) s = .next t ∧ t.dev.get (Fld.spkStatusHizCauseShort n) = 1 ∧
    t.dev.get (Fld.spkEventsShort n) = 1 ∧ (t.dev.out (6 + n)).spk = .hiz) ∧
  (∀ (s : State) (n : Fin 4), s.dev.hostReady = true ∧ s.dev.get (Fld.spkStatusHizCauseShort n) ≠ 0 ∧
    s.dev.outSt (s.dev.lowerOf n) = OutSt.hiz ∧
      s.dev.hizCauses (s.dev.lowerOf n) = 16 ∧ (s.dev.out (s.dev.lowerOf n)).ready = true →
      ∃ t, exec (.spkShortCleared n) s = .next t ∧ t.dev.get (Fld.spkEventsShort n) = 0 ∧
        t.dev.outSt (s.dev.lowerOf n) = OutSt.diag) ∧
  (∀ (s : State) (n : Fin 4), s.dev.hostReady = true ∧ s.dev.upper (6 + n) = false ∧ s.dev.outSt (6 + n) = OutSt.powerup →
      ∃ t, exec (.spkDiag n) s = .next t ∧ t.dev.outSt (6 + n) = OutSt.diag ∧ (t.dev.out (6 + n)).spk = .hiz) ∧
  (∀ (s : State) (n : Fin 4) (pin : Option Bool) (r : Nat), s.dev.outSt (6 + n) = OutSt.diag →
      ∃ t, exec (.diagDone n pin r) s = .next t ∧ t.dev.get (Fld.spkDiagResult n) = s.dev.diagResult n pin r ∧
        t.dev.get (Fld.spkEventsDiagDone n) = 1) ∧
  (∀ (s : State) (n : Fin 4) (amps : Bool) (z : Nat), s.dev.get (Fld.spkPilotEn n) ≠ 0 ∧ s.dev.outSt (6 + n) = OutSt.running ∧
    s.dev.upper (6 + n) = false →
      ∃ t, exec (.pilotMeasure n amps z) s = .next t ∧ t.dev.get (Fld.spkPilotstatResult n) =
        (if s.dev.pilotFreqOk (s.dev.get (Fld.spkPilotGen n)) = false then 5 else if amps = false then 4
         else if z < 8 * s.dev.get (Fld.spkPilotZlo n) then 2 else if 8 * s.dev.get (Fld.spkPilotZhi n) < z then 3 else 1)) ∧
  (∀ (s : State), ∃ t, exec (.spkPvddReady) s = .next t ∧ t.dev.get Fld.spkPvddReady = 1 ∧ t.dev.get Fld.spkPvddLow = 0 ∧
    t.dev.get Fld.spkPvddHigh = 0 ∧ t.dev.pins.pvdd = true) ∧
  (∀ (s : State), s.dev.get Fld.spkPvddReady ≠ 0 →
      ∃ t, exec (.pvddCutoff) s = .next t ∧ t.dev.get Fld.spkPvddReady = 0 ∧ t.dev.get Fld.spkPvddLow = 1 ∧
      ∀ n : Fin 4, t.dev.get (Fld.spkStatusHizCausePvddLow n) = 1 ∧ t.dev.get (Fld.spkEventsPvdd n) = 1 ∧
        (t.dev.out (6 + n)).spk = .hiz) ∧
  (∀ (s : State), s.dev.get Fld.spkPvddReady ≠ 0 →
      ∃ t, exec (.pvddOvervoltage) s = .next t ∧ t.dev.get Fld.spkPvddReady = 0 ∧ t.dev.get Fld.spkPvddHigh = 1 ∧
      ∀ n : Fin 4, t.dev.get (Fld.spkStatusHizCausePvddHigh n) = 1 ∧ t.dev.get (Fld.spkEventsPvdd n) = 1 ∧
        (t.dev.out (6 + n)).spk = .hiz) ∧
  (∀ (s : State) (d : Int), ∃ t, exec (.derateStep d) s = .next t ∧
    t.dev.pins.derate = (if s.dev.pins.derate < derateTarget d then min (derateTarget d) (s.dev.pins.derate + 5)
        else max (derateTarget d) (s.dev.pins.derate - 1)) ∧
      ∀ n : Fin 4, t.dev.get (Fld.spkLimitsDerate n) = t.dev.pins.derate / 5 % 2 ^ (Fld.spkLimitsDerate n).width) ∧
  (∀ (s : State) (d : Int), ∃ t, exec (.spkThermalShutdown d) s = .next t ∧
    ∀ n : Fin 4, t.dev.get (Fld.spkStatusHizCauseThermal n) = 1 ∧ t.dev.get (Fld.spkEventsThermal n) = 1 ∧
      (t.dev.out (6 + n)).spk = .hiz) ∧
  (∀ (s : State) (n : Fin 4) (d : Int), s.dev.get (Fld.spkEventsThermal n) = 0 ∧ d < 1000 →
      ∃ t, exec (.spkThermalCleared n d) s = .next t ∧ t.dev.get (Fld.spkStatusHizCauseThermal n) = 0)

/-- The commands of the jacks, headset detectors and buttons take effect: under the conditions named, on the state and the
operands alone, each answers a next state that holds what its rules give it. Readings and choices of the model that clauses
may rest on: log 33. -/
def Obligations.JackCommandsComplete : Prop :=
  (∀ (s : State) (k : Fin 4) (high : Bool), ∃ t, exec (.jackRawChange k high) s = .next t ∧
    t.dev.bit Fld.jackStatusRaw k = high) ∧
  (∀ (s : State) (k : Fin 4), s.dev.get (Fld.jdCfgEn k) ≠ 0 ∧ s.dev.rawIn k ≠ s.dev.bit Fld.jackStatusInserted k →
      ∃ t, exec (.jackDebounced k) s = .next t ∧ t.dev.bit Fld.jackStatusInserted k = s.dev.rawIn k ∧
      t.dev.bit (if s.dev.rawIn k then Fld.jackEventsInsert else Fld.jackEventsRemove) k = true) ∧
  (∀ (s : State) (k : Fin 4) (v : Word), s.dev.hostReady = true →
      ∃ t, exec (.jdCfgWrite k v) s = .next t ∧
      let hi := (Fld.jdCfgHiTh k).of v
      let lo := (Fld.jdCfgLoTh k).of v
      t.dev.get (Fld.jdCfgHiTh k) = (if hi ≤ lo then max hi 1 else hi) ∧
      t.dev.get (Fld.jdCfgLoTh k) = (if hi ≤ lo then max hi 1 - 1 else lo) ∧
      t.dev.get (Fld.jdCfgDebounce k) = min ((Fld.jdCfgDebounce k).of v) 500 ∧ t.dev.get (Fld.jdCfgEn k) = (Fld.jdCfgEn k).of v) ∧
  (∀ (s : State) (h : Fin 2), s.dev.hostReady = true ∧ s.dev.get (Fld.hsResRunning h) = 0 ∧
    s.dev.on (micbDom (s.dev.get (Fld.hsCfgMicb h))) = true ∧
      s.dev.pinHiz 4 = false ∧ s.dev.pinHiz 5 = false →
      ∃ t, exec (.hsStart h) s = .next t ∧ t.dev.get (Fld.hsResRunning h) = 1 ∧ (t.dev.hsd h).avg = false ∧
        bitOf t.dev.inp.micbBusy (s.dev.get (Fld.hsCfgMicb h)) = true) ∧
  (∀ (s : State) (h : Fin 2), s.dev.hostReady = true ∧ s.dev.get (Fld.hsResRunning h) = 0 ∧
    s.dev.on (micbDom (s.dev.get (Fld.hsCfgMicb h))) = false →
      ∃ t, exec (.hsStart h) s = .next t ∧ t.dev.get (Fld.hsResType h) = HsType.noBias) ∧
  (∀ (s : State) (h : Fin 2), s.dev.hostReady = true ∧ s.dev.get (Fld.hsResRunning h) ≠ 0 →
      ∃ t, exec (.hsAbort h) s = .next t ∧ t.dev.get (Fld.hsResRunning h) = 0 ∧ t.dev.get (Fld.hsResType h) = HsType.aborted ∧
        t.dev.bit Fld.jackEventsHsDone h = true) ∧
  (∀ (s : State) (h : Fin 2), s.dev.get (Fld.hsResRunning h) ≠ 0 →
      ∃ t, exec (.hsSettleEnd h) s = .next t ∧ (t.dev.hsd h).avg = true) ∧
  (∀ (s : State) (h : Fin 2) (z : Nat), s.dev.get (Fld.hsResRunning h) ≠ 0 ∧ (s.dev.hsd h).avg = true →
      ∃ t, exec (.hsDetectDone h z) s = .next t ∧ t.dev.get (Fld.hsResRunning h) = 0 ∧
        t.dev.get (Fld.hsResType h) = s.dev.hsType h z ∧
      t.dev.get (Fld.hsResZ h) = min z 4095 ∧ t.dev.bit Fld.jackEventsHsDone h = true) ∧
  (∀ (s : State) (h : Fin 2) (level : Nat) (reached : Bool), s.dev.hsDecodes h reached = true →
      ∃ t, exec (.buttonSample h level reached) s = .next t ∧ t.dev.get (Fld.hsBtnstatLevel h) = min level 255 ∧
        (t.dev.hsd h).dec = s.dev.hsButton h (min level 255)) ∧
  (∀ (s : State) (h : Fin 2) (level : Nat) (reached : Bool), s.dev.hsDecodes h reached = false →
      ∃ t, exec (.buttonSample h level reached) s = .next t ∧ (t.dev.hsd h).dec = 4 ∧ (t.dev.hsd h).run = 0) ∧
  (∀ (s : State) (h : Fin 2) (v : Word), s.dev.hostReady = true →
      ∃ t, exec (.btncfgWrite h v) s = .next t ∧
      let t0 := (Fld.hsBtncfgTh0 h).of v
      let t1 := ascend t0 ((Fld.hsBtncfgTh1 h).of v)
      let t2 := ascend t1 ((Fld.hsBtncfgTh2 h).of v)
      let t3 := ascend t2 ((Fld.hsBtncfgTh3 h).of v)
      t.dev.get (Fld.hsBtncfgTh0 h) = t0 ∧ t.dev.get (Fld.hsBtncfgTh1 h) = t1 ∧ t.dev.get (Fld.hsBtncfgTh2 h) = t2 ∧
      t.dev.get (Fld.hsBtncfgTh3 h) = t3)

/-- The commands of the serial ports, S/PDIF, the rate monitors and the converters take effect: under the conditions named, on the
state and the operands alone, each answers a next state that holds what its rules give it. Readings and choices of the model
that clauses may rest on: log 39, 40, 44, 48. -/
def Obligations.PortCommandsComplete : Prop :=
  (∀ (s : State) (n : Fin 7) (tx : Bool), s.dev.hostReady = true ∧ s.dev.regUp (unitCtrl n) = true ∧ s.dev.portWard n = true ∧
    s.dev.is (runF n tx) = false ∧
      s.dev.dirSt n tx = PortSt.idle ∧ (s.dev.dir n tx).stopPend = false →
      ∃ t, exec (.portRunStart n tx) s = .next t ∧ t.dev.get (runF n tx) = 1 ∧
      t.dev.dirSt n tx = (if s.dev.inFallback && !s.dev.isMem n tx then PortSt.halted else PortSt.framing)) ∧
  (∀ (s : State) (n : Fin 7) (tx : Bool), s.dev.hostReady = true ∧ s.dev.regUp (unitCtrl n) = true ∧ s.dev.portWard n = true ∧
    s.dev.is (runF n tx) = true ∧ s.dev.dirSt n tx = PortSt.running →
      ∃ t, exec (.portRunStop n tx) s = .next t ∧ t.dev.get (runF n tx) = 0 ∧ (t.dev.dir n tx).stopPend = true ∧
        t.dev.dirSt n tx = PortSt.running) ∧
  (∀ (s : State) (n : Fin 7), s.dev.hostReady = true ∧ s.dev.regUp (unitCtrl n) = true ∧ s.dev.portWard n = true →
      ∃ t, exec (.portClrCnt n) s = .next t ∧ ∀ k : Fin 3, t.dev.rd (unitCount n k) = 0) ∧
  (∀ (s : State) (n : Fin 6) (slots : List Nat), s.dev.on Dom.ports = true ∧ s.dev.dirSt n false = PortSt.running ∧
    s.dev.isMem n false = false ∧
      (s.dev.dir n false).fifo.length < 4 →
      ∃ t, exec (.portFrameReceived n slots) s = .next t ∧ (t.dev.dir n false).fifo.length = (s.dev.dir n false).fifo.length + 1 ∧
      t.dev.get (Fld.portRxframeCount n) = (s.dev.get (Fld.portRxframeCount n) + 1) % 2 ^ 32) ∧
  (∀ (s : State) (pair : Fin 12) (bits : Nat) (n : Nat) (tx : Bool), s.dev.on Dom.ports = true ∧
    s.dev.followers pair = [(n, tx)] ∧ s.dev.is (lockF n tx) = true ∧
      bits ≠ s.dev.unitSlots n * s.dev.slotWidth n →
      ∃ t, exec (.portFsEdge pair bits) s = .next t ∧ t.dev.is (lockF n tx) = false ∧
      t.dev.get ⟨unitCount n 2, 15, 0⟩ = min (s.dev.get ⟨unitCount n 2, 15, 0⟩ + 1) 65535 ∧
      t.dev.get (Fld.portEventsFrameErr n) = 1) ∧
  (∀ (s : State) (pair : Fin 12) (bits : Nat) (n : Nat) (tx : Bool), s.dev.on Dom.ports = true ∧
    s.dev.followers pair = [(n, tx)] ∧ s.dev.is (lockF n tx) = false ∧
      (s.dev.dir n tx).edge = true ∧ (s.dev.dir n tx).good = 0 ∧ bits = s.dev.unitSlots n * s.dev.slotWidth n →
      ∃ t, exec (.portFsEdge pair bits) s = .next t ∧ (t.dev.dir n tx).good = 1) ∧
  (∀ (s : State) (n : Fin 7) (f : PFrame) (rest : List PFrame), (n : Nat) < 6 ∧ s.dev.on Dom.ports = true ∧
    s.dev.dirSt n true = PortSt.running ∧ s.dev.isConv n true = false ∧
      s.dev.isMem n true = false ∧ (s.dev.dir n true).stopPend = false ∧ (s.dev.dir n true).isOpen = true ∧
      (s.dev.dir n true).primed = true ∧ (s.dev.dir n true).fifo = f :: rest →
      ∃ t, exec (.portPinFrameStart n) s = .next t ∧ (t.dev.dir n true).fifo = rest ∧
        (t.dev.dir n true).pin = s.dev.pinFrame n f.mask (some f.slots) ∧
      t.dev.get (Fld.portTxframeCount n) = (s.dev.get (Fld.portTxframeCount n) + 1) % 2 ^ 32) ∧
  (∀ (s : State) (f : SpdifIn), s.dev.on Dom.ports = true ∧ s.dev.dirSt 6 false = PortSt.running ∧
    s.dev.is (lockF 6 false) = true ∧
      f.preA = 0 ∧ f.preB = 1 ∧ f.biphase = false ∧ (s.dev.dir 6 false).fifo.length < 4 →
      ∃ t, exec (.spdifFrameReceived f) s = .next t ∧ (t.dev.dir 6 false).fifo.length = (s.dev.dir 6 false).fifo.length + 1) ∧
  (∀ (s : State) (f : SpdifIn), s.dev.on Dom.ports = true ∧ s.dev.dirSt 6 false ≠ PortSt.idle ∧ s.dev.is (lockF 6 false) = true ∧
    f.biphase = true →
      ∃ t, exec (.spdifFrameReceived f) s = .next t ∧ t.dev.is (lockF 6 false) = false ∧ t.dev.get Fld.spdifEventsFrameErr = 1) ∧
  (∀ (s : State) (k : Fin 8), s.dev.is (Fld.spdifNpstatMuted k) = true ∧ s.dev.npDue k = true →
      ∃ t, exec (.npUnmute k) s = .next t ∧ t.dev.get (Fld.spdifNpstatMuted k) = 0 ∧ (t.dev.np k).ramp = 0 ∧
        (t.dev.np k).ramping = true ∧ t.dev.get Fld.spdifEventsNpChange = 1) ∧
  (∀ (s : State) (m : Fin 13), s.dev.rmonFollow m ≠ [] ∧
    (s.dev.get (Fld.rmonStatusState m) = 2 ∨ s.dev.get (Fld.rmonStatusState m) = 3) →
      ∃ t, exec (.rmonStop m) s = .next t ∧ t.dev.get (Fld.rmonStatusState m) = 1 ∧ t.dev.get (Fld.rmonStatusRate m) = 15 ∧
        t.dev.get (Fld.rmonStatusPeriod m) = 0 ∧
      t.dev.get (Fld.rmonCountStops m) = min (s.dev.get (Fld.rmonCountStops m) + 1) (2 ^ (Fld.rmonCountStops m).width - 1) ∧
      t.dev.bit Fld.rmonEvents0Stop m = true) ∧
  (∀ (s : State) (m : Fin 13) (c : Nat), s.dev.rmonFollow m ≠ [] ∧ s.dev.get (Fld.rmonStatusState m) = 3 ∧
    (s.dev.rmon m).before = 0 ∧ (s.dev.rmon m).lost = false ∧
      (s.dev.rmon m).off = [] ∧ (s.dev.rmon m).acc ≠ [] ∧ near2 c (mean256 (s.dev.rmon m).acc) = true →
      ∃ t, exec (.rmonPeriod m c) s = .next t ∧ (t.dev.rmon m).acc = (c :: (s.dev.rmon m).acc).take 32 ∧
      t.dev.get (Fld.rmonStatusPeriod m) = mean256 ((c :: (s.dev.rmon m).acc).take 32) % 2 ^ (Fld.rmonStatusPeriod m).width) ∧
  (∀ (s : State) (mask : Word), s.dev.hostReady = true ∧ s.dev.regUp (Reg.rmonCtrl) = true →
      ∃ t, exec (.rmonClr mask) s = .next t ∧ ∀ m : Fin 13, bitOf mask.toNat m = true → t.dev.rd (Reg.rmonCount m) = 0) ∧
  (∀ (s : State) (g : Fin 14), s.dev.asrcSt g = AsrcSt.acquire →
      ∃ t, exec (.asrcAcquired g) s = .next t ∧ t.dev.asrcSt g = AsrcSt.fadeIn) ∧
  (∀ (s : State) (g : Fin 14), s.dev.asrcSt g = AsrcSt.fadeIn ∧ 256 ≤ (s.dev.asrc g).gain →
      ∃ t, exec (.asrcFadeDone g) s = .next t ∧ t.dev.asrcSt g = AsrcSt.track ∧ t.dev.bit Fld.asrcEventsLock g = true) ∧
  (∀ (s : State) (g : Fin 14), s.dev.asrcSt g = AsrcSt.fadeOut ∧ (s.dev.asrc g).gain = 0 ∧ (s.dev.asrc g).dest = AsrcSt.wait →
      ∃ t, exec (.asrcFadeDone g) s = .next t ∧ t.dev.asrcSt g = AsrcSt.wait) ∧
  (∀ (s : State) (g : Fin 14), s.dev.asrcSt g = AsrcSt.hold →
      ∃ t, exec (.asrcHoldTimeout g) s = .next t ∧ t.dev.asrcSt g = AsrcSt.wait ∧ (t.dev.asrc g).gain = 0) ∧
  (∀ (s : State) (mask : Word), s.dev.hostReady = true ∧ s.dev.regUp (Reg.asrcCtrl) = true →
      ∃ t, exec (.asrcClr mask) s = .next t ∧ ∀ g : Fin 14, bitOf mask.toNat g = true → t.dev.rd (Reg.asrcGCount g) = 0)

/-- The commands of the USB function take effect: under the conditions named, on the state and the operands alone, each answers a
next state that holds what its rules give it. Readings and choices of the model that clauses may rest on: log 12, 40. -/
def Obligations.UsbCommandsComplete : Prop :=
  (∀ (s : State) (bytes : List Byte), s.dev.usbSt = UsbSt.configured ∧ s.dev.get Fld.usbStatusPlayAlt ≠ 0 ∧
    s.dev.inFallback = false ∧
      s.dev.usb.playCh * s.dev.usb.playSub ≠ 0 ∧ bytes.length % (s.dev.usb.playCh * s.dev.usb.playSub) = 0 ∧
      bytes.length / (s.dev.usb.playCh * s.dev.usb.playSub) ≤ usbCeil (s.dev.is Fld.usbStatusSpeed) (s.dev.usbHz false) + 1 →
      ∃ t, exec (.usbOutPacket bytes) s = .next t ∧ t.dev.usb.play = s.dev.usb.play ++
        (usbFrames s.dev.usb.playCh s.dev.usb.playSub s.dev.usb.playRes bytes).take (s.dev.usbDepth false - s.dev.usb.play.length)) ∧
  (∀ (s : State) (bytes : List Byte), s.dev.usbSt = UsbSt.configured ∧ s.dev.get Fld.usbStatusPlayAlt ≠ 0 ∧
    s.dev.inFallback = true →
      ∃ t, exec (.usbOutPacket bytes) s = .next t ∧ t.dev.usb.play = s.dev.usb.play ∧ t.dev.get Fld.usbEventsPlayOver = 1) ∧
  (∀ (s : State) (up : Bool), s.dev.usbSt = UsbSt.configured →
      ∃ t, exec (.usbInToken 3 up) s = .next t ∧ t.dev.usb.hidQueued = false) ∧
  (∀ (s : State) (up : Bool), s.dev.usbSt = UsbSt.configured ∧ s.dev.get Fld.usbStatusCapAlt ≠ 0 ∧ s.dev.inFallback = false ∧
    s.dev.usb.cap ≠ [] →
      ∃ t, exec (.usbInToken 2 up) s = .next t ∧
        t.dev.usb.cap = s.dev.usb.cap.drop (if up then usbCeil (s.dev.is Fld.usbStatusSpeed) (s.dev.usbHz true)
        else s.dev.usbHz true / (if s.dev.is Fld.usbStatusSpeed then 8000 else 1000))) ∧
  (∀ (s : State) (frame micro : Nat) (meas : Int), s.dev.usbSt ≠ UsbSt.detached ∧ s.dev.usbSt ≠ UsbSt.released ∧
    s.dev.usbSt ≠ UsbSt.suspended →
      ∃ t, exec (.usbSof frame micro meas) s = .next t ∧ t.dev.get Fld.usbSofFrame = frame % 2 ^ Fld.usbSofFrame.width ∧
        t.dev.get Fld.usbSofMicro = micro % 2 ^ Fld.usbSofMicro.width) ∧
  (∀ (s : State) (cap : Bool) (alt ch sub res : Nat), s.dev.usbSt = UsbSt.configured →
      ∃ t, exec (.setInterface cap alt ch sub res) s = .next t ∧ t.dev.get (usbAltF cap) = alt % 2 ^ (usbAltF cap).width ∧
        (if cap then t.dev.usb.cap else t.dev.usb.play) = [] ∧
      t.dev.get Fld.usbEventsAlt = 1) ∧
  (∀ (s : State) (cap : Bool) (hz c r : Nat), (bitList 13 (s.dev.usbOffered cap)).find? (fun k => rateHz k == hz) = some c ∧
    s.dev.usbRatio hz = some r →
      ∃ t, exec (.setCurSamplingFreq cap hz) s = .next t ∧ t.dev.get (usbRateF cap) = c % 2 ^ (usbRateF cap).width ∧
        t.dev.get (usbRatioF cap) = r % 2 ^ (usbRatioF cap).width ∧
      t.dev.get Fld.usbEventsAlt = 1) ∧
  (∀ (s : State) (n : Nat), ∃ t, exec (.usbClassRequest (.setIdle n)) s = .next t ∧ t.dev.usb.hidIdle = n % 256) ∧
  (∀ (s : State), ∃ t, exec (.usbClassRequest .other) s = .next t ∧
    t.dev.get (Fld.violCntCount 11) = min (s.dev.get (Fld.violCntCount 11) + 1) 65535 ∧ t.dev.get Fld.violLastCategory = 11) ∧
  (∀ (s : State) (a : Nat), s.dev.usbSt = UsbSt.default ∧ a % 128 ≠ 0 →
      ∃ t, exec (.usbStandardRequest (.setAddress a)) s = .next t ∧ t.dev.usbSt = UsbSt.addressed ∧
        t.dev.get Fld.usbStatusAddress = a % 128) ∧
  (∀ (s : State) (c : Nat), (s.dev.usbSt = UsbSt.addressed ∨ s.dev.usbSt = UsbSt.configured) ∧ c ≠ 0 →
      ∃ t, exec (.usbStandardRequest (.setConfiguration c)) s = .next t ∧ t.dev.usbSt = UsbSt.configured ∧ t.dev.usb.config = c ∧
        t.dev.get Fld.usbStatusPlayAlt = 0 ∧ t.dev.get Fld.usbStatusCapAlt = 0) ∧
  (∀ (s : State) (cap m : Bool), ∃ t, exec (.featureUnitSet cap (some m) none) s = .next t ∧
    t.dev.get (if cap then Fld.usbFucapMute else Fld.usbFuplayMute) = (if m then 1 else 0) ∧ t.dev.get Fld.usbEventsFu = 1) ∧
  (∀ (s : State) (report : Nat), ∃ t, exec (.setReport report) s = .next t ∧
    t.dev.get Fld.usbHidoutReport = report % 2 ^ Fld.usbHidoutReport.width ∧ t.dev.get Fld.usbEventsHidOut = 1) ∧
  (∀ (s : State) (v : Word), s.dev.hostReady = true ∧ s.dev.regUp (Reg.usbHidin) = true ∧
    s.dev.get Fld.usbHidinReport ≠ bitsOf v.toNat 0 5 →
      ∃ t, exec (.hidinWrite v) s = .next t ∧ t.dev.get Fld.usbHidinReport = bitsOf v.toNat 0 5 ∧ t.dev.usb.hidQueued = true) ∧
  (∀ (s : State), s.dev.alive = true ∧ s.dev.usbWard.isSome = true ∧ s.dev.released = false ∧
    s.dev.is Fld.usbCtrlDiscon = false ∧ s.dev.on Dom.usb = true ∧
      s.dev.usb.pullup = false →
      ∃ t, exec (.usbConnect) s = .next t ∧ t.dev.usbSt = UsbSt.attached ∧ t.dev.usb.pullup = true ∧
        t.dev.get Fld.usbStatusVbus = 1) ∧
  (∀ (s : State), s.dev.usb.pullup = true ∧ s.dev.released = false →
      ∃ t, exec (.usbDisconnect false) s = .next t ∧ t.dev.usbSt = UsbSt.detached ∧ t.dev.usb.pullup = false ∧
        t.dev.get Fld.usbStatusVbus = 0) ∧
  (∀ (s : State), UsbSt.attached ≤ s.dev.usbSt ∧ s.dev.usbSt ≤ UsbSt.configured →
      ∃ t, exec (.usbSuspend) s = .next t ∧ t.dev.usbSt = UsbSt.suspended ∧ t.dev.usb.before = s.dev.usbSt ∧
        t.dev.get Fld.usbEventsSuspend = 1) ∧
  (∀ (s : State) (high : Bool), s.dev.released = false ∧ s.dev.usbSt = UsbSt.suspended ∧ s.dev.is Fld.pwrTxnBusy = true →
      ∃ t, exec (.usbResume false high) s = .next t ∧ t.dev.usbSt = s.dev.usb.before % 8) ∧
  (∀ (s : State) (high : Bool), s.dev.released = false ∧ s.dev.usbSt ≠ UsbSt.detached ∧ s.dev.usbSt ≠ UsbSt.released ∧
    s.dev.is Fld.pwrTxnBusy = true →
      ∃ t, exec (.usbResume true high) s = .next t ∧ t.dev.usbSt = UsbSt.default ∧ t.dev.get Fld.usbStatusAddress = 0 ∧
        t.dev.get Fld.usbEventsBusReset = 1) ∧
  (∀ (s : State), UsbSt.default ≤ s.dev.usbSt ∧ s.dev.usbSt ≤ UsbSt.configured ∧ s.dev.usb.lpm = true ∧
    s.dev.get Fld.usbStatusPlayAlt = 0 ∧
      s.dev.get Fld.usbStatusCapAlt = 0 →
      ∃ t, exec (.lpm) s = .next t ∧ t.dev.usbSt = UsbSt.l1 ∧ t.dev.usb.before = s.dev.usbSt) ∧
  (∀ (s : State) (v : Word), s.dev.hostReady = true ∧ s.dev.regUp (Reg.usbCtrl) = true →
      ∃ t, exec (.usbCtrlWrite v) s = .next t ∧ t.dev.rd Reg.usbCtrl = BitVec.ofNat 32 (bitsOf v.toNat 0 3))

/-- The commands of the engines take effect: under the conditions named, on the state and the operands alone, each answers a next
state that holds what its rules give it. Readings and choices of the model that clauses may rest on: log 42, 51, 52. -/
def Obligations.EngineCommandsComplete : Prop :=
  (∀ (s : State) (e : Fin 16) (cycles : Nat) (env : Env) (pa : Nat) (secure : Bool), (let p := (s.dev.rd (Reg.engPc e)).toNat
      let x := s.dev.eng e
      let b := leNat (s.bytes pa 8)
      s.dev.engPowered e = true ∧ s.dev.engSt e = EngSt.running ∧ x.loop = false ∧
        s.dev.translate (x.winSet e) .fetch p 8 = .ok pa secure ∧ s.dev.reach secure pa = .ok ∧ env.errs = [] ∧
        bundleLegal b = true ∧ (x.executes b = true → memShape (opOf (scalarOf b)) = none ∧
        ¬ opOf (scalarOf b) ∈ [0x1E, 0x1F, 0x24])) →
      ∃ t, exec (.engineBundle e cycles env) s = .next t ∧
      let d := ((s.dev.engCycles e cycles).eccSpan e [] pa 8).modEng e (fun x => { x with entering := 0 })
      t = { s with dev := d.engCommit e (s.dev.rd (Reg.engPc e)).toNat (leNat (s.bytes pa 8)) [] (d.eng e) 0 }) ∧
  (∀ (s : State) (e : Fin 16) (errs : List EccErr) (pa : Nat) (secure : Bool), (let v := (SMap.get 0 (s.dev.eng e).c 9 + 0x200#32).toNat
      s.dev.engPowered e = true ∧ s.dev.engSt e = EngSt.running ∧ s.dev.takesNormal e = true ∧ s.dev.takesFast e = false ∧
        s.dev.translate e .fetch v 8 = .ok pa secure ∧ spanBad errs pa 8 = false) →
      ∃ t, exec (.interruptTrap e errs) s = .next t ∧ t.dev.rd (Reg.engPc e) = SMap.get 0 (s.dev.eng e).c 9 + 0x200#32 ∧
      SMap.get 0 (t.dev.eng e).c 1 = s.dev.rd (Reg.engPc e) ∧ SMap.get 0 (t.dev.eng e).c 2 = 0x10 ∧
      (t.dev.eng e).trap = true ∧ (t.dev.eng e).accept = false ∧ (t.dev.eng e).kept = true) ∧
  (∀ (s : State) (e : Fin 16) (errs : List EccErr) (k pa : Nat) (secure : Bool), (let v := (SMap.get 0 (s.dev.eng e).c 10).toNat
      s.dev.engPowered e = true ∧ s.dev.engSt e = EngSt.running ∧ (s.dev.eng e).fast = false ∧ s.dev.best e true = some k ∧
        keyId k ≠ 1023 ∧
        s.dev.translate (16 + e) .fetch v 8 = .ok pa secure ∧ spanBad errs pa 8 = false) →
      ∃ t, exec (.fastEntry e errs) s = .next t ∧ t.dev.rd (Reg.engPc e) = SMap.get 0 (s.dev.eng e).c 10 ∧
      SMap.get 0 (t.dev.eng e).c 7 = s.dev.rd (Reg.engPc e) ∧ SMap.get 0 (t.dev.eng e).c 8 = BitVec.ofNat 32 (keyId k) ∧
      (t.dev.eng e).fast = true ∧ (t.dev.gate k).st = GateSt.active) ∧
  (∀ (s : State) (e : Fin 16) (cycles : Nat) (errs : List EccErr), s.dev.engPowered e = true ∧ s.dev.engSt e = EngSt.waiting ∧
    s.dev.ready e false = true ∧ s.dev.ready e true = false ∧
      (s.dev.eng e).accept = false →
      ∃ t, exec (.waitWake e cycles errs) s = .next t ∧ t.dev.engSt e = EngSt.running ∧
        (t.dev.eng e).cycles = ((s.dev.eng e).cycles + cycles) % 2 ^ 32 ∧
      t.dev.rd (Reg.engPc e) = s.dev.rd (Reg.engPc e)) ∧
  (∀ (s : State) (e : Fin 16), s.dev.hostReady = true ∧ s.dev.regUp (Reg.engCtrl e) = true ∧ s.dev.tooHot = false ∧
    s.dev.engSt e ≠ EngSt.running ∧ s.dev.engSt e ≠ EngSt.waiting →
      ∃ t, exec (.engineStart e) s = .next t ∧ t.dev.engSt e = EngSt.running ∧
        t.dev.rd (Reg.engPc e) = s.dev.rd (Reg.engEntry e) ∧
      t.dev.eng e = { Eng.init with zeros := s.dev.engZeros e }) ∧
  (∀ (s : State) (e : Fin 16), s.dev.hostReady = true ∧ s.dev.regUp (Reg.engCtrl e) = true ∧ s.dev.engBusy e = true →
      ∃ t, exec (.engineStop e) s = .next t ∧ t.dev.engSt e = EngSt.stopped ∧ (t.dev.eng e).sil = Sil.half) ∧
  (∀ (s : State) (e : Fin 16), s.dev.hostReady = true ∧ s.dev.regUp (Reg.engCtrl e) = true ∧ s.dev.tooHot = false ∧
    s.dev.engSt e = EngSt.stopped →
      ∃ t, exec (.engineResume e) s = .next t ∧ t.dev.engSt e = EngSt.running ∧ (t.dev.eng e).sil = Sil.off ∧
        (t.dev.eng e).zeros = s.dev.engZeros e) ∧
  (∀ (s : State) (e : Fin 16) (env : Env), s.dev.hostReady = true ∧ s.dev.regUp (Reg.engCtrl e) = true ∧
    s.dev.engSt e = EngSt.stopped ∧ s.dev.engPowered e = true →
      ∃ t, exec (.engineStep e env) s = .next t ∧ t = (s.on (·.modEng e (fun x => { x with stepReq := true }))).engStepNow env e) ∧
  (∀ (s : State) (e : Fin 16), s.dev.hostReady = true ∧ s.dev.regUp (Reg.engCtrl e) = true →
      ∃ t, exec (.engineClrCnt e) s = .next t ∧ t.dev.rd (Reg.engRingstat e) = 0) ∧
  (∀ (s : State) (e : Fin 16) (v : Word), s.dev.hostReady = true ∧ s.dev.regUp (Reg.engCtrl e) = true →
      ∃ t, exec (.doorbell e v) s = .next t ∧ t.dev.rd (Reg.engDoorbell e) = v ∧
      t.dev.gate (privKey e 18) = (s.dev.gate (privKey e 18)).event true (s.dev.coalCount (privKey e 18)) (s.dev.coalTime (privKey e 18))) ∧
  (∀ (s : State) (e : Fin 16) (v : Word), s.dev.hostReady = true ∧ s.dev.regUp (Reg.engCtrl e) = true ∧
    (s.dev.engSt e = EngSt.stopped ∨ s.dev.engSt e = EngSt.halted) ∧
      0 < s.dev.get (Fld.engRegselIndex e) ∧ s.dev.get (Fld.engRegselIndex e) < 32 →
      ∃ t, exec (.regdataWrite e v) s = .next t ∧ (t.dev.eng e).readS false (s.dev.get (Fld.engRegselIndex e)) = v) ∧
  (∀ (s : State) (e : Fin 16) (v : Word), s.dev.hostReady = true ∧ s.dev.regUp (Reg.engCtrl e) = true ∧
    (s.dev.engSt e = EngSt.reset ∨ s.dev.engSt e = EngSt.stopped) ∧
      (s.dev.wr (Reg.engRingin e) (v &&& 0x3FFC0)).ringOk e = true →
      ∃ t, exec (.ringConfigWrite e 0 v) s = .next t ∧ t.dev.rd (Reg.engRingin e) = v &&& 0x3FFC0) ∧
  (∀ (s : State) (e : Fin 16) (v : Word), s.dev.hostReady = true ∧ s.dev.regUp (Reg.engCtrl e) = true ∧
    (s.dev.engSt e = EngSt.reset ∨ s.dev.engSt e = EngSt.stopped) ∧
      (s.dev.wr (Reg.engRinggeom e) (v &&& 0x1717)).ringOk e = true →
      ∃ t, exec (.ringConfigWrite e 2 v) s = .next t ∧ t.dev.rd (Reg.engRinggeom e) = v &&& 0x1717)

/-- The commands of the memories, the windows and the lockbox take effect: under the conditions named, on the state and the
operands alone, each answers a next state that holds what its rules give it. Readings and choices of the model that clauses
may rest on: log 28, 46. -/
def Obligations.MemoryCommandsComplete : Prop :=
  (∀ (s : State) (a : Nat), s.dev.memc.wb.contains (a / 16 * 16) = true →
      ∃ t, exec (.eccWriteback a) s = .next t ∧ t.dev.memc.wb = s.dev.memc.wb.filter (· != a / 16 * 16) ∧
        t.dev.memc.seen.contains (a / 16 * 16) = true) ∧
  (∀ (s : State) (a : Nat) (e : EccErr) (b : Nat), s.dev.is Fld.memScrubcfgEn = true ∧ a < 0x610000 ∧
    s.dev.bankOn (s.dev.region a) = true ∧
      e.word = a / 16 * 16 ∧ e.bit = some b ∧ s.dev.memc.seen.contains (a / 16 * 16) = false →
      ∃ t, exec (.scrubRead a [e]) s = .next t ∧ t.dev.get Fld.memEcccntCe = min (s.dev.get Fld.memEcccntCe + 1) 65535 ∧
        t.dev.get Fld.memEventsCe = 1 ∧
      t.dev.memc.wb.contains (a / 16 * 16) = true) ∧
  (∀ (s : State) (a : Nat), s.dev.is Fld.memScrubcfgEn = true ∧ a < 0x610000 ∧ s.dev.bankOn (s.dev.region a) = true →
      ∃ t, exec (.scrubRead a []) s = .next t ∧ t.dev.memc.seen = s.dev.memc.seen.filter (· != a / 16 * 16) ∧
        t.dev.regs = s.dev.regs) ∧
  (∀ (s : State) (loc kind : Nat), s.dev.memc.copies.contains (loc, kind) = true →
      ∃ t, exec (.repairCopyDone loc kind) s = .next t ∧ t.dev.memc.copies = s.dev.memc.copies.erase (loc, kind) ∧
        t.dev.memc.ready = s.dev.memc.ready ++ [(loc, kind)] ∧
      t.dev.get Fld.repEventsSoft = 1) ∧
  (∀ (s : State) (set : Fin 64) (win : Fin 16) (v : Word), s.dev.hostReady = true ∧ s.dev.winIdle set = true ∧
    s.dev.is (Fld.winVaS win set) = false →
      ∃ t, exec (.windowWrite set win true v) s = .next t ∧ t.dev.rd (Reg.winPa win set) =
        BitVec.ofNat 32 (v.toNat / 2 ^ (8 + s.dev.get (Fld.winVaSize win set)) * 2 ^ (8 + s.dev.get (Fld.winVaSize win set)))) ∧
  (∀ (s : State) (set : Fin 64) (win : Fin 16) (v : Word), s.dev.hostReady = true ∧ s.dev.winIdle set = true ∧
    s.dev.is (Fld.winVaS win set) = false ∧ bitOf v.toNat 3 = false →
      ∃ t, exec (.windowWrite set win false v) s = .next t ∧
      let size := min 14 (bitsOf v.toNat 4 4)
      t.dev.rd (Reg.winVa win set) = BitVec.ofNat 32 (v.toNat / 2 ^ (8 + size) * 2 ^ (8 + size) + size * 16 + bitsOf v.toNat 0 4)) ∧
  (∀ (s : State), s.dev.is Fld.lbxStatusWiping = true ∧ s.dev.kt.advance = false →
      ∃ t, exec (.lbxWipeDone) s = .next t ∧ t.dev.get Fld.lbxStatusWiping = 0 ∧ t.dev.get Fld.memEventsWipe = 1 ∧
      t.dev.get Fld.lbxStatusWipes = min (s.dev.get Fld.lbxStatusWipes + 1) (2 ^ Fld.lbxStatusWipes.width - 1)) ∧
  (∀ (s : State), s.dev.is Fld.lbxStatusWiping = true ∧ s.dev.kt.advance = true →
      ∃ t, exec (.lbxWipeDone) s = .next t ∧ t.dev.get Fld.sysRstcauseLast = Rst.soft ∧ t.dev.pwr.inReset = true) ∧
  (∀ (s : State) (v : Word), s.dev.hostReady = true ∧ bitOf v.toNat 0 = true →
      ∃ t, exec (.memCtrlWrite v) s = .next t ∧ t.dev.rd Reg.memEcccnt = 0) ∧
  (∀ (s : State) (v : Word), s.dev.hostReady = true ∧ bitOf v.toNat 1 = true →
      ∃ t, exec (.memCtrlWrite v) s = .next t ∧ ∀ b : Fin 32, t.dev.get (Fld.memBankStarve b) = 0)

/-- The commands of the DMA channels take effect: under the conditions named, on the state and the operands alone, each answers a
next state that holds what its rules give it. Readings and choices of the model that clauses may rest on: log 50. -/
def Obligations.DmaCommandsComplete : Prop :=
  (∀ (s : State) (c : Fin 64), s.dev.hostReady = true ∧ s.dev.regUp (Reg.dmaChCtrl c) = true ∧
    (s.dev.chSt c = ChSt.idle ∨ s.dev.chSt c = ChSt.stopped ∨ s.dev.chSt c = ChSt.faulted) →
      ∃ t, exec (.dmaStart c) s = .next t ∧ t.dev.chSt c = ChSt.fetch ∧ t.dev.get (Fld.dmaChOffsetBytes c) = 0 ∧
      t.dev.rd (Reg.dmaChCurdesc c) = BitVec.ofNat 32 ((s.dev.rd (Reg.dmaChDesc c)).toNat / 32 * 32)) ∧
  (∀ (s : State) (c : Fin 64), s.dev.hostReady = true ∧ s.dev.regUp (Reg.dmaChCtrl c) = true ∧
    (s.dev.chSt c = ChSt.fetch ∨ s.dev.chSt c = ChSt.active ∨ s.dev.chSt c = ChSt.waitDesc) →
      ∃ t, exec (.dmaStop c) s = .next t ∧ t.dev.chSt c = (if s.dev.chSt c = ChSt.active ∧
        (s.dev.chan c).beats ≠ [] then ChSt.stopping else ChSt.stopped)) ∧
  (∀ (s : State) (c : Fin 64), s.dev.hostReady = true ∧ s.dev.regUp (Reg.dmaChCtrl c) = true ∧
    (s.dev.chSt c = ChSt.stopped ∨ s.dev.chSt c = ChSt.faulted) →
      ∃ t, exec (.dmaResume c) s = .next t ∧ t.dev.chSt c = ChSt.fetch ∧ (t.dev.chan c).resume = true ∧
        t.dev.get (Fld.dmaChOffsetBytes c) = s.dev.get (Fld.dmaChOffsetBytes c)) ∧
  (∀ (s : State) (c : Fin 64), s.dev.hostReady = true ∧ s.dev.regUp (Reg.dmaChCtrl c) = true ∧ s.dev.chSt c = ChSt.waitDesc →
      ∃ t, exec (.kick c) s = .next t ∧ t.dev.chSt c = ChSt.fetch) ∧
  (∀ (s : State) (c : Fin 64), s.dev.hostReady = true ∧ s.dev.regUp (Reg.dmaChCtrl c) = true →
      ∃ t, exec (.dmaClrCnt c) s = .next t ∧ t.dev.rd (Reg.dmaChCount c) = 0) ∧
  (∀ (s : State) (c : Fin 64) (v : Word), s.dev.hostReady = true ∧ s.dev.regUp (Reg.dmaChCtrl c) = true ∧
    s.dev.chanBusy c = false →
      ∃ t, exec (.dmaCfgWrite c true v) s = .next t ∧ t.dev.rd (Reg.dmaChDesc c) = v &&& 0xFFFFFFE0) ∧
  (∀ (s : State) (c : Fin 64) (v : Word), s.dev.hostReady = true ∧ s.dev.regUp (Reg.dmaChCtrl c) = true ∧
    s.dev.chanBusy c = false →
      ∃ t, exec (.dmaCfgWrite c false v) s = .next t ∧ t.dev.rd (Reg.dmaChCfg c) = v &&& 0x8FFF001F) ∧
  (∀ (s : State) (c : Fin 64) (env : Env) (ws : List Word), s.dev.on Dom.dma = true ∧ s.dev.chSt c = ChSt.fetch ∧
    (s.readDesc env c).2.toOption = some ws ∧ bitOf (ws.getD 7 0).toNat 31 = false →
      ∃ t, exec (.descFetch c env) s = .next t ∧ t.dev.chSt c = ChSt.waitDesc ∧ (t.dev.chan c).desc = ws ∧
        (t.dev.chan c).waited = true) ∧
  (∀ (s : State) (c : Fin 64) (k : Fin 4) (env : Env) (off pa : Nat) (secure : Bool),
    (s.dev.chan c).beats[(k : Nat)]? = some ⟨off, none⟩ ∧
      s.dev.translate (s.dev.chanSet c) .load ((s.dev.chan c).srcAt off) 16 = .ok pa secure ∧ s.dev.region pa ≠ .reg ∧
      s.dev.reach secure pa = .ok ∧ env.errs = [] →
      ∃ t, exec (.dmaReadReturn c k env) s = .next t ∧ (t.dev.chan c).beats[(k : Nat)]? = some ⟨off, some (s.bytes pa 16)⟩) ∧
  (∀ (s : State) (c : Fin 64) (env : Env) (u : State) (off pa : Nat) (secure : Bool) (bs : List Byte) (rest : List Beat),
    s.dev.on Dom.dma = true ∧ (s.dev.chSt c = ChSt.active ∨ s.dev.chSt c = ChSt.stopping) ∧ s.dmaRun env = u ∧
      (u.dev.chan c).beats = ⟨off, some bs⟩ :: rest ∧ u.dev.portSide c = none ∧
      u.dev.translate (u.dev.chanSet c) .store ((u.dev.chan c).dstAt off) 16 = .ok pa secure →
      ∃ t, exec (.dmaBeatCommit c env) s = .next t ∧ t = (u.beatWrite env c pa secure bs).beatDone env c off) ∧
  (∀ (s : State) (c : Fin 64) (env : Env) (w : State), s.dev.on Dom.dma = true ∧ s.dev.chSt c = ChSt.active ∧
    (s.dev.chan c).beats = [] ∧ (s.dev.chan c).bad = none ∧
      s.dev.portSide c = none ∧ s.dev.descLen c = some (s.dev.chanOff c) ∧ (s.dev.chan c).arm = false ∧
        (s.dev.chan c).last = true ∧
      (s.on (·.modChan c (fun x => { x with trunc := false }))).writeback env c (2 ^ 30 + s.dev.chanOff c) = (w, none) ∧ w.dev.chSt c = ChSt.active →
      ∃ t, exec (.descComplete c env) s = .next t ∧ t.dev.chSt c = ChSt.idle ∧ t.mem = w.mem ∧ (t.dev.chan c).desc = []) ∧
  (∀ (s : State) (c : Fin 64), s.dev.chSt c = ChSt.active ∧ s.dev.get (Fld.dmaChCfgTimeout c) ≠ 0 ∧
    s.dev.get (Fld.dmaChCfgTimeout c) ≤ (s.dev.chan c).idle →
      ∃ t, exec (.dmaStall c) s = .next t ∧ t.dev.get (Fld.dmaChEventsStall c) = 1 ∧ (t.dev.chan c).idle = 0 ∧
      t.dev.get (Fld.dmaChCountStalls c) = min (s.dev.get (Fld.dmaChCountStalls c) + 1) (2 ^ (Fld.dmaChCountStalls c).width - 1))

/-- The commands of the interrupt controller take effect: under the conditions named, on the state and the operands alone, each
answers a next state that holds what its rules give it. Readings and choices of the model that clauses may rest on: log 49. -/
def Obligations.IntcCommandsComplete : Prop :=
  (∀ (s : State) (k : Fin 2048), (s.dev.gate k).timer = true ∧ s.dev.isEdge k = true →
      ∃ t, exec (.coalTimerExpire k) s = .next t ∧ t.dev.gate k = (s.dev.gate k).fire true) ∧
  (∀ (s : State) (k : Fin 2048), (s.dev.gate k).timer = true ∧ s.dev.isEdge k = false ∧ s.dev.level k = true →
      ∃ t, exec (.coalTimerExpire k) s = .next t ∧ t.dev.gate k = (s.dev.gate k).fire false) ∧
  (∀ (s : State) (g : Fin 18) (fast : Bool) (k : Nat), s.dev.pwr.inReset = false ∧ ((g : Nat) < 16 ∨ fast = false) ∧
    s.dev.best g fast = some k →
      ∃ t, exec (.claim g fast) s = .next t ∧ (t.dev.gate k).st = GateSt.active ∧ (t.dev.gate k).tgt = g ∧
        (t.dev.gate k).fast = fast) ∧
  (∀ (s : State) (g : Fin 18) (fast : Bool), s.dev.pwr.inReset = false ∧ ((g : Nat) < 16 ∨ fast = false) ∧
    s.dev.best g fast = none →
      ∃ t, exec (.claim g fast) s = .next t ∧
        t.dev.get Fld.intcStatusSpurious = min (s.dev.get Fld.intcStatusSpurious + 1) (2 ^ Fld.intcStatusSpurious.width - 1)) ∧
  (∀ (s : State) (g : Fin 18) (fast : Bool) (id : Fin 1024) (k : Nat), s.dev.hostReady = true ∧ ((g : Nat) < 16 ∨ fast = false) ∧
    (id : Nat) ≠ 1023 ∧ idKey g id = some k ∧ s.dev.activeAt g fast k = true →
      ∃ t, exec (.complete g fast id) s = .next t ∧ t.dev.gate k = (s.dev.gate k).complete) ∧
  (∀ (s : State) (v : Word), s.dev.hostReady = true ∧
    bitOf (s.dev.rd (Reg.sysTilemap (bitsOf v.toNat 16 4 / 8))).toNat (4 * (bitsOf v.toNat 16 4 % 8) + 3) = false →
      ∃ t, exec (.swset v) s = .next t ∧
      let k := privKey (bitsOf v.toNat 16 4) (19 + bitsOf v.toNat 0 5)
      t.dev.gate k = (s.dev.gate k).event true (s.dev.coalCount k) (s.dev.coalTime k)) ∧
  (∀ (s : State) (hold : Bool), s.dev.hostReady = true →
      ∃ t, exec (.intcHoldWrite hold) s = .next t ∧ t.dev.get Fld.intcCtrlHold = (if hold then 1 else 0)) ∧
  (∀ (s : State) (k : Fin 2048) (v : Word), s.dev.hostReady = true ∧ cfgSource (srcCfg k) = some (k : Nat) ∧
    (regRow (srcCfg k)).isSome = true →
      ∃ t, exec (.intcCfgWrite k false v) s = .next t ∧ t.dev.rd (srcCfg k) = (clampCfg (decide (1024 ≤ (k : Nat))) v).1) ∧
  (∀ (s : State) (k : Fin 2048) (v : Word), s.dev.hostReady = true ∧ cfgSource (srcCoal k) = some (k : Nat) ∧
    (regRow (srcCoal k)).isSome = true →
      ∃ t, exec (.intcCfgWrite k true v) s = .next t ∧ t.dev.coalCount k = max 1 (bitsOf v.toNat 16 8) ∧
        t.dev.coalTime k = bitsOf v.toNat 0 16) ∧
  (∀ (s : State) (k : Fin 16) (high : Bool), ∃ t, exec (.extintChange k high) s = .next t ∧ bitOf t.dev.intc.ext k = high)

/-- The commands of the link take effect: under the conditions named, on the state and the operands alone, each answers a next
state that holds what its rules give it. Readings and choices of the model that clauses may rest on: log 45, 47. -/
def Obligations.LinkCommandsComplete : Prop :=
  (∀ (s : State) (p : Fin 3) (f : LinkIn), s.dev.on Dom.link = true ∧ s.dev.is (Fld.linkPortCfgUsed p) = true ∧
    s.dev.lportSt p ≠ LPortSt.idle ∧ f.codeErr = false ∧ hdrOk f.hdr = true →
      ∃ t, exec (.linkFrameRx p f) s = .next t ∧
        t.dev.get (Fld.linkPortStatusPartner p) = hdrNat f.hdr 8 2 % 2 ^ (Fld.linkPortStatusPartner p).width ∧
      (t.dev.lport p).frame = hdrNat f.hdr 4 4 ∧ (t.dev.lport p).good = (s.dev.lport p).good + 1) ∧
  (∀ (s : State) (p : Fin 3) (f : LinkIn), s.dev.on Dom.link = true ∧ s.dev.is (Fld.linkPortCfgUsed p) = true ∧
    s.dev.lportSt p ≠ LPortSt.idle ∧ (f.codeErr = true ∨ hdrOk f.hdr = false) →
      ∃ t, exec (.linkFrameRx p f) s = .next t ∧
        t.dev.get (Fld.linkPortCountCrc p) = min (s.dev.get (Fld.linkPortCountCrc p) + 1) (2 ^ (Fld.linkPortCountCrc p).width - 1) ∧
      (t.dev.lport p).good = 0) ∧
  (∀ (s : State) (same : Bool), s.dev.isRoot = false ∧ s.dev.released = false ∧ s.dev.lportSt 0 = LPortSt.framed ∧
    s.dev.linkSt = LinkSt.ranging ∧ 32 ≤ s.dev.link.ranging →
      ∃ t, exec (.linkRangingDone same) s = .next t ∧ t.dev.linkSt = LinkSt.joined ∧ t.dev.get Fld.linkStatusRootLost = 0 ∧
        t.dev.get Fld.linkEventsJoined = 1 ∧
      t.dev.get Fld.keyFramecntCount = (s.dev.lport 0).frame % 2 ^ 32) ∧
  (∀ (s : State), s.dev.isRoot = false ∧ s.dev.is (Fld.linkPortCfgUsed 0) = true ∧ s.dev.is Fld.linkStatusRootLost = false ∧
    8 ≤ (s.dev.lport 0).gone ∧
      (s.dev.linkSt = LinkSt.joined ∨ s.dev.linkSt = LinkSt.slew) →
      ∃ t, exec (.linkRootLoss) s = .next t ∧ t.dev.get Fld.linkStatusRootLost = 1 ∧ t.dev.get Fld.linkEventsRootLoss = 1 ∧
        t.dev.linkSt = LinkSt.holdover) ∧
  (∀ (s : State) (p : Fin 3) (m : List Byte), s.dev.msgOn p = true ∧ msgNat m 4 1 = MsgType.app ∧ (s.dev.checkMsg p m).2 = true ∧
    (s.dev.route p m).1 = true ∧ s.dev.link.rxq.length < 8 →
      ∃ t, exec (.app p m) s = .next t ∧ t.dev.link.rxq = s.dev.link.rxq ++ [m] ∧ t.dev.get Fld.linkEventsRxMsg = 1) ∧
  (∀ (s : State) (p : Fin 3) (m : List Byte), s.dev.msgOn p = true ∧ msgNat m 4 1 = MsgType.assign ∧
    (s.dev.checkMsg p m).2 = true ∧ (s.dev.route p m).1 = true ∧ s.dev.is Fld.linkCfgIdHost = true ∧
      s.dev.is Fld.linkNodeidValid = false →
      ∃ t, exec (.assign p m) s = .next t ∧ t.dev.get Fld.linkNodeidId = msgNat m 16 2 % 2 ^ 16 ∧
        t.dev.get Fld.linkNodeidValid = 1) ∧
  (∀ (s : State) (p : Fin 3) (m : List Byte), s.dev.msgOn p = true ∧ msgNat m 4 1 = MsgType.join ∧
    (s.dev.checkMsg p m).2 = true ∧ (s.dev.route p m).1 = true ∧ s.dev.isRoot = true ∧ s.dev.link.rxq.length < 8 →
      ∃ t, exec (.join p m) s = .next t ∧ t.dev.link.rxq = s.dev.link.rxq ++ [m] ∧ t.dev.get Fld.linkEventsRxMsg = 1) ∧
  (∀ (s : State) (p : Fin 3) (m : List Byte), s.dev.msgOn p = true ∧ msgNat m 4 1 = MsgType.reset ∧
    (s.dev.checkMsg p m).2 = true ∧ (s.dev.route p m).1 = true ∧ msgNat m 16 4 = 0x9616 →
      ∃ t, exec (.linkReset p m) s = .next t ∧ t.dev.get Fld.sysRstcauseLast = Rst.link ∧ t.dev.pwr.inReset = true) ∧
  (∀ (s : State) (p : Fin 3) (m : List Byte), s.dev.msgOn p = true ∧ msgNat m 4 1 = MsgType.bootData ∧
    (s.dev.checkMsg p m).2 = true ∧ (s.dev.route p m).1 = true →
      ∃ t, exec (.bootData p m) s = .next t ∧
        t = (s.on (·.forward (s.dev.route p m).2 m)).linkData ((m.drop 16).take (min 64 (msgNat m 6 1)))) ∧
  (∀ (s : State), s.dev.hostReady = true ∧ s.dev.regUp (Reg.linkTxctrl) = true ∧ s.dev.link.key.isSome = true →
      ∃ t, exec (.linkSend) s = .next t ∧ t.dev.get Fld.linkEventsTxDone = 1) ∧
  (∀ (s : State), s.dev.hostReady = true ∧ s.dev.regUp (Reg.linkRxstat) = true →
      ∃ t, exec (.linkPop) s = .next t ∧ t.dev.link.rxq = s.dev.link.rxq.drop 1 ∧
        t.dev.get Fld.linkRxstatCount = (s.dev.link.rxq.drop 1).length % 2 ^ Fld.linkRxstatCount.width) ∧
  (∀ (s : State) (v : Word), s.dev.hostReady = true ∧ s.dev.regUp (Reg.linkNodeid) = true ∧ s.dev.is Fld.linkCfgIdHost = true ∧
    s.dev.is Fld.linkNodeidValid = false →
      ∃ t, exec (.linkNodeidWrite v) s = .next t ∧ t.dev.get Fld.linkNodeidId = bitsOf v.toNat 0 16 ∧
        t.dev.get Fld.linkNodeidValid = 1) ∧
  (∀ (s : State) (p : Fin 3), s.dev.hostReady = true ∧ s.dev.regUp (Reg.linkPortCtrl p) = true ∧
    s.dev.is (Fld.linkPortCtrlIdle p) = false ∧ s.dev.lportSt p ≠ LPortSt.idle →
      ∃ t, exec (.linkIdle p) s = .next t ∧ t.dev.get (Fld.linkPortCtrlIdle p) = 1 ∧ (t.dev.lport p).idleReq = 16) ∧
  (∀ (s : State) (p : Fin 3), s.dev.hostReady = true ∧ s.dev.regUp (Reg.linkPortCtrl p) = true ∧
    s.dev.is (Fld.linkPortCfgUsed p) = true ∧ s.dev.lportSt p = LPortSt.idle →
      ∃ t, exec (.linkWake p true) s = .next t ∧ t.dev.lportSt p = LPortSt.acquire ∧
        t.dev.get (Fld.linkPortCtrlIdle p) = s.dev.get (Fld.linkPortCtrlIdle p)) ∧
  (∀ (s : State) (p : Fin 3), s.dev.hostReady = true ∧ s.dev.regUp (Reg.linkPortCtrl p) = true →
      ∃ t, exec (.linkWake p false) s = .next t ∧ t.dev.get (Fld.linkPortCtrlIdle p) = 0) ∧
  (∀ (s : State) (p : Fin 3), s.dev.lportSt p = LPortSt.idle ∧ s.dev.is (Fld.linkPortCfgUsed p) = true →
      ∃ t, exec (.squelchWake p) s = .next t ∧ t.dev.get Fld.linkEventsWake = 1) ∧
  (∀ (s : State), s.dev.hostReady = true ∧ s.dev.regUp (Reg.linkCtrl) = true →
      ∃ t, exec (.linkClrCnt) s = .next t ∧ t.dev.rd Reg.linkCount0 = 0 ∧ t.dev.rd Reg.linkCount1 = 0 ∧
        ∀ p : Fin 3, t.dev.rd (Reg.linkPortCount p) = 0)

/-- The commands of twin operation take effect: under the conditions named, on the state and the operands alone, each answers a
next state that holds what its rules give it. Readings and choices of the model that clauses may rest on: log 15, 16, 17. -/
def Obligations.TwinCommandsComplete : Prop :=
  (∀ (s : State) (f : HingeIn), s.dev.hingeOn = true ∧ f.ok = true ∧ f.req ≠ 3 ∧ s.dev.role = Role.solo →
      ∃ t, exec (.hingeFrameRx f) s = .next t ∧
        t.dev.get Fld.hingeStatusPartnerRole = f.role % 2 ^ Fld.hingeStatusPartnerRole.width ∧ t.dev.hinge.gone = 0 ∧
      t.dev.get Fld.hingePdelayPs = f.delay % 2 ^ Fld.hingePdelayPs.width) ∧
  (∀ (s : State) (f : HingeIn), s.dev.hingeOn = true ∧ f.ok = false ∧ s.dev.role = Role.solo →
      ∃ t, exec (.hingeFrameRx f) s = .next t ∧
        t.dev.get Fld.hingeCount2Crc = min (s.dev.get Fld.hingeCount2Crc + 1) (2 ^ Fld.hingeCount2Crc.width - 1)) ∧
  (∀ (s : State), s.dev.role = Role.pairing ∧ s.dev.hinge.waiting = true ∧ s.dev.is Fld.hingeStatusPartner = false →
      ∃ t, exec (.pairWaitExpire) s = .next t ∧ t.dev.role = Role.solo ∧ t.dev.get Fld.hingeStatusFresh = 0) ∧
  (∀ (s : State) (f : FrameIn), s.dev.hingeOn = true ∧ s.dev.hinge.sync = true ∧ s.dev.role = Role.active →
      ∃ t, exec (.standbySync f) s = .next t ∧ t.dev.get Fld.hingeStatusArmed = 1 ∧ t.dev.get Fld.hingeEventsPaired = 1 ∧
        t.dev.hinge.sync = false) ∧
  (∀ (s : State) (f : FrameIn) (b : Nat), s.dev.hingeOn = true ∧ s.dev.hinge.sync = true ∧
    (s.dev.role = Role.pairing ∨ s.dev.role = Role.standby) ∧
      s.dev.hinge.syncAt = some b ∧ s.dev.clk.fallback = false ∧ s.dev.pwr.inReset = false →
      ∃ t, exec (.standbySync f) s = .next t ∧
        t = ((((s.on (·.observe f)).on (fun d => d.each (List.range 7) Dev.portBoundary)).standbyStart b).runPass f b).on Dev.boundaryEnd) ∧
  (∀ (s : State), s.dev.hinge.sync = true ∧ s.dev.role = Role.active ∧ s.dev.is Fld.hingeStatusArmed = false →
      ∃ t, exec (.pairSyncTimeout) s = .next t ∧ t.dev.get Fld.hingeStatusRefuse = Refuse.sync ∧
        t.dev.get Fld.hingeEventsRefused = 1 ∧ t.dev.hinge.sync = false) ∧
  (∀ (s : State) (high priOk : Bool), s.dev.role = Role.standby ∧ s.dev.hinge.beat = false ∧ s.dev.get Fld.hingeStatusMiss < 5 →
      ∃ t, exec (.heartbeatMiss high priOk) s = .next t ∧ t.dev.get Fld.hingeStatusMiss = s.dev.get Fld.hingeStatusMiss + 1 ∧
        t.dev.role = Role.standby) ∧
  (∀ (s : State) (priOk : Bool), s.dev.role = Role.standby ∧ s.dev.hinge.beat = false ∧ 5 ≤ s.dev.get Fld.hingeStatusMiss →
      ∃ t, exec (.heartbeatMiss true priOk) s = .next t ∧ t.dev.role = Role.active ∧ t.dev.get Fld.hingeEventsFailover = 1) ∧
  (∀ (s : State), s.dev.is Fld.hingeStatusArmed = true →
      ∃ t, exec (.deadmanFire) s = .next t ∧ t.dev.role = Role.pairing ∧ t.dev.get Fld.hingeStatusFresh = 0 ∧
        t.dev.get Fld.hingeStatusDropped = 1 ∧ t.dev.get Fld.hingeEventsDropped = 1) ∧
  (∀ (s : State), s.dev.role = Role.active ∧ 6 ≤ s.dev.hinge.gone ∧ s.dev.is Fld.hingeStatusPartner = true →
      ∃ t, exec (.partnerLost) s = .next t ∧ t.dev.get Fld.hingeStatusArmed = 0 ∧ t.dev.get Fld.hingeStatusPartner = 0 ∧
        t.dev.get Fld.hingeStatusPartnerRole = 4 ∧
      t.dev.get Fld.hingeEventsPartnerLost = 1) ∧
  (∀ (s : State), s.dev.hostReady = true ∧ s.dev.regUp (Reg.hingeCtrl) = true ∧ s.dev.role = Role.active →
      ∃ t, exec (.detach) s = .next t ∧ t.dev.role = Role.solo) ∧
  (∀ (s : State), s.dev.hostReady = true ∧ s.dev.regUp (Reg.hingeCtrl) = true ∧ s.dev.role = Role.solo ∧ s.dev.hingeOn = true ∧
    s.dev.is Fld.hingeStatusPartner = true ∧
      s.dev.get Fld.hingeStatusPartnerRole = Role.pairing ∧ s.dev.pairCheck = none →
      ∃ t, exec (.attach) s = .next t ∧ t.dev.role = Role.active ∧ t.dev.hinge.sync = true) ∧
  (∀ (s : State), s.dev.hostReady = true ∧ s.dev.regUp (Reg.hingeCtrl) = true ∧
    (s.dev.role = Role.solo ∨ s.dev.role = Role.active) ∧ s.dev.is Fld.hingeStatusPartner = true →
      ∃ t, exec (.resetTwin) s = .next t ∧ t.dev.hinge.cmdOut = 3) ∧
  (∀ (s : State), s.dev.hostReady = true ∧ s.dev.regUp (Reg.hingeCtrl) = true →
      ∃ t, exec (.hingeClrCnt) s = .next t ∧ t.dev.rd Reg.hingeCount0 = 0 ∧ t.dev.rd Reg.hingeCount1 = 0 ∧
        t.dev.rd Reg.hingeCount2 = 0)

/-- The commands of self-repair and the keyturn store take effect: under the conditions named, on the state and the operands
alone, each answers a next state that holds what its rules give it. Readings and choices of the model that clauses may rest
on: log 6, 54, 56. -/
def Obligations.RepairCommandsComplete : Prop :=
  (∀ (s : State) (n : Fin 16), s.dev.hostReady = true ∧ s.dev.swapAllowed n = true →
      ∃ t, exec (.tileSwap n) s = .next t ∧ t.dev.kt.swap = some (n : Nat)) ∧
  (∀ (s : State) (n : Nat), s.dev.kt.swap = some n ∧ n < 16 →
      ∃ t, exec (.tileSwapDone) s = .next t ∧ t.dev.phys n = 4 ∧ t.dev.kt.swap = none ∧ t.dev.get Fld.repEventsSwapDone = 1) ∧
  (∀ (s : State) (r : Repair), s.dev.kt.burn = none ∧ s.dev.supplyWarn = false ∧ s.dev.life ≠ Life.retired ∧
    s.dev.kt.queue.find? s.dev.burnable = some r ∧
      s.dev.get Fld.repStatusUsed < 512 →
      ∃ t, exec (.repairBurnStart) s = .next t ∧ t.dev.kt.burn = some (r, s.dev.get Fld.repStatusUsed) ∧
        t.dev.get Fld.repStatusUsed = s.dev.get Fld.repStatusUsed + 1 ∧
      t.dev.get Fld.repStatusBurning = 1) ∧
  (∀ (s : State) (r : Repair) (k : Nat), s.dev.kt.burn = some (r, k) →
      ∃ t, exec (.repairBurnDone) s = .next t ∧ t.dev.kt.burn = none ∧ SMap.get false t.dev.kt.sealed k = true ∧
        t.dev.get Fld.repStatusBurning = 0 ∧
      t.dev.get Fld.repEventsBurned = 1) ∧
  (∀ (s : State) (k : Fin 26) (v : Word), s.dev.hostReady = true ∧ (k : Nat) ≠ 25 ∧ s.dev.running = true ∧
    s.dev.ktPermitted k = true ∧ s.dev.is Fld.ktStatusBusy = false ∧
      s.dev.supplyWarn = false ∧ s.dev.ktValue k v ≠ s.dev.kt! k ∧ s.dev.ktInvalid k (s.dev.ktValue k v) = false ∧
      s.dev.ktSpent k < ktBudget k →
      ∃ t, exec (.ktWrite k v) s = .next t ∧ t.dev.kt.turn = some ((k : Nat), s.dev.ktSpent k, s.dev.ktValue k v) ∧
        t.dev.get Fld.ktStatusBusy = 1 ∧
      t.dev.slot k (s.dev.ktSpent k) = ⟨true, false, s.dev.get Fld.ktBootcntCount, s.dev.ktValue k v⟩) ∧
  (∀ (s : State) (w : Fin 8) (v : Word), s.dev.hostReady = true →
      ∃ t, exec (.ktHoldingWrite w v) s = .next t ∧ t.dev.holding w = v.toNat) ∧
  (∀ (s : State) (k n x : Nat), s.dev.kt.turn = some (k, n, x) ∧ k ≠ 3 →
      ∃ t, exec (.ktSeal) s = .next t ∧ t.dev.slot k n = { s.dev.slot k n with sealed := true } ∧ t.dev.kt.turn = none ∧ t.dev.get Fld.ktStatusBusy = 0 ∧
      t.dev.get Fld.ktStatusResult = 1 ∧ t.dev.get Fld.repEventsTurnDone = 1) ∧
  (∀ (s : State) (cause : Fin 3), ∃ t, exec (.tamper cause) s = .next t ∧ t.dev.get Fld.ktEventsTamper = 1 ∧
    t.dev.get Fld.ktTamperCause = cause + 1 ∧
      t.dev.get Fld.ktTamperCount = min (s.dev.get Fld.ktTamperCount + 1) (2 ^ Fld.ktTamperCount.width - 1) ∧
        t.dev.kt.turn = none) ∧
  (∀ (s : State) (cat : Fin 16) (v : Word), s.dev.hostReady = true →
      ∃ t, exec (.violClear cat v) s = .next t ∧ t.dev.get (Fld.violCntCount cat) = 0)

/-- The commands of the power sequencer take effect: under the conditions named, on the state and the operands alone, each answers
a next state that holds what its rules give it. Readings and choices of the model that clauses may rest on: log 27, 30, 31,
32, 57. -/
def Obligations.PowerCommandsComplete : Prop :=
  (∀ (s : State) (w : Fin 3) (v : Word), s.dev.hostReady = true ∧ s.dev.is Fld.pwrTxnBusy = false ∧ s.dev.host.posted = [] ∧
    s.dev.host.stretched = none ∧
      (∀ k : Fin 46, (k : Nat) / 16 ≠ w → s.dev.target k = s.dev.present k) ∧
      (∀ k : Fin 46, (k : Nat) / 16 = w → s.dev.present k ≤ codeIn v k ∧ codeIn v k ≤ 2) ∧
      (∃ k : Fin 46, (k : Nat) / 16 = w ∧ s.dev.present k < codeIn v k ∧ s.dev.target k < codeIn v k) →
      ∃ t, exec (.pwrTransaction [(w, v)]) s = .next t ∧ t.dev.get Fld.pwrTxnBusy = 1 ∧ t.dev.get Fld.pwrTxnPhase = 2 ∧
      ∀ k : Fin 46, (k : Nat) / 16 = w → t.dev.target k = codeIn v k) ∧
  (∀ (s : State) (k : Fin 46), s.dev.quiescing k = true ∧ s.dev.pwr.agreed.contains (k : Nat) = false ∧ s.dev.waitsNow k = false →
      ∃ t, exec (.quiesceAgree k) s = .next t ∧ t.dev.pwr.agreed = s.dev.pwr.agreed ++ [(k : Nat)]) ∧
  (∀ (s : State) (k : Nat), (s.dev.pwr.lower.map (·.1)).find? (fun k => !s.dev.pwr.agreed.contains k) = some k ∧
    s.dev.pwr.wakePend = 0 ∧ s.dev.pwr.held = [] ∧ s.dev.host.posted = [] ∧ s.dev.host.stretched = none →
      ∃ t, exec (.quiesceTimeout) s = .next t ∧ t.dev.get Fld.pwrTxnBusy = 0 ∧ t.dev.get Fld.pwrTxnResult = 2 ∧
        t.dev.get Fld.pwrTxnReason = 2 ∧
      t.dev.get Fld.pwrTxnDomain = k % 2 ^ Fld.pwrTxnDomain.width ∧ t.dev.pwr.lower = [] ∧ t.dev.get Fld.pwrEventsRefused = 1) ∧
  (∀ (s : State) (k : Fin 46) (v : Fin 2), s.dev.pwr.lower = [((k : Nat), (v : Nat))] ∧
    s.dev.pwr.agreed.contains (k : Nat) = true ∧ s.dev.pwr.wakePend = 0 ∧ s.dev.pwr.held = [] ∧ s.dev.host.posted = [] ∧
      s.dev.host.stretched = none →
      ∃ t, exec (.pwrCommit) s = .next t ∧ t.dev.dom k = v ∧ t.dev.onPll k = false ∧ t.dev.pwr.lower = []) ∧
  (∀ (s : State) (k : Fin 46) (v : Nat), (s.dev.pwr.rise.find? (fun e => e.1 == (k : Nat))).map (·.2) = some v ∧ v < 4 ∧
    s.dev.pwr.wakePend = 0 →
      ∃ t, exec (.domainArrive k) s = .next t ∧ t.dev.dom k = v ∧
        t.dev.pwr.rise = s.dev.pwr.rise.filter (fun e => e.1 != (k : Nat))) ∧
  (∀ (s : State) (src : Fin 6), s.dev.bit Fld.pwrWakecfgEn src = true ∧ s.dev.is Fld.pwrTxnBusy = false →
      ∃ t, exec (.wake src) s = .next t ∧ t.dev.get Fld.pwrWakesrcSrc = 2 ^ (src : Nat) ∧ t.dev.get Fld.pwrEventsWake = 1 ∧
        t.dev.clk.fastOff = false) ∧
  (∀ (s : State) (src : Fin 6), s.dev.bit Fld.pwrWakecfgEn src = true ∧ s.dev.is Fld.pwrTxnBusy = true →
      ∃ t, exec (.wake src) s = .next t ∧ bitOf t.dev.pwr.wakePend src = true ∧ t.dev.bit Fld.pwrWakesrcSrc src = true) ∧
  (∀ (s : State) (k : Fin 2), s.dev.bit Fld.pwrWakecfgEn (4 + k) = true ∧ s.dev.is Fld.pwrTxnBusy = false →
      ∃ t, exec (.wakePin k) s = .next t ∧ t.dev.get Fld.pwrWakesrcSrc = 2 ^ (4 + (k : Nat)) ∧ t.dev.get Fld.pwrEventsWake = 1) ∧
  (∀ (s : State) (w : Fin 2) (v : Word), s.dev.hostReady = true →
      ∃ t, exec (.pwrClkselWrite w v) s = .next t ∧
        ∀ k : Fin 46, (k : Nat) / 32 = w → bitOf v.toNat (k % 32) = true → s.dev.onPll k = false → 2 ≤ s.dev.dom k →
      bitOf t.dev.pwr.clkReq k = true) ∧
  (∀ (s : State) (k : Fin 46), bitOf s.dev.pwr.clkReq k = true ∧ s.dev.on k = true ∧
    (s.dev.is Fld.clkStatusLocked || s.dev.is Fld.clkStatusHoldover) = true →
      ∃ t, exec (.domainClkSwitch k) s = .next t ∧ t.dev.onPll k = true ∧ bitOf t.dev.pwr.clkReq k = false ∧
        t.dev.get Fld.pwrEventsClk = 1) ∧
  (∀ (s : State) (w : Fin 2) (v : Word), s.dev.hostReady = true →
      ∃ t, exec (.shackleRelease w v) s = .next t ∧ t.dev.rd (Reg.pwrShackle w) = s.dev.rd (Reg.pwrShackle w) &&& ~~~ v)

/-- The commands of the supplies, the temperatures and the watchdog take effect: under the conditions named, on the state and the
operands alone, each answers a next state that holds what its rules give it. Readings and choices of the model that clauses
may rest on: log 32, 34, 55. -/
def Obligations.SupplyCommandsComplete : Prop :=
  (∀ (s : State), s.dev.hostReady = true →
      ∃ t, exec (.wdtKick) s = .next t ∧ t.dev.get Fld.sysWdtevRemain = s.dev.get Fld.sysWdtcfgTimeout) ∧
  (∀ (s : State) (v : Word), s.dev.hostReady = true ∧ (s.dev.is Fld.sysWdtcfgEn = true → bitOf v.toNat 31 = true) →
      ∃ t, exec (.wdtcfgWrite v) s = .next t ∧ t.dev.get Fld.sysWdtcfgTimeout = max 1 (bitsOf v.toNat 0 16) ∧
        t.dev.get Fld.sysWdtcfgEn = bitsOf v.toNat 31 1 ∧
      t.dev.get Fld.sysWdtcfgPre = min (bitsOf v.toNat 16 15) (max 1 (bitsOf v.toNat 0 16) - 1) ∧
      t.dev.get Fld.sysWdtevRemain = max 1 (bitsOf v.toNat 0 16)) ∧
  (∀ (s : State), s.dev.wdtCounts = true →
      ∃ t, exec (.watchdogPre) s = .next t ∧ t.dev.get Fld.sysWdtevPre = 1 ∧
        t.dev.get Fld.sysWdtevRemain = s.dev.get Fld.sysWdtcfgPre) ∧
  (∀ (s : State) (sup : Fin 4) (mv : Nat), bitOf s.dev.pins.low sup = false →
      ∃ t, exec (.supplyWarning sup mv) s = .next t ∧ bitOf t.dev.pins.low sup = true ∧
        t.dev.bit Fld.monSupstatBelow sup = true ∧ t.dev.bit Fld.monSupevWarn sup = true ∧
      t.dev.bit Fld.monSupstatMuting sup = true ∧
        t.dev.get (supCnt sup) = min (s.dev.get (supCnt sup) + 1) (2 ^ (supCnt sup).width - 1)) ∧
  (∀ (s : State) (sup : Fin 4) (mv : Nat), bitOf s.dev.pins.low sup = true ∧ bitOf s.dev.pwr.recov sup = false →
      ∃ t, exec (.supplyRecover sup mv) s = .next t ∧ bitOf t.dev.pins.low sup = false ∧
        t.dev.bit Fld.monSupstatBelow sup = false ∧ t.dev.bit Fld.monSupevRecovered sup = true ∧
      t.dev.bit Fld.monSupstatMuting sup = (!s.dev.is Fld.monCfgAutoResume && s.dev.bit Fld.monSupstatMuting sup)) ∧
  (∀ (s : State), s.dev.hostReady = true ∧ s.dev.pins.low = 0 →
      ∃ t, exec (.resume) s = .next t ∧ t.dev.get Fld.monSupstatMuting = 0 ∧
        ∀ o : Fin 10, t.dev.get (Fld.seqStatusMuteSupply o) = 0) ∧
  (∀ (s : State) (k : Fin 3) (T : Int), 920 ≤ T →
      ∃ t, exec (.thermalWarning k T) s = .next t ∧ t.dev.bit Fld.monThevWarn k = true) ∧
  (∀ (s : State) (T : Int), 1000 ≤ T ∧ s.dev.is (Fld.engStatusThrottled 0) = false →
      ∃ t, exec (.die0Throttle T) s = .next t ∧ t.dev.get Fld.monThevThrottle = 1 ∧
        ∀ e : Fin 16, t.dev.get (Fld.engStatusThrottled e) = 1) ∧
  (∀ (s : State) (T : Int), T < 960 →
      ∃ t, exec (.die0ThrottleEnd T) s = .next t ∧ ∀ e : Fin 16, t.dev.get (Fld.engStatusThrottled e) = 0) ∧
  (∀ (s : State) (T : Int) (long : Bool), 1080 ≤ T →
      ∃ t, exec (.die0Shutdown T long) s = .next t ∧ t.dev.pwr.hot = true ∧ t.dev.get Fld.monThevShutdown = 1 ∧
        ∀ e : Fin 16, t.dev.engBusy e = false)

/-- The commands of the host interfaces take effect: under the conditions named, on the state and the operands alone, each answers
a next state that holds what its rules give it. Readings and choices of the model that clauses may rest on: log 9, 27, 53, 55. -/
def Obligations.HostCommandsComplete : Prop :=
  (∀ (s : State) (env : Env) (adr : Fin 128) (reg : Nat) (bytes : List Byte) (u : State), s.dev.i2cHears adr = true ∧
    bytes ≠ [] ∧ bytes.length % 4 = 0 ∧ u = s.on (fun d => (d.wakeEvent 2).setPtr 7 reg) ∧ u.dev.i2cCrc adr = false →
      ∃ t, exec (.i2cWrite env adr reg bytes) s = .next t ∧ t = (u.ptrWrite env (wireWords bytes.length bytes)).endAccess) ∧
  (∀ (s : State) (adr : Fin 128) (reg : Nat), s.dev.i2cHears adr = true →
      ∃ t, exec (.i2cSetPointer adr reg) s = .next t ∧ t.dev.host.ptr = reg / 4 * 4) ∧
  (∀ (s : State) (env : Env) (adr : Fin 128) (words : Nat), s.dev.i2cHears adr = true →
      ∃ t, exec (.i2cRead env adr words) s = .next t ∧ t = (s.on (·.wakeEvent 2)).i2cFetch env adr words []) ∧
  (∀ (s : State), s.dev.pwr.inReset = false →
      ∃ t, exec (.i2cAbort) s = .next t ∧ t.dev.get Fld.hostifEventsI2cAbort = 1 ∧
        t.dev.get (Fld.violCntCount 7) = min (s.dev.get (Fld.violCntCount 7) + 1) 65535 ∧
      t.dev.get Fld.hostifI2ccntAbort = min (s.dev.get Fld.hostifI2ccntAbort + 1) (2 ^ Fld.hostifI2ccntAbort.width - 1)) ∧
  (∀ (s : State), s.dev.pwr.inReset = false →
      ∃ t, exec (.i2cStuck) s = .next t ∧ t.dev.get Fld.hostifEventsI2cStuck = 1 ∧
        t.dev.get (Fld.violCntCount 7) = min (s.dev.get (Fld.violCntCount 7) + 1) 65535 ∧
      t.dev.get Fld.hostifI2ccntStuck = min (s.dev.get Fld.hostifI2ccntStuck + 1) (2 ^ Fld.hostifI2ccntStuck.width - 1)) ∧
  (∀ (s : State) (a : Nat) (v : Word), s.dev.pwr.held = [(16, a, v)] →
      ∃ t, exec (.i2cStretchTimeout) s = .next t ∧ t.dev.pwr.held = [] ∧
        t.dev.get (Fld.violCntCount 4) = min (s.dev.get (Fld.violCntCount 4) + 1) 65535) ∧
  (∀ (s : State) (env : Env) (adr bytes : List Byte) (u : State), s.dev.pwr.inReset = false ∧ 4 ≤ adr.length ∧
    bytes.length % 4 = 0 ∧ s.dev.is Fld.hostifSpicfgCrc = false ∧
      u = s.on (·.setPtr 8 (beNat adr)) →
      ∃ t, exec (.spiWrite env adr bytes false) s = .next t ∧ t = ((wireWords bytes.length bytes).foldl (fun z w => z.spiPost { env with spi := true } w) u).endAccess) ∧
  (∀ (s : State) (env : Env) (adr : List Byte) (words : Nat), s.dev.pwr.inReset = false ∧ 4 ≤ adr.length →
      ∃ t, exec (.spiRead env adr words [] false) s = .next t ∧
      let r := (s.on (·.setPtr 8 (beNat adr))).ptrRead { env with spi := true } words
      r.2.all (fun e => !e.2) = true → r.1.dev.is Fld.hostifSpicfgCrc = false →
        t = (r.1.on (·.modHost (fun h => { h with out := wireOut none (0x03 :: adr) (r.2.map (·.1)) }))).endAccess) ∧
  (∀ (s : State), s.dev.pwr.inReset = false →
      ∃ t, exec (.spiStatus) s = .next t ∧ t.dev.host.out = [BitVec.ofNat 8 s.dev.spiStatusByte] ∧ t.dev.host.sticky = 0) ∧
  (∀ (s : State) (v : Word), s.dev.hostReady = true ∧ s.dev.flashFree = true →
      ∃ t, exec (.qspiGo v) s = .next t ∧ t.dev.get Fld.qspiCmdBusy = 1) ∧
  (∀ (s : State) (bytes : List Byte), s.dev.is Fld.qspiCmdBusy = true →
      ∃ t, exec (.qspiDone bytes) s = .next t ∧ t.dev.get Fld.qspiCmdBusy = 0 ∧ t.dev.get Fld.hostifEventsQspiDone = 1) ∧
  (∀ (s : State) (env : Env) (a : Nat) (v : Word), s.dev.hostReady = true ∧ s.dev.regUp (a) = true ∧ a ≠ Reg.sysRstctrl ∧
    a ≠ Reg.bootCtrl ∧ a ≠ Reg.bootHostdata →
      ∃ t, exec (.registerWrite env a v) s = .next t ∧ t = (s.on (·.regWrite env .host a v)).endAccess) ∧
  (∀ (s : State) (env : Env) (a : Nat) (v : Word), s.dev.hostReady = true ∧ a % 4 = 0 ∧ a < 0x600000 ∧
    s.dev.bankOn (s.dev.region a) = true ∧ env.errs = [] →
      ∃ t, exec (.registerWrite env a v) s = .next t ∧ t = s.store a (leBytes 4 v.toNat)) ∧
  (∀ (s : State) (cmd : Nat), s.dev.pwr.inReset = false ∧ cmd ≠ 2 ∧ cmd ≠ 3 ∧ cmd ≠ 5 →
      ∃ t, exec (.spiUnknownCommand cmd) s = .next t ∧ t.dev.get Fld.hostifEventsSpiFrame = 1 ∧ bitOf t.dev.host.sticky 4 = true ∧
      t.dev.get (Fld.violCntCount 8) = min (s.dev.get (Fld.violCntCount 8) + 1) 65535)

/-- What the commands of resets, the boot controller and the commit leave as it was, whenever they answer a next state: the queue;
memory but the bytes stored; every part of the device but those named; every bit of every register but those of the fields
named. -/
def Obligations.BootCommandsFrame : Prop :=
  (∀ (s t : State) (twinSel : Bool), exec (.resetRelease twinSel) s = .next t →
      s.Changes [.intc, .kt, .memc, .pins, .pwr]
       ([Fld.hostifI2cnowBase, Fld.repEventsTurnLost, Fld.whole (Reg.sysTilemap 0), Fld.whole (Reg.sysTilemap 1)] ++
        (List.range 8).flatMap (fun n => [Fld.anainChStatusRetired n]) ++
        (List.range 10).flatMap (fun o => [Fld.outStatusRetired o, Fld.outStatusRetiredMask o]) ++
        (List.range 4).flatMap (fun n => [Fld.spkSegnInService n, Fld.spkSegnRetired n, Fld.spkSegpInService n,
        Fld.spkSegpRetired n])) t) ∧
  (∀ (s t : State) (findings : List (Nat × Nat × Nat × Nat)), exec (.spkSegmentTestsDeferred findings) s = .next t →
      s.Changes [.intc, .kt, .outs]
       ([Fld.repEventsFull, Fld.repEventsSoft, Fld.repLastLoc, Fld.repLastinfoInfo, Fld.repStatusFull, Fld.repStatusSoft,
        Fld.repStatusSpkDeferred] ++
        (List.range 10).flatMap (fun o => [Fld.outStatusHolding o, Fld.outStatusPersona o, Fld.outStatusState o]) ++
        (List.range 10).flatMap (fun n => [Fld.seqStatusGain n, Fld.seqStatusServo n, Fld.seqStatusStep n]) ++
        (List.range 4).flatMap (fun n => [Fld.spkEventsFailed n, Fld.spkStatusHizCauseStage n]) ++
        (List.range 4).flatMap (fun n => [segFld n 0, segFld n 1, segRetFld n 0, segRetFld n 1])) t) ∧
  (∀ (s t : State) (img : List Byte), exec (.reseatCompare img) s = .next t →
      s.Changes [.boot, .intc, .outs, .ser]
       ([Fld.asrcEventsUnlock, Fld.bootStatusState] ++
        (List.range 7).map (fun n => Fld.whole (unitEvents n)) ++
        (List.range 14).flatMap (fun g => [Fld.asrcGCountFades g, Fld.asrcGRatioRatio g, Fld.asrcGStatusState g]) ++
        (List.range 10).flatMap (fun o => [Fld.outCtrlRun o, Fld.outStatusHolding o, Fld.outStatusPersona o,
        Fld.outStatusState o]) ++
        (List.range 13).flatMap (fun m => [Fld.rmonStatusPeriod m, Fld.rmonStatusRate m, Fld.rmonStatusState m]) ++
        (List.range 10).flatMap (fun n => [Fld.seqStatusServo n, Fld.seqStatusStep n]) ++
        (List.range 8).flatMap (fun k => [Fld.spdifNpstatPcmMs k]) ++
        (List.range 4).flatMap (fun n => [Fld.whole (Reg.bootResult n)]) ++
        (List.range 7).flatMap (fun n => [fillF n true, fillF n false, lockF n true, lockF n false, runF n true, runF n false,
        stateF n true, stateF n false])) t) ∧
  (∀ (s t : State) (v : Word), exec (.bootCtrlBadKey v) s = .next t → s.dev.hostFree = true ∧ bitsOf v.toNat 16 16 ≠ guardKey →
      s.Changes []
       (violFields [0]) t) ∧
  (∀ (s t : State), exec (.hostload) s = .next t → s.dev.hostFree = true →
      t.pending = s.pending ∧
      s.lockboxKept t ∧
      s.dev.PartsBut [.intc, .boot, .clk, .key, .inp, .outs, .ser, .usb, .engs, .chans, .link, .hinge] t.dev ∧
      s.dev.regsBut (fun a => (regDom (a % 2 ^ 32)).isSome = true ∨ a ∈ loadRegs) t.dev) ∧
  (∀ (s t : State) (src : Fin 16), exec (.reseat src) s = .next t → s.dev.hostReady = true →
      t.pending = s.pending ∧
      s.lockboxKept t ∧
      s.dev.PartsBut [.intc, .boot, .clk, .key, .inp, .outs, .ser, .usb, .engs, .chans, .link, .hinge] t.dev ∧
      s.dev.regsBut (fun a => (regDom (a % 2 ^ 32)).isSome = true ∨ a ∈ loadRegs) t.dev) ∧
  (∀ (s t : State), exec (.live) s = .next t → s.dev.hostFree = true →
      t.pending = s.pending ∧
      s.lockboxKept t ∧
      s.dev.PartsBut [.intc, .boot, .clk, .key, .inp, .outs, .ser, .usb, .engs, .chans, .link, .hinge] t.dev ∧
      s.dev.regsBut (fun a => (regDom (a % 2 ^ 32)).isSome = true ∨ a ∈ loadRegs) t.dev) ∧
  (∀ (s t : State), exec (.abort) s = .next t → s.dev.hostFree = true →
      t.pending = s.pending ∧
      s.lockboxKept t ∧
      s.dev.PartsBut [.intc, .boot, .clk, .key, .inp, .outs, .ser, .usb, .engs, .chans, .link, .hinge] t.dev ∧
      s.dev.regsBut (fun a => (regDom (a % 2 ^ 32)).isSome = true ∨ a ∈ loadRegs) t.dev) ∧
  (∀ (s t : State) (env : Env) (w : Word), exec (.bootHostdata env w) s = .next t → s.dev.hostFree = true →
      t.pending = s.pending ∧
      s.lockboxKept t ∧
      s.dev.PartsBut [.intc, .boot, .clk, .key, .inp, .outs, .ser, .usb, .engs, .chans, .link, .hinge] t.dev ∧
      s.dev.regsBut (fun a => (regDom (a % 2 ^ 32)).isSome = true ∨ a ∈ loadRegs) t.dev) ∧
  (∀ (s t : State), exec (.loadSourceTimeout) s = .next t →
      t.pending = s.pending ∧
      s.lockboxKept t ∧
      s.dev.PartsBut [.intc, .boot, .clk, .key, .inp, .outs, .ser, .usb, .engs, .chans, .link, .hinge] t.dev ∧
      s.dev.regsBut (fun a => (regDom (a % 2 ^ 32)).isSome = true ∨ a ∈ loadRegs) t.dev) ∧
  (∀ (s t : State) (img : List Byte), exec (.flashLoadFail img) s = .next t →
      t.pending = s.pending ∧
      s.lockboxKept t ∧
      s.dev.PartsBut [.intc, .boot, .clk, .key, .inp, .outs, .ser, .usb, .engs, .chans, .link, .hinge] t.dev ∧
      s.dev.regsBut (fun a => (regDom (a % 2 ^ 32)).isSome = true ∨ a ∈ loadRegs) t.dev) ∧
  (∀ (s t : State) (findings : List (Nat × Nat)), exec (.bootTestsDone findings) s = .next t →
      t.pending = s.pending ∧
      t.mem = s.mem ∧
      s.dev.PartsBut [.intc, .boot, .clk, .key, .inp, .outs, .ser, .usb, .engs, .memc, .chans, .link, .hinge, .kt] t.dev) ∧
  (∀ (s t : State), exec (.reseatTeardown) s = .next t →
      t.pending = s.pending ∧
      s.lockboxKept t ∧
      s.dev.PartsBut [.intc, .boot, .clk, .key, .inp, .outs, .hsets, .ser, .usb, .engs, .memc, .chans, .link, .hinge,
        .pins] t.dev) ∧
  (∀ (s t : State) (img : List Byte), exec (.commit img) s = .next t →
      t.pending = s.pending ∧
      s.lockboxKept t ∧
      s.dev.PartsBut [.intc, .boot, .clk, .key, .inp, .outs, .ser, .usb, .engs, .chans, .link, .hinge, .pwr, .pins] t.dev) ∧
  (∀ (s t : State) (f : FrameIn), exec (.keywayStart f) s = .next t →
      t.pending = s.pending ∧
      s.lockboxKept t) ∧
  (∀ (s t : State), exec (.por) s = .next t →
      t.dev.kt.slots = s.dev.kt.slots ∧ t.dev.pins.outClr = s.dev.pins.outClr ∧ t.dev.pins.pvdd = s.dev.pins.pvdd ∧
      (∀ k, k < 512 → t.dev.rd (Reg.repEntryLoc k) = s.dev.rd (Reg.repEntryLoc k) ∧
        t.dev.rd (Reg.repEntryInfo k) = s.dev.rd (Reg.repEntryInfo k)) ∧
      t.dev.get Fld.repStatusUsed = s.dev.get Fld.repStatusUsed ∧ t.dev.free = s.dev.free ∧ t.pending = s.pending) ∧
  (∀ (s t : State) (supply : Nat), exec (.bor supply) s = .next t →
      s.dev.ResetKeeps Rst.bor t.dev ∧ t.dev.free = s.dev.free ∧ t.pending = s.pending ∧ s.lockboxKept t) ∧
  (∀ (s t : State), exec (.pinReset) s = .next t →
      s.dev.ResetKeeps Rst.pin t.dev ∧ t.dev.free = s.dev.free ∧ t.pending = s.pending ∧ s.lockboxKept t) ∧
  (∀ (s t : State), exec (.wdtReset) s = .next t →
      s.dev.ResetKeeps Rst.wdt t.dev ∧ t.dev.free = s.dev.free ∧ t.pending = s.pending ∧ s.lockboxKept t) ∧
  (∀ (s t : State), exec (.soft) s = .next t → s.dev.hostReady = true →
      s.dev.ResetKeeps Rst.soft t.dev ∧ t.dev.free = s.dev.free ∧ t.pending = s.pending ∧ s.lockboxKept t)

/-- What the commands of the clock root leave as it was, whenever they answer a next state: the queue; memory but the bytes
stored; every part of the device but those named; every bit of every register but those of the fields named. -/
def Obligations.ClockCommandsFrame : Prop :=
  (∀ (s t : State) (frac : Bool) (v : Word), exec (.pllWrite frac v) s = .next t → s.dev.hostReady = true →
      s.Changes [.clk, .hinge, .intc, .link, .outs, .ser]
       ([Fld.clkStatusAcquiring, Fld.clkStatusHoldover, Fld.clkStatusLastCause, Fld.clkStatusLocked, Fld.clkStatusOnAlt,
        Fld.clkStatusRefUsed, Fld.keyStatusRunning, Fld.whole (Reg.clkPllcfg), Fld.whole (Reg.clkPllfrac)] ++
        (List.range 7).map (fun n => Fld.whole (unitEvents n)) ++
        (List.range 3).flatMap (fun p => [Fld.linkPortStatusState p]) ++
        (List.range 10).flatMap (fun o => [Fld.outStatusClrCause o, Fld.outStatusHolding o, Fld.outStatusState o]) ++
        (List.range 13).flatMap (fun m => [Fld.rmonStatusPeriod m, Fld.rmonStatusRate m, Fld.rmonStatusState m]) ++
        (List.range 10).flatMap (fun n => [Fld.seqStatusGain n, Fld.seqStatusStep n]) ++
        (List.range 7).flatMap (fun n => [fillF n true, fillF n false, lockF n true, lockF n false, stateF n true,
        stateF n false]) ++
        violFields [3]) t) ∧
  (∀ (s t : State) (v : Word), exec (.refselWrite v) s = .next t → s.dev.hostReady = true →
      s.Changes [.clk, .hinge, .intc, .link, .outs, .ser]
       ([Fld.clkStatusAcquiring, Fld.clkStatusHoldover, Fld.clkStatusLastCause, Fld.clkStatusLocked, Fld.clkStatusOnAlt,
        Fld.clkStatusRefUsed, Fld.keyStatusRunning, Fld.whole (Reg.clkRefsel)] ++
        (List.range 7).map (fun n => Fld.whole (unitEvents n)) ++
        (List.range 3).flatMap (fun p => [Fld.linkPortStatusState p]) ++
        (List.range 10).flatMap (fun o => [Fld.outStatusClrCause o, Fld.outStatusHolding o, Fld.outStatusState o]) ++
        (List.range 13).flatMap (fun m => [Fld.rmonStatusPeriod m, Fld.rmonStatusRate m, Fld.rmonStatusState m]) ++
        (List.range 10).flatMap (fun n => [Fld.seqStatusGain n, Fld.seqStatusStep n]) ++
        (List.range 7).flatMap (fun n => [fillF n true, fillF n false, lockF n true, lockF n false, stateF n true,
        stateF n false]) ++
        violFields [3]) t) ∧
  (∀ (s t : State), exec (.reacquire) s = .next t → s.dev.hostReady = true →
      s.Changes [.clk, .hinge, .intc, .link, .outs, .ser]
       ([Fld.clkEventsRefSwitch, Fld.clkStatusAcquiring, Fld.clkStatusHoldover, Fld.clkStatusLastCause, Fld.clkStatusLocked,
        Fld.clkStatusOnAlt, Fld.clkStatusRefUsed, Fld.keyStatusRunning] ++
        (List.range 7).map (fun n => Fld.whole (unitEvents n)) ++
        (List.range 3).flatMap (fun p => [Fld.linkPortStatusState p]) ++
        (List.range 10).flatMap (fun o => [Fld.outStatusClrCause o, Fld.outStatusHolding o, Fld.outStatusState o]) ++
        (List.range 13).flatMap (fun m => [Fld.rmonStatusPeriod m, Fld.rmonStatusRate m, Fld.rmonStatusState m]) ++
        (List.range 10).flatMap (fun n => [Fld.seqStatusGain n, Fld.seqStatusStep n]) ++
        (List.range 7).flatMap (fun n => [fillF n true, fillF n false, lockF n true, lockF n false, stateF n true,
        stateF n false]) ++
        violFields [3]) t) ∧
  (∀ (s t : State) (near : Bool), exec (.swap near) s = .next t → s.dev.hostReady = true →
      s.Changes [.clk, .intc]
       ([Fld.clkEventsRefSwitch, Fld.clkStatusOnAlt, Fld.clkStatusRefUsed] ++
        violFields [3]) t) ∧
  (∀ (s t : State) (band : Fin 64), exec (.bandSearchDone band) s = .next t →
      s.Changes [.clk]
       ([Fld.clkStatusBand]) t) ∧
  (∀ (s t : State) (fref : Nat), exec (.pllLock fref) s = .next t →
      s.Changes [.clk]
       ([Fld.clkStatusAcquiring]) t) ∧
  (∀ (s t : State), exec (.acqTimeout) s = .next t →
      s.Changes [.clk, .intc]
       ([Fld.clkEventsAcqTimeout, Fld.clkStatusAcqFail, Fld.clkStatusAcquiring]) t) ∧
  (∀ (s t : State), exec (.phaseFreeze) s = .next t →
      s.Changes [.clk]
       ([]) t) ∧
  (∀ (s t : State) (phaseOk : Bool) (near : Bool), exec (.freezeDecision phaseOk near) s = .next t →
      s.Changes [.clk, .hinge, .intc, .link, .outs, .ser]
       ([Fld.clkEventsRefSwitch, Fld.clkEventsSlip, Fld.clkEventsUnlock, Fld.clkStatusAcquiring, Fld.clkStatusHoldover,
        Fld.clkStatusLastCause, Fld.clkStatusLocked, Fld.clkStatusOnAlt, Fld.clkStatusRefUsed, Fld.keyStatusRunning] ++
        (List.range 7).map (fun n => Fld.whole (unitEvents n)) ++
        (List.range 3).flatMap (fun p => [Fld.linkPortStatusState p]) ++
        (List.range 10).flatMap (fun o => [Fld.outStatusClrCause o, Fld.outStatusHolding o, Fld.outStatusState o]) ++
        (List.range 13).flatMap (fun m => [Fld.rmonStatusPeriod m, Fld.rmonStatusRate m, Fld.rmonStatusState m]) ++
        (List.range 10).flatMap (fun n => [Fld.seqStatusGain n, Fld.seqStatusStep n]) ++
        (List.range 7).flatMap (fun n => [fillF n true, fillF n false, lockF n true, lockF n false, stateF n true,
        stateF n false])) t) ∧
  (∀ (s t : State) (count : Nat), exec (.refmonRefresh count) s = .next t →
      s.Changes []
       ([Fld.clkRefmonAltValid, Fld.clkRefmonPriCount, Fld.clkRefmonPriValid]) t) ∧
  (∀ (s t : State) (ref : Fin 4), exec (.refLost ref) s = .next t →
      s.Changes [.clk, .intc]
       ([Fld.clkEventsRefLost]) t) ∧
  (∀ (s t : State) (ref : Fin 4) (near : Bool), exec (.refReturned ref near) s = .next t →
      s.Changes [.clk, .hinge, .intc, .link, .outs, .ser]
       ([Fld.clkEventsRefReturned, Fld.clkEventsUnlock, Fld.clkStatusAcquiring, Fld.clkStatusHoldover, Fld.clkStatusLastCause,
        Fld.clkStatusLocked, Fld.clkStatusOnAlt, Fld.clkStatusRefUsed, Fld.keyStatusRunning] ++
        (List.range 7).map (fun n => Fld.whole (unitEvents n)) ++
        (List.range 3).flatMap (fun p => [Fld.linkPortStatusState p]) ++
        (List.range 10).flatMap (fun o => [Fld.outStatusClrCause o, Fld.outStatusHolding o, Fld.outStatusState o]) ++
        (List.range 13).flatMap (fun m => [Fld.rmonStatusPeriod m, Fld.rmonStatusRate m, Fld.rmonStatusState m]) ++
        (List.range 10).flatMap (fun n => [Fld.seqStatusGain n, Fld.seqStatusStep n]) ++
        (List.range 7).flatMap (fun n => [fillF n true, fillF n false, lockF n true, lockF n false, stateF n true,
        stateF n false])) t) ∧
  (∀ (s t : State), exec (.fallbackExit) s = .next t →
      t.pending = s.pending ∧
      s.lockboxKept t ∧
      s.dev.PartsBut [.intc, .boot, .clk, .key, .inp, .outs, .ser, .usb, .engs, .chans, .link, .hinge, .pwr, .pins] t.dev)

/-- What the commands of the keyway and the tumbler leave as it was, whenever they answer a next state: the queue; memory but the
bytes stored; every part of the device but those named; every bit of every register but those of the fields named. -/
def Obligations.KeywayCommandsFrame : Prop :=
  (∀ (s t : State) (a : Nat) (v : Word), exec (.tumblerStage a v) s = .next t → s.dev.hostReady = true ∧ s.dev.regUp (a) = true ∧
    rwtMask a ≠ 0 →
      s.Changes [.key]
       ([Fld.keyRefuseId, Fld.keyRefuseIndex, Fld.keyRefuseReason, Fld.tumbStatusAgent] ++
        violFields [3, 5, 6]) t) ∧
  (∀ (s t : State) (late : Bool), exec (.arm late) s = .next t → s.dev.hostReady = true ∧ s.dev.regUp (Reg.tumbCtrl) = true →
      s.Changes [.key]
       ([Fld.tumbStatusLate] ++
        violFields [6]) t) ∧
  (∀ (s t : State) (late : Bool), exec (.armAt late) s = .next t → s.dev.hostReady = true ∧ s.dev.regUp (Reg.tumbCtrl) = true →
      s.Changes [.key]
       ([Fld.tumbStatusLate] ++
        violFields [6]) t) ∧
  (∀ (s t : State) (late : Bool), exec (.disarm late) s = .next t → s.dev.hostReady = true ∧ s.dev.regUp (Reg.tumbCtrl) = true →
      s.Changes [.key]
       ([Fld.tumbStatusLate] ++
        violFields [6]) t) ∧
  (∀ (s t : State), exec (.discard) s = .next t → s.dev.hostReady = true ∧ s.dev.regUp (Reg.tumbCtrl) = true →
      s.Changes [.key]
       ([Fld.tumbStatusLate] ++
        violFields [6]) t) ∧
  (∀ (s t : State) (c : Fin 8192), exec (.xpRampEnd c) s = .next t →
      s.Changes [.key]
       ([]) t) ∧
  (∀ (s t : State) (c : Fin 8192), exec (.fadeShadowEnd c) s = .next t →
      s.Changes [.key]
       ([]) t) ∧
  (∀ (s t : State) (c : Fin 8192), exec (.serialFadeHalf c) s = .next t →
      s.Changes [.key]
       ([]) t) ∧
  (∀ (s t : State) (f : FrameIn), exec (.frameBoundary f) s = .next t →
      t.pending = s.pending ∧
      s.lockboxKept t)

/-- What the commands of the microphone and line inputs leave as it was, whenever they answer a next state: the queue; memory but
the bytes stored; every part of the device but those named; every bit of every register but those of the fields named. -/
def Obligations.InputCommandsFrame : Prop :=
  (∀ (s t : State) (n : Fin 8), exec (.anainSettleEnd n) s = .next t →
      s.Changes []
       ([Fld.anainChStatusSettling n]) t) ∧
  (∀ (s t : State) (n : Fin 8), exec (.adcSliceSwap n) s = .next t →
      s.Changes [.inp]
       ([Fld.anainChStatusOutSlice n, Fld.anainChStatusRotating n]) t) ∧
  (∀ (s t : State) (n : Fin 8) (beyond : Bool), exec (.adcSliceCalDone n beyond) s = .next t →
      s.Changes [.inp, .intc, .kt]
       ([Fld.anainChEventsRetired n, Fld.anainChStatusOutSlice n, Fld.anainChStatusRetired n, Fld.anainChStatusRotating n,
        Fld.repEventsFull, Fld.repEventsSoft, Fld.repLastLoc, Fld.repLastinfoInfo, Fld.repStatusFull, Fld.repStatusSoft]) t) ∧
  (∀ (s t : State) (n : Fin 8) (k : Fin 9), exec (.adcSliceCheckFail n k) s = .next t →
      s.Changes [.inp, .intc, .kt]
       ([Fld.anainChEventsFailed n, Fld.anainChEventsRetired n, Fld.anainChStatusFailed n, Fld.anainChStatusOutSlice n,
        Fld.anainChStatusRetired n, Fld.anainChStatusRotating n, Fld.repEventsFull, Fld.repEventsSoft, Fld.repLastLoc,
        Fld.repLastinfoInfo, Fld.repStatusFull, Fld.repStatusSoft]) t) ∧
  (∀ (s t : State) (n : Fin 4), exec (.micbTrip n) s = .next t →
      s.Changes [.intc]
       ([Fld.micbEventsTripped.at n, Fld.micbStatusDriving, Fld.micbStatusLimit.at n, Fld.micbStatusTripped.at n]) t) ∧
  (∀ (s t : State) (k : Fin 8), exec (.pdmClkLost k) s = .next t →
      s.Changes [.intc]
       ([Fld.pdmEventsClkLost.at k, Fld.pdmStatusClkPresent.at k]) t) ∧
  (∀ (s t : State) (k : Fin 8), exec (.pdmClkReturn k) s = .next t →
      s.Changes []
       ([Fld.pdmStatusClkPresent.at k]) t) ∧
  (∀ (s t : State) (ch : Bool) (k : Fin 32), exec (.pdmSettleEnd ch k) s = .next t →
      s.Changes [.inp]
       ([]) t)

/-- What the commands of the outputs and the sequencer leave as it was, whenever they answer a next state: the queue; memory but
the bytes stored; every part of the device but those named; every bit of every register but those of the fields named. -/
def Obligations.OutputCommandsFrame : Prop :=
  (∀ (s t : State) (o : Fin 10), exec (.dacSliceSwap o) s = .next t →
      s.Changes [.out o]
       ([Fld.outStatusOutSlice o]) t) ∧
  (∀ (s t : State) (o : Fin 10) (beyond : Bool), exec (.dacSliceCalDone o beyond) s = .next t →
      s.Changes [.out o, .intc, .kt]
       ([Fld.outEventsRetired o, Fld.outStatusOutSlice o, Fld.outStatusRetired o, Fld.outStatusRetiredMask o, Fld.repEventsFull,
        Fld.repEventsSoft, Fld.repLastLoc, Fld.repLastinfoInfo, Fld.repStatusFull, Fld.repStatusSoft]) t) ∧
  (∀ (s t : State) (o : Fin 10) (k : Fin 10), exec (.dacSliceCheckFail o k) s = .next t →
      s.Changes [.out o, .intc, .kt]
       ([Fld.outEventsFailed o, Fld.outEventsRetired o, Fld.outStatusClrCause o, Fld.outStatusHolding o, Fld.outStatusRetired o,
        Fld.outStatusRetiredMask o, Fld.outStatusState o, Fld.repEventsFull, Fld.repEventsSoft, Fld.repLastLoc,
        Fld.repLastinfoInfo, Fld.repStatusFull, Fld.repStatusSoft, Fld.seqStatusGain o, Fld.seqStatusStep o]) t) ∧
  (∀ (s t : State) (o : Fin 4), exec (.complianceTrip o) s = .next t →
      s.Changes [.out o, .intc]
       ([Fld.outEventsProtect o, Fld.outStatusClrCause o, Fld.outStatusHolding o, Fld.outStatusState o, Fld.seqStatusGain o,
        Fld.seqStatusStep o]) t) ∧
  (∀ (s t : State) (o : Fin 4), exec (.complianceHiz o) s = .next t →
      s.Changes [.out o, .intc]
       ([Fld.outEventsHiz o, Fld.outStatusHolding o, Fld.outStatusState o, Fld.seqStatusGain o, Fld.seqStatusStep o]) t) ∧
  (∀ (s t : State) (o : Fin 4), exec (.complianceRecover o) s = .next t →
      s.Changes [.out o]
       ([Fld.outStatusClrCause o, Fld.outStatusHolding o, Fld.seqStatusStep o]) t) ∧
  (∀ (s t : State) (o : Fin 4), exec (.complianceCleared o) s = .next t → s.dev.hostReady = true ∧
    s.dev.regUp (Reg.outEvents o) = true →
      s.Changes [.out o, .intc]
       ([Fld.outStatusHolding o, Fld.outStatusState o, Fld.seqStatusStep o, Fld.whole (Reg.outEvents o)]) t) ∧
  (∀ (s t : State) (h : Fin 2), exec (.hpCurrentLimit h) s = .next t →
      s.Changes [.out (4 + h), .intc]
       ([Fld.hpPumpLimit, Fld.outEventsProtect (4 + h), Fld.outStatusClrCause (4 + h), Fld.outStatusHolding (4 + h),
        Fld.outStatusState (4 + h), Fld.seqStatusGain (4 + h), Fld.seqStatusStep (4 + h)]) t) ∧
  (∀ (s t : State) (h : Fin 2), exec (.hpProtectCleared h) s = .next t → s.dev.hostReady = true ∧
    s.dev.regUp (Reg.outEvents (4 + h)) = true →
      s.Changes [.out (4 + h), .intc]
       ([Fld.hpPumpLimit, Fld.outStatusClrCause (4 + h), Fld.outStatusHolding (4 + h), Fld.seqStatusStep (4 + h),
        Fld.whole (Reg.outEvents (4 + h))]) t) ∧
  (∀ (s t : State), exec (.pumpReady) s = .next t →
      s.Changes [.out 4, .out 5]
       ([Fld.hpPumpReady] ++
        [4, 5].flatMap (fun x => [Fld.outStatusHolding x, Fld.outStatusPersona x, Fld.outStatusState x, Fld.seqStatusGain x,
        Fld.seqStatusServo x, Fld.seqStatusStep x])) t) ∧
  (∀ (s t : State) (o : Fin 10), exec (.chainReady o) s = .next t →
      s.Changes [.out o]
       ([Fld.outStatusHolding o, Fld.outStatusPersona o, Fld.outStatusState o, Fld.seqStatusGain o, Fld.seqStatusServo o,
        Fld.seqStatusStep o]) t) ∧
  (∀ (s t : State) (o : Fin 10) (run : Bool), exec (.outputRun o run) s = .next t → s.dev.hostReady = true ∧
    s.dev.regUp (Reg.outCtrl o) = true →
      s.Changes [.out o]
       ([Fld.outCtrlRun o, Fld.outStatusHolding o, Fld.outStatusPersona o, Fld.outStatusState o, Fld.seqStatusServo o,
        Fld.seqStatusStep o, Fld.spkDiagResult (o - 6)] ++
        violFields [0]) t) ∧
  (∀ (s t : State), exec (.outClrAssert) s = .next t →
      s.Changes [.outs, .pins]
       ([Fld.outClrstatAsserts, Fld.outClrstatPinLow] ++
        (List.range 10).flatMap (fun o => [Fld.outStatusClrCause o, Fld.outStatusHolding o, Fld.outStatusState o]) ++
        (List.range 10).flatMap (fun n => [Fld.seqStatusGain n, Fld.seqStatusStep n])) t) ∧
  (∀ (s t : State), exec (.outClrRelease) s = .next t →
      s.Changes [.outs, .pins]
       ([Fld.outClrstatPinLow] ++
        (List.range 10).flatMap (fun o => [Fld.outStatusClrCause o, Fld.outStatusHolding o]) ++
        (List.range 10).flatMap (fun n => [Fld.seqStatusStep n])) t) ∧
  (∀ (s t : State) (o : Fin 10), exec (.holdEnd o) s = .next t →
      s.Changes [.out o, .intc, .kt]
       ([Fld.outStatusHolding o, Fld.outStatusPersona o, Fld.outStatusState o, Fld.repEventsFull, Fld.repEventsSoft,
        Fld.repLastLoc, Fld.repLastinfoInfo, Fld.repStatusFull, Fld.repStatusSoft, Fld.seqStatusServo o, Fld.seqStatusStep o,
        Fld.spkEventsSegRetired (o - 6), Fld.spkSegnInService (o - 6), Fld.spkSegnRetired (o - 6), Fld.spkSegpInService (o - 6),
        Fld.spkSegpRetired (o - 6)]) t) ∧
  (∀ (s t : State) (o : Fin 10) (trim : Int) (limit : Bool), exec (.seqBlockDone o trim limit) s = .next t →
      s.Changes [.out o, .intc]
       ([Fld.outStatusHolding o, Fld.outStatusPersona o, Fld.outStatusState o, Fld.seqEventsServoLimit.at o, Fld.seqStatusGain o,
        Fld.seqStatusServo o, Fld.seqStatusStep o, Fld.seqTrimTrim o]) t) ∧
  (∀ (s t : State) (o : Fin 10) (mute : Bool), exec (.seqMuteWrite o mute) s = .next t → s.dev.hostReady = true ∧
    s.dev.regUp (Reg.seqCtrl o) = true →
      s.Changes [.out o]
       ([Fld.outStatusHolding o, Fld.outStatusPersona o, Fld.outStatusState o, Fld.seqCtrlMute o, Fld.seqStatusMuteSoftware o,
        Fld.seqStatusServo o, Fld.seqStatusStep o]) t) ∧
  (∀ (s t : State) (o : Fin 4), exec (.personaSequence o) s = .next t →
      s.Changes [.out o]
       ([Fld.outStatusHolding o, Fld.outStatusPersona o, Fld.outStatusState o, Fld.seqStatusServo o, Fld.seqStatusStep o]) t)

/-- What the commands of the speaker stages leave as it was, whenever they answer a next state: the queue; memory but the bytes
stored; every part of the device but those named; every bit of every register but those of the fields named. -/
def Obligations.SpeakerCommandsFrame : Prop :=
  (∀ (s t : State) (n : Fin 4) (h : Fin 2) (seg : Fin 18) (cell : Fin 3), exec (.segmentFailing n h seg cell) s = .next t →
      s.Changes [.out 6, .out 7, .out 8, .out 9, .intc]
       ([Fld.spkEventsFailed n, Fld.spkStatusHizCauseStage n] ++
        [6, 7, 8, 9].flatMap (fun x => [Fld.outStatusHolding x, Fld.outStatusState x, Fld.seqStatusGain x,
        Fld.seqStatusStep x])) t) ∧
  (∀ (s t : State) (n : Fin 4), exec (.spkShortTrip n) s = .next t →
      s.Changes [.out 6, .out 7, .out 8, .out 9, .intc]
       ([Fld.spkEventsShort n, Fld.spkStatusHizCauseShort n] ++
        [6, 7, 8, 9].flatMap (fun x => [Fld.outStatusHolding x, Fld.outStatusState x, Fld.seqStatusGain x,
        Fld.seqStatusStep x])) t) ∧
  (∀ (s t : State) (n : Fin 4), exec (.spkShortCleared n) s = .next t → s.dev.hostReady = true ∧
    s.dev.regUp (Reg.spkEvents n) = true →
      s.Changes [.out 6, .out 7, .out 8, .out 9, .intc]
       ([Fld.whole (Reg.spkEvents n)] ++
        [6, 7, 8, 9].flatMap (fun x => [Fld.outStatusState x])) t) ∧
  (∀ (s t : State) (n : Fin 4), exec (.spkDiag n) s = .next t → s.dev.hostReady = true ∧ s.dev.regUp (Reg.spkCtrl n) = true →
      s.Changes [.out (6 + n)]
       ([Fld.outStatusState (6 + n)] ++
        violFields [0]) t) ∧
  (∀ (s t : State) (n : Fin 4) (pin : Option Bool) (r : Nat), exec (.diagDone n pin r) s = .next t →
      s.Changes [.out (6 + n), .intc]
       ([Fld.outStatusHolding (6 + n), Fld.outStatusPersona (6 + n), Fld.outStatusState (6 + n), Fld.seqStatusGain (6 + n),
        Fld.seqStatusServo (6 + n), Fld.seqStatusStep (6 + n), Fld.spkDiagRMeas n, Fld.spkDiagResult n,
        Fld.spkEventsDiagDone n] ++
        (List.range 4).flatMap (fun n => [Fld.spkEventsShort n, Fld.spkStatusHizCauseShort n])) t) ∧
  (∀ (s t : State) (n : Fin 4) (amps : Bool) (z : Nat), exec (.pilotMeasure n amps z) s = .next t →
      s.Changes [.out (6 + n), .intc]
       ([Fld.spkEventsLine n, Fld.spkPilotstatResult n, Fld.spkPilotstatZ n]) t) ∧
  (∀ (s t : State), exec (.spkPvddReady) s = .next t →
      s.Changes [.out 6, .out 7, .out 8, .out 9, .pins]
       ([Fld.spkPvddHigh, Fld.spkPvddLow, Fld.spkPvddReady] ++
        [6, 7, 8, 9].flatMap (fun x => [Fld.outStatusHolding x, Fld.outStatusPersona x, Fld.outStatusState x,
        Fld.seqStatusGain x, Fld.seqStatusServo x, Fld.seqStatusStep x]) ++
        (List.range 4).flatMap (fun n => [Fld.spkStatusHizCausePvddHigh n, Fld.spkStatusHizCausePvddLow n])) t) ∧
  (∀ (s t : State), exec (.pvddCutoff) s = .next t →
      s.Changes [.out 6, .out 7, .out 8, .out 9, .intc, .pins, .pwr]
       ([Fld.spkPvddLow, Fld.spkPvddReady] ++
        [6, 7, 8, 9].flatMap (fun x => [Fld.outStatusHolding x, Fld.outStatusState x, Fld.seqStatusGain x,
        Fld.seqStatusStep x]) ++
        (List.range 4).flatMap (fun n => [Fld.spkEventsPvdd n, Fld.spkStatusHizCausePvddLow n])) t) ∧
  (∀ (s t : State), exec (.pvddOvervoltage) s = .next t →
      s.Changes [.out 6, .out 7, .out 8, .out 9, .intc, .pins]
       ([Fld.spkPvddHigh, Fld.spkPvddReady] ++
        [6, 7, 8, 9].flatMap (fun x => [Fld.outStatusHolding x, Fld.outStatusState x, Fld.seqStatusGain x,
        Fld.seqStatusStep x]) ++
        (List.range 4).flatMap (fun n => [Fld.spkEventsPvdd n, Fld.spkStatusHizCausePvddHigh n])) t) ∧
  (∀ (s t : State) (tg : Int), exec (.spkThermalShutdown tg) s = .next t →
      s.Changes [.out 6, .out 7, .out 8, .out 9, .intc]
       ([Fld.spkThermTemp] ++
        [6, 7, 8, 9].flatMap (fun x => [Fld.outStatusHolding x, Fld.outStatusState x, Fld.seqStatusGain x,
        Fld.seqStatusStep x]) ++
        (List.range 4).flatMap (fun n => [Fld.spkEventsThermal n, Fld.spkStatusHizCauseThermal n])) t) ∧
  (∀ (s t : State) (tg : Int), exec (.derateStep tg) s = .next t →
      s.Changes [.intc, .pins]
       ([Fld.spkThermTemp] ++
        (List.range 4).flatMap (fun n => [Fld.spkEventsDerate n, Fld.spkLimitsDerate n])) t) ∧
  (∀ (s t : State) (n : Fin 4) (tg : Int), exec (.spkThermalCleared n tg) s = .next t →
      s.Changes [.out 6, .out 7, .out 8, .out 9]
       ([Fld.spkStatusHizCauseThermal n, Fld.spkThermTemp] ++
        [6, 7, 8, 9].flatMap (fun x => [Fld.outStatusHolding x, Fld.outStatusPersona x, Fld.outStatusState x,
        Fld.seqStatusGain x, Fld.seqStatusServo x, Fld.seqStatusStep x])) t)

/-- What the commands of the jacks, headset detectors and buttons leave as it was, whenever they answer a next state: the queue;
memory but the bytes stored; every part of the device but those named; every bit of every register but those of the fields
named. -/
def Obligations.JackCommandsFrame : Prop :=
  (∀ (s t : State) (k : Fin 4) (high : Bool), exec (.jackRawChange k high) s = .next t →
      s.Changes [.hset (s.dev.get (Fld.jdCfgHs k))]
       ([Fld.jackStatusRaw.at k]) t) ∧
  (∀ (s t : State) (k : Fin 4), exec (.jackDebounced k) s = .next t →
      s.Changes [.clk, .hsets, .inp, .intc, .outs, .pwr, .usb]
       ([Fld.jackEventsBtnPress, Fld.jackEventsBtnRelease, Fld.jackEventsHsDone, Fld.jackEventsInsert.at k,
        Fld.jackEventsRemove.at k, Fld.jackStatusInserted.at k, Fld.micbStatusDriving, Fld.pwrEventsDone, Fld.pwrEventsWake,
        Fld.pwrTxnBusy, Fld.pwrTxnPhase, Fld.pwrTxnResult, Fld.pwrWakesrcSrc, Fld.usbCtrlWakeJack] ++
        (List.range 2).flatMap (fun h => [Fld.hsBtnstatButton h, Fld.hsBtnstatPressed h, Fld.hsResRunning h, Fld.hsResType h]) ++
        (List.range 10).flatMap (fun o => [Fld.outStatusHolding o, Fld.outStatusPersona o, Fld.outStatusState o]) ++
        (List.range 2).flatMap (fun w => [Fld.pwrClkselPll w]) ++
        (List.range 10).flatMap (fun n => [Fld.seqStatusMuteJack n, Fld.seqStatusServo n, Fld.seqStatusStep n]) ++
        (List.range 3).flatMap (fun w => [Fld.whole (Reg.pwrState w), Fld.whole (Reg.pwrTarget w)])) t) ∧
  (∀ (s t : State) (k : Fin 4) (v : Word), exec (.jdCfgWrite k v) s = .next t → s.dev.hostReady = true ∧
    s.dev.regUp (Reg.jdCfg k) = true →
      s.Changes [.outs]
       ([Fld.jackStatusInserted.at k, Fld.whole (Reg.jdCfg k)] ++
        (List.range 10).flatMap (fun o => [Fld.outStatusHolding o, Fld.outStatusPersona o, Fld.outStatusState o]) ++
        (List.range 10).flatMap (fun n => [Fld.seqStatusMuteJack n, Fld.seqStatusServo n, Fld.seqStatusStep n]) ++
        violFields [3]) t) ∧
  (∀ (s t : State) (h : Fin 2), exec (.hsStart h) s = .next t → s.dev.hostReady = true ∧ s.dev.regUp (Reg.hsCtrl h) = true →
      s.Changes [.hset h, .inp, .intc]
       ([Fld.hsResRunning h, Fld.hsResType h, Fld.jackEventsHsDone.at h, Fld.micbStatusDriving]) t) ∧
  (∀ (s t : State) (h : Fin 2), exec (.hsAbort h) s = .next t → s.dev.hostReady = true ∧ s.dev.regUp (Reg.hsCtrl h) = true →
      s.Changes [.hset h, .inp, .intc]
       ([Fld.hsResRunning h, Fld.hsResType h, Fld.jackEventsHsDone.at h, Fld.micbStatusDriving]) t) ∧
  (∀ (s t : State) (h : Fin 2), exec (.hsSettleEnd h) s = .next t →
      s.Changes [.hset h]
       ([]) t) ∧
  (∀ (s t : State) (h : Fin 2) (z : Nat), exec (.hsDetectDone h z) s = .next t →
      s.Changes [.hset h, .inp, .intc]
       ([Fld.hsResRunning h, Fld.hsResType h, Fld.hsResZ h, Fld.jackEventsHsDone.at h, Fld.micbStatusDriving]) t) ∧
  (∀ (s t : State) (h : Fin 2) (level : Nat) (reached : Bool), exec (.buttonSample h level reached) s = .next t →
      s.Changes [.hset h, .intc]
       ([Fld.hsBtnstatButton h, Fld.hsBtnstatLevel h, Fld.hsBtnstatPressed h, Fld.jackEventsBtnPress.at h,
        Fld.jackEventsBtnRelease.at h]) t) ∧
  (∀ (s t : State) (h : Fin 2) (v : Word), exec (.btncfgWrite h v) s = .next t → s.dev.hostReady = true ∧
    s.dev.regUp (Reg.hsBtncfg h) = true →
      s.Changes []
       ([Fld.whole (Reg.hsBtncfg h)] ++
        violFields [3]) t)

/-- What the commands of the serial ports, S/PDIF, the rate monitors and the converters leave as it was, whenever they answer a
next state: the queue; memory but the bytes stored; every part of the device but those named; every bit of every register but
those of the fields named. -/
def Obligations.PortCommandsFrame : Prop :=
  (∀ (s t : State) (n : Fin 7) (tx : Bool), exec (.portRunStart n tx) s = .next t → s.dev.hostReady = true ∧
    s.dev.regUp (unitCtrl n) = true →
      s.Changes [.ser]
       ([Fld.whole (Reg.portRxframe n), Fld.whole (Reg.portTxframe n), fillF n tx, runF n tx, stateF n tx] ++
        (List.range 13).flatMap (fun m => [Fld.rmonStatusPeriod m, Fld.rmonStatusRate m, Fld.rmonStatusState m]) ++
        violFields [0]) t) ∧
  (∀ (s t : State) (n : Fin 7) (tx : Bool), exec (.portRunStop n tx) s = .next t → s.dev.hostReady = true ∧
    s.dev.regUp (unitCtrl n) = true →
      s.Changes [.intc, .ser]
       ([Fld.asrcEventsUnlock, runF n tx] ++
        (List.range 7).map (fun n => Fld.whole (unitEvents n)) ++
        (List.range 14).flatMap (fun g => [Fld.asrcGCountFades g, Fld.asrcGRatioRatio g, Fld.asrcGStatusState g]) ++
        (List.range 13).flatMap (fun m => [Fld.rmonStatusPeriod m, Fld.rmonStatusRate m, Fld.rmonStatusState m]) ++
        (List.range 8).flatMap (fun k => [Fld.spdifNpstatPcmMs k]) ++
        (List.range 7).flatMap (fun n => [fillF n true, fillF n false, lockF n true, lockF n false, stateF n true,
        stateF n false]) ++
        violFields [0]) t) ∧
  (∀ (s t : State) (n : Fin 7), exec (.portClrCnt n) s = .next t → s.dev.hostReady = true ∧ s.dev.regUp (unitCtrl n) = true →
      s.Changes []
       ((List.range (if (n : Nat) = 6 then 4 else 3)).map (fun i => Fld.whole (unitCount n i)) ++
        violFields [0]) t) ∧
  (∀ (s t : State) (n : Fin 6) (slots : List Nat), exec (.portFrameReceived n slots) s = .next t →
      s.Changes [.intc, .ser]
       ([Fld.portRxframeCount n, Fld.spdifCount2Parity, Fld.spdifCount3Invalid, Fld.spdifEventsNpChange, Fld.spdifEventsParity] ++
        (List.range (if (n : Nat) = 6 then 4 else 3)).map (fun i => Fld.whole (unitCount n i)) ++
        (List.range 7).map (fun n => Fld.whole (unitEvents n)) ++
        (List.range 14).flatMap (fun g => [Fld.asrcGStatusState g]) ++
        (List.range 13).flatMap (fun m => [Fld.rmonStatusPeriod m, Fld.rmonStatusRate m, Fld.rmonStatusState m]) ++
        (List.range 8).flatMap (fun k => [Fld.spdifNpstatCause k, Fld.spdifNpstatMuted k, Fld.spdifNpstatPcmMs k]) ++
        (List.range 7).flatMap (fun n => [fillF n true, fillF n false, lockF n true, lockF n false, stateF n true,
        stateF n false])) t) ∧
  (∀ (s t : State) (pair : Fin 12) (bits : Nat), exec (.portFsEdge pair bits) s = .next t →
      s.Changes [.intc, .ser]
       ([Fld.asrcEventsUnlock, Fld.spdifEventsNpChange] ++
        (List.range 7).flatMap (fun n => (List.range (if n = 6 then 4 else 3)).map (fun i => Fld.whole (unitCount n i))) ++
        (List.range 7).map (fun n => Fld.whole (unitEvents n)) ++
        (List.range 14).flatMap (fun g => [Fld.asrcGCountAcquires g, Fld.asrcGCountFades g, Fld.asrcGStatusState g]) ++
        (List.range 8).flatMap (fun k => [Fld.spdifNpstatCause k, Fld.spdifNpstatMuted k, Fld.spdifNpstatPcmMs k]) ++
        (List.range 7).flatMap (fun n => [fillF n true, fillF n false, lockF n true, lockF n false, stateF n true,
        stateF n false])) t) ∧
  (∀ (s t : State) (n : Fin 7), exec (.portPinFrameStart n) s = .next t →
      s.Changes [.free, .intc, .ser]
       ([Fld.portTxframeCount n] ++
        (List.range 7).flatMap (fun n => (List.range (if n = 6 then 4 else 3)).map (fun i => Fld.whole (unitCount n i))) ++
        (List.range 7).map (fun n => Fld.whole (unitEvents n)) ++
        (List.range 14).flatMap (fun g => [Fld.asrcGCountAcquires g, Fld.asrcGStatusState g]) ++
        (List.range 13).flatMap (fun m => [Fld.rmonStatusPeriod m, Fld.rmonStatusRate m, Fld.rmonStatusState m]) ++
        (List.range 7).flatMap (fun n => [fillF n true, fillF n false, lockF n true, lockF n false, stateF n true,
        stateF n false])) t) ∧
  (∀ (s t : State) (f : SpdifIn), exec (.spdifFrameReceived f) s = .next t →
      s.Changes [.intc, .ser]
       ([Fld.asrcEventsUnlock, Fld.spdifCount2Parity, Fld.spdifCount3Invalid, Fld.spdifEventsCsChange, Fld.spdifEventsNpChange,
        Fld.spdifEventsParity, Fld.spdifStatusRxBlock] ++
        (List.range 7).flatMap (fun n => (List.range (if n = 6 then 4 else 3)).map (fun i => Fld.whole (unitCount n i))) ++
        (List.range 7).map (fun n => Fld.whole (unitEvents n)) ++
        (List.range 6).flatMap (fun w => [Fld.whole (Reg.spdifRxcsa w), Fld.whole (Reg.spdifRxcsb w)]) ++
        (List.range 14).flatMap (fun g => [Fld.asrcGCountAcquires g, Fld.asrcGCountFades g, Fld.asrcGStatusState g]) ++
        (List.range 13).flatMap (fun m => [Fld.rmonStatusPeriod m, Fld.rmonStatusRate m, Fld.rmonStatusState m]) ++
        (List.range 8).flatMap (fun k => [Fld.spdifNpstatCause k, Fld.spdifNpstatMuted k, Fld.spdifNpstatPcmMs k]) ++
        (List.range 7).flatMap (fun n => [fillF n true, fillF n false, lockF n true, lockF n false, stateF n true,
        stateF n false])) t) ∧
  (∀ (s t : State) (k : Fin 8), exec (.npUnmute k) s = .next t →
      s.Changes [.intc, .ser]
       ([Fld.spdifEventsNpChange, Fld.spdifNpstatMuted k]) t) ∧
  (∀ (s t : State) (m : Fin 13), exec (.rmonStop m) s = .next t →
      s.Changes [.intc, .ser]
       ([Fld.asrcEventsUnlock, Fld.rmonCountStops m, Fld.rmonEvents0Stop.at m, Fld.spdifEventsNpChange] ++
        (List.range 14).flatMap (fun g => [Fld.asrcGCountFades g, Fld.asrcGRatioRatio g, Fld.asrcGStatusState g]) ++
        (List.range 13).flatMap (fun m => [Fld.rmonStatusPeriod m, Fld.rmonStatusRate m, Fld.rmonStatusState m]) ++
        (List.range 8).flatMap (fun k => [Fld.spdifNpstatCause k, Fld.spdifNpstatMuted k, Fld.spdifNpstatPcmMs k]) ++
        (List.range 7).flatMap (fun n => [fillF n true, fillF n false])) t) ∧
  (∀ (s t : State) (m : Fin 13) (c : Nat), exec (.rmonPeriod m c) s = .next t →
      s.Changes [.intc, .ser]
       ([Fld.asrcEventsUnlock, Fld.rmonCountGlitches m, Fld.rmonCountRates m, Fld.rmonEvents0Returned, Fld.rmonEvents1Glitch,
        Fld.rmonEvents1Rate, Fld.spdifEventsNpChange, Fld.spdifEventsRateMismatch] ++
        (List.range 14).flatMap (fun g => [Fld.asrcGCountAcquires g, Fld.asrcGCountFades g, Fld.asrcGRatioRatio g,
        Fld.asrcGStatusState g]) ++
        (List.range 13).flatMap (fun m => [Fld.rmonStatusPeriod m, Fld.rmonStatusRate m, Fld.rmonStatusState m]) ++
        (List.range 8).flatMap (fun k => [Fld.spdifNpstatCause k, Fld.spdifNpstatMuted k, Fld.spdifNpstatPcmMs k]) ++
        (List.range 7).flatMap (fun n => [fillF n true, fillF n false])) t) ∧
  (∀ (s t : State) (mask : Word), exec (.rmonClr mask) s = .next t → s.dev.hostReady = true ∧ s.dev.regUp (Reg.rmonCtrl) = true →
      s.Changes []
       ((List.range 13).flatMap (fun m => [Fld.whole (Reg.rmonCount m)])) t) ∧
  (∀ (s t : State) (mask : Word), exec (.asrcClr mask) s = .next t → s.dev.hostReady = true ∧ s.dev.regUp (Reg.asrcCtrl) = true →
      s.Changes []
       ((List.range 14).flatMap (fun g => [Fld.whole (Reg.asrcGCount g)])) t) ∧
  (∀ (s t : State) (g : Fin 14), exec (.asrcAcquired g) s = .next t →
      s.Changes []
       ([Fld.asrcGRatioRatio g, Fld.asrcGStatusState g]) t) ∧
  (∀ (s t : State) (g : Fin 14), exec (.asrcFadeDone g) s = .next t →
      s.Changes [.intc, .ser]
       ([Fld.asrcEventsLock, Fld.asrcGCountAcquires g, Fld.asrcGStatusState g]) t) ∧
  (∀ (s t : State) (g : Fin 14), exec (.asrcHoldTimeout g) s = .next t →
      s.Changes [.ser]
       ([Fld.asrcGCountAcquires g, Fld.asrcGStatusState g]) t)

/-- What the commands of the USB function leave as it was, whenever they answer a next state: the queue; memory but the bytes
stored; every part of the device but those named; every bit of every register but those of the fields named. -/
def Obligations.UsbCommandsFrame : Prop :=
  (∀ (s t : State) (bytes : List Byte), exec (.usbOutPacket bytes) s = .next t →
      s.Changes [.intc, .usb]
       ([Fld.usbCount0PlayOver, Fld.usbCount1BadPkt, Fld.usbEventsPlayOver, Fld.usbFillCapFill, Fld.usbFillPlayFill]) t) ∧
  (∀ (s t : State) (ep : Fin 4) (up : Bool), exec (.usbInToken ep up) s = .next t →
      s.Changes [.intc, .usb]
       ([Fld.usbCount1CapUnder, Fld.usbEventsCapUnder, Fld.usbFillCapFill, Fld.usbFillPlayFill]) t) ∧
  (∀ (s t : State) (frame : Nat) (micro : Nat) (meas : Int), exec (.usbSof frame micro meas) s = .next t →
      s.Changes []
       ([Fld.usbFeedbackFb, Fld.usbSofFrame, Fld.usbSofMicro]) t) ∧
  (∀ (s t : State) (cap : Bool) (alt : Nat) (ch : Nat) (sub : Nat) (res : Nat),
    exec (.setInterface cap alt ch sub res) s = .next t →
      s.Changes [.intc, .usb]
       ([Fld.usbEventsAlt, Fld.usbFillCapFill, Fld.usbFillPlayFill, usbAltF cap]) t) ∧
  (∀ (s t : State) (cap : Bool) (hz : Nat), exec (.setCurSamplingFreq cap hz) s = .next t →
      s.Changes [.intc, .usb]
       ([Fld.usbEventsAlt, Fld.usbFillCapFill, Fld.usbFillPlayFill, usbRateF cap, usbRatioF cap] ++
        violFields [11]) t) ∧
  (∀ (s t : State) (req : UsbClassReq), exec (.usbClassRequest req) s = .next t →
      s.Changes [.usb]
       (violFields [11]) t) ∧
  (∀ (s t : State) (req : UsbStdReq), exec (.usbStandardRequest req) s = .next t →
      s.Changes [.usb]
       ([Fld.usbFillCapFill, Fld.usbFillPlayFill, Fld.usbStatusAddress, Fld.usbStatusCapAlt, Fld.usbStatusPlayAlt,
        Fld.usbStatusRwake, Fld.usbStatusState]) t) ∧
  (∀ (s t : State) (report : Nat), exec (.setReport report) s = .next t →
      s.Changes [.intc]
       ([Fld.usbEventsHidOut, Fld.usbHidoutReport]) t) ∧
  (∀ (s t : State), exec (.usbConnect) s = .next t →
      s.Changes [.usb]
       ([Fld.usbFillCapFill, Fld.usbFillPlayFill, Fld.usbStatusAddress, Fld.usbStatusCapAlt, Fld.usbStatusPlayAlt,
        Fld.usbStatusRwake, Fld.usbStatusState, Fld.usbStatusVbus]) t) ∧
  (∀ (s t : State) (vbus : Bool), exec (.usbDisconnect vbus) s = .next t →
      s.Changes [.usb]
       ([Fld.usbFillCapFill, Fld.usbFillPlayFill, Fld.usbStatusAddress, Fld.usbStatusCapAlt, Fld.usbStatusPlayAlt,
        Fld.usbStatusRwake, Fld.usbStatusState, Fld.usbStatusVbus]) t) ∧
  (∀ (s t : State), exec (.usbSuspend) s = .next t →
      s.Changes [.intc, .usb]
       ([Fld.usbEventsSuspend, Fld.usbStatusState]) t) ∧
  (∀ (s t : State) (reset : Bool) (high : Bool), exec (.usbResume reset high) s = .next t →
      s.Changes [.clk, .intc, .pwr, .usb]
       ([Fld.pwrEventsDone, Fld.pwrEventsWake, Fld.pwrTxnBusy, Fld.pwrTxnPhase, Fld.pwrTxnResult, Fld.pwrWakesrcSrc,
        Fld.usbEventsBusReset, Fld.usbFillCapFill, Fld.usbFillPlayFill, Fld.usbStatusAddress, Fld.usbStatusCapAlt,
        Fld.usbStatusPlayAlt, Fld.usbStatusRwake, Fld.usbStatusSpeed, Fld.usbStatusState] ++
        (List.range 2).flatMap (fun w => [Fld.pwrClkselPll w]) ++
        (List.range 3).flatMap (fun w => [Fld.whole (Reg.pwrState w), Fld.whole (Reg.pwrTarget w)])) t) ∧
  (∀ (s t : State), exec (.lpm) s = .next t →
      s.Changes [.usb]
       ([Fld.usbStatusState] ++
        violFields [11]) t) ∧
  (∀ (s t : State) (cap : Bool) (mute : Option Bool) (vol : Option Int), exec (.featureUnitSet cap mute vol) s = .next t →
      s.Changes [.intc]
       ([Fld.usbEventsFu, Fld.usbFucapMute, Fld.usbFucapVol, Fld.usbFuplayMute, Fld.usbFuplayVol] ++
        violFields [3]) t) ∧
  (∀ (s t : State) (v : Word), exec (.hidinWrite v) s = .next t → s.dev.hostReady = true ∧ s.dev.regUp (Reg.usbHidin) = true →
      s.Changes [.usb]
       ([Fld.usbCtrlWakeHid, Fld.usbHidinReport]) t) ∧
  (∀ (s t : State) (v : Word), exec (.usbCtrlWrite v) s = .next t → s.dev.hostReady = true ∧ s.dev.regUp (Reg.usbCtrl) = true →
      s.Changes [.usb]
       ([Fld.usbFillCapFill, Fld.usbFillPlayFill, Fld.usbStatusAddress, Fld.usbStatusCapAlt, Fld.usbStatusPlayAlt,
        Fld.usbStatusRwake, Fld.usbStatusState, Fld.whole (Reg.usbCount0), Fld.whole (Reg.usbCount1), Fld.whole (Reg.usbCtrl)]) t)

/-- What the commands of the engines leave as it was, whenever they answer a next state: the queue; memory but the bytes stored;
every part of the device but those named; every bit of every register but those of the fields named. -/
def Obligations.EngineCommandsFrame : Prop :=
  (∀ (s t : State) (e : Fin 16) (errs : List EccErr), exec (.interruptTrap e errs) s = .next t →
      s.Changes [.engs, .intc, .memc]
       ([Fld.intcHaltevHalted, Fld.memCelocLoc, Fld.memEcccntCe, Fld.memEcccntUe, Fld.memEventsCe, Fld.memEventsUe,
        Fld.memUelocLoc, Fld.repEventsTileFail, Fld.repTilefailFailing, Fld.whole (Reg.memCeinfo), Fld.whole (Reg.memUeinfo)] ++
        (List.range 64).flatMap (fun c => [Fld.dmaChStatusState c]) ++
        (List.range 16).flatMap (fun n => [Fld.engStatusState n, Fld.whole (Reg.engHaltrec0 n), Fld.whole (Reg.engHaltrec1 n),
        Fld.whole (Reg.engHaltrec2 n), Fld.whole (Reg.engHaltrec3 n), Fld.whole (Reg.engPc n)]) ++
        violFields [2, 4]) t) ∧
  (∀ (s t : State) (e : Fin 16) (errs : List EccErr), exec (.fastEntry e errs) s = .next t →
      s.Changes [.engs, .intc, .memc]
       ([Fld.intcHaltevHalted, Fld.intcStatusSpurious, Fld.memCelocLoc, Fld.memEcccntCe, Fld.memEcccntUe, Fld.memEventsCe,
        Fld.memEventsUe, Fld.memUelocLoc, Fld.repEventsTileFail, Fld.repTilefailFailing, Fld.whole (Reg.memCeinfo),
        Fld.whole (Reg.memUeinfo)] ++
        (List.range 64).flatMap (fun c => [Fld.dmaChStatusState c]) ++
        (List.range 16).flatMap (fun n => [Fld.engStatusState n, Fld.whole (Reg.engHaltrec0 n), Fld.whole (Reg.engHaltrec1 n),
        Fld.whole (Reg.engHaltrec2 n), Fld.whole (Reg.engHaltrec3 n), Fld.whole (Reg.engPc n)]) ++
        violFields [2, 4]) t) ∧
  (∀ (s t : State) (e : Fin 16) (cycles : Nat) (errs : List EccErr), exec (.waitWake e cycles errs) s = .next t →
      s.Changes [.engs, .intc, .memc]
       ([Fld.intcHaltevHalted, Fld.intcStatusSpurious, Fld.memCelocLoc, Fld.memEcccntCe, Fld.memEcccntUe, Fld.memEventsCe,
        Fld.memEventsUe, Fld.memUelocLoc, Fld.repEventsTileFail, Fld.repTilefailFailing, Fld.whole (Reg.memCeinfo),
        Fld.whole (Reg.memUeinfo)] ++
        (List.range 64).flatMap (fun c => [Fld.dmaChStatusState c]) ++
        (List.range 16).flatMap (fun n => [Fld.engStatusState n, Fld.whole (Reg.engHaltrec0 n), Fld.whole (Reg.engHaltrec1 n),
        Fld.whole (Reg.engHaltrec2 n), Fld.whole (Reg.engHaltrec3 n), Fld.whole (Reg.engPc n)]) ++
        violFields [2, 4]) t) ∧
  (∀ (s t : State) (e : Fin 16), exec (.engineStart e) s = .next t → s.dev.hostReady = true ∧ s.dev.regUp (Reg.engCtrl e) = true →
      s.Changes [.eng e]
       ([Fld.engLoadPeak e, Fld.engStatusState e, Fld.whole (Reg.engPc e), Fld.whole (Reg.engRingstat e)] ++
        violFields [0]) t) ∧
  (∀ (s t : State) (e : Fin 16), exec (.engineStop e) s = .next t → s.dev.hostReady = true ∧ s.dev.regUp (Reg.engCtrl e) = true →
      s.Changes [.eng e]
       ([Fld.engLoadPeak e, Fld.engStatusState e, Fld.whole (Reg.engPc e), Fld.whole (Reg.engRingstat e)] ++
        violFields [0]) t) ∧
  (∀ (s t : State) (e : Fin 16), exec (.engineResume e) s = .next t → s.dev.hostReady = true ∧
    s.dev.regUp (Reg.engCtrl e) = true →
      s.Changes [.eng e]
       ([Fld.engLoadPeak e, Fld.engStatusState e, Fld.whole (Reg.engPc e), Fld.whole (Reg.engRingstat e)] ++
        violFields [0]) t) ∧
  (∀ (s t : State) (e : Fin 16), exec (.engineClrCnt e) s = .next t → s.dev.hostReady = true ∧
    s.dev.regUp (Reg.engCtrl e) = true →
      s.Changes [.eng e]
       ([Fld.engLoadPeak e, Fld.engStatusState e, Fld.whole (Reg.engPc e), Fld.whole (Reg.engRingstat e)] ++
        violFields [0]) t) ∧
  (∀ (s t : State) (e : Fin 16) (v : Word), exec (.doorbell e v) s = .next t → s.dev.hostReady = true ∧
    s.dev.regUp (Reg.engDoorbell e) = true →
      s.Changes [.intc]
       ([Fld.whole (Reg.engDoorbell e)]) t) ∧
  (∀ (s t : State) (e : Fin 16) (v : Word), exec (.regdataWrite e v) s = .next t → s.dev.hostReady = true ∧
    s.dev.regUp (Reg.engRegdata e) = true →
      s.Changes [.eng e]
       ([Fld.whole (Reg.engPc e)] ++
        violFields [0]) t) ∧
  (∀ (s t : State) (e : Fin 16) (which : Fin 3) (v : Word), exec (.ringConfigWrite e which v) s = .next t →
    s.dev.hostReady = true ∧ s.dev.regUp ((if which = 0 then Reg.engRingin e else if which = 1 then Reg.engRingout e else Reg.engRinggeom e)) = true →
      s.Changes []
       ([Fld.whole (Reg.engRinggeom e), Fld.whole (Reg.engRingin e), Fld.whole (Reg.engRingout e)] ++
        violFields [0]) t) ∧
  (∀ (s t : State) (e : Fin 16) (env : Env), exec (.engineStep e env) s = .next t →
      t.pending = s.pending) ∧
  (∀ (s t : State) (e : Fin 16) (cycles : Nat) (env : Env), exec (.engineBundle e cycles env) s = .next t →
      t.pending = s.pending) ∧
  (∀ (s t : State) (e : Fin 16) (cycles : Nat) (env : Env), exec (.engineBundle e cycles env) s = .next t →
    s.dev.engPowered e = false ∨ (s.dev.engSt e ≠ EngSt.running ∧ ¬ (s.dev.engSt e = EngSt.stopped ∧
      (s.dev.eng e).stepReq = true)) →
      t = s) ∧
  (∀ (s t : State) (e : Fin 16) (cycles : Nat) (env : Env) (pa : Nat) (secure : Bool), exec (.engineBundle e cycles env) s = .next t → (let b := leNat (s.bytes pa 8)
      s.dev.fetches e pa secure ∧ env.errs = [] ∧ bundleLegal b = true ∧
        ((s.dev.eng e).executes b = true → memShape (opOf (scalarOf b)) = none ∧ ¬ opOf (scalarOf b) ∈ [0x1E, 0x1F, 0x24])) →
      s.Changes [.eng e, .free] ([Fld.whole (Reg.engPc e)] ++ violFields [0]) t) ∧
  (∀ (s t : State) (e : Fin 16) (cycles : Nat) (env : Env) (pa n p2 : Nat) (secure s2 : Bool), exec (.engineBundle e cycles env) s = .next t → (let b := leNat (s.bytes pa 8)
      let w := scalarOf b
      let x := s.dev.eng e
      let v := (x.readS x.fast (raOf w) + BitVec.ofInt 32 (memOff w)).toNat
      s.dev.fetches e pa secure ∧ env.errs = [] ∧ bundleLegal b = true ∧ x.executes b = true ∧
        memShape (opOf w) = some (n, false) ∧ n ≤ 16 ∧
        v % n = 0 ∧ s.dev.translate (x.winSet e) .store v n = .ok p2 s2 ∧ s.dev.region p2 ≠ .reg) →
      (∀ a, a < p2 ∨ p2 + n ≤ a → memGet t.mem a = memGet s.mem a) ∧ t.pending = s.pending)

/-- What the commands of the memories, the windows and the lockbox leave as it was, whenever they answer a next state: the queue;
memory but the bytes stored; every part of the device but those named; every bit of every register but those of the fields
named. -/
def Obligations.MemoryCommandsFrame : Prop :=
  (∀ (s t : State) (a : Nat), exec (.eccWriteback a) s = .next t →
      s.Changes [.memc]
       ([]) t) ∧
  (∀ (s t : State) (a : Nat) (errs : List EccErr), exec (.scrubRead a errs) s = .next t →
      s.Changes [.intc, .memc]
       ([Fld.memCelocLoc, Fld.memEcccntCe, Fld.memEcccntUe, Fld.memEventsCe, Fld.memEventsUe, Fld.memUelocLoc,
        Fld.repEventsTileFail, Fld.repTilefailFailing, Fld.whole (Reg.memCeinfo), Fld.whole (Reg.memUeinfo)]) t) ∧
  (∀ (s t : State) (loc : Nat) (kind : Nat), exec (.repairCopyDone loc kind) s = .next t →
      s.Changes [.intc, .kt, .memc]
       ([Fld.repEventsFull, Fld.repEventsSoft, Fld.repLastLoc, Fld.repLastinfoInfo, Fld.repStatusFull, Fld.repStatusSoft]) t) ∧
  (∀ (s t : State) (set : Fin 64) (win : Fin 16) (pa : Bool) (v : Word), exec (.windowWrite set win pa v) s = .next t →
    s.dev.hostReady = true ∧ s.dev.regUp (0x848000 + 0x80 * set + 8 * win + if pa then 4 else 0) = true →
      s.Changes []
       ([Fld.whole (0x848000 + 0x80 * set + 8 * win + if pa then 4 else 0)] ++ violFields [0, 3]) t) ∧
  (∀ (s t : State) (v : Word), exec (.memCtrlWrite v) s = .next t → s.dev.hostReady = true ∧ s.dev.regUp (Reg.memCtrl) = true →
      s.Changes []
       ([Fld.whole (Reg.memEcccnt)] ++
        (List.range 32).flatMap (fun b => [Fld.memBankStarve b])) t) ∧
  (∀ (s t : State), exec (.lbxWipeDone) s = .next t →
      t.pending = s.pending ∧ t.dev.kt.slots = s.dev.kt.slots ∧ t.dev.free = s.dev.free)

/-- What the commands of the DMA channels leave as it was, whenever they answer a next state: the queue; memory but the bytes
stored; every part of the device but those named; every bit of every register but those of the fields named. -/
def Obligations.DmaCommandsFrame : Prop :=
  (∀ (s t : State) (c : Fin 64), exec (.dmaStart c) s = .next t → s.dev.hostReady = true ∧ s.dev.regUp (Reg.dmaChCtrl c) = true →
      s.Changes [.chan c]
       ([Fld.dmaChOffsetBytes c, Fld.dmaChStatusInflight c, Fld.dmaChStatusState c, Fld.whole (Reg.dmaChCount c),
        Fld.whole (Reg.dmaChCurdesc c), Fld.whole (Reg.dmaChFault0 c), Fld.whole (Reg.dmaChFault1 c),
        Fld.whole (Reg.dmaChFault2 c), Fld.whole (Reg.dmaChFault3 c), Fld.whole (Reg.dmaChFault4 c)] ++
        violFields [0]) t) ∧
  (∀ (s t : State) (c : Fin 64), exec (.dmaStop c) s = .next t → s.dev.hostReady = true ∧ s.dev.regUp (Reg.dmaChCtrl c) = true →
      s.Changes [.chan c]
       ([Fld.dmaChOffsetBytes c, Fld.dmaChStatusInflight c, Fld.dmaChStatusState c, Fld.whole (Reg.dmaChCount c),
        Fld.whole (Reg.dmaChCurdesc c), Fld.whole (Reg.dmaChFault0 c), Fld.whole (Reg.dmaChFault1 c),
        Fld.whole (Reg.dmaChFault2 c), Fld.whole (Reg.dmaChFault3 c), Fld.whole (Reg.dmaChFault4 c)] ++
        violFields [0]) t) ∧
  (∀ (s t : State) (c : Fin 64), exec (.dmaResume c) s = .next t → s.dev.hostReady = true ∧ s.dev.regUp (Reg.dmaChCtrl c) = true →
      s.Changes [.chan c]
       ([Fld.dmaChOffsetBytes c, Fld.dmaChStatusInflight c, Fld.dmaChStatusState c, Fld.whole (Reg.dmaChCount c),
        Fld.whole (Reg.dmaChCurdesc c), Fld.whole (Reg.dmaChFault0 c), Fld.whole (Reg.dmaChFault1 c),
        Fld.whole (Reg.dmaChFault2 c), Fld.whole (Reg.dmaChFault3 c), Fld.whole (Reg.dmaChFault4 c)] ++
        violFields [0]) t) ∧
  (∀ (s t : State) (c : Fin 64), exec (.kick c) s = .next t → s.dev.hostReady = true ∧ s.dev.regUp (Reg.dmaChCtrl c) = true →
      s.Changes [.chan c]
       ([Fld.dmaChOffsetBytes c, Fld.dmaChStatusInflight c, Fld.dmaChStatusState c, Fld.whole (Reg.dmaChCount c),
        Fld.whole (Reg.dmaChCurdesc c), Fld.whole (Reg.dmaChFault0 c), Fld.whole (Reg.dmaChFault1 c),
        Fld.whole (Reg.dmaChFault2 c), Fld.whole (Reg.dmaChFault3 c), Fld.whole (Reg.dmaChFault4 c)] ++
        violFields [0]) t) ∧
  (∀ (s t : State) (c : Fin 64), exec (.dmaClrCnt c) s = .next t → s.dev.hostReady = true ∧ s.dev.regUp (Reg.dmaChCtrl c) = true →
      s.Changes [.chan c]
       ([Fld.dmaChOffsetBytes c, Fld.dmaChStatusInflight c, Fld.dmaChStatusState c, Fld.whole (Reg.dmaChCount c),
        Fld.whole (Reg.dmaChCurdesc c), Fld.whole (Reg.dmaChFault0 c), Fld.whole (Reg.dmaChFault1 c),
        Fld.whole (Reg.dmaChFault2 c), Fld.whole (Reg.dmaChFault3 c), Fld.whole (Reg.dmaChFault4 c)] ++
        violFields [0]) t) ∧
  (∀ (s t : State) (c : Fin 64) (desc : Bool) (v : Word), exec (.dmaCfgWrite c desc v) s = .next t → s.dev.hostReady = true ∧
    s.dev.regUp ((if desc then Reg.dmaChDesc c else Reg.dmaChCfg c)) = true →
      s.Changes []
       ([Fld.whole (Reg.dmaChCfg c), Fld.whole (Reg.dmaChDesc c)] ++
        violFields [0]) t) ∧
  (∀ (s t : State) (c : Fin 64), exec (.dmaStall c) s = .next t →
      s.Changes [.chan c, .intc]
       ([Fld.dmaChCountStalls c, Fld.dmaChEventsStall c, Fld.dmaChStatusInflight c]) t) ∧
  (∀ (s t : State) (c : Fin 64) (env : Env), exec (.descFetch c env) s = .next t →
    s.dev.on Dom.dma = false ∨ s.dev.chSt c ≠ ChSt.fetch →
      t = s) ∧
  (∀ (s t : State) (c : Fin 64) (env : Env) (ws : List Word), exec (.descFetch c env) s = .next t → (s.readDesc env c).1 = s ∧
    (s.readDesc env c).2.toOption = some ws ∧ s.dev.on Dom.dma = true ∧ s.dev.chSt c = ChSt.fetch ∧
      bitOf (ws.getD 7 0).toNat 31 = false →
      s.Changes [.chan c, .intc] [Fld.dmaChStatusState c, Fld.dmaChEventsWaitDesc c] t) ∧
  (∀ (s t : State) (c : Fin 64) (k : Fin 4) (env : Env) (off pa : Nat) (secure : Bool),
    exec (.dmaReadReturn c k env) s = .next t →
      s.dev.translate (s.dev.chanSet c) .load ((s.dev.chan c).srcAt off) 16 = .ok pa secure ∧
      (s.dev.chan c).beats[(k : Nat)]? = some ⟨off, none⟩ ∧ s.dev.region pa ≠ .reg ∧ s.dev.reach secure pa = .ok ∧ env.errs = [] →
      s.Changes [.chan c] [] t) ∧
  (∀ (s t : State) (c : Fin 64) (k : Fin 4) (env : Env), exec (.dmaReadReturn c k env) s = .next t →
      t.pending = s.pending) ∧
  (∀ (s t : State) (c : Fin 64) (env : Env), exec (.dmaBeatCommit c env) s = .next t →
      t.pending = s.pending) ∧
  (∀ (s t : State) (c : Fin 64) (env : Env), exec (.descComplete c env) s = .next t →
      t.pending = s.pending) ∧
  (∀ (s t : State) (c : Fin 64) (env : Env), exec (.descFetch c env) s = .next t →
      t.pending = s.pending)

/-- What the commands of the interrupt controller leave as it was, whenever they answer a next state: the queue; memory but the
bytes stored; every part of the device but those named; every bit of every register but those of the fields named. -/
def Obligations.IntcCommandsFrame : Prop :=
  (∀ (s t : State) (k : Fin 2048), exec (.coalTimerExpire k) s = .next t →
      s.Changes [.intc]
       ([]) t) ∧
  (∀ (s t : State) (tg : Fin 18) (fast : Bool), exec (.claim tg fast) s = .next t → s.dev.hostReady = true ∧
    (fast = true → (tg : Nat) < 16) →
      s.Changes [.intc]
       ([Fld.intcStatusSpurious]) t) ∧
  (∀ (s t : State) (tg : Fin 18) (fast : Bool) (id : Fin 1024), exec (.complete tg fast id) s = .next t →
    s.dev.hostReady = true ∧ s.dev.regUp (Reg.intcTClaim tg + if fast then 16 else 0) = true ∧ (fast = true → (tg : Nat) < 16) →
      s.Changes [.intc]
       (violFields [0]) t) ∧
  (∀ (s t : State) (v : Word), exec (.swset v) s = .next t → s.dev.hostReady = true ∧ s.dev.regUp (Reg.intcSwset) = true →
      s.Changes [.intc]
       (violFields [4]) t) ∧
  (∀ (s t : State) (hold : Bool), exec (.intcHoldWrite hold) s = .next t → s.dev.hostReady = true ∧
    s.dev.regUp (Reg.intcCtrl) = true →
      s.Changes []
       ([Fld.whole (Reg.intcCtrl)]) t) ∧
  (∀ (s t : State) (k : Fin 2048) (coal : Bool) (v : Word), exec (.intcCfgWrite k coal v) s = .next t → s.dev.hostReady = true ∧
    s.dev.regUp (srcCfg k + if coal then 4 else 0) = true →
      s.Changes []
       ([Fld.whole (srcCfg k), Fld.whole (srcCoal k)] ++
        violFields [3]) t) ∧
  (∀ (s t : State) (k : Fin 16) (high : Bool), exec (.extintChange k high) s = .next t →
      s.Changes [.intc]
       ([]) t)

/-- What the commands of the link leave as it was, whenever they answer a next state: the queue; memory but the bytes stored;
every part of the device but those named; every bit of every register but those of the fields named. -/
def Obligations.LinkCommandsFrame : Prop :=
  (∀ (s t : State) (p : Fin 3) (f : LinkIn), exec (.linkFrameRx p f) s = .next t →
      s.Changes [.intc, .link]
       ([Fld.linkEventsMap, Fld.linkEventsMismatch, Fld.linkPosPath, Fld.linkStatusHops, Fld.linkStatusL, Fld.linkStatusState] ++
        (List.range 3).flatMap (fun p => [Fld.linkPortCountCode p, Fld.linkPortCountCrc p, Fld.linkPortDelayPs p,
        Fld.linkPortOffsetPs p, Fld.linkPortStatusMapOk p, Fld.linkPortStatusPartner p, Fld.linkPortStatusPartnerJoined p,
        Fld.linkPortStatusState p])) t) ∧
  (∀ (s t : State) (same : Bool), exec (.linkRangingDone same) s = .next t →
      s.Changes [.clk, .hinge, .intc, .link, .outs, .ser]
       ([Fld.clkStatusAcquiring, Fld.clkStatusHoldover, Fld.clkStatusLastCause, Fld.clkStatusLocked, Fld.clkStatusOnAlt,
        Fld.clkStatusRefUsed, Fld.keyFramecntCount, Fld.keyStatusRunning, Fld.linkCount0Dropped, Fld.linkCount1Rejoins,
        Fld.linkEventsJoined, Fld.linkEventsRejoin, Fld.linkStatusRootLost, Fld.linkStatusState] ++
        (List.range 7).map (fun n => Fld.whole (unitEvents n)) ++
        (List.range 3).flatMap (fun p => [Fld.linkPortStatusState p]) ++
        (List.range 10).flatMap (fun o => [Fld.outStatusClrCause o, Fld.outStatusHolding o, Fld.outStatusState o]) ++
        (List.range 13).flatMap (fun m => [Fld.rmonStatusPeriod m, Fld.rmonStatusRate m, Fld.rmonStatusState m]) ++
        (List.range 10).flatMap (fun n => [Fld.seqStatusGain n, Fld.seqStatusStep n]) ++
        (List.range 7).flatMap (fun n => [fillF n true, fillF n false, lockF n true, lockF n false, stateF n true,
        stateF n false])) t) ∧
  (∀ (s t : State), exec (.linkRootLoss) s = .next t →
      s.Changes [.intc, .link]
       ([Fld.linkEventsRootLoss, Fld.linkStatusRootLost, Fld.linkStatusState] ++
        (List.range 3).flatMap (fun p => [Fld.linkPortStatusState p])) t) ∧
  (∀ (s t : State) (p : Fin 3) (m : List Byte), exec (.app p m) s = .next t →
      s.Changes [.intc, .link]
       ([Fld.linkCount0Auth, Fld.linkCount0Dropped, Fld.linkEventsRxMsg, Fld.linkPortCountCrc p, Fld.linkRxstatCount] ++
        (List.range 20).flatMap (fun w => [Fld.linkRxmsgData w]) ++
        violFields [9]) t) ∧
  (∀ (s t : State) (p : Fin 3) (m : List Byte), exec (.assign p m) s = .next t →
      s.Changes [.link]
       ([Fld.linkCount0Auth, Fld.linkCount0Dropped, Fld.linkNodeidId, Fld.linkNodeidValid, Fld.linkPortCountCrc p] ++
        violFields [9]) t) ∧
  (∀ (s t : State) (p : Fin 3) (m : List Byte), exec (.join p m) s = .next t →
      s.Changes [.intc, .link]
       ([Fld.linkCount0Auth, Fld.linkCount0Dropped, Fld.linkEventsRxMsg, Fld.linkPortCountCrc p, Fld.linkRxstatCount] ++
        (List.range 20).flatMap (fun w => [Fld.linkRxmsgData w]) ++
        violFields [9]) t) ∧
  (∀ (s t : State), exec (.linkSend) s = .next t → s.dev.hostReady = true ∧ s.dev.regUp (Reg.linkTxctrl) = true →
      s.Changes [.intc, .link]
       ([Fld.linkCount0Dropped, Fld.linkEventsRxMsg, Fld.linkEventsTxDone, Fld.linkRxstatCount] ++
        (List.range 20).flatMap (fun w => [Fld.linkRxmsgData w])) t) ∧
  (∀ (s t : State), exec (.linkPop) s = .next t → s.dev.hostReady = true ∧ s.dev.regUp (Reg.linkRxstat) = true →
      s.Changes [.link]
       ([Fld.linkRxstatCount] ++
        (List.range 20).flatMap (fun w => [Fld.linkRxmsgData w])) t) ∧
  (∀ (s t : State) (v : Word), exec (.linkNodeidWrite v) s = .next t → s.dev.hostReady = true ∧
    s.dev.regUp (Reg.linkNodeid) = true →
      s.Changes []
       ([Fld.linkNodeidId, Fld.linkNodeidValid] ++
        violFields [0]) t) ∧
  (∀ (s t : State), exec (.linkClrCnt) s = .next t → s.dev.hostReady = true ∧ s.dev.regUp (Reg.linkCtrl) = true →
      s.Changes []
       ([Fld.whole (Reg.linkCount0), Fld.whole (Reg.linkCount1)] ++
        (List.range 3).flatMap (fun p => [Fld.whole (Reg.linkPortCount p)])) t) ∧
  (∀ (s t : State) (p : Fin 3), exec (.linkIdle p) s = .next t → s.dev.hostReady = true ∧
    s.dev.regUp (Reg.linkPortCtrl p) = true →
      s.Changes [.link]
       ([Fld.linkStatusState] ++
        (List.range 3).flatMap (fun p => [Fld.linkPortCtrlIdle p, Fld.linkPortStatusState p])) t) ∧
  (∀ (s t : State) (p : Fin 3) (wake : Bool), exec (.linkWake p wake) s = .next t → s.dev.hostReady = true ∧
    s.dev.regUp (Reg.linkPortCtrl p) = true →
      s.Changes [.link]
       ([Fld.linkStatusState] ++
        (List.range 3).flatMap (fun p => [Fld.linkPortCtrlIdle p, Fld.linkPortStatusState p])) t) ∧
  (∀ (s t : State) (p : Fin 3), exec (.squelchWake p) s = .next t →
      s.Changes [.clk, .intc, .link, .pwr]
       ([Fld.linkEventsWake, Fld.linkStatusState, Fld.pwrEventsDone, Fld.pwrEventsWake, Fld.pwrTxnBusy, Fld.pwrTxnPhase,
        Fld.pwrTxnResult, Fld.pwrWakesrcSrc] ++
        (List.range 3).flatMap (fun p => [Fld.linkPortStatusState p]) ++
        (List.range 2).flatMap (fun w => [Fld.pwrClkselPll w]) ++
        (List.range 3).flatMap (fun w => [Fld.whole (Reg.pwrState w), Fld.whole (Reg.pwrTarget w)])) t) ∧
  (∀ (s t : State) (p : Fin 3) (m : List Byte), exec (.bootData p m) s = .next t →
      t.pending = s.pending ∧
      s.lockboxKept t ∧
      s.dev.PartsBut [.intc, .boot, .clk, .key, .inp, .outs, .ser, .usb, .engs, .chans, .link, .hinge] t.dev ∧
      s.dev.regsBut (fun a => (regDom (a % 2 ^ 32)).isSome = true ∨ a ∈ loadRegs) t.dev) ∧
  (∀ (s t : State) (p : Fin 3) (m : List Byte), exec (.linkReset p m) s = .next t →
      s.dev.ResetKeeps Rst.link t.dev ∧ t.dev.free = s.dev.free ∧ t.pending = s.pending ∧ s.lockboxKept t)

/-- What the commands of twin operation leave as it was, whenever they answer a next state: the queue; memory but the bytes
stored; every part of the device but those named; every bit of every register but those of the fields named. -/
def Obligations.TwinCommandsFrame : Prop :=
  (∀ (s t : State), exec (.pairWaitExpire) s = .next t →
      s.Changes [.clk, .hinge, .intc, .link, .outs, .ser, .usb]
       ([Fld.clkRefselAlt, Fld.clkRefselAltEn, Fld.clkRefselPrimary, Fld.clkStatusAcquiring, Fld.clkStatusHoldover,
        Fld.clkStatusLastCause, Fld.clkStatusLocked, Fld.clkStatusOnAlt, Fld.clkStatusRefUsed, Fld.hingeCount0Refusals,
        Fld.hingeEventsRefused, Fld.hingeStatusArmed, Fld.hingeStatusFresh, Fld.hingeStatusHold, Fld.hingeStatusRefuse,
        Fld.hingeStatusRole, Fld.hingeStatusSynced, Fld.keyStatusRunning, Fld.micbStatusDriving, Fld.pdmStatusClkPresent,
        Fld.pdmStatusReceiving, Fld.spdifStatusReleased, Fld.usbFillCapFill, Fld.usbFillPlayFill, Fld.usbStatusAddress,
        Fld.usbStatusCapAlt, Fld.usbStatusPlayAlt, Fld.usbStatusRwake, Fld.usbStatusState, Fld.whole (Reg.clkRefsel)] ++
        (List.range 7).map (fun n => Fld.whole (unitEvents n)) ++
        (List.range 3).flatMap (fun p => [Fld.linkPortStatusState p]) ++
        (List.range 10).flatMap (fun o => [Fld.outStatusClrCause o, Fld.outStatusHolding o, Fld.outStatusState o]) ++
        (List.range 6).flatMap (fun n => [Fld.portStatusReleased n]) ++
        (List.range 13).flatMap (fun m => [Fld.rmonStatusPeriod m, Fld.rmonStatusRate m, Fld.rmonStatusState m]) ++
        (List.range 10).flatMap (fun n => [Fld.seqStatusGain n, Fld.seqStatusStep n]) ++
        (List.range 7).flatMap (fun n => [fillF n true, fillF n false, lockF n true, lockF n false, stateF n true,
        stateF n false])) t) ∧
  (∀ (s t : State), exec (.pairSyncTimeout) s = .next t →
      s.Changes [.clk, .hinge, .intc, .link, .outs, .ser]
       ([Fld.clkRefselAlt, Fld.clkRefselAltEn, Fld.clkRefselPrimary, Fld.clkStatusAcquiring, Fld.clkStatusHoldover,
        Fld.clkStatusLastCause, Fld.clkStatusLocked, Fld.clkStatusOnAlt, Fld.clkStatusRefUsed, Fld.hingeCount0Refusals,
        Fld.hingeEventsRefused, Fld.hingeStatusFresh, Fld.hingeStatusRefuse, Fld.keyStatusRunning, Fld.whole (Reg.clkRefsel)] ++
        (List.range 7).map (fun n => Fld.whole (unitEvents n)) ++
        (List.range 3).flatMap (fun p => [Fld.linkPortStatusState p]) ++
        (List.range 10).flatMap (fun o => [Fld.outStatusClrCause o, Fld.outStatusHolding o, Fld.outStatusState o]) ++
        (List.range 13).flatMap (fun m => [Fld.rmonStatusPeriod m, Fld.rmonStatusRate m, Fld.rmonStatusState m]) ++
        (List.range 10).flatMap (fun n => [Fld.seqStatusGain n, Fld.seqStatusStep n]) ++
        (List.range 7).flatMap (fun n => [fillF n true, fillF n false, lockF n true, lockF n false, stateF n true,
        stateF n false])) t) ∧
  (∀ (s t : State) (high : Bool) (priOk : Bool), exec (.heartbeatMiss high priOk) s = .next t →
      s.Changes [.clk, .hinge, .intc, .outs, .usb]
       ([Fld.clkEventsRefSwitch, Fld.clkStatusHoldover, Fld.clkStatusLocked, Fld.clkStatusOnAlt, Fld.clkStatusRefUsed,
        Fld.hingeCount0Takeovers, Fld.hingeCount2Missed, Fld.hingeEventsFailover, Fld.hingeEventsHingeLost, Fld.hingeStatusArmed,
        Fld.hingeStatusFresh, Fld.hingeStatusHold, Fld.hingeStatusMiss, Fld.hingeStatusRole, Fld.hingeStatusSynced,
        Fld.micbStatusDriving, Fld.pdmStatusClkPresent, Fld.pdmStatusReceiving, Fld.spdifStatusReleased, Fld.usbFillCapFill,
        Fld.usbFillPlayFill, Fld.usbStatusAddress, Fld.usbStatusCapAlt, Fld.usbStatusPlayAlt, Fld.usbStatusRwake,
        Fld.usbStatusState, Fld.whole (Reg.clkRefsel)] ++
        (List.range 10).flatMap (fun o => [Fld.outStatusHolding o, Fld.outStatusPersona o, Fld.outStatusState o]) ++
        (List.range 6).flatMap (fun n => [Fld.portStatusReleased n]) ++
        (List.range 10).flatMap (fun n => [Fld.seqStatusGain n, Fld.seqStatusServo n, Fld.seqStatusStep n])) t) ∧
  (∀ (s t : State), exec (.deadmanFire) s = .next t →
      s.Changes [.hinge, .intc, .outs, .usb]
       ([Fld.hingeEventsDropped, Fld.hingeStatusArmed, Fld.hingeStatusDropped, Fld.hingeStatusFresh, Fld.hingeStatusHold,
        Fld.hingeStatusRole, Fld.hingeStatusSynced, Fld.micbStatusDriving, Fld.pdmStatusClkPresent, Fld.pdmStatusReceiving,
        Fld.spdifStatusReleased, Fld.usbFillCapFill, Fld.usbFillPlayFill, Fld.usbStatusAddress, Fld.usbStatusCapAlt,
        Fld.usbStatusPlayAlt, Fld.usbStatusRwake, Fld.usbStatusState] ++
        (List.range 10).flatMap (fun o => [Fld.outStatusHolding o, Fld.outStatusState o]) ++
        (List.range 6).flatMap (fun n => [Fld.portStatusReleased n]) ++
        (List.range 10).flatMap (fun n => [Fld.seqStatusGain n, Fld.seqStatusStep n])) t) ∧
  (∀ (s t : State), exec (.partnerLost) s = .next t →
      s.Changes [.intc]
       ([Fld.hingeEventsPartnerLost, Fld.hingeStatusArmed, Fld.hingeStatusPartner, Fld.hingeStatusPartnerRole]) t) ∧
  (∀ (s t : State), exec (.detach) s = .next t → s.dev.hostReady = true ∧ s.dev.regUp (Reg.hingeCtrl) = true →
      s.Changes [.hinge, .intc, .outs, .usb]
       ([Fld.hingeCount0Refusals, Fld.hingeEventsRefused, Fld.hingeStatusArmed, Fld.hingeStatusFresh, Fld.hingeStatusHold,
        Fld.hingeStatusRefuse, Fld.hingeStatusRole, Fld.hingeStatusSynced, Fld.micbStatusDriving, Fld.pdmStatusClkPresent,
        Fld.pdmStatusReceiving, Fld.spdifStatusReleased, Fld.usbFillCapFill, Fld.usbFillPlayFill, Fld.usbStatusAddress,
        Fld.usbStatusCapAlt, Fld.usbStatusPlayAlt, Fld.usbStatusRwake, Fld.usbStatusState, Fld.whole (Reg.hingeCount0),
        Fld.whole (Reg.hingeCount1), Fld.whole (Reg.hingeCount2)] ++
        (List.range 10).flatMap (fun o => [Fld.outStatusHolding o, Fld.outStatusState o]) ++
        (List.range 6).flatMap (fun n => [Fld.portStatusReleased n]) ++
        (List.range 10).flatMap (fun n => [Fld.seqStatusGain n, Fld.seqStatusStep n]) ++
        violFields [0, 10]) t) ∧
  (∀ (s t : State), exec (.attach) s = .next t → s.dev.hostReady = true ∧ s.dev.regUp (Reg.hingeCtrl) = true →
      s.Changes [.hinge, .intc, .outs, .usb]
       ([Fld.hingeCount0Refusals, Fld.hingeEventsRefused, Fld.hingeStatusArmed, Fld.hingeStatusFresh, Fld.hingeStatusHold,
        Fld.hingeStatusRefuse, Fld.hingeStatusRole, Fld.hingeStatusSynced, Fld.micbStatusDriving, Fld.pdmStatusClkPresent,
        Fld.pdmStatusReceiving, Fld.spdifStatusReleased, Fld.usbFillCapFill, Fld.usbFillPlayFill, Fld.usbStatusAddress,
        Fld.usbStatusCapAlt, Fld.usbStatusPlayAlt, Fld.usbStatusRwake, Fld.usbStatusState, Fld.whole (Reg.hingeCount0),
        Fld.whole (Reg.hingeCount1), Fld.whole (Reg.hingeCount2)] ++
        (List.range 10).flatMap (fun o => [Fld.outStatusHolding o, Fld.outStatusState o]) ++
        (List.range 6).flatMap (fun n => [Fld.portStatusReleased n]) ++
        (List.range 10).flatMap (fun n => [Fld.seqStatusGain n, Fld.seqStatusStep n]) ++
        violFields [0, 10]) t) ∧
  (∀ (s t : State), exec (.resetTwin) s = .next t → s.dev.hostReady = true ∧ s.dev.regUp (Reg.hingeCtrl) = true →
      s.Changes [.hinge, .intc, .outs, .usb]
       ([Fld.hingeCount0Refusals, Fld.hingeEventsRefused, Fld.hingeStatusArmed, Fld.hingeStatusFresh, Fld.hingeStatusHold,
        Fld.hingeStatusRefuse, Fld.hingeStatusRole, Fld.hingeStatusSynced, Fld.micbStatusDriving, Fld.pdmStatusClkPresent,
        Fld.pdmStatusReceiving, Fld.spdifStatusReleased, Fld.usbFillCapFill, Fld.usbFillPlayFill, Fld.usbStatusAddress,
        Fld.usbStatusCapAlt, Fld.usbStatusPlayAlt, Fld.usbStatusRwake, Fld.usbStatusState, Fld.whole (Reg.hingeCount0),
        Fld.whole (Reg.hingeCount1), Fld.whole (Reg.hingeCount2)] ++
        (List.range 10).flatMap (fun o => [Fld.outStatusHolding o, Fld.outStatusState o]) ++
        (List.range 6).flatMap (fun n => [Fld.portStatusReleased n]) ++
        (List.range 10).flatMap (fun n => [Fld.seqStatusGain n, Fld.seqStatusStep n]) ++
        violFields [0, 10]) t) ∧
  (∀ (s t : State), exec (.hingeClrCnt) s = .next t → s.dev.hostReady = true ∧ s.dev.regUp (Reg.hingeCtrl) = true →
      s.Changes [.hinge, .intc, .outs, .usb]
       ([Fld.hingeCount0Refusals, Fld.hingeEventsRefused, Fld.hingeStatusArmed, Fld.hingeStatusFresh, Fld.hingeStatusHold,
        Fld.hingeStatusRefuse, Fld.hingeStatusRole, Fld.hingeStatusSynced, Fld.micbStatusDriving, Fld.pdmStatusClkPresent,
        Fld.pdmStatusReceiving, Fld.spdifStatusReleased, Fld.usbFillCapFill, Fld.usbFillPlayFill, Fld.usbStatusAddress,
        Fld.usbStatusCapAlt, Fld.usbStatusPlayAlt, Fld.usbStatusRwake, Fld.usbStatusState, Fld.whole (Reg.hingeCount0),
        Fld.whole (Reg.hingeCount1), Fld.whole (Reg.hingeCount2)] ++
        (List.range 10).flatMap (fun o => [Fld.outStatusHolding o, Fld.outStatusState o]) ++
        (List.range 6).flatMap (fun n => [Fld.portStatusReleased n]) ++
        (List.range 10).flatMap (fun n => [Fld.seqStatusGain n, Fld.seqStatusStep n]) ++
        violFields [0, 10]) t) ∧
  (∀ (s t : State) (f : FrameIn), exec (.standbySync f) s = .next t →
      t.pending = s.pending ∧
      s.lockboxKept t) ∧
  (∀ (s t : State) (f : HingeIn), exec (.hingeFrameRx f) s = .next t →
      t.pending = s.pending ∧ s.lockboxKept t)

/-- What the commands of self-repair and the keyturn store leave as it was, whenever they answer a next state: the queue; memory
but the bytes stored; every part of the device but those named; every bit of every register but those of the fields named. -/
def Obligations.RepairCommandsFrame : Prop :=
  (∀ (s t : State) (n : Fin 16), exec (.tileSwap n) s = .next t → s.dev.hostReady = true ∧ s.dev.regUp (Reg.repCtrl) = true →
      s.Changes [.kt]
       (violFields [0]) t) ∧
  (∀ (s t : State), exec (.tileSwapDone) s = .next t →
      s.Changes [.intc, .kt]
       ([Fld.repEventsFull, Fld.repEventsSoft, Fld.repEventsSwapDone, Fld.repLastLoc, Fld.repLastinfoInfo, Fld.repStatusFull,
        Fld.repStatusSoft, Fld.repTilefailFailing, Fld.whole (Reg.sysTilemap 0), Fld.whole (Reg.sysTilemap 1)]) t) ∧
  (∀ (s t : State), exec (.repairBurnStart) s = .next t →
      s.Changes [.intc, .kt]
       ([Fld.repEventsFull, Fld.repStatusBurning, Fld.repStatusFull, Fld.repStatusUsed] ++
        (List.range 512).flatMap (fun k => [Fld.repEntryInfoInfo k, Fld.repEntryLocLoc k])) t) ∧
  (∀ (s t : State), exec (.repairBurnDone) s = .next t →
      s.Changes [.intc, .kt]
       ([Fld.repEventsBurned, Fld.repStatusBurning]) t) ∧
  (∀ (s t : State) (setting : Fin 26) (v : Word), exec (.ktWrite setting v) s = .next t → s.dev.hostReady = true ∧
    s.dev.regUp (ktReg setting) = true →
      s.Changes [.kt]
       ([Fld.ktStatusBusy, Fld.ktStatusResult, Fld.ktStatusSetting] ++
        violFields [0, 1]) t) ∧
  (∀ (s t : State) (w : Fin 8) (v : Word), exec (.ktHoldingWrite w v) s = .next t → s.dev.hostReady = true ∧
    s.dev.regUp (if (w : Nat) = 0 then Reg.ktLikeness0 else Reg.ktRoothash (w - 1)) = true →
      s.Changes [.kt]
       ([]) t) ∧
  (∀ (s t : State) (cat : Fin 16) (v : Word), exec (.violClear cat v) s = .next t → s.dev.hostReady = true ∧
    s.dev.regUp (Reg.violCnt cat) = true →
      s.Changes []
       ([Fld.whole (Reg.violCnt cat)]) t) ∧
  (∀ (s t : State) (cause : Fin 3), exec (.tamper cause) s = .next t →
      t.pending = s.pending ∧
      s.tilesKept t ∧
      s.dev.PartsBut [.clk, .intc, .kt, .link] t.dev ∧
      s.dev.regsBut (fun a => a ∈ [Reg.ktEvents, Reg.ktStatus, Reg.ktTamper, Reg.lbxStatus, Reg.repStatus]) t.dev) ∧
  (∀ (s t : State), exec (.ktSeal) s = .next t →
      t.pending = s.pending ∧ s.dev.pins.outClr = t.dev.pins.outClr ∧ t.dev.free = s.dev.free)

/-- What the commands of the power sequencer leave as it was, whenever they answer a next state: the queue; memory but the bytes
stored; every part of the device but those named; every bit of every register but those of the fields named. -/
def Obligations.PowerCommandsFrame : Prop :=
  (∀ (s t : State) (k : Fin 46), exec (.quiesceAgree k) s = .next t →
      s.Changes [.pwr]
       ([]) t) ∧
  (∀ (s t : State) (src : Fin 6), exec (.wake src) s = .next t →
      s.Changes [.clk, .intc, .pwr]
       ([Fld.pwrEventsDone, Fld.pwrEventsWake, Fld.pwrTxnBusy, Fld.pwrTxnPhase, Fld.pwrTxnResult, Fld.pwrWakesrcSrc] ++
        (List.range 2).flatMap (fun w => [Fld.pwrClkselPll w]) ++
        (List.range 3).flatMap (fun w => [Fld.whole (Reg.pwrState w), Fld.whole (Reg.pwrTarget w)])) t) ∧
  (∀ (s t : State) (k : Fin 2), exec (.wakePin k) s = .next t →
      s.Changes [.clk, .intc, .pwr]
       ([Fld.pwrEventsDone, Fld.pwrEventsWake, Fld.pwrTxnBusy, Fld.pwrTxnPhase, Fld.pwrTxnResult, Fld.pwrWakesrcSrc] ++
        (List.range 2).flatMap (fun w => [Fld.pwrClkselPll w]) ++
        (List.range 3).flatMap (fun w => [Fld.whole (Reg.pwrState w), Fld.whole (Reg.pwrTarget w)])) t) ∧
  (∀ (s t : State) (k : Fin 46), exec (.domainClkSwitch k) s = .next t →
      s.Changes [.intc, .pwr]
       ([Fld.pwrEventsClk] ++
        (List.range 2).flatMap (fun w => [Fld.pwrClkselPll w])) t) ∧
  (∀ (s t : State) (ws : List (Fin 3 × Word)), exec (.pwrTransaction ws) s = .next t → s.dev.hostReady = true ∧
    s.dev.host.posted = [] ∧ s.dev.host.stretched = none →
      s.Changes [.clk, .hinge, .intc, .link, .outs, .pwr, .ser]
       ([Fld.asrcEventsUnlock, Fld.clkPllcfgRun, Fld.clkStatusAcquiring, Fld.clkStatusHoldover, Fld.clkStatusLocked,
        Fld.keyStatusRunning, Fld.pwrEventsDone, Fld.pwrEventsRefused, Fld.pwrEventsWake, Fld.pwrTxnBusy, Fld.pwrTxnDomain,
        Fld.pwrTxnPhase, Fld.pwrTxnReason, Fld.pwrTxnRefusals, Fld.pwrTxnResult, Fld.pwrWakesrcSrc] ++
        (List.range 7).map (fun n => Fld.whole (unitEvents n)) ++
        (List.range 14).flatMap (fun g => [Fld.asrcGCountFades g, Fld.asrcGRatioRatio g, Fld.asrcGStatusState g]) ++
        (List.range 3).flatMap (fun p => [Fld.linkPortStatusState p]) ++
        (List.range 10).flatMap (fun o => [Fld.outStatusClrCause o, Fld.outStatusHolding o, Fld.outStatusState o]) ++
        (List.range 2).flatMap (fun w => [Fld.pwrClkselPll w]) ++
        (List.range 13).flatMap (fun m => [Fld.rmonStatusPeriod m, Fld.rmonStatusRate m, Fld.rmonStatusState m]) ++
        (List.range 10).flatMap (fun n => [Fld.seqStatusGain n, Fld.seqStatusStep n]) ++
        (List.range 3).flatMap (fun w => [Fld.whole (Reg.pwrState w), Fld.whole (Reg.pwrTarget w)]) ++
        (List.range 7).flatMap (fun n => [fillF n true, fillF n false, lockF n true, lockF n false, stateF n true,
        stateF n false]) ++
        violFields [0, 3]) t) ∧
  (∀ (s t : State) (w : Fin 2) (v : Word), exec (.pwrClkselWrite w v) s = .next t → s.dev.hostReady = true ∧
    s.dev.regUp (Reg.pwrClksel w) = true →
      s.Changes [.pwr]
       (violFields [0]) t) ∧
  (∀ (s t : State) (w : Fin 2) (v : Word), exec (.shackleRelease w v) s = .next t → s.dev.hostReady = true ∧
    s.dev.regUp (Reg.pwrShackle w) = true →
      s.Changes []
       ([Fld.whole (Reg.pwrShackle w)] ++
        violFields [13]) t) ∧
  (∀ (s t : State) (k : Fin 46), exec (.domainArrive k) s = .next t →
      t.pending = s.pending ∧
      t.mem = s.mem ∧
      s.dev.PartsBut [.intc, .clk, .key, .inp, .outs, .ser, .usb, .link, .hinge, .pwr] t.dev) ∧
  (∀ (s t : State), exec (.pwrCommit) s = .next t → s.dev.pwr.held = [] ∧ s.dev.host.posted = [] ∧ s.dev.host.stretched = none →
      t.pending = s.pending ∧
      s.lockboxKept t ∧
      s.dev.PartsBut [.intc, .clk, .key, .inp, .outs, .ser, .usb, .engs, .chans, .link, .hinge, .pwr] t.dev) ∧
  (∀ (s t : State), exec (.quiesceTimeout) s = .next t → s.dev.pwr.held = [] ∧ s.dev.host.posted = [] ∧
    s.dev.host.stretched = none →
      t.pending = s.pending ∧
      t.mem = s.mem ∧
      s.dev.PartsBut [.intc, .pwr] t.dev ∧
      s.dev.regsBut (fun a => a ∈ [Reg.pwrState 0, Reg.pwrState 1, Reg.pwrState 2, Reg.pwrClksel 0, Reg.pwrClksel 1,
        Reg.pwrEvents, Reg.pwrTarget 0, Reg.pwrTarget 1, Reg.pwrTarget 2, Reg.pwrTxn, Reg.pwrWakesrc]) t.dev)

/-- What the commands of the supplies, the temperatures and the watchdog leave as it was, whenever they answer a next state: the
queue; memory but the bytes stored; every part of the device but those named; every bit of every register but those of the
fields named. -/
def Obligations.SupplyCommandsFrame : Prop :=
  (∀ (s t : State), exec (.wdtKick) s = .next t → s.dev.hostReady = true →
      s.Changes []
       ([Fld.sysWdtevRemain] ++
        violFields [0]) t) ∧
  (∀ (s t : State) (v : Word), exec (.wdtcfgWrite v) s = .next t → s.dev.hostReady = true →
      s.Changes []
       ([Fld.sysWdtevRemain, Fld.whole (Reg.sysWdtcfg)] ++
        violFields [0, 3]) t) ∧
  (∀ (s t : State), exec (.watchdogPre) s = .next t →
      s.Changes [.intc]
       ([Fld.sysWdtevPre, Fld.sysWdtevRemain]) t) ∧
  (∀ (s t : State) (sup : Fin 4) (mv : Nat), exec (.supplyWarning sup mv) s = .next t →
      s.Changes [.clk, .intc, .outs, .pins]
       ([Fld.monSupevWarn.at sup, Fld.monSupply0Avdd18, Fld.monSupply0Io33, Fld.monSupply1Core, Fld.monSupstatBelow,
        Fld.monSupstatMuting, Fld.spkPvddMv, supCnt sup] ++
        (List.range 10).flatMap (fun o => [Fld.outStatusHolding o, Fld.outStatusPersona o, Fld.outStatusState o]) ++
        (List.range 10).flatMap (fun n => [Fld.seqStatusMuteSupply n, Fld.seqStatusServo n, Fld.seqStatusStep n])) t) ∧
  (∀ (s t : State) (sup : Fin 4) (mv : Nat), exec (.supplyRecover sup mv) s = .next t →
      s.Changes [.intc, .outs, .pins, .pwr]
       ([Fld.monSupevRecovered.at sup, Fld.monSupply0Avdd18, Fld.monSupply0Io33, Fld.monSupply1Core, Fld.monSupstatBelow,
        Fld.monSupstatMuting, Fld.spkPvddMv] ++
        (List.range 10).flatMap (fun o => [Fld.outStatusHolding o, Fld.outStatusPersona o, Fld.outStatusState o]) ++
        (List.range 10).flatMap (fun n => [Fld.seqStatusMuteSupply n, Fld.seqStatusServo n, Fld.seqStatusStep n])) t) ∧
  (∀ (s t : State), exec (.resume) s = .next t → s.dev.hostReady = true ∧ s.dev.regUp (Reg.monCtrl) = true →
      s.Changes [.outs]
       ([Fld.monSupstatMuting] ++
        (List.range 10).flatMap (fun o => [Fld.outStatusHolding o, Fld.outStatusPersona o, Fld.outStatusState o]) ++
        (List.range 10).flatMap (fun n => [Fld.seqStatusMuteSupply n, Fld.seqStatusServo n, Fld.seqStatusStep n])) t) ∧
  (∀ (s t : State) (k : Fin 3) (tg : Int), exec (.thermalWarning k tg) s = .next t →
      s.Changes [.intc]
       ([Fld.monThermDie0, Fld.monThermDie1, Fld.monThevWarn, Fld.spkThermTemp]) t) ∧
  (∀ (s t : State) (tg : Int), exec (.die0Throttle tg) s = .next t →
      s.Changes [.intc]
       ([Fld.monThermDie0, Fld.monThermDie1, Fld.monThevThrottle, Fld.spkThermTemp] ++
        (List.range 16).flatMap (fun n => [Fld.engStatusThrottled n])) t) ∧
  (∀ (s t : State) (tg : Int), exec (.die0ThrottleEnd tg) s = .next t →
      s.Changes []
       ([Fld.monThermDie0, Fld.monThermDie1, Fld.spkThermTemp] ++
        (List.range 16).flatMap (fun n => [Fld.engStatusThrottled n])) t) ∧
  (∀ (s t : State) (tg : Int) (long : Bool), exec (.die0Shutdown tg long) s = .next t →
      s.Changes [.engs, .intc, .pwr]
       ([Fld.monThermDie0, Fld.monThermDie1, Fld.monThevShutdown, Fld.spkThermTemp] ++
        (List.range 16).flatMap (fun n => [Fld.engStatusState n])) t)

/-- What the commands of the host interfaces leave as it was, whenever they answer a next state: the queue; memory but the bytes
stored; every part of the device but those named; every bit of every register but those of the fields named. -/
def Obligations.HostCommandsFrame : Prop :=
  (∀ (s t : State) (adr : Fin 128) (reg : Nat), exec (.i2cSetPointer adr reg) s = .next t →
      s.Changes [.clk, .host, .intc, .pwr]
       ([Fld.pwrEventsDone, Fld.pwrEventsWake, Fld.pwrTxnBusy, Fld.pwrTxnPhase, Fld.pwrTxnResult, Fld.pwrWakesrcSrc] ++
        (List.range 2).flatMap (fun w => [Fld.pwrClkselPll w]) ++
        (List.range 3).flatMap (fun w => [Fld.whole (Reg.pwrState w), Fld.whole (Reg.pwrTarget w)]) ++
        violFields [7]) t) ∧
  (∀ (s t : State) (env : Env) (adr : Fin 128) (words : Nat), exec (.i2cRead env adr words) s = .next t →
    s.dev.clk.pend = false ∧ s.dev.pwr.staged = [] →
      s.Changes [.clk, .host, .intc, .memc, .pwr]
       ([Fld.intcStatusSpurious, Fld.memCelocLoc, Fld.memEcccntCe, Fld.memEcccntUe, Fld.memEventsCe, Fld.memEventsUe,
        Fld.memUelocLoc, Fld.pwrEventsDone, Fld.pwrEventsWake, Fld.pwrTxnBusy, Fld.pwrTxnPhase, Fld.pwrTxnResult,
        Fld.pwrWakesrcSrc, Fld.repEventsTileFail, Fld.repTilefailFailing, Fld.whole (Reg.memCeinfo), Fld.whole (Reg.memUeinfo)] ++
        (List.range 2).flatMap (fun w => [Fld.pwrClkselPll w]) ++
        (List.range 3).flatMap (fun w => [Fld.whole (Reg.pwrState w), Fld.whole (Reg.pwrTarget w)]) ++
        violFields [2, 4]) t) ∧
  (∀ (s t : State) (env : Env) (adr : List Byte) (words : Nat) (late : List Nat) (cut : Bool),
    exec (.spiRead env adr words late cut) s = .next t → s.dev.clk.pend = false ∧ s.dev.pwr.staged = [] →
      s.Changes [.host, .intc, .memc]
       ([Fld.hostifEventsSpiFrame, Fld.intcStatusSpurious, Fld.memCelocLoc, Fld.memEcccntCe, Fld.memEcccntUe, Fld.memEventsCe,
        Fld.memEventsUe, Fld.memUelocLoc, Fld.repEventsTileFail, Fld.repTilefailFailing, Fld.whole (Reg.memCeinfo),
        Fld.whole (Reg.memUeinfo)] ++
        violFields [2, 4, 8]) t) ∧
  (∀ (s t : State), exec (.i2cAbort) s = .next t →
      s.Changes [.intc]
       ([Fld.hostifEventsI2cAbort, Fld.hostifI2ccntAbort] ++
        violFields [7]) t) ∧
  (∀ (s t : State), exec (.i2cStuck) s = .next t →
      s.Changes [.intc]
       ([Fld.hostifEventsI2cStuck, Fld.hostifI2ccntStuck] ++
        violFields [7]) t) ∧
  (∀ (s t : State), exec (.spiStatus) s = .next t →
      s.Changes [.host]
       ([]) t) ∧
  (∀ (s t : State) (bytes : List Byte), exec (.qspiDone bytes) s = .next t →
      s.Changes [.intc]
       ([Fld.hostifEventsQspiDone, Fld.qspiCmdBusy] ++
        (List.range 64).flatMap (fun w => [Fld.whole (Reg.qspiData w)])) t) ∧
  (∀ (s t : State) (cmd : Nat), exec (.spiUnknownCommand cmd) s = .next t →
      s.Changes [.host, .intc]
       ([Fld.hostifEventsSpiFrame] ++
        violFields [8]) t) ∧
  (∀ (s t : State) (v : Word), exec (.qspiGo v) s = .next t → s.dev.hostReady = true ∧ s.dev.regUp (Reg.qspiCmd) = true →
      s.Changes []
       ([Fld.whole (Reg.qspiCmd)] ++
        violFields [0, 3]) t) ∧
  (∀ (s t : State) (env : Env) (adr : Fin 128) (reg : Nat) (bytes : List Byte), exec (.i2cWrite env adr reg bytes) s = .next t →
      t.pending = s.pending ∧ s.lockboxKept t) ∧
  (∀ (s t : State) (env : Env) (adr : List Byte) (bytes : List Byte) (cut : Bool),
    exec (.spiWrite env adr bytes cut) s = .next t →
      t.pending = s.pending ∧ s.lockboxKept t) ∧
  (∀ (s t : State), exec (.i2cStretchTimeout) s = .next t →
      t.pending = s.pending ∧ s.lockboxKept t) ∧
  (∀ (s t : State) (env : Env) (a : Nat) (v : Word), exec (.registerWrite env a v) s = .next t →
      t.pending = s.pending ∧ s.lockboxKept t) ∧
  (∀ (s t : State) (env : Env) (a : Nat) (v : Word), exec (.registerWrite env a v) s = .next t → s.dev.hostReady = true ∧
    a % 4 = 0 ∧ a < 0x600000 ∧ s.dev.bankOn (s.dev.region a) = true ∧ env.errs = [] →
      (∀ x, x < a ∨ a + 4 ≤ x → memGet t.mem x = memGet s.mem x) ∧ t.dev = s.dev ∧ t.pending = s.pending)

/-- R58: while a reseat is between its steps 1 and 7, a host's write to any CLK register is ignored and counts in category 14, or
in category 10 where R502 refuses it as well, the lower of the two (R535). -/
def Obligations.ClkWriteDuringReseatRefused : Prop :=
  ∀ (s : State) (env : Env) (a : Nat) (v : Word), s.dev.pwr.inReset = false → s.dev.accessEnded →
    s.dev.boot.everRun = true → s.dev.boot.reseat ≠ 0 → a / 0x10000 = 0x81 →
    exec (.registerWrite env a v) s =
      .next (s.on (·.viol (if s.dev.released && !s.dev.roleAccepts (a / 4 * 4) v then 10 else 14) .host (a / 4 * 4)))

/-- R64: in any state of the boot controller but RUNNING a live reload is refused with code BUSY. -/
def Obligations.LiveReloadOnlyWhenRunning : Prop :=
  ∀ s : State, s.dev.hostFree = true → s.dev.bootSt ≠ BootSt.running →
    ∃ t, exec .live s = .next t ∧ t.dev.get Fld.bootLivestatCode = Kp.busy ∧ t.dev.bootSt = s.dev.bootSt ∧
      t.dev.boot.load = s.dev.boot.load ∧ t.dev.boot.image = s.dev.boot.image ∧ t.dev.liveHeld = s.dev.liveHeld

/-- R254: thresholds that do not strictly ascend are stored each raised to one above the one below it, saturating at 255, and the
write counts in category 3; thresholds that ascend are stored as written. -/
def Obligations.ButtonThresholdsAscend : Prop :=
  ∀ (s : State) (h : Fin 2) (v : Word), s.dev.hostReady = true → s.dev.regUp (Reg.hsBtncfg h) = true →
    let up (below th : Nat) : Nat := if below < th then th else min 255 (below + 1)
    let t0 := (Fld.hsBtncfgTh0 h).of v
    let t1 := up t0 ((Fld.hsBtncfgTh1 h).of v)
    let t2 := up t1 ((Fld.hsBtncfgTh2 h).of v)
    let t3 := up t2 ((Fld.hsBtncfgTh3 h).of v)
    ∃ t, exec (.btncfgWrite h v) s = .next t ∧ t.dev.get (Fld.hsBtncfgTh0 h) = t0 ∧ t.dev.get (Fld.hsBtncfgTh1 h) = t1 ∧
      t.dev.get (Fld.hsBtncfgTh2 h) = t2 ∧ t.dev.get (Fld.hsBtncfgTh3 h) = t3 ∧
      t.dev.get (Fld.violCntCount 3) =
        (if (Fld.hsBtncfgTh0 h).of v < (Fld.hsBtncfgTh1 h).of v ∧ (Fld.hsBtncfgTh1 h).of v < (Fld.hsBtncfgTh2 h).of v ∧
            (Fld.hsBtncfgTh2 h).of v < (Fld.hsBtncfgTh3 h).of v then s.dev.get (Fld.violCntCount 3)
          else min (s.dev.get (Fld.violCntCount 3) + 1) 65535)

/-- R29: addresses that R27 does not list, and all from 0x01000000 up, are unmapped; a host reads 0 there, its write is ignored
and not counted, and a window of an engine or a channel that leads there gives a translation fault. -/
def Obligations.UnmappedAddresses : Prop :=
  (∀ (d : Dev) (a : Nat), ¬ (a < 0x610000 ∨ (0x800000 ≤ a ∧ a < 0x910000) ∨ (0xA00000 ≤ a ∧ a < 0xA10000)) →
    d.region a = .unmapped) ∧
  (∀ (s : State) (env : Env) (a : Nat) (v : Word), s.dev.region (a / 4 * 4) = .unmapped → s.dev.accessEnded →
    exec (.registerWrite env a v) s = .next s ∧ s.readWord env .host a = (s, 0)) ∧
  (∀ (d : Dev) (set j v n : Nat) (k : Access), (List.range 16).find? (d.winCovers set v) = some j →
    let w := (d.rd (Reg.winVa j set)).toNat
    let base := w / 256 * 256
    v + n ≤ base + 2 ^ (8 + bitsOf w 4 4) → k.permits w = true →
    d.region (((d.rd (Reg.winPa j set)).toNat / 256 * 256 + (v - base)) % 2 ^ 32) = .unmapped →
    d.translate set k v n = .translation)

/-- R502: in a package that is STANDBY or PAIRING a host's write outside the places it names is ignored and counts in category
10, where no lower category refuses it first (R535). -/
def Obligations.StandbyRefusesHostWrites : Prop :=
  ∀ (s : State) (env : Env) (a : Nat) (v : Word), s.dev.pwr.inReset = false → s.dev.accessEnded →
    s.dev.boot.everRun = true → a % 4 = 0 → isRegAddr a = true → s.dev.downHere a true = false → s.dev.released = true →
    s.dev.roleAccepts a v = false →
    exec (.registerWrite env a v) s = .next (s.on (·.viol 10 .host a))

/-- R49: before the first commit ends, a host's write to any block but HOSTIF and boot is ignored and counts in category 0 (the
registers of keyturn settings, whose own answer R526 gives, apart), and a read of a register returns its value. -/
def Obligations.WritesBeforeRunningRefused : Prop :=
  ∀ (s : State) (env : Env) (a : Nat) (v : Word), s.dev.boot.everRun = false → a % 4 = 0 →
    (s.dev.pwr.inReset = false → s.dev.accessEnded → s.dev.region a ≠ .unmapped →
      a / 0x10000 ≠ 0x8E → ktSetting a = none → exec (.registerWrite env a v) s = .next (s.on (·.viol 0 .host a))) ∧
    (isRegAddr a = true → s.dev.downHere a false = false → a / 0x10000 ≠ 0x83 →
      s.readWord env .host a = (s, s.dev.regRead a))

/-- R31, R402: a host's write to the lockbox is ignored and counts in category 2; while a wipe runs it is ignored uncounted; the
host reads 0 there. -/
def Obligations.LockboxClosedToHost : Prop :=
  ∀ (s : State) (env : Env) (a : Nat) (v : Word), s.dev.hostReady = true → a % 4 = 0 → 0x600000 ≤ a → a < 0x610000 →
    exec (.registerWrite env a v) s =
        .next (if s.dev.is Fld.lbxStatusWiping = true then s else s.on (·.viol 2 .host a)) ∧
      (s.readWord env .host a).2 = 0 ∧ (s.readWord env .host a).1.mem = s.mem

/-- R30: a host's access to a register or to memory whose domain is in retention or off is ignored on write, reads 0, and counts
in category 4. -/
def Obligations.DownDomainAccess : Prop :=
  ∀ (s : State) (env : Env) (a : Nat) (v : Word), s.dev.hostReady = true → a % 4 = 0 →
    ((∃ k, regDom a = some k ∧ s.dev.on k = false) ∨ (a < 0x600000 ∧ s.dev.bankOn (s.dev.region a) = false)) →
    exec (.registerWrite env a v) s = .next (s.on (·.viol 4 .host a)) ∧
      s.readWord env .host a = (s.on (·.viol 4 .host a), 0)

/-- R546: a host's write to a register of a domain that has been asked to quiesce waits until the quiesce has ended. -/
def Obligations.QuiescingDomainHoldsWrite : Prop :=
  ∀ (s : State) (env : Env) (a k : Nat) (v : Word), s.dev.pwr.inReset = false → s.dev.accessEnded →
    s.dev.boot.everRun = true → s.dev.released = false → s.dev.boot.reseat = 0 → s.dev.regUp a = true → regDom a = some k →
    s.dev.quiescing k = true →
    exec (.registerWrite env a v) s = .next (s.on (·.modPwr (fun p => { p with held := p.held ++ [(16, a, v)] })))

/-- R2, R32: what a host writes to memory it reads back, and the word lies in memory lowest byte first. -/
def Obligations.HostMemoryReadAfterWrite : Prop :=
  ∀ (s t : State) (env : Env) (a : Nat) (v : Word), s.dev.hostReady = true → a % 4 = 0 → a < 0x600000 →
    s.dev.bankOn (s.dev.region a) = true → env.errs = [] → exec (.registerWrite env a v) s = .next t →
    (t.readWord env .host a).2 = v ∧ ∀ i, i < 4 → memGet t.mem (a + i) = BitVec.ofNat 8 (v.toNat / 256 ^ i)

/-- R353: s0 reads 0 and p0 reads 0xFFFF, writes to them are discarded, and the fast class has its own s24 to s31. -/
def Obligations.EngineConstantRegisters : Prop :=
  ∀ (x : Eng) (fast : Bool) (v : Word) (m : Nat),
    x.readS fast 0 = 0 ∧ x.writeS fast 0 v = x ∧ x.readP 0 = 0xFFFF ∧ x.writeP 0 m = x ∧
    (∀ i j, i ≠ 0 → (x.writeS fast i v).readS fast j = if j = i then v else x.readS fast j) ∧
    (∀ i j, 24 ≤ i → (x.writeS fast i v).readS (!fast) j = x.readS (!fast) j) ∧
    (∀ i, i ≠ 0 → i < 24 → (x.writeS fast i v).readS (!fast) i = v)

/-- R446: a completion of 1023 is ignored; of an ID that is not ACTIVE at that target and class it is ignored and counts in
category 0; of one that is, the gateway completes. -/
def Obligations.InterruptCompletion : Prop :=
  ∀ (s : State) (tg : Fin 18) (fast : Bool) (id : Fin 1024),
    let a := if fast then Reg.intcTFclaim tg else Reg.intcTClaim tg
    s.dev.hostReady = true → s.dev.regUp a = true → (fast = true → (tg : Nat) < 16) →
    ((id : Nat) = 1023 → exec (.complete tg fast id) s = .next s) ∧
    ((id : Nat) ≠ 1023 → (∀ k, idKey tg id = some k → s.dev.activeAt tg fast k = false) →
      exec (.complete tg fast id) s = .next (s.on (·.viol 0 .host a))) ∧
    (∀ k, (id : Nat) ≠ 1023 → idKey tg id = some k → s.dev.activeAt tg fast k = true →
      ∃ t, exec (.complete tg fast id) s = .next t ∧ t.dev.gate k = (s.dev.gate k).complete ∧
        ∀ j, j ≠ k → t.dev.gate j = s.dev.gate j)

/-- R119: a staging write to a word that has an entry replaces its value in place, one that has none goes behind the others, and
one that would need a 257th entry is refused in category 6, the entries kept. -/
def Obligations.TumblerStaging : Prop :=
  ∀ (s : State) (a : Nat) (v : Word), s.dev.hostReady = true → s.dev.regUp a = true → rwtMask a ≠ 0 →
    s.dev.stageClosed .host = false → s.dev.secondWriter (s.dev.stageKey a) (s.dev.stageWord a v).1 = none →
    let key := s.dev.stageKey a
    let w := (s.dev.stageWord a v).1
    ((∃ e ∈ s.dev.key.entries, e.key = key) → ∃ t, exec (.tumblerStage a v) s = .next t ∧
      t.dev.key.entries = s.dev.key.entries.map (fun e => if e.key = key then ⟨key, w⟩ else e)) ∧
    ((∀ e ∈ s.dev.key.entries, e.key ≠ key) → s.dev.key.entries.length < 256 → ∃ t, exec (.tumblerStage a v) s = .next t ∧
      t.dev.key.entries = s.dev.key.entries ++ [⟨key, w⟩]) ∧
    ((∀ e ∈ s.dev.key.entries, e.key ≠ key) → 256 ≤ s.dev.key.entries.length →
      exec (.tumblerStage a v) s = .next (s.on (·.viol 6 .host a)))

/-- R108: in a pass, an enabled route copies its source sample whole to its sink (buses, whose sums a pass makes first, apart),
  and
a sink that no enabled route addresses receives 0. -/
def Obligations.RoutesCopySamples : Prop :=
  ∀ (d : Dev) (x : SMap Int),
    let rs := d.tickXps.enabledRoutes
    (∀ src sink, (src, sink) ∈ rs → (∀ r ∈ rs, r.2 = sink → r.1 = src) →
      (src < 768 ∨ 895 < src) → src ≠ 1023 → SMap.get 0 (d.mixPass x).key.sink sink = SMap.get 0 x src) ∧
    (∀ sink, (∀ r ∈ rs, r.2 ≠ sink) → SMap.get 0 (d.mixPass x).key.sink sink = 0)

/-- R537, R541: a violation adds 1 to its category's counter, which saturates at 65,535, and becomes the one that VIOL_LAST and
VIOL_LASTADDR describe; other counters stay; a host's write of any value clears a counter. -/
def Obligations.ViolationCounting : Prop :=
  (∀ (d : Dev) (cat addr : Nat) (ag : Agent), cat < 16 → addr < 2 ^ 32 →
    (d.viol cat ag addr).get (Fld.violCntCount cat) = min (d.get (Fld.violCntCount cat) + 1) 65535 ∧
    (d.viol cat ag addr).get Fld.violLastCategory = cat ∧ (d.viol cat ag addr).get Fld.violLastAgent = ag.code ∧
    (d.viol cat ag addr).get Fld.violLastaddrAddr = addr ∧
    ∀ c, c < 16 → c ≠ cat → (d.viol cat ag addr).get (Fld.violCntCount c) = d.get (Fld.violCntCount c)) ∧
  (∀ (s : State) (cat : Fin 16) (v : Word), s.dev.hostReady = true →
    ∃ t, exec (.violClear cat v) s = .next t ∧ t.dev.get (Fld.violCntCount cat) = 0)
end

