-- ==== Sys2Proof/Laws/SMap.lean ====
section
/-! SUPPORT. Laws of sparse maps: a read after a write, and the canonical form that every operation keeps. -/
namespace Sys2Proof.Machine

variable {α : Type}

theorem SMap.get_del_same (d : α) (m : SMap α) (k : Nat) : SMap.get d (SMap.del m k) k = d := by
  induction m with
  | nil => rfl
  | cons e m ih =>
    obtain ⟨k', v⟩ := e
    by_cases h : k' = k <;> simp_all [SMap.del, SMap.get]

theorem SMap.get_filter (d : α) (m : SMap α) (p : Nat → Bool) (k : Nat) :
    SMap.get d (m.filter (fun e => p e.1)) k = if p k then SMap.get d m k else d := by
  induction m with
  | nil => simp [SMap.get]
  | cons e m ih =>
    obtain ⟨k', v⟩ := e
    by_cases h : k' = k
    · subst h
      by_cases hp : p k' <;> simp_all [SMap.get]
    · by_cases hp : p k' <;> simp_all [SMap.get]

theorem SMap.get_del_ne (d : α) (m : SMap α) (k j : Nat) (h : j ≠ k) :
    SMap.get d (SMap.del m k) j = SMap.get d m j := by
  simpa [SMap.del, h] using SMap.get_filter d m (fun i => i != k) j

theorem SMap.get_ins_same (d : α) (m : SMap α) (k : Nat) (v : α) (h : ∀ e ∈ m, e.1 ≠ k) :
    SMap.get d (SMap.ins m k v) k = v := by
  induction m with
  | nil => simp [SMap.ins, SMap.get]
  | cons e m ih =>
    obtain ⟨k', v'⟩ := e
    have hk : k' ≠ k := h (k', v') (by simp)
    by_cases hlt : k < k'
    · simp [SMap.ins, hlt, SMap.get]
    · simp [SMap.ins, hlt, SMap.get, hk, ih (fun e he => h e (by simp [he]))]

theorem SMap.get_ins_ne (d : α) (m : SMap α) (k j : Nat) (v : α) (h : j ≠ k) :
    SMap.get d (SMap.ins m k v) j = SMap.get d m j := by
  induction m with
  | nil => simp [SMap.ins, SMap.get, h.symm]
  | cons e m ih =>
    obtain ⟨k', v'⟩ := e
    by_cases hlt : k < k'
    · simp [SMap.ins, hlt, SMap.get, h.symm]
    · by_cases hj : k' = j
      · subst hj; simp [SMap.ins, hlt, SMap.get]
      · simp [SMap.ins, hlt, SMap.get, hj, ih]

theorem SMap.not_mem_del (m : SMap α) (k : Nat) : ∀ e ∈ SMap.del m k, e.1 ≠ k := by
  intro e he
  simpa [SMap.del] using (List.mem_filter.mp he).2

variable [DecidableEq α]

/-- A read of the key written. -/
@[simp] theorem SMap.get_set_same (d : α) (m : SMap α) (k : Nat) (v : α) :
    SMap.get d (SMap.set d m k v) k = v := by
  unfold SMap.set
  split
  · next h => rw [SMap.get_del_same, h]
  · exact SMap.get_ins_same d _ k v (SMap.not_mem_del m k)

/-- A read of another key, whatever the default of the read. -/
theorem SMap.get_set_ne (d d' : α) (m : SMap α) (k j : Nat) (v : α) (h : j ≠ k) :
    SMap.get d (SMap.set d' m k v) j = SMap.get d m j := by
  unfold SMap.set
  split
  · exact SMap.get_del_ne d m k j h
  · rw [SMap.get_ins_ne d _ k j v h, SMap.get_del_ne d m k j h]

theorem SMap.above_mono (d : Nat → α) (m : SMap α) {b c : Nat} (h : b ≤ c) (hw : SMap.above d c m = true) :
    SMap.above d b m = true := by
  cases m with
  | nil => rfl
  | cons e m =>
    obtain ⟨k, v⟩ := e
    simp only [SMap.above, Bool.and_eq_true, decide_eq_true_eq] at hw ⊢
    exact ⟨⟨h.trans hw.1.1, hw.1.2⟩, hw.2⟩

theorem SMap.above_filter (d : Nat → α) (p : Nat × α → Bool) (m : SMap α) :
    ∀ b, SMap.above d b m = true → SMap.above d b (m.filter p) = true := by
  induction m with
  | nil => intro b h; exact h
  | cons e m ih =>
    obtain ⟨k, v⟩ := e
    intro b h
    simp only [SMap.above, Bool.and_eq_true, decide_eq_true_eq] at h
    by_cases hp : p (k, v)
    · simp only [List.filter_cons, hp, if_true, SMap.above, Bool.and_eq_true, decide_eq_true_eq]
      exact ⟨h.1, ih _ h.2⟩
    · simp only [List.filter_cons, hp]
      exact SMap.above_mono d _ (by omega) (ih _ h.2)

theorem SMap.above_ins (d : Nat → α) (m : SMap α) (k : Nat) (v : α) (hv : v ≠ d k) :
    ∀ b, b ≤ k → (∀ e ∈ m, e.1 ≠ k) → SMap.above d b m = true → SMap.above d b (SMap.ins m k v) = true := by
  induction m with
  | nil => intro b hb _ _; simp [SMap.ins, SMap.above, hb, hv]
  | cons e m ih =>
    obtain ⟨k', v'⟩ := e
    intro b hb hne h
    simp only [SMap.above, Bool.and_eq_true, decide_eq_true_eq] at h
    have hk : k' ≠ k := hne (k', v') (by simp)
    by_cases hlt : k < k'
    · simp only [SMap.ins, hlt, if_true, SMap.above, Bool.and_eq_true, decide_eq_true_eq]
      exact ⟨⟨hb, hv⟩, ⟨by omega, h.1.2⟩, h.2⟩
    · simp only [SMap.ins, hlt, if_false, SMap.above, Bool.and_eq_true, decide_eq_true_eq]
      exact ⟨h.1, ih _ (by omega) (fun e he => hne e (by simp [he])) h.2⟩

/-- Clearing entries keeps the canonical form. -/
theorem SMap.wf_filter (d : Nat → α) (p : Nat × α → Bool) (m : SMap α) (h : SMap.wf d m = true) :
    SMap.wf d (m.filter p) = true := SMap.above_filter d p m 0 h

/-- A write keeps the canonical form. -/
theorem SMap.wf_set (d : Nat → α) (m : SMap α) (k : Nat) (v : α) (h : SMap.wf d m = true) :
    SMap.wf d (SMap.set (d k) m k v) = true := by
  unfold SMap.set
  split
  · exact SMap.wf_filter d _ m h
  · next hv =>
    exact SMap.above_ins d _ k v hv 0 (Nat.zero_le k) (SMap.not_mem_del m k) (SMap.wf_filter d _ m h)

end Sys2Proof.Machine
end

