-- ==== Sys2Proof/Laws/Regs.lean ====
section
/-! SUPPORT. Laws of registers and their fields: a read after a write of a field, of a disjoint field and of another register. -/
namespace Sys2Proof.Machine

/-! ### Bit fields of numbers -/

/-- A number by the bits above a field, the field and the bits below it. -/
theorem split_bits (n lo w : Nat) : n = n / 2 ^ (lo + w) * 2 ^ (lo + w) + bitsOf n lo w * 2 ^ lo + n % 2 ^ lo := by
  have h1 := Nat.div_add_mod n (2 ^ lo)
  have h2 := Nat.div_add_mod (n / 2 ^ lo) (2 ^ w)
  rw [Nat.div_div_eq_div_mul] at h2
  unfold bitsOf
  rw [Nat.pow_add]
  calc n = 2 ^ lo * (n / 2 ^ lo) + n % 2 ^ lo := h1.symm
    _ = 2 ^ lo * (2 ^ w * (n / (2 ^ lo * 2 ^ w)) + n / 2 ^ lo % 2 ^ w) + n % 2 ^ lo := by rw [h2]
    _ = _ := by ring

/-- What writing a field leaves: the bits above, the new field and the bits below. -/
theorem setBits_eq (n lo w v : Nat) :
    setBits n lo w v = n / 2 ^ (lo + w) * 2 ^ (lo + w) + v % 2 ^ w * 2 ^ lo + n % 2 ^ lo := by
  have h := split_bits n lo w
  unfold setBits
  omega

theorem setBits_mod (n lo w v : Nat) : setBits n lo w v % 2 ^ lo = n % 2 ^ lo := by
  rw [setBits_eq, Nat.pow_add, show n / (2 ^ lo * 2 ^ w) * (2 ^ lo * 2 ^ w) + v % 2 ^ w * 2 ^ lo + n % 2 ^ lo =
    n % 2 ^ lo + 2 ^ lo * (n / (2 ^ lo * 2 ^ w) * 2 ^ w + v % 2 ^ w) by ring, Nat.add_mul_mod_self_left, Nat.mod_mod]

theorem setBits_div (n lo w v : Nat) : setBits n lo w v / 2 ^ lo = n / 2 ^ (lo + w) * 2 ^ w + v % 2 ^ w := by
  have hp : 0 < 2 ^ lo := Nat.pow_pos (by decide)
  rw [setBits_eq]
  have : n / 2 ^ (lo + w) * 2 ^ (lo + w) + v % 2 ^ w * 2 ^ lo + n % 2 ^ lo =
    n % 2 ^ lo + 2 ^ lo * (n / 2 ^ (lo + w) * 2 ^ w + v % 2 ^ w) := by rw [Nat.pow_add]; ring
  rw [this, Nat.add_mul_div_left _ _ hp, Nat.div_eq_of_lt (Nat.mod_lt _ hp), Nat.zero_add]

theorem setBits_high (n lo w v : Nat) : setBits n lo w v / 2 ^ (lo + w) = n / 2 ^ (lo + w) := by
  have hp : 0 < 2 ^ w := Nat.pow_pos (by decide)
  rw [Nat.pow_add, ← Nat.div_div_eq_div_mul, setBits_div, ← Nat.pow_add, Nat.add_comm, Nat.mul_comm,
    Nat.add_mul_div_left _ _ hp, Nat.div_eq_of_lt (Nat.mod_lt _ hp), Nat.zero_add]

/-- A field reads what was written to it. -/
theorem bitsOf_setBits_same (n lo w v : Nat) : bitsOf (setBits n lo w v) lo w = v % 2 ^ w := by
  have hp : 0 < 2 ^ w := Nat.pow_pos (by decide)
  unfold bitsOf
  rw [setBits_div, Nat.add_comm, Nat.add_mul_mod_self_right, Nat.mod_mod]

/-- A field below is untouched. -/
theorem bitsOf_setBits_low (n lo w v lo' w' : Nat) (h : lo' + w' ≤ lo) :
    bitsOf (setBits n lo w v) lo' w' = bitsOf n lo' w' := by
  have key (x : Nat) : x / 2 ^ lo' % 2 ^ w' = x % 2 ^ lo / 2 ^ lo' % 2 ^ w' := by
    obtain ⟨k, rfl⟩ := Nat.exists_eq_add_of_le h
    have hp : 0 < 2 ^ lo' := Nat.pow_pos (by decide)
    conv_lhs => rw [← Nat.div_add_mod x (2 ^ (lo' + w' + k))]
    rw [Nat.pow_add, Nat.pow_add, show 2 ^ lo' * 2 ^ w' * 2 ^ k * (x / (2 ^ lo' * 2 ^ w' * 2 ^ k)) +
      x % (2 ^ lo' * 2 ^ w' * 2 ^ k) = x % (2 ^ lo' * 2 ^ w' * 2 ^ k) +
        2 ^ lo' * (2 ^ w' * (2 ^ k * (x / (2 ^ lo' * 2 ^ w' * 2 ^ k)))) by ring, Nat.add_mul_div_left _ _ hp,
      Nat.add_mul_mod_self_left]
  unfold bitsOf
  rw [key, setBits_mod, ← key]

/-- A field above is untouched. -/
theorem bitsOf_setBits_high (n lo w v lo' w' : Nat) (h : lo + w ≤ lo') :
    bitsOf (setBits n lo w v) lo' w' = bitsOf n lo' w' := by
  obtain ⟨k, rfl⟩ := Nat.exists_eq_add_of_le h
  unfold bitsOf
  rw [Nat.pow_add 2 (lo + w) k, ← Nat.div_div_eq_div_mul, ← Nat.div_div_eq_div_mul, setBits_high]

theorem bitsOf_lt (n lo w : Nat) : bitsOf n lo w < 2 ^ w := Nat.mod_lt _ (Nat.pow_pos (by decide))

/-- A word stays a word. -/
theorem setBits_lt (n lo w v m : Nat) (h : lo + w ≤ m) (hn : n < 2 ^ m) : setBits n lo w v < 2 ^ m := by
  obtain ⟨k, rfl⟩ := Nat.exists_eq_add_of_le h
  have hq : setBits n lo w v / 2 ^ (lo + w) < 2 ^ k := by
    rw [setBits_high]
    exact Nat.div_lt_of_lt_mul (by rw [← Nat.pow_add]; exact hn)
  rw [Nat.pow_add]
  have hp : 0 < 2 ^ (lo + w) := Nat.pow_pos (by decide)
  exact (Nat.div_lt_iff_lt_mul hp).mp hq |>.trans_eq (Nat.mul_comm _ _)

/-! ### Fields of words -/

/-- The field lies within a word. -/
def Fld.fits (f : Fld) : Prop := f.lo ≤ f.hi ∧ f.hi < 32

theorem Fld.of_into (f : Fld) (w : Word) (v : Nat) (h : f.fits) : f.of (f.into w v) = v % 2 ^ f.width := by
  obtain ⟨h1, h2⟩ := h
  have hb : setBits w.toNat f.lo f.width v < 2 ^ 32 :=
    setBits_lt _ _ _ _ _ (by unfold Fld.width; omega) w.isLt
  simp only [Fld.of, Fld.into, BitVec.toNat_ofNat]
  rw [Nat.mod_eq_of_lt hb, bitsOf_setBits_same]

theorem Fld.of_into_disjoint (f g : Fld) (w : Word) (v : Nat) (hf : f.fits) (hd : g.hi < f.lo ∨ f.hi < g.lo) (hg : g.fits) :
    g.of (f.into w v) = g.of w := by
  obtain ⟨h1, h2⟩ := hf
  obtain ⟨h3, h4⟩ := hg
  have hb : setBits w.toNat f.lo f.width v < 2 ^ 32 :=
    setBits_lt _ _ _ _ _ (by unfold Fld.width; omega) w.isLt
  simp only [Fld.of, Fld.into, BitVec.toNat_ofNat]
  rw [Nat.mod_eq_of_lt hb]
  rcases hd with hd | hd
  · exact bitsOf_setBits_low _ _ _ _ _ _ (by unfold Fld.width; omega)
  · exact bitsOf_setBits_high _ _ _ _ _ _ (by unfold Fld.width; omega)

theorem Fld.of_lt (f : Fld) (w : Word) : f.of w < 2 ^ f.width := bitsOf_lt _ _ _

/-! ### Registers -/

@[simp] theorem Dev.rd_wr_same (d : Dev) (a : Nat) (w : Word) : (d.wr a w).rd a = w := by simp [Dev.rd, Dev.wr]

theorem Dev.rd_wr_ne (d : Dev) (a b : Nat) (w : Word) (h : b ≠ a) : (d.wr a w).rd b = d.rd b := by
  simp [Dev.rd, Dev.wr, SMap.get_set_ne _ _ _ _ _ _ h]

/-- A register after a write of some register. -/
theorem Dev.rd_wr (d : Dev) (a b : Nat) (w : Word) : (d.wr a w).rd b = if b = a then w else d.rd b := by
  split
  · next h => subst h; simp
  · next h => exact Dev.rd_wr_ne d a b w h

theorem Dev.rd_put_ne (d : Dev) (f : Fld) (v b : Nat) (h : b ≠ f.addr) : (d.put f v).rd b = d.rd b :=
  Dev.rd_wr_ne d f.addr b _ h

/-- A field reads what was written to it. -/
theorem Dev.get_put_same (d : Dev) (f : Fld) (v : Nat) (h : f.fits) : (d.put f v).get f = v % 2 ^ f.width := by
  simp only [Dev.get, Dev.put, Dev.rd_wr_same]
  exact Fld.of_into f _ v h

/-- A field of another register is untouched. -/
theorem Dev.get_put_ne (d : Dev) (f g : Fld) (v : Nat) (h : g.addr ≠ f.addr) : (d.put f v).get g = d.get g := by
  simp [Dev.get, Dev.rd_put_ne d f v g.addr h]

/-- A disjoint field of the same register is untouched. -/
theorem Dev.get_put_disjoint (d : Dev) (f g : Fld) (v : Nat) (ha : g.addr = f.addr) (hf : f.fits) (hg : g.fits)
    (hd : g.hi < f.lo ∨ f.hi < g.lo) : (d.put f v).get g = d.get g := by
  simp only [Dev.get, Dev.put, ha, Dev.rd_wr_same]
  exact Fld.of_into_disjoint f g _ v hf hd hg

theorem Dev.get_lt (d : Dev) (f : Fld) : d.get f < 2 ^ f.width := Fld.of_lt f _

theorem Dev.get_wr_ne (d : Dev) (a : Nat) (w : Word) (g : Fld) (h : g.addr ≠ a) : (d.wr a w).get g = d.get g := by
  simp [Dev.get, Dev.rd_wr_ne d a g.addr w h]

theorem Dev.get_wr_same (d : Dev) (w : Word) (g : Fld) : (d.wr g.addr w).get g = g.of w := by simp [Dev.get]

end Sys2Proof.Machine
end

