-- ==== Sys2Proof/Laws/State.lean ====
section
/-! SUPPORT. What the basic updates of the device leave alone, field by field, and what they do to a register. -/
namespace Sys2Proof.Machine

/-! ### Updates of registers -/

@[simp] theorem Dev.wr_keeps (d : Dev) (a : Nat) (w : Word) :
    (d.wr a w).intc = d.intc ∧
    (d.wr a w).boot = d.boot ∧
    (d.wr a w).clk = d.clk ∧
    (d.wr a w).key = d.key ∧
    (d.wr a w).inp = d.inp ∧
    (d.wr a w).outs = d.outs ∧
    (d.wr a w).hs = d.hs ∧
    (d.wr a w).ser = d.ser ∧
    (d.wr a w).usb = d.usb ∧
    (d.wr a w).engs = d.engs ∧
    (d.wr a w).memc = d.memc ∧
    (d.wr a w).chans = d.chans ∧
    (d.wr a w).link = d.link ∧
    (d.wr a w).hinge = d.hinge ∧
    (d.wr a w).kt = d.kt ∧
    (d.wr a w).pwr = d.pwr ∧
    (d.wr a w).host = d.host ∧
    (d.wr a w).pins = d.pins ∧
    (d.wr a w).free = d.free :=
  ⟨rfl, rfl, rfl, rfl, rfl, rfl, rfl, rfl, rfl, rfl, rfl, rfl, rfl, rfl, rfl, rfl, rfl, rfl, rfl⟩

@[simp] theorem Dev.put_keeps (d : Dev) (f : Fld) (v : Nat) :
    (d.put f v).intc = d.intc ∧
    (d.put f v).boot = d.boot ∧
    (d.put f v).clk = d.clk ∧
    (d.put f v).key = d.key ∧
    (d.put f v).inp = d.inp ∧
    (d.put f v).outs = d.outs ∧
    (d.put f v).hs = d.hs ∧
    (d.put f v).ser = d.ser ∧
    (d.put f v).usb = d.usb ∧
    (d.put f v).engs = d.engs ∧
    (d.put f v).memc = d.memc ∧
    (d.put f v).chans = d.chans ∧
    (d.put f v).link = d.link ∧
    (d.put f v).hinge = d.hinge ∧
    (d.put f v).kt = d.kt ∧
    (d.put f v).pwr = d.pwr ∧
    (d.put f v).host = d.host ∧
    (d.put f v).pins = d.pins ∧
    (d.put f v).free = d.free := Dev.wr_keeps d _ _

@[simp] theorem Dev.flag_keeps (d : Dev) (f : Fld) (b : Bool) :
    (d.flag f b).intc = d.intc ∧
    (d.flag f b).boot = d.boot ∧
    (d.flag f b).clk = d.clk ∧
    (d.flag f b).key = d.key ∧
    (d.flag f b).inp = d.inp ∧
    (d.flag f b).outs = d.outs ∧
    (d.flag f b).hs = d.hs ∧
    (d.flag f b).ser = d.ser ∧
    (d.flag f b).usb = d.usb ∧
    (d.flag f b).engs = d.engs ∧
    (d.flag f b).memc = d.memc ∧
    (d.flag f b).chans = d.chans ∧
    (d.flag f b).link = d.link ∧
    (d.flag f b).hinge = d.hinge ∧
    (d.flag f b).kt = d.kt ∧
    (d.flag f b).pwr = d.pwr ∧
    (d.flag f b).host = d.host ∧
    (d.flag f b).pins = d.pins ∧
    (d.flag f b).free = d.free := Dev.put_keeps d _ _

@[simp] theorem Dev.setBit_keeps (d : Dev) (f : Fld) (i : Nat) :
    (d.setBit f i).intc = d.intc ∧
    (d.setBit f i).boot = d.boot ∧
    (d.setBit f i).clk = d.clk ∧
    (d.setBit f i).key = d.key ∧
    (d.setBit f i).inp = d.inp ∧
    (d.setBit f i).outs = d.outs ∧
    (d.setBit f i).hs = d.hs ∧
    (d.setBit f i).ser = d.ser ∧
    (d.setBit f i).usb = d.usb ∧
    (d.setBit f i).engs = d.engs ∧
    (d.setBit f i).memc = d.memc ∧
    (d.setBit f i).chans = d.chans ∧
    (d.setBit f i).link = d.link ∧
    (d.setBit f i).hinge = d.hinge ∧
    (d.setBit f i).kt = d.kt ∧
    (d.setBit f i).pwr = d.pwr ∧
    (d.setBit f i).host = d.host ∧
    (d.setBit f i).pins = d.pins ∧
    (d.setBit f i).free = d.free := Dev.put_keeps d _ _

@[simp] theorem Dev.dropBit_keeps (d : Dev) (f : Fld) (i : Nat) :
    (d.dropBit f i).intc = d.intc ∧
    (d.dropBit f i).boot = d.boot ∧
    (d.dropBit f i).clk = d.clk ∧
    (d.dropBit f i).key = d.key ∧
    (d.dropBit f i).inp = d.inp ∧
    (d.dropBit f i).outs = d.outs ∧
    (d.dropBit f i).hs = d.hs ∧
    (d.dropBit f i).ser = d.ser ∧
    (d.dropBit f i).usb = d.usb ∧
    (d.dropBit f i).engs = d.engs ∧
    (d.dropBit f i).memc = d.memc ∧
    (d.dropBit f i).chans = d.chans ∧
    (d.dropBit f i).link = d.link ∧
    (d.dropBit f i).hinge = d.hinge ∧
    (d.dropBit f i).kt = d.kt ∧
    (d.dropBit f i).pwr = d.pwr ∧
    (d.dropBit f i).host = d.host ∧
    (d.dropBit f i).pins = d.pins ∧
    (d.dropBit f i).free = d.free := Dev.put_keeps d _ _

@[simp] theorem Dev.addSat_keeps (d : Dev) (f : Fld) (n : Nat) :
    (d.addSat f n).intc = d.intc ∧
    (d.addSat f n).boot = d.boot ∧
    (d.addSat f n).clk = d.clk ∧
    (d.addSat f n).key = d.key ∧
    (d.addSat f n).inp = d.inp ∧
    (d.addSat f n).outs = d.outs ∧
    (d.addSat f n).hs = d.hs ∧
    (d.addSat f n).ser = d.ser ∧
    (d.addSat f n).usb = d.usb ∧
    (d.addSat f n).engs = d.engs ∧
    (d.addSat f n).memc = d.memc ∧
    (d.addSat f n).chans = d.chans ∧
    (d.addSat f n).link = d.link ∧
    (d.addSat f n).hinge = d.hinge ∧
    (d.addSat f n).kt = d.kt ∧
    (d.addSat f n).pwr = d.pwr ∧
    (d.addSat f n).host = d.host ∧
    (d.addSat f n).pins = d.pins ∧
    (d.addSat f n).free = d.free := Dev.put_keeps d _ _

@[simp] theorem Dev.inc_keeps (d : Dev) (f : Fld) :
    (d.inc f).intc = d.intc ∧
    (d.inc f).boot = d.boot ∧
    (d.inc f).clk = d.clk ∧
    (d.inc f).key = d.key ∧
    (d.inc f).inp = d.inp ∧
    (d.inc f).outs = d.outs ∧
    (d.inc f).hs = d.hs ∧
    (d.inc f).ser = d.ser ∧
    (d.inc f).usb = d.usb ∧
    (d.inc f).engs = d.engs ∧
    (d.inc f).memc = d.memc ∧
    (d.inc f).chans = d.chans ∧
    (d.inc f).link = d.link ∧
    (d.inc f).hinge = d.hinge ∧
    (d.inc f).kt = d.kt ∧
    (d.inc f).pwr = d.pwr ∧
    (d.inc f).host = d.host ∧
    (d.inc f).pins = d.pins ∧
    (d.inc f).free = d.free := Dev.addSat_keeps d f 1

@[simp] theorem Dev.incWrap_keeps (d : Dev) (f : Fld) :
    (d.incWrap f).intc = d.intc ∧
    (d.incWrap f).boot = d.boot ∧
    (d.incWrap f).clk = d.clk ∧
    (d.incWrap f).key = d.key ∧
    (d.incWrap f).inp = d.inp ∧
    (d.incWrap f).outs = d.outs ∧
    (d.incWrap f).hs = d.hs ∧
    (d.incWrap f).ser = d.ser ∧
    (d.incWrap f).usb = d.usb ∧
    (d.incWrap f).engs = d.engs ∧
    (d.incWrap f).memc = d.memc ∧
    (d.incWrap f).chans = d.chans ∧
    (d.incWrap f).link = d.link ∧
    (d.incWrap f).hinge = d.hinge ∧
    (d.incWrap f).kt = d.kt ∧
    (d.incWrap f).pwr = d.pwr ∧
    (d.incWrap f).host = d.host ∧
    (d.incWrap f).pins = d.pins ∧
    (d.incWrap f).free = d.free := Dev.put_keeps d _ _

@[simp] theorem Dev.violN_keeps (d : Dev) (n c : Nat) (g : Agent) (a : Nat) :
    (d.violN n c g a).intc = d.intc ∧
    (d.violN n c g a).boot = d.boot ∧
    (d.violN n c g a).clk = d.clk ∧
    (d.violN n c g a).key = d.key ∧
    (d.violN n c g a).inp = d.inp ∧
    (d.violN n c g a).outs = d.outs ∧
    (d.violN n c g a).hs = d.hs ∧
    (d.violN n c g a).ser = d.ser ∧
    (d.violN n c g a).usb = d.usb ∧
    (d.violN n c g a).engs = d.engs ∧
    (d.violN n c g a).memc = d.memc ∧
    (d.violN n c g a).chans = d.chans ∧
    (d.violN n c g a).link = d.link ∧
    (d.violN n c g a).hinge = d.hinge ∧
    (d.violN n c g a).kt = d.kt ∧
    (d.violN n c g a).pwr = d.pwr ∧
    (d.violN n c g a).host = d.host ∧
    (d.violN n c g a).pins = d.pins ∧
    (d.violN n c g a).free = d.free := by
  simp [Dev.violN]

@[simp] theorem Dev.viol_keeps (d : Dev) (c : Nat) (g : Agent) (a : Nat) :
    (d.viol c g a).intc = d.intc ∧
    (d.viol c g a).boot = d.boot ∧
    (d.viol c g a).clk = d.clk ∧
    (d.viol c g a).key = d.key ∧
    (d.viol c g a).inp = d.inp ∧
    (d.viol c g a).outs = d.outs ∧
    (d.viol c g a).hs = d.hs ∧
    (d.viol c g a).ser = d.ser ∧
    (d.viol c g a).usb = d.usb ∧
    (d.viol c g a).engs = d.engs ∧
    (d.viol c g a).memc = d.memc ∧
    (d.viol c g a).chans = d.chans ∧
    (d.viol c g a).link = d.link ∧
    (d.viol c g a).hinge = d.hinge ∧
    (d.viol c g a).kt = d.kt ∧
    (d.viol c g a).pwr = d.pwr ∧
    (d.viol c g a).host = d.host ∧
    (d.viol c g a).pins = d.pins ∧
    (d.viol c g a).free = d.free := Dev.violN_keeps d 1 c g a

@[simp] theorem Dev.setDom_keeps (d : Dev) (k v : Nat) :
    (d.setDom k v).intc = d.intc ∧
    (d.setDom k v).boot = d.boot ∧
    (d.setDom k v).clk = d.clk ∧
    (d.setDom k v).key = d.key ∧
    (d.setDom k v).inp = d.inp ∧
    (d.setDom k v).outs = d.outs ∧
    (d.setDom k v).hs = d.hs ∧
    (d.setDom k v).ser = d.ser ∧
    (d.setDom k v).usb = d.usb ∧
    (d.setDom k v).engs = d.engs ∧
    (d.setDom k v).memc = d.memc ∧
    (d.setDom k v).chans = d.chans ∧
    (d.setDom k v).link = d.link ∧
    (d.setDom k v).hinge = d.hinge ∧
    (d.setDom k v).kt = d.kt ∧
    (d.setDom k v).pwr = d.pwr ∧
    (d.setDom k v).host = d.host ∧
    (d.setDom k v).pins = d.pins ∧
    (d.setDom k v).free = d.free := Dev.wr_keeps d _ _

@[simp] theorem Dev.dropRegs_keeps (d : Dev) (p : Nat → Bool) :
    (d.dropRegs p).intc = d.intc ∧
    (d.dropRegs p).boot = d.boot ∧
    (d.dropRegs p).clk = d.clk ∧
    (d.dropRegs p).key = d.key ∧
    (d.dropRegs p).inp = d.inp ∧
    (d.dropRegs p).outs = d.outs ∧
    (d.dropRegs p).hs = d.hs ∧
    (d.dropRegs p).ser = d.ser ∧
    (d.dropRegs p).usb = d.usb ∧
    (d.dropRegs p).engs = d.engs ∧
    (d.dropRegs p).memc = d.memc ∧
    (d.dropRegs p).chans = d.chans ∧
    (d.dropRegs p).link = d.link ∧
    (d.dropRegs p).hinge = d.hinge ∧
    (d.dropRegs p).kt = d.kt ∧
    (d.dropRegs p).pwr = d.pwr ∧
    (d.dropRegs p).host = d.host ∧
    (d.dropRegs p).pins = d.pins ∧
    (d.dropRegs p).free = d.free :=
  ⟨rfl, rfl, rfl, rfl, rfl, rfl, rfl, rfl, rfl, rfl, rfl, rfl, rfl, rfl, rfl, rfl, rfl, rfl, rfl⟩

@[simp] theorem Dev.clrRegs_keeps (d : Dev) (l : List Nat) :
    (d.clrRegs l).intc = d.intc ∧
    (d.clrRegs l).boot = d.boot ∧
    (d.clrRegs l).clk = d.clk ∧
    (d.clrRegs l).key = d.key ∧
    (d.clrRegs l).inp = d.inp ∧
    (d.clrRegs l).outs = d.outs ∧
    (d.clrRegs l).hs = d.hs ∧
    (d.clrRegs l).ser = d.ser ∧
    (d.clrRegs l).usb = d.usb ∧
    (d.clrRegs l).engs = d.engs ∧
    (d.clrRegs l).memc = d.memc ∧
    (d.clrRegs l).chans = d.chans ∧
    (d.clrRegs l).link = d.link ∧
    (d.clrRegs l).hinge = d.hinge ∧
    (d.clrRegs l).kt = d.kt ∧
    (d.clrRegs l).pwr = d.pwr ∧
    (d.clrRegs l).host = d.host ∧
    (d.clrRegs l).pins = d.pins ∧
    (d.clrRegs l).free = d.free :=
  ⟨rfl, rfl, rfl, rfl, rfl, rfl, rfl, rfl, rfl, rfl, rfl, rfl, rfl, rfl, rfl, rfl, rfl, rfl, rfl⟩

@[simp] theorem Dev.putBit_keeps (d : Dev) (f : Fld) (i : Nat) (b : Bool) :
    (d.putBit f i b).intc = d.intc ∧
    (d.putBit f i b).boot = d.boot ∧
    (d.putBit f i b).clk = d.clk ∧
    (d.putBit f i b).key = d.key ∧
    (d.putBit f i b).inp = d.inp ∧
    (d.putBit f i b).outs = d.outs ∧
    (d.putBit f i b).hs = d.hs ∧
    (d.putBit f i b).ser = d.ser ∧
    (d.putBit f i b).usb = d.usb ∧
    (d.putBit f i b).engs = d.engs ∧
    (d.putBit f i b).memc = d.memc ∧
    (d.putBit f i b).chans = d.chans ∧
    (d.putBit f i b).link = d.link ∧
    (d.putBit f i b).hinge = d.hinge ∧
    (d.putBit f i b).kt = d.kt ∧
    (d.putBit f i b).pwr = d.pwr ∧
    (d.putBit f i b).host = d.host ∧
    (d.putBit f i b).pins = d.pins ∧
    (d.putBit f i b).free = d.free := by
  cases b <;> exact ⟨rfl, rfl, rfl, rfl, rfl, rfl, rfl, rfl, rfl, rfl, rfl, rfl, rfl, rfl, rfl, rfl, rfl, rfl, rfl⟩

/-! ### Updates of gates -/

@[simp] theorem Dev.setGate_keeps (d : Dev) (k : Nat) (g : Gate) :
    (d.setGate k g).regs = d.regs ∧
    (d.setGate k g).boot = d.boot ∧
    (d.setGate k g).clk = d.clk ∧
    (d.setGate k g).key = d.key ∧
    (d.setGate k g).inp = d.inp ∧
    (d.setGate k g).outs = d.outs ∧
    (d.setGate k g).hs = d.hs ∧
    (d.setGate k g).ser = d.ser ∧
    (d.setGate k g).usb = d.usb ∧
    (d.setGate k g).engs = d.engs ∧
    (d.setGate k g).memc = d.memc ∧
    (d.setGate k g).chans = d.chans ∧
    (d.setGate k g).link = d.link ∧
    (d.setGate k g).hinge = d.hinge ∧
    (d.setGate k g).kt = d.kt ∧
    (d.setGate k g).pwr = d.pwr ∧
    (d.setGate k g).host = d.host ∧
    (d.setGate k g).pins = d.pins ∧
    (d.setGate k g).free = d.free :=
  ⟨rfl, rfl, rfl, rfl, rfl, rfl, rfl, rfl, rfl, rfl, rfl, rfl, rfl, rfl, rfl, rfl, rfl, rfl, rfl⟩

@[simp] theorem Dev.srcEvent_keeps (d : Dev) (k : Nat) :
    (d.srcEvent k).regs = d.regs ∧
    (d.srcEvent k).boot = d.boot ∧
    (d.srcEvent k).clk = d.clk ∧
    (d.srcEvent k).key = d.key ∧
    (d.srcEvent k).inp = d.inp ∧
    (d.srcEvent k).outs = d.outs ∧
    (d.srcEvent k).hs = d.hs ∧
    (d.srcEvent k).ser = d.ser ∧
    (d.srcEvent k).usb = d.usb ∧
    (d.srcEvent k).engs = d.engs ∧
    (d.srcEvent k).memc = d.memc ∧
    (d.srcEvent k).chans = d.chans ∧
    (d.srcEvent k).link = d.link ∧
    (d.srcEvent k).hinge = d.hinge ∧
    (d.srcEvent k).kt = d.kt ∧
    (d.srcEvent k).pwr = d.pwr ∧
    (d.srcEvent k).host = d.host ∧
    (d.srcEvent k).pins = d.pins ∧
    (d.srcEvent k).free = d.free := by
  unfold Dev.srcEvent
  split <;> exact ⟨rfl, rfl, rfl, rfl, rfl, rfl, rfl, rfl, rfl, rfl, rfl, rfl, rfl, rfl, rfl, rfl, rfl, rfl, rfl⟩

@[simp] theorem Dev.happenBit_keeps (d : Dev) (a b : Nat) :
    (d.happenBit a b).boot = d.boot ∧
    (d.happenBit a b).clk = d.clk ∧
    (d.happenBit a b).key = d.key ∧
    (d.happenBit a b).inp = d.inp ∧
    (d.happenBit a b).outs = d.outs ∧
    (d.happenBit a b).hs = d.hs ∧
    (d.happenBit a b).ser = d.ser ∧
    (d.happenBit a b).usb = d.usb ∧
    (d.happenBit a b).engs = d.engs ∧
    (d.happenBit a b).memc = d.memc ∧
    (d.happenBit a b).chans = d.chans ∧
    (d.happenBit a b).link = d.link ∧
    (d.happenBit a b).hinge = d.hinge ∧
    (d.happenBit a b).kt = d.kt ∧
    (d.happenBit a b).pwr = d.pwr ∧
    (d.happenBit a b).host = d.host ∧
    (d.happenBit a b).pins = d.pins ∧
    (d.happenBit a b).free = d.free := by
  unfold Dev.happenBit
  split <;> simp

@[simp] theorem Dev.happen_keeps (d : Dev) (f : Fld) :
    (d.happen f).boot = d.boot ∧
    (d.happen f).clk = d.clk ∧
    (d.happen f).key = d.key ∧
    (d.happen f).inp = d.inp ∧
    (d.happen f).outs = d.outs ∧
    (d.happen f).hs = d.hs ∧
    (d.happen f).ser = d.ser ∧
    (d.happen f).usb = d.usb ∧
    (d.happen f).engs = d.engs ∧
    (d.happen f).memc = d.memc ∧
    (d.happen f).chans = d.chans ∧
    (d.happen f).link = d.link ∧
    (d.happen f).hinge = d.hinge ∧
    (d.happen f).kt = d.kt ∧
    (d.happen f).pwr = d.pwr ∧
    (d.happen f).host = d.host ∧
    (d.happen f).pins = d.pins ∧
    (d.happen f).free = d.free :=
  Dev.happenBit_keeps d f.addr f.lo

@[simp] theorem Dev.happenAt_keeps (d : Dev) (f : Fld) (i : Nat) :
    (d.happenAt f i).boot = d.boot ∧
    (d.happenAt f i).clk = d.clk ∧
    (d.happenAt f i).key = d.key ∧
    (d.happenAt f i).inp = d.inp ∧
    (d.happenAt f i).outs = d.outs ∧
    (d.happenAt f i).hs = d.hs ∧
    (d.happenAt f i).ser = d.ser ∧
    (d.happenAt f i).usb = d.usb ∧
    (d.happenAt f i).engs = d.engs ∧
    (d.happenAt f i).memc = d.memc ∧
    (d.happenAt f i).chans = d.chans ∧
    (d.happenAt f i).link = d.link ∧
    (d.happenAt f i).hinge = d.hinge ∧
    (d.happenAt f i).kt = d.kt ∧
    (d.happenAt f i).pwr = d.pwr ∧
    (d.happenAt f i).host = d.host ∧
    (d.happenAt f i).pins = d.pins ∧
    (d.happenAt f i).free = d.free :=
  Dev.happenBit_keeps d f.addr (f.lo + i)

/-! ### Folds -/

/-- What every step of a fold keeps, the fold keeps. -/
theorem Dev.each_keeps {α β : Type} (g : Dev → β) (f : Dev → α → Dev) (h : ∀ d x, g (f d x) = g d) (l : List α) :
    ∀ d : Dev, g (d.each l f) = g d := by
  induction l with
  | nil => intro d; rfl
  | cons x l ih => intro d; exact (ih (f d x)).trans (h d x)

/-- What every step of a fold preserves, the fold preserves. -/
theorem Dev.each_induct {α : Type} (P : Dev → Prop) (f : Dev → α → Dev) (h : ∀ d x, P d → P (f d x)) (l : List α) :
    ∀ d : Dev, P d → P (d.each l f) := by
  induction l with
  | nil => intro d hd; exact hd
  | cons x l ih => intro d hd; exact ih _ (h d x hd)

theorem Dev.settle_only (d : Dev) (ids : List Nat) : ∃ i, d.settle ids = { d with intc := i } := by
  unfold Dev.settle
  exact Dev.each_induct (fun t => ∃ i, t = { d with intc := i }) _ (by
    rintro t x ⟨i, rfl⟩
    split
    · exact ⟨_, rfl⟩
    · exact ⟨i, rfl⟩) ids d ⟨d.intc, rfl⟩

@[simp] theorem Dev.settle_keeps (d : Dev) (ids : List Nat) :
    (d.settle ids).regs = d.regs ∧
    (d.settle ids).boot = d.boot ∧
    (d.settle ids).clk = d.clk ∧
    (d.settle ids).key = d.key ∧
    (d.settle ids).inp = d.inp ∧
    (d.settle ids).outs = d.outs ∧
    (d.settle ids).hs = d.hs ∧
    (d.settle ids).ser = d.ser ∧
    (d.settle ids).usb = d.usb ∧
    (d.settle ids).engs = d.engs ∧
    (d.settle ids).memc = d.memc ∧
    (d.settle ids).chans = d.chans ∧
    (d.settle ids).link = d.link ∧
    (d.settle ids).hinge = d.hinge ∧
    (d.settle ids).kt = d.kt ∧
    (d.settle ids).pwr = d.pwr ∧
    (d.settle ids).host = d.host ∧
    (d.settle ids).pins = d.pins ∧
    (d.settle ids).free = d.free := by
  obtain ⟨i, h⟩ := Dev.settle_only d ids
  rw [h]
  exact ⟨rfl, rfl, rfl, rfl, rfl, rfl, rfl, rfl, rfl, rfl, rfl, rfl, rfl, rfl, rfl, rfl, rfl, rfl, rfl⟩

@[simp] theorem Dev.w1c_keeps (d : Dev) (a m : Nat) (v : Word) :
    (d.w1c a m v).boot = d.boot ∧
    (d.w1c a m v).clk = d.clk ∧
    (d.w1c a m v).key = d.key ∧
    (d.w1c a m v).inp = d.inp ∧
    (d.w1c a m v).outs = d.outs ∧
    (d.w1c a m v).hs = d.hs ∧
    (d.w1c a m v).ser = d.ser ∧
    (d.w1c a m v).usb = d.usb ∧
    (d.w1c a m v).engs = d.engs ∧
    (d.w1c a m v).memc = d.memc ∧
    (d.w1c a m v).chans = d.chans ∧
    (d.w1c a m v).link = d.link ∧
    (d.w1c a m v).hinge = d.hinge ∧
    (d.w1c a m v).kt = d.kt ∧
    (d.w1c a m v).pwr = d.pwr ∧
    (d.w1c a m v).host = d.host ∧
    (d.w1c a m v).pins = d.pins ∧
    (d.w1c a m v).free = d.free := by
  simp [Dev.w1c]

/-! ### Registers after an event -/

theorem Dev.rd_of_regs {d t : Dev} (h : t.regs = d.regs) (a : Nat) : t.rd a = d.rd a := by simp [Dev.rd, h]

theorem Dev.rd_happenBit (d : Dev) (a b c : Nat) :
    (d.happenBit a b).rd c = if c = a then BitVec.ofNat 32 (orBit (d.rd a).toNat b) else d.rd c := by
  have h : (d.happenBit a b).rd c = (d.wr a (BitVec.ofNat 32 (orBit (d.rd a).toNat b))).rd c := by
    unfold Dev.happenBit
    dsimp only
    split
    · exact Dev.rd_of_regs (by simp) c
    · rfl
  rw [h, Dev.rd_wr]

theorem Dev.rd_happen_ne (d : Dev) (f : Fld) (c : Nat) (h : c ≠ f.addr) : (d.happen f).rd c = d.rd c := by
  rw [Dev.happen, Dev.rd_happenBit, if_neg h]

theorem Dev.rd_happenAt_ne (d : Dev) (f : Fld) (i c : Nat) (h : c ≠ f.addr) : (d.happenAt f i).rd c = d.rd c := by
  rw [Dev.happenAt, Dev.rd_happenBit, if_neg h]

theorem Dev.get_happen_ne (d : Dev) (f g : Fld) (h : g.addr ≠ f.addr) : (d.happen f).get g = d.get g := by
  simp [Dev.get, Dev.rd_happen_ne d f g.addr h]

theorem Dev.get_happenAt_ne (d : Dev) (f g : Fld) (i : Nat) (h : g.addr ≠ f.addr) : (d.happenAt f i).get g = d.get g := by
  simp [Dev.get, Dev.rd_happenAt_ne d f i g.addr h]

theorem Dev.rd_viol_ne (d : Dev) (c : Nat) (g : Agent) (x a : Nat) (h1 : a ≠ Reg.violCnt c) (h2 : a ≠ Reg.violLast)
    (h3 : a ≠ Reg.violLastaddr) : (d.viol c g x).rd a = d.rd a := by
  have e1 : (Fld.violCntCount c).addr = Reg.violCnt c := rfl
  have e2 : Fld.violLastCategory.addr = Reg.violLast := rfl
  have e3 : Fld.violLastAgent.addr = Reg.violLast := rfl
  have e4 : Fld.violLastaddrAddr.addr = Reg.violLastaddr := rfl
  unfold Dev.viol Dev.violN Dev.addSat
  rw [Dev.rd_put_ne _ _ _ _ (e4 ▸ h3), Dev.rd_put_ne _ _ _ _ (e3 ▸ h2), Dev.rd_put_ne _ _ _ _ (e2 ▸ h2),
    Dev.rd_put_ne _ _ _ _ (e1 ▸ h1)]

theorem orBit_testBit (n i : Nat) : bitOf (orBit n i) i = true := by
  unfold orBit
  split
  · assumption
  · next h =>
    have hp : 0 < 2 ^ i := Nat.pow_pos (by decide)
    have h0 : n / 2 ^ i % 2 = 0 := by simp only [bitOf, beq_iff_eq] at h; omega
    simp only [bitOf, beq_iff_eq]
    rw [Nat.add_div_right _ hp]
    omega

theorem orBit_lt (n i m : Nat) (hn : n < 2 ^ m) (hi : i < m) : orBit n i < 2 ^ m := by
  unfold orBit
  split
  · exact hn
  · next h =>
    have h0 : n / 2 ^ i % 2 = 0 := by simp only [bitOf, beq_iff_eq] at h; omega
    have hb : bitsOf n i 1 = 0 := by simpa [bitsOf] using h0
    have := setBits_lt n i 1 1 m (by omega) hn
    have he : setBits n i 1 1 = n + 2 ^ i := by unfold setBits; rw [hb]; simp
    omega

/-- A happening sets its bit. -/
theorem Dev.happen_sets (d : Dev) (f : Fld) (h : f.lo < 32) (hw : f.width = 1) : (d.happen f).get f = 1 := by
  have hb := orBit_testBit (d.rd f.addr).toNat f.lo
  have hl := orBit_lt (d.rd f.addr).toNat f.lo 32 (d.rd f.addr).isLt h
  simp only [bitOf, beq_iff_eq] at hb
  simp only [Dev.get, Dev.happen, Dev.rd_happenBit, if_true, Fld.of, bitsOf, hw, BitVec.toNat_ofNat]
  rw [Nat.mod_eq_of_lt hl]
  simpa using hb

end Sys2Proof.Machine
end

