-- ==== Sys2Proof/Laws/Frame.lean ====
section
/-! SUPPORT. Laws of frames: what a sequence of updates leaves alone, from what each of them leaves alone. -/
namespace Sys2Proof.Machine

theorem Dev.PartsBut.refl (ps : List Part) (d : Dev) : d.PartsBut ps d := by constructor <;> simp

theorem Dev.Changes.refl (ps : List Part) (fs : List Fld) (d : Dev) : d.Changes ps fs d := ⟨.refl .., fun _ _ _ => rfl⟩

theorem Dev.PartsBut.trans {ps : List Part} {d t u : Dev} (h : d.PartsBut ps t) (k : t.PartsBut ps u) : d.PartsBut ps u := by
  constructor
  · exact h.intc.elim .inl (fun e => k.intc.imp_right (fun f => f.trans e))
  · exact h.boot.elim .inl (fun e => k.boot.imp_right (fun f => f.trans e))
  · exact h.clk.elim .inl (fun e => k.clk.imp_right (fun f => f.trans e))
  · exact h.key.elim .inl (fun e => k.key.imp_right (fun f => f.trans e))
  · exact h.inp.elim .inl (fun e => k.inp.imp_right (fun f => f.trans e))
  · intro o
    rcases h.outs o with e | e | e
    · exact .inl e
    · exact .inr (.inl e)
    · exact (k.outs o).imp_right (.imp_right (fun f => f.trans e))
  · intro o
    rcases h.hsets o with e | e | e
    · exact .inl e
    · exact .inr (.inl e)
    · exact (k.hsets o).imp_right (.imp_right (fun f => f.trans e))
  · exact h.ser.elim .inl (fun e => k.ser.imp_right (fun f => f.trans e))
  · exact h.usb.elim .inl (fun e => k.usb.imp_right (fun f => f.trans e))
  · intro o
    rcases h.engs o with e | e | e
    · exact .inl e
    · exact .inr (.inl e)
    · exact (k.engs o).imp_right (.imp_right (fun f => f.trans e))
  · exact h.memc.elim .inl (fun e => k.memc.imp_right (fun f => f.trans e))
  · intro o
    rcases h.chans o with e | e | e
    · exact .inl e
    · exact .inr (.inl e)
    · exact (k.chans o).imp_right (.imp_right (fun f => f.trans e))
  · exact h.link.elim .inl (fun e => k.link.imp_right (fun f => f.trans e))
  · exact h.hinge.elim .inl (fun e => k.hinge.imp_right (fun f => f.trans e))
  · exact h.kt.elim .inl (fun e => k.kt.imp_right (fun f => f.trans e))
  · exact h.pwr.elim .inl (fun e => k.pwr.imp_right (fun f => f.trans e))
  · exact h.host.elim .inl (fun e => k.host.imp_right (fun f => f.trans e))
  · exact h.pins.elim .inl (fun e => k.pins.imp_right (fun f => f.trans e))
  · exact h.free.elim .inl (fun e => k.free.imp_right (fun f => f.trans e))

theorem Dev.Changes.trans {ps : List Part} {fs : List Fld} {d t u : Dev} (h : d.Changes ps fs t) (k : t.Changes ps fs u) :
    d.Changes ps fs u :=
  ⟨h.parts.trans k.parts, fun a b hb => (k.bits a b hb).trans (h.bits a b hb)⟩

/-- A frame holds with more parts allowed. -/
theorem Dev.PartsBut.mono {ps qs : List Part} {d t : Dev} (h : d.PartsBut ps t) (hp : ∀ p ∈ ps, p ∈ qs) : d.PartsBut qs t := by
  constructor
  · exact h.intc.imp_left (hp _)
  · exact h.boot.imp_left (hp _)
  · exact h.clk.imp_left (hp _)
  · exact h.key.imp_left (hp _)
  · exact h.inp.imp_left (hp _)
  · exact fun o => (h.outs o).imp (hp _) (.imp_left (hp _))
  · exact fun o => (h.hsets o).imp (hp _) (.imp_left (hp _))
  · exact h.ser.imp_left (hp _)
  · exact h.usb.imp_left (hp _)
  · exact fun o => (h.engs o).imp (hp _) (.imp_left (hp _))
  · exact h.memc.imp_left (hp _)
  · exact fun o => (h.chans o).imp (hp _) (.imp_left (hp _))
  · exact h.link.imp_left (hp _)
  · exact h.hinge.imp_left (hp _)
  · exact h.kt.imp_left (hp _)
  · exact h.pwr.imp_left (hp _)
  · exact h.host.imp_left (hp _)
  · exact h.pins.imp_left (hp _)
  · exact h.free.imp_left (hp _)

/-- A frame holds with more parts and more fields allowed. -/
theorem Dev.Changes.mono {ps qs : List Part} {fs gs : List Fld} {d t : Dev} (h : d.Changes ps fs t) (hp : ∀ p ∈ ps, p ∈ qs)
    (hf : ∀ f ∈ fs, f ∈ gs) : d.Changes qs gs t :=
  ⟨h.parts.mono hp, fun a b hb => h.bits a b (fun f m => hb f (hf f m))⟩

/-- Registers alone change: only their bits count. -/
theorem Dev.Changes.of_regs {ps : List Part} {fs : List Fld} {d t : Dev} (h : t = { d with regs := t.regs })
    (hb : d.bitsBut fs t) : d.Changes ps fs t := by
  refine ⟨?_, hb⟩
  rw [h]
  constructor <;> first | exact .inr rfl | exact fun _ => .inr (.inr rfl)

theorem testBit_bitsOf (n lo w i : Nat) : (bitsOf n lo w).testBit i = (decide (i < w) && n.testBit (lo + i)) := by
  simp [bitsOf, Nat.testBit_mod_two_pow, Nat.testBit_div_two_pow, Nat.add_comm]

theorem testBit_setBits (n lo w v i : Nat) (h : i < lo ∨ lo + w ≤ i) : (setBits n lo w v).testBit i = n.testBit i := by
  rcases h with h | h
  · have := congrArg (fun m => m.testBit i) (setBits_mod n lo w v)
    simpa [Nat.testBit_mod_two_pow, h] using this
  · have := congrArg (fun m => m.testBit (i - (lo + w))) (setBits_high n lo w v)
    simpa [Nat.testBit_div_two_pow, Nat.sub_add_cancel h] using this

/-- A field's write leaves the register's other bits alone. -/
theorem Fld.getLsbD_into (f : Fld) (w : Word) (v b : Nat) (hw : f.lo ≤ f.hi) (h : ¬ (f.lo ≤ b ∧ b ≤ f.hi)) :
    (f.into w v).getLsbD b = w.getLsbD b := by
  simp only [Fld.into, BitVec.getLsbD_ofNat]
  rw [testBit_setBits _ _ _ _ _ (by unfold Fld.width; omega)]
  rcases Nat.lt_or_ge b 32 with hb | hb
  · simp [hb, BitVec.getLsbD]
  · simp [BitVec.getLsbD_of_ge _ _ hb]; omega

theorem Dev.changes_put {ps : List Part} {fs : List Fld} {d : Dev} {f : Fld} {v : Nat} (hf : f ∈ fs) (hw : f.lo ≤ f.hi) :
    d.Changes ps fs (d.put f v) := by
  refine .of_regs rfl (fun a b hb => ?_)
  by_cases ha : a = f.addr
  · subst ha
    rw [Dev.put, Dev.rd_wr_same]
    exact f.getLsbD_into _ _ _ hw (fun h => hb f hf ⟨rfl, h⟩)
  · rw [Dev.rd_put_ne _ _ _ _ ha]

theorem Dev.changes_wr {ps : List Part} {fs : List Fld} {d : Dev} {a : Nat} {w : Word} (hf : Fld.whole a ∈ fs) :
    d.Changes ps fs (d.wr a w) := by
  refine .of_regs rfl (fun a' b hb => ?_)
  by_cases ha : a' = a
  · subst ha
    have h := hb _ hf
    simp only [Fld.covers, Fld.whole, true_and, Nat.zero_le] at h
    rw [BitVec.getLsbD_of_ge _ _ (by omega), BitVec.getLsbD_of_ge _ _ (by omega)]
  · rw [Dev.rd_wr_ne _ _ _ _ ha]

/-- A frame that every round of a loop keeps is the loop's. -/
theorem Dev.Changes.each {α : Type} {ps : List Part} {fs : List Fld} {d : Dev} {l : List α} {f : Dev → α → Dev}
    (h : ∀ (d : Dev) (a : α), a ∈ l → d.Changes ps fs (f d a)) : d.Changes ps fs (d.each l f) := by
  unfold Dev.each
  induction l generalizing d with
  | nil => exact .refl ..
  | cons x xs ih => exact (h d x (by simp)).trans (ih (fun d a m => h d a (by simp [m])))

theorem Dev.Changes.cond {ps : List Part} {fs : List Fld} {d : Dev} {c : Bool} {f : Dev → Dev} (h : d.Changes ps fs (f d)) :
    d.Changes ps fs (d.cond c f) := by
  unfold Dev.cond
  split
  · exact h
  · exact .refl ..

theorem Dev.changes_viol {ps : List Part} {fs : List Fld} {d : Dev} {cat : Nat} {g : Agent} {a : Nat}
    (h : ∀ f ∈ violFields [cat], f ∈ fs) : d.Changes ps fs (d.viol cat g a) := by
  have h1 : d.Changes ps fs (d.addSat (Fld.violCntCount cat) 1) :=
    Dev.changes_put (h _ (by simp [violFields])) (Nat.zero_le _)
  refine ((h1.trans (Dev.changes_put (h _ (by simp [violFields])) (by decide))).trans
    (Dev.changes_put (h _ (by simp [violFields])) (by decide))).trans (Dev.changes_put (h _ (by simp [violFields])) (by decide))

/-- What acts on the device alone keeps memory and the queue. -/
theorem State.Changes.on {ps : List Part} {fs : List Fld} {s : State} {f : Dev → Dev} (h : s.dev.Changes ps fs (f s.dev)) :
    s.Changes ps fs (s.on f) := ⟨rfl, rfl, h⟩

end Sys2Proof.Machine
end

