-- ==== Sys2Proof/Laws/Events.lean ====
section
/-! SUPPORT. Laws of events: what setting an event flag, clearing flags and withdrawing requests leave alone. -/
namespace Sys2Proof.Machine

theorem orBit_eq_setBits (n k : Nat) : orBit n k = setBits n k 1 1 := by
  have h := split_bits n k 1
  rw [setBits_eq]
  have hb : bitsOf n k 1 = n / 2 ^ k % 2 := rfl
  unfold orBit bitOf
  rw [hb] at h
  rcases Nat.mod_two_eq_zero_or_one (n / 2 ^ k) with e | e
  · rw [e] at h; simp only [e]; simp; omega
  · rw [e] at h; simp only [e]; simp; omega

theorem Dev.changes_setGate {ps : List Part} {fs : List Fld} {d : Dev} {k : Nat} {g : Gate} (hp : .intc ∈ ps) :
    d.Changes ps fs (d.setGate k g) :=
  ⟨by constructor <;> first | exact .inl hp | exact .inr rfl | exact fun _ => .inr (.inr rfl), fun _ _ _ => rfl⟩

/-- An event of a source changes its gateway alone. -/
theorem Dev.changes_srcEvent {ps : List Part} {fs : List Fld} {d : Dev} {k : Nat} (hp : .intc ∈ ps) :
    d.Changes ps fs (d.srcEvent k) := by
  unfold Dev.srcEvent
  split
  · exact .refl ..
  · exact Dev.changes_setGate hp

/-- A happening sets its bit, and changes the gateway of the source behind it. -/
theorem Dev.changes_happenBit {ps : List Part} {fs : List Fld} {d : Dev} {a b : Nat} (hp : .intc ∈ ps)
    (hf : ∃ f ∈ fs, f.covers a b) : d.Changes ps fs (d.happenBit a b) := by
  obtain ⟨f, hm, hc⟩ := hf
  have h1 : d.Changes ps fs (d.wr a (BitVec.ofNat 32 (orBit (d.rd a).toNat b))) := by
    refine .of_regs rfl (fun a' i hi => ?_)
    by_cases ha : a' = a
    · subst ha
      have hne : i ≠ b := fun e => hi f hm (e ▸ hc)
      rw [Dev.rd_wr_same, BitVec.getLsbD_ofNat, orBit_eq_setBits, testBit_setBits _ _ _ _ _ (by omega)]
      by_cases h32 : i < 32
      · simp [h32, BitVec.getLsbD]
      · rw [BitVec.getLsbD_of_ge _ _ (by omega)]; simp [h32]
    · rw [Dev.rd_wr_ne _ _ _ _ ha]
  unfold Dev.happenBit
  split
  · exact h1.trans (Dev.changes_srcEvent hp)
  · exact h1

theorem Dev.changes_happen {ps : List Part} {fs : List Fld} {d : Dev} {f : Fld} (hp : .intc ∈ ps) (hf : f ∈ fs)
    (hw : f.lo ≤ f.hi) : d.Changes ps fs (d.happen f) := Dev.changes_happenBit hp ⟨f, hf, rfl, Nat.le_refl _, hw⟩

theorem Dev.changes_happenAt {ps : List Part} {fs : List Fld} {d : Dev} {f : Fld} {k : Nat} (hp : .intc ∈ ps) (hf : f ∈ fs)
    (hw : f.lo + k ≤ f.hi) : d.Changes ps fs (d.happenAt f k) :=
  Dev.changes_happenBit hp ⟨f, hf, rfl, Nat.le_add_right _ _, hw⟩

/-- Requests that no level holds are withdrawn: only gateways change. -/
theorem Dev.changes_settle {ps : List Part} {fs : List Fld} {d : Dev} {l : List Nat} (hp : .intc ∈ ps) :
    d.Changes ps fs (d.settle l) := by
  refine Dev.Changes.each (fun d a _ => ?_)
  split
  · exact Dev.changes_setGate hp
  · exact .refl ..

/-- A write to W1C bits changes its register and gateways. -/
theorem Dev.changes_w1c {ps : List Part} {fs : List Fld} {d : Dev} {a m : Nat} {v : Word} (hp : .intc ∈ ps)
    (hf : Fld.whole a ∈ fs) : d.Changes ps fs (d.w1c a m v) :=
  (Dev.changes_wr hf).trans (Dev.changes_settle hp)

/-- A plain write changes its register and, where it clears events, gateways (R7). -/
theorem Dev.changes_plain {ps : List Part} {fs : List Fld} {d : Dev} {a : Nat} {v : Word} (hp : .intc ∈ ps)
    (hf : Fld.whole a ∈ fs) : d.Changes ps fs (d.plain a v) := by
  unfold Dev.plain
  have h (d : Dev) : d.Changes ps fs (if maskOf (·.w1c) a = 0 then d else d.w1c a (maskOf (·.w1c) a) v) := by
    split
    · exact .refl ..
    · exact Dev.changes_w1c hp hf
  have k : d.Changes ps fs (if BitVec.ofNat 32 (maskOf (·.rw) a) = 0 then d else
      d.wr a ((d.rd a &&& ~~~ BitVec.ofNat 32 (maskOf (·.rw) a)) ||| (v &&& BitVec.ofNat 32 (maskOf (·.rw) a)))) := by
    split
    · exact .refl ..
    · exact Dev.changes_wr hf
  exact k.trans (h _)

/-- With no access under way the end of an access does nothing. -/
theorem State.endAccess_of_ended (s : State) (h : s.dev.accessEnded) : s.endAccess = s := by
  obtain ⟨h1, h2⟩ := h
  simp [State.endAccess, State.on, Dev.clkFlush, Dev.pwrFlush, h1, h2]

end Sys2Proof.Machine
end

