-- ==== Sys2Proof/Laws/Host.lean ====
section
/-! SUPPORT. Laws of host accesses: what a register write of a host comes to when the rules let it through. -/
namespace Sys2Proof.Machine

@[simp] theorem State.on_dev (s : State) (f : Dev → Dev) : (s.on f).dev = f s.dev := rfl
@[simp] theorem State.on_mem (s : State) (f : Dev → Dev) : (s.on f).mem = s.mem := rfl
@[simp] theorem State.on_pending (s : State) (f : Dev → Dev) : (s.on f).pending = s.pending := rfl

theorem Dev.region_reg (d : Dev) (a : Nat) (h : isRegAddr a = true) : d.region a = .reg := by
  have h1 : 0x800000 ≤ a := by
    simp only [isRegAddr, Bool.or_eq_true, decide_eq_true_eq] at h
    omega
  unfold Dev.region
  rw [if_neg (by omega), if_neg (by omega), if_neg (by omega), if_neg (by omega), if_pos h]

/-- A host write that is let through is the register's own write, and the end of the access. -/
theorem State.hostWord_ready (s : State) (env : Env) (a : Nat) (v : Word) (h : s.dev.hostReady = true) (ha : s.dev.regUp a = true) :
    s.hostWord env a v = (s.applyWord env .host a v).endAccess := by
  simp only [Dev.hostReady, Dev.hostFree, Bool.and_eq_true, Bool.not_eq_true', beq_iff_eq] at h
  obtain ⟨⟨⟨⟨⟨⟨⟨⟨hr, hl⟩, hs⟩, hz⟩, hq⟩, hh⟩, hst⟩, hp⟩, he⟩ := h
  simp only [Dev.regUp, Bool.and_eq_true, Bool.not_eq_true', beq_iff_eq] at ha
  obtain ⟨⟨hreg, h4⟩, hd⟩ := ha
  have hm : s.dev.mirrors .host a = false := by simp [Dev.mirrors, hs]
  have hw : s.dev.holdsWrite .host a = false := by
    simp [Dev.holdsWrite, hh, Dev.quiescing, hq]
  have hg : s.dev.writeGate .host a v = none := by
    unfold Dev.writeGate
    simp [Dev.region_reg _ _ hreg, hd, he, hl, hz]
  have haa : a / 4 * 4 = a := by omega
  unfold State.hostWord State.writeWord
  simp [hr, haa, Dev.region_reg _ _ hreg, hg, hw, hm]

/-- The same for the registers whose writes act on the device alone. -/
theorem State.hostReg_ready (s : State) (a : Nat) (v : Word) (h : s.dev.hostReady = true) (ha : s.dev.regUp a = true)
    (h1 : a ≠ Reg.sysRstctrl) (h2 : a ≠ Reg.bootCtrl) (h3 : a ≠ Reg.bootHostdata) :
    s.hostReg a v = (s.on (·.regWrite Env.quiet .host a v)).endAccess := by
  have hreg : s.dev.region a = .reg := Dev.region_reg _ _ (by simp [Dev.regUp] at ha; exact ha.1.1)
  rw [State.hostReg, State.hostWord_ready s _ a v h ha]
  simp [State.applyWord, hreg, h1, h2, h3]

/-- An access that asked for no new acquisition and no power transaction ends without more. -/
theorem State.endAccess_idle (s : State) (h1 : s.dev.clk.pend = false) (h2 : s.dev.pwr.staged = []) : s.endAccess = s := by
  simp [State.endAccess, State.on, Dev.clkFlush, Dev.pwrFlush, h1, h2]

end Sys2Proof.Machine
end

