-- ==== Sys2Proof/Laws/Mem.lean ====
section
/-! SUPPORT. Laws of memory: reading after writing, and that every operation keeps the canonical form. -/
namespace Sys2Proof.Machine

@[simp] theorem memGet_memSet_same (m : List Host.Cell) (a : Nat) (b : Byte) : memGet (memSet m a b) a = b :=
  SMap.get_set_same ..

theorem memGet_memSet_ne (m : List Host.Cell) (a x : Nat) (b : Byte) (h : x ≠ a) : memGet (memSet m a b) x = memGet m x :=
  SMap.get_set_ne _ _ _ _ _ _ h

/-- Bytes outside a write keep their values. -/
theorem memGet_memWrite_out (m : List Host.Cell) (a x : Nat) (bs : List Byte) (h : x < a ∨ a + bs.length ≤ x) :
    memGet (memWrite m a bs) x = memGet m x := by
  induction bs generalizing m a with
  | nil => rfl
  | cons b bs ih =>
    simp only [List.length_cons] at h
    rw [memWrite, ih _ _ (by omega), memGet_memSet_ne _ _ _ _ (by omega)]

/-- A byte of a write is what was written. -/
theorem memGet_memWrite_in (m : List Host.Cell) (a i : Nat) (bs : List Byte) (h : i < bs.length) :
    memGet (memWrite m a bs) (a + i) = bs[i] := by
  induction bs generalizing m a i with
  | nil => simp at h
  | cons b bs ih =>
    cases i with
    | zero => rw [memWrite, Nat.add_zero, memGet_memWrite_out _ _ _ _ (by omega)]; simp
    | succ i =>
      rw [memWrite, show a + (i + 1) = a + 1 + i by omega, ih]
      rfl

/-- What was written is read back. -/
theorem memRead_memWrite (m : List Host.Cell) (a : Nat) (bs : List Byte) : memRead (memWrite m a bs) a bs.length = bs := by
  apply List.ext_getElem
  · simp [memRead]
  · intro i h1 h2
    simp [memRead, memGet_memWrite_in _ _ _ _ h2]

theorem memGet_memErase (m : List Host.Cell) (p : Nat → Bool) (a : Nat) :
    memGet (memErase m p) a = if p a then 0 else memGet m a := by
  refine (SMap.get_filter (0 : Byte) m (fun x => !p x) a).trans ?_
  cases p a <;> rfl

theorem memSet_wf (m : List Host.Cell) (a : Nat) (b : Byte) (h : Memory.wf m = true) : Memory.wf (memSet m a b) = true :=
  SMap.wf_set (fun _ => (0 : Byte)) m a b h

theorem memWrite_wf (m : List Host.Cell) (a : Nat) (bs : List Byte) (h : Memory.wf m = true) :
    Memory.wf (memWrite m a bs) = true := by
  induction bs generalizing m a with
  | nil => exact h
  | cons b bs ih => exact ih _ _ (memSet_wf m a b h)

theorem memErase_wf (m : List Host.Cell) (p : Nat → Bool) (h : Memory.wf m = true) : Memory.wf (memErase m p) = true :=
  SMap.wf_filter (fun _ => (0 : Byte)) _ m h

/-- A store keeps the canonical form. -/
theorem State.store_wf (s : State) (a : Nat) (bs : List Byte) (h : Memory.wf s.mem = true) : Memory.wf (s.store a bs).mem = true :=
  memWrite_wf _ _ _ h

/-- An erasure keeps the canonical form. -/
theorem State.erase_wf (s : State) (p : Nat → Bool) (h : Memory.wf s.mem = true) : Memory.wf (s.erase p).mem = true :=
  memErase_wf _ _ h

@[simp] theorem State.store_dev (s : State) (a : Nat) (bs : List Byte) : (s.store a bs).dev = s.dev := rfl
@[simp] theorem State.store_pending (s : State) (a : Nat) (bs : List Byte) : (s.store a bs).pending = s.pending := rfl
@[simp] theorem State.erase_dev (s : State) (p : Nat → Bool) : (s.erase p).dev = s.dev := rfl
@[simp] theorem State.erase_pending (s : State) (p : Nat → Bool) : (s.erase p).pending = s.pending := rfl

/-- What an agent's write can do: count a refusal, record an error, or store its bytes where it says; the queue waits. -/
theorem State.agentWrite_cases (s : State) (ag : Agent) (code : Nat) (secure : Bool) (errs : List EccErr) (a : Nat)
    (bs : List Byte) : ∃ d, s.agentWrite ag code secure errs a bs = { s with dev := d } ∨
      s.agentWrite ag code secure errs a bs = { s with dev := d }.store a bs := by
  unfold State.agentWrite
  cases s.dev.reach secure a with
  | refused c => exact ⟨_, .inl rfl⟩
  | silent => exact ⟨s.dev, .inl rfl⟩
  | ok =>
    generalize s.dev.eccWrite code errs a bs.length = r
    obtain ⟨d, good⟩ := r
    cases good
    · exact ⟨d, .inl rfl⟩
    · exact ⟨d, .inr rfl⟩

theorem State.agentWrite_mem (s : State) (ag : Agent) (code : Nat) (secure : Bool) (errs : List EccErr) (a : Nat) (bs : List Byte) :
    (s.agentWrite ag code secure errs a bs).mem = s.mem ∨
      (s.agentWrite ag code secure errs a bs).mem = memWrite s.mem a bs := by
  obtain ⟨d, e | e⟩ := s.agentWrite_cases ag code secure errs a bs
  · exact .inl (by rw [e])
  · exact .inr (by rw [e]; rfl)

/-- An agent's write keeps the canonical form. -/
theorem State.agentWrite_wf (s : State) (ag : Agent) (code : Nat) (secure : Bool) (errs : List EccErr) (a : Nat)
    (bs : List Byte) (h : Memory.wf s.mem = true) : Memory.wf (s.agentWrite ag code secure errs a bs).mem = true := by
  rcases s.agentWrite_mem ag code secure errs a bs with e | e
  · rw [e]; exact h
  · rw [e]; exact memWrite_wf _ _ _ h

/-- An agent's write leaves the queue alone. -/
theorem State.agentWrite_pending (s : State) (ag : Agent) (code : Nat) (secure : Bool) (errs : List EccErr) (a : Nat)
    (bs : List Byte) : (s.agentWrite ag code secure errs a bs).pending = s.pending := by
  obtain ⟨d, e | e⟩ := s.agentWrite_cases ag code secure errs a bs
  · rw [e]
  · rw [e]; rfl

/-- An agent's write leaves every byte outside its own alone. -/
theorem State.agentWrite_out (s : State) (ag : Agent) (code : Nat) (secure : Bool) (errs : List EccErr) (a x : Nat)
    (bs : List Byte) (h : x < a ∨ a + bs.length ≤ x) :
    memGet (s.agentWrite ag code secure errs a bs).mem x = memGet s.mem x := by
  rcases s.agentWrite_mem ag code secure errs a bs with e | e
  · rw [e]
  · rw [e]; exact memGet_memWrite_out _ _ _ _ h

end Sys2Proof.Machine
end

