-- ==== Sys2Proof/WellFormed.lean ====
section
/-! DEFINITION. Well-formed commands: the operands that the types of `Instr` do not bound already. -/
namespace Sys2Proof.Machine

/-- An error lies in a codeword of a word of memory, of 64 data and 8 check bits (R385, R393). -/
def EccErr.wf (e : EccErr) : Bool :=
  decide (e.word < 0x610000) && decide (e.word % 16 = 0) && decide (e.cw < 2) && e.bit.all (fun b => decide (b < 72))

/-- What the surroundings add to an access is well-formed. -/
def Env.wf (env : Env) : Bool := env.errs.all EccErr.wf

/-- What the surroundings give a frame has one value for each input, and names outputs, engines and banks that exist. -/
def FrameIn.wf (f : FrameIn) : Bool :=
  f.ain.length == 8 && f.pdm.length == 32 && decide (f.clips < 2 ^ 10) && decide (f.micb < 2 ^ 4) && f.supplies.length == 4 &&
    f.temps.length == 3 && f.servo.all (fun e => decide (e.1 < 10)) && f.banks.all (fun b => decide (b.1 ≤ 32)) &&
    decide (f.lateIn < 2 ^ 16) && decide (f.lateOut < 2 ^ 16) && f.errs.all EccErr.wf

/-- A link frame has a header of 64 bytes, and slots that exist (R461, R462). -/
def LinkIn.wf (f : LinkIn) : Bool := f.hdr.length == 64 && f.slots.all (fun e => decide (e.slot < 256))

/-- A subframe has 32 time slots, and a preamble is one of three (R301). -/
def SpdifIn.wf (f : SpdifIn) : Bool :=
  decide (f.preA < 3) && decide (f.preB < 3) && decide (f.a < 2 ^ 32) && decide (f.b < 2 ^ 32)

/-- A finding is one of the seven kinds of the boot tests (R518). -/
def findingWf (f : Nat × Nat) : Bool := decide (1 ≤ f.1) && decide (f.1 ≤ 7) && decide (f.2 < 2 ^ 32)

end Sys2Proof.Machine

namespace Sys2Proof

open Sys2Proof.Machine

/-- The command is well-formed. -/
def Instr.wf : Instr → Bool
  | .bor supply => decide (supply ≠ 0) && decide (supply < 8)
  | .bootTestsDone fs => fs.all findingWf
  | .spkSegmentTestsDeferred fs =>
    fs.all (fun f => decide (f.1 < 4) && decide (f.2.1 < 2) && decide (f.2.2.1 < 18) && decide (f.2.2.2 < 3))
  | .keywayStart f => f.wf
  | .frameBoundary f => f.wf
  | .standbySync f => f.wf
  | .pllLock fref => decide (fref ≠ 0)
  | .tumblerStage a _ => rwtMask a != 0
  | .pdmSettleEnd ch k => ch || decide ((k : Nat) < 2)
  | .spdifFrameReceived f => f.wf
  | .usbSof frame micro _ => decide (frame < 2048) && decide (micro < 8)
  | .eccWriteback a => decide (a < 0x610000) && decide (a % 16 = 0)
  | .scrubRead a errs => decide (a < 0x610000) && decide (a % 16 = 0) && errs.all EccErr.wf
  | .bootHostdata env _ => env.wf
  | .engineBundle _ _ env => env.wf
  | .engineStep _ env => env.wf
  | .interruptTrap _ errs => errs.all EccErr.wf
  | .fastEntry _ errs => errs.all EccErr.wf
  | .waitWake _ _ errs => errs.all EccErr.wf
  | .descFetch _ env => env.wf
  | .dmaReadReturn _ _ env => env.wf
  | .dmaBeatCommit _ env => env.wf
  | .descComplete _ env => env.wf
  | .i2cRead env _ _ => env.wf
  | .repairCopyDone l k => decide (l < 2 ^ 32) && (k == 1 || k == 2 || k == 4)
  | .intcCfgWrite k _ _ => cfgSource (srcCfg k) == some (k : Nat)
  | .linkFrameRx _ f => f.wf
  | .app _ m => m.length == 88
  | .assign _ m => m.length == 88
  | .join _ m => m.length == 88
  | .linkReset _ m => m.length == 88
  | .bootData _ m => m.length == 88
  | .i2cWrite env _ reg _ => decide (reg < 2 ^ 32) && env.wf
  | .i2cSetPointer _ reg => decide (reg < 2 ^ 32)
  | .spiRead env adr _ _ _ => decide (adr.length ≤ 4) && env.wf
  | .spiWrite env adr _ _ => decide (adr.length ≤ 4) && env.wf
  | .spiUnknownCommand c => decide (c < 256) && c != 2 && c != 3 && c != 5
  | .registerWrite env a _ => decide (a < 2 ^ 32) && env.wf
  | .por | .pinReset | .wdtReset | .soft | .resetRelease .. | .commit .. | .hostload | .reseat .. | .reseatCompare ..
  | .reseatTeardown | .live | .abort | .bootCtrlBadKey .. | .loadSourceTimeout | .pllWrite .. | .refselWrite ..
  | .reacquire | .swap .. | .bandSearchDone .. | .acqTimeout | .fallbackExit | .phaseFreeze | .freezeDecision ..
  | .refLost .. | .refReturned .. | .refmonRefresh .. | .arm .. | .armAt .. | .disarm .. | .discard | .xpRampEnd ..
  | .fadeShadowEnd .. | .serialFadeHalf .. | .anainSettleEnd .. | .adcSliceSwap .. | .adcSliceCalDone ..
  | .adcSliceCheckFail .. | .micbTrip .. | .pdmClkLost .. | .pdmClkReturn .. | .dacSliceSwap .. | .dacSliceCalDone ..
  | .dacSliceCheckFail .. | .complianceTrip .. | .complianceHiz .. | .complianceCleared .. | .complianceRecover ..
  | .hpCurrentLimit .. | .hpProtectCleared .. | .pumpReady | .chainReady .. | .outputRun .. | .outClrAssert
  | .outClrRelease | .holdEnd .. | .segmentFailing .. | .spkShortTrip .. | .spkShortCleared .. | .spkDiag ..
  | .diagDone .. | .pilotMeasure .. | .spkPvddReady | .pvddCutoff | .pvddOvervoltage | .derateStep ..
  | .spkThermalShutdown .. | .spkThermalCleared .. | .seqBlockDone .. | .seqMuteWrite .. | .personaSequence ..
  | .jackRawChange .. | .jackDebounced .. | .jdCfgWrite .. | .hsStart .. | .hsAbort .. | .hsSettleEnd ..
  | .hsDetectDone .. | .buttonSample .. | .btncfgWrite .. | .portRunStart .. | .portRunStop .. | .portClrCnt ..
  | .portFrameReceived .. | .portFsEdge .. | .portPinFrameStart .. | .npUnmute .. | .rmonStop .. | .rmonPeriod ..
  | .rmonClr .. | .asrcAcquired .. | .asrcFadeDone .. | .asrcHoldTimeout .. | .asrcClr .. | .usbOutPacket ..
  | .usbInToken .. | .setInterface .. | .setCurSamplingFreq .. | .usbClassRequest .. | .usbStandardRequest ..
  | .featureUnitSet .. | .setReport .. | .hidinWrite .. | .usbConnect | .usbDisconnect .. | .usbSuspend | .usbResume ..
  | .lpm | .usbCtrlWrite .. | .engineStart .. | .engineStop .. | .engineResume .. | .engineClrCnt .. | .doorbell ..
  | .regdataWrite .. | .ringConfigWrite .. | .windowWrite .. | .lbxWipeDone | .memCtrlWrite .. | .dmaStart ..
  | .dmaStop .. | .dmaResume .. | .kick .. | .dmaClrCnt .. | .dmaCfgWrite .. | .dmaStall .. | .coalTimerExpire ..
  | .claim .. | .complete .. | .swset .. | .intcHoldWrite .. | .extintChange .. | .linkRangingDone .. | .linkRootLoss
  | .linkSend | .linkPop | .linkNodeidWrite .. | .linkIdle .. | .linkWake .. | .squelchWake .. | .linkClrCnt
  | .hingeFrameRx .. | .pairWaitExpire | .pairSyncTimeout | .heartbeatMiss .. | .deadmanFire | .partnerLost | .detach
  | .attach | .resetTwin | .hingeClrCnt | .tileSwap .. | .tileSwapDone | .repairBurnStart | .repairBurnDone
  | .ktWrite .. | .ktHoldingWrite .. | .ktSeal | .tamper .. | .violClear .. | .pwrTransaction .. | .quiesceAgree ..
  | .quiesceTimeout | .pwrCommit | .domainArrive .. | .wake .. | .wakePin .. | .pwrClkselWrite .. | .domainClkSwitch ..
  | .shackleRelease .. | .wdtKick | .wdtcfgWrite .. | .watchdogPre | .supplyWarning .. | .supplyRecover .. | .resume
  | .thermalWarning .. | .die0Throttle .. | .die0ThrottleEnd .. | .die0Shutdown .. | .i2cAbort | .i2cStuck
  | .i2cStretchTimeout | .spiStatus | .qspiGo .. | .qspiDone .. | .flashLoadFail .. => true

end Sys2Proof
end

