-- ==== Sys2Proof/Tests/Slice0.lean ====
section
/-! SUPPORT. Tests: for each statement a state and operands that meet its hypotheses, for each check of WellFormed a command that
it refuses, and the spec's worked numbers. -/
namespace Sys2Proof.Machine
set_option maxRecDepth 100000
set_option Elab.async false
set_option linter.unusedVariables false

/-- Set fields in turn. -/
def Dev.puts (d : Dev) (l : List (Fld × Nat)) : Dev := d.each l (fun d e => d.put e.1 e.2)

/-- A device in RUNNING after a commit, every domain on and no reset asserted. -/
def ready : State := State.reset.on (fun d =>
  ((((({ d with boot := { d.boot with everRun := true }, pwr := { d.pwr with inReset := false } }).wr (Reg.pwrState 0) 0xAAAAAAAA).wr
    (Reg.pwrState 1) 0xAAAAAAAA).wr (Reg.pwrState 2) 0x0AAAAAAA).put Fld.bootStatusState 4))

/-- A keyplan without wards. -/
def plan0 : Plan := ⟨0, 0, [], []⟩

/-- The magic number of R33 alone. -/
def magic : List Byte := [0x51, 0x4B, 0x50, 0x4C]

/-- A frame in which nothing was measured. -/
def quietFrame : FrameIn := ⟨[], [], 0, 0, [], [], [], [], 0, 0, []⟩

/-- A link frame from node 2 with number 7 and no slots. -/
def testHdr : LinkIn :=
  let h : List Byte := leBytes 2 0 ++ [0, 0] ++ leBytes 4 7 ++ leBytes 2 2 ++ List.replicate 50 0
  ⟨h ++ leBytes 4 (crc32 ((h.drop 2).take 58)), false, 0, false, []⟩

/-- A broadcast message of type `ty` under the key of the tests, its payload the code of R479. -/
def testMsg (ty : Nat) : Msg :=
  ({ ready.dev with link := { ready.dev.link with key := some (List.replicate 16 1) } }).sealMsg
    (leBytes 4 0 ++ leBytes 1 ty ++ [1, 44, 48] ++ leBytes 8 0 ++ leBytes 4 0x9616)

/-- A hinge frame of a partner in SOLO. -/
def testHinge : HingeIn :=
  ⟨true, 0, false, false, true, false, 0, [], none, 0, none, 0, [], none, none, [], [], 0, [], 0⟩

/-! ### Witnesses for the completion statements -/

/-- Each clause of BootCommandsComplete is met by a state and operands. -/
theorem witness_BootCommandsComplete :
    (∃ (s : State), s.dev.wdtCounts = true) ∧
    (∃ (s : State), s.dev.hostReady = true) ∧
    (∃ (s : State) (twinSel : Bool), s.dev.pwr.inReset = true) ∧
    (∃ (s : State) (findings : List (Nat × Nat)), s.dev.bootSt = BootSt.selftest ∧ s.dev.pwr.inReset = false) ∧
    (∃ (s : State) (findings : List (Nat × Nat × Nat × Nat)), s.dev.get Fld.repStatusSpkDeferred ≠ 0) ∧
    (∃ (s : State) (img : List Byte) (p : Plan), s.dev.boot.verdict = some (.ok p) ∧ s.dev.boot.load = some .boot ∧
      s.dev.get Fld.bootStatusSource ≠ 4) ∧
    (∃ (s : State) (f : FrameIn), s.dev.boot.commit = 7 ∧ s.dev.clk.fallback = false ∧ s.dev.pwr.inReset = false) ∧
    (∃ (s : State), s.dev.hostFree = true ∧ s.dev.bootSt = BootSt.hostwait) ∧
    (∃ (s : State) (src : Fin 16), s.dev.hostReady = true ∧ s.dev.bootSt = BootSt.running ∧ 1 ≤ (src : Nat) ∧ (src : Nat) ≤ 3) ∧
    (∃ (s : State) (img : List Byte), s.dev.bootSt = BootSt.reseat ∧ s.dev.boot.reseat = 1 ∧ s.dev.get Fld.bootStatusSource ≠ 3 ∧
      s.dev.reseatMismatch img = none) ∧
    (∃ (s : State) (img : List Byte) (code ward : Nat), s.dev.bootSt = BootSt.reseat ∧ s.dev.boot.reseat = 1 ∧
      s.dev.get Fld.bootStatusSource ≠ 3 ∧ s.dev.reseatMismatch img = some (code, ward)) ∧
    (∃ (s : State), s.dev.bootSt = BootSt.reseat ∧ s.dev.boot.reseat = 3 ∧ s.dev.allStopped = true ∧
      s.dev.get Fld.bootStatusSource ≠ 3) ∧
    (∃ (s : State), s.dev.hostFree = true ∧ s.dev.bootSt = BootSt.running ∧ s.dev.liveHeld = false ∧ s.dev.key.armed = none ∧
      s.dev.key.entries = []) ∧
    (∃ (s : State), s.dev.hostFree = true ∧ s.dev.boot.load = some .live ∧ s.dev.boot.verdict = none) ∧
    (∃ (s : State) (v : Word), s.dev.hostFree = true ∧ bitsOf v.toNat 16 16 ≠ guardKey) ∧
    (∃ (s : State) (env : Env) (w : Word), s.dev.hostFree = true ∧ s.dev.hostLoads = true ∧
      ¬ (fifoWords ≤ s.dev.boot.fifo - env.taken ∧ env.spi = true) ∧ s.dev.checksRun = false) ∧
    (∃ (s : State) (env : Env) (w : Word), s.dev.hostFree = true ∧ s.dev.hostLoads = true ∧
      ¬ (fifoWords ≤ s.dev.boot.fifo - env.taken ∧ env.spi = true) ∧ s.dev.checksRun = true ∧
      ((s.dev.takeWord env.taken w).kpVerdict s.dev.loadKind (s.dev.boot.image ++ leBytes 4 w.toNat)).1 = none) ∧
    (∃ (s : State), s.dev.hostLoads = true ∧ s.dev.boot.load = some .live) ∧
    (∃ (s : State), s.dev.hostLoads = true ∧ s.dev.boot.load = some .host) ∧
    (∃ (s : State) (img : List Byte) (code ward : Nat), s.dev.flashLoads = true ∧ s.dev.boot.load = some .boot ∧
      s.dev.boot.rest = [] ∧
      (s.dev.kpVerdict s.dev.loadKind img).1 = some (.bad code ward)) :=
  ⟨⟨(ready.on (fun d => d.puts [(Fld.sysWdtcfgEn, 1)])), by decide +kernel⟩,
   ⟨ready, by decide +kernel⟩,
   ⟨(ready.on (fun d => { d with pwr := { d.pwr with inReset := true } })), true, by decide +kernel⟩,
   ⟨(ready.on (fun d => d.puts [(Fld.bootStatusState, 0)])), [], by decide +kernel⟩,
   ⟨(ready.on (fun d => d.puts [(Fld.repStatusSpkDeferred, 1)])), [(0, 1, 2, 0)], by decide +kernel⟩,
   ⟨(ready.on (fun d => { d.puts [(Fld.bootStatusState, 1), (Fld.bootStatusSource, 1)] with boot := { d.boot with load := some .boot, verdict := some (.ok plan0) } })), [], plan0, by decide +kernel⟩,
   ⟨(ready.on (fun d => { d with boot := { d.boot with commit := 7, plan := some plan0 }, clk := { d.clk with fallback := false } })), quietFrame, by decide +kernel⟩,
   ⟨(ready.on (fun d => { d.puts [(Fld.bootStatusState, 5), (Fld.bootStatusSource, 0)] with boot := { d.boot with everRun := false } })), by decide +kernel⟩,
   ⟨ready, 2, by decide +kernel⟩,
   ⟨(ready.on (fun d => { d.puts [(Fld.bootStatusState, 7), (Fld.bootStatusSource, 1)] with boot := { d.boot with reseat := 1, load := some .reseat } })), [], by decide +kernel⟩,
   ⟨(ready.on (fun d => { d.puts [(Fld.bootStatusState, 7), (Fld.bootStatusSource, 1)] with boot := { d.boot with reseat := 1, load := some .reseat, run := some ⟨0, 0, [], [⟨12, false, 0, [], [], [1]⟩]⟩ } })), magic, Kp.link, noWard, by decide +kernel⟩,
   ⟨(ready.on (fun d => { d.puts [(Fld.bootStatusState, 7), (Fld.bootStatusSource, 1)] with boot := { d.boot with reseat := 3, load := some .reseat } })), by decide +kernel⟩,
   ⟨ready, by decide +kernel⟩,
   ⟨(ready.on (fun d => { d with boot := { d.boot with load := some .live } })), by decide +kernel⟩,
   ⟨ready, 0x12340001, by decide +kernel⟩,
   ⟨(ready.on (fun d => { d with boot := { d.boot with load := some .reseat, reseat := 0 } }.put Fld.bootStatusSource 3)), Env.quiet, 7, by decide +kernel⟩,
   ⟨(ready.on (fun d => { d with boot := { d.boot with load := some .host } })), Env.quiet, 7, by decide +kernel⟩,
   ⟨(ready.on (fun d => { d with boot := { d.boot with load := some .live } })), by decide +kernel⟩,
   ⟨(ready.on (fun d => { d with boot := { d.boot with load := some .host } })), by decide +kernel⟩,
   ⟨(ready.on (fun d => { d.puts [(Fld.bootStatusState, 1), (Fld.bootStatusSource, 1)] with boot := { d.boot with load := some .boot } })), List.replicate 128 0, Kp.noImage, noWard, by decide +kernel⟩⟩

/-- Each clause of ClockCommandsComplete is met by a state and operands. -/
theorem witness_ClockCommandsComplete :
    (∃ (s : State) (v : Word), s.dev.hostReady = true) ∧
    (∃ (s : State) (v : Word), s.dev.hostReady = true) ∧
    (∃ (s : State) (v : Word), s.dev.hostReady = true) ∧
    (∃ (s : State), s.dev.hostReady = true) ∧
    (∃ (s : State) (near : Bool), s.dev.hostReady = true ∧ s.dev.get Fld.clkStatusLocked ≠ 0 ∧ s.dev.otherUsable near = true) ∧
    (∃ (s : State) (band : Fin 64), s.dev.clk.stage = AcqStage.band) ∧
    (∃ (s : State) (fref : Nat), s.dev.clk.stage = AcqStage.lock ∧ s.dev.rootInRange fref = true) ∧
    (∃ (s : State), s.dev.clk.stage = AcqStage.band ∨ s.dev.clk.stage = AcqStage.lock) ∧
    (∃ (s : State), s.dev.clk.stage = AcqStage.locked ∧ s.dev.boot.commit ≠ 1) ∧
    (∃ (s : State), s.dev.get Fld.clkStatusLocked ≠ 0) ∧
    (∃ (s : State) (near : Bool), s.dev.clk.frozen = true ∧ s.dev.refValid (s.dev.get Fld.clkStatusRefUsed) = true) ∧
    (∃ (s : State) (phaseOk near : Bool), s.dev.clk.frozen = true ∧ s.dev.refValid (s.dev.get Fld.clkStatusRefUsed) = false ∧
      s.dev.otherUsable near = true) ∧
    (∃ (s : State) (ref : Fin 4), s.dev.refValid ref = true) ∧
    (∃ (s : State) (ref : Fin 4) (near : Bool), s.dev.refValid ref = false ∧ s.dev.get Fld.clkStatusHoldover = 0) :=
  ⟨⟨ready, 0x3F, by decide +kernel⟩,
   ⟨ready, 5, by decide +kernel⟩,
   ⟨ready, 0x11, by decide +kernel⟩,
   ⟨ready, by decide +kernel⟩,
   ⟨(ready.on (fun d => d.puts [(Fld.clkStatusLocked, 1), (Fld.clkRefselAltEn, 1)])), true, by decide +kernel⟩,
   ⟨(ready.on (fun d => { d with clk := { d.clk with stage := 1 } })), 5, by decide +kernel⟩,
   ⟨(ready.on (fun d => { d with clk := { d.clk with stage := 2 } }.puts [(Fld.clkPllcfgInt, 116)])), 24576000, by decide +kernel⟩,
   ⟨(ready.on (fun d => { d with clk := { d.clk with stage := 1 } })), by decide +kernel⟩,
   ⟨(ready.on (fun d => { d with clk := { d.clk with stage := 3 } })), by decide +kernel⟩,
   ⟨(ready.on (fun d => d.puts [(Fld.clkStatusLocked, 1)])), by decide +kernel⟩,
   ⟨(ready.on (fun d => { d with clk := { d.clk with frozen := true } })), true, by decide +kernel⟩,
   ⟨(ready.on (fun d => { d with clk := { d.clk with frozen := true, valid := 2 } }.puts [(Fld.clkRefselAlt, 1), (Fld.clkRefselAltEn, 1)])), false, true, by decide +kernel⟩,
   ⟨ready, 1, by decide +kernel⟩,
   ⟨(ready.on (fun d => { d with clk := { d.clk with valid := 0xD } })), 1, true, by decide +kernel⟩⟩

/-- Each clause of KeywayCommandsComplete is met by a state and operands. -/
theorem witness_KeywayCommandsComplete :
    (∃ (s : State) (f : FrameIn), s.dev.strobes = true) ∧
    (∃ (s : State) (a : Nat) (v : Word), s.dev.hostReady = true ∧ s.dev.regUp (a) = true ∧ rwtMask a ≠ 0 ∧
      s.dev.stageRefused .host a v = false) ∧
    (∃ (s : State) (late : Bool), s.dev.hostReady = true ∧ s.dev.regUp (Reg.tumbCtrl) = true ∧ s.dev.liveHeld = false ∧
      s.dev.key.armed = none ∧ s.dev.key.entries ≠ []) ∧
    (∃ (s : State) (late : Bool), s.dev.hostReady = true ∧ s.dev.regUp (Reg.tumbCtrl) = true ∧ s.dev.liveHeld = false ∧
      s.dev.key.armed = none ∧ s.dev.key.entries ≠ [] ∧ notBefore (s.dev.get Fld.tumbAtframeFrame) (s.dev.earliest late) = true) ∧
    (∃ (s : State) (late : Bool), s.dev.hostReady = true ∧ s.dev.regUp (Reg.tumbCtrl) = true ∧ s.dev.liveHeld = false ∧
      s.dev.key.armed = none ∧ s.dev.key.entries ≠ [] ∧
        notBefore (s.dev.get Fld.tumbAtframeFrame) (s.dev.earliest late) = false) ∧
    (∃ (s : State) (late : Bool) (n : Nat), s.dev.hostReady = true ∧ s.dev.regUp (Reg.tumbCtrl) = true ∧ s.dev.liveHeld = false ∧
      s.dev.key.armed = some n ∧ (late && notBefore (s.dev.frame + 1) n) = false) ∧
    (∃ (s : State), s.dev.hostReady = true ∧ s.dev.regUp (Reg.tumbCtrl) = true ∧ s.dev.liveHeld = false ∧
      s.dev.key.armed = none) ∧
    (∃ (s : State) (c : Fin 8192) (x : Xp), s.dev.xp c = some x ∧ x.main.due = true ∧ x.serial = none ∧ x.shadow = none) ∧
    (∃ (s : State) (c : Fin 8192) (x : Xp) (r : Ramp), s.dev.xp c = some x ∧ x.shadow = some r ∧ r.due = true ∧
      x.main.due = false) ∧
    (∃ (s : State) (c : Fin 8192) (x : Xp) (src gt n : Nat), s.dev.xp c = some x ∧ x.serial = some (src, gt, n) ∧
      x.main.due = true) :=
  ⟨⟨(ready.on (fun d => { d with clk := { d.clk with fallback := false } })), quietFrame, by decide +kernel⟩,
   ⟨ready, Reg.keyXppage, 1, by decide +kernel⟩,
   ⟨(ready.on (fun d => { d with key := { d.key with entries := [⟨0x858104, 1⟩] } })), false, by decide +kernel⟩,
   ⟨(ready.on (fun d => { d with key := { d.key with entries := [⟨0x858104, 1⟩] } }.puts [(Fld.tumbAtframeFrame, 9)])), false, by decide +kernel⟩,
   ⟨(ready.on (fun d => { d with key := { d.key with entries := [⟨0x858104, 1⟩] } }.puts [(Fld.keyFramecntCount, 20), (Fld.tumbAtframeFrame, 9)])), false, by decide +kernel⟩,
   ⟨(ready.on (fun d => { d with key := { d.key with armed := some 9 } })), false, 9, by decide +kernel⟩,
   ⟨(ready.on (fun d => { d with key := { d.key with entries := [⟨0x858104, 1⟩] } })), by decide +kernel⟩,
   ⟨(ready.on (fun d => { d with key := { d.key with xps := [(3, ⟨⟨1, 0, 0, 4, 4⟩, true, none, none⟩)] } })), 3, ⟨⟨1, 0, 0, 4, 4⟩, true, none, none⟩, by decide +kernel⟩,
   ⟨(ready.on (fun d => { d with key := { d.key with xps := [(3, ⟨⟨1, 0, 5, 4, 1⟩, false, some ⟨2, 5, 0, 4, 4⟩, none⟩)] } })), 3, ⟨⟨1, 0, 5, 4, 1⟩, false, some ⟨2, 5, 0, 4, 4⟩, none⟩, ⟨2, 5, 0, 4, 4⟩, by decide +kernel⟩,
   ⟨(ready.on (fun d => { d with key := { d.key with xps := [(3, ⟨⟨1, 5, 0, 4, 4⟩, false, none, some (2, 7, 4)⟩)] } })), 3, ⟨⟨1, 5, 0, 4, 4⟩, false, none, some (2, 7, 4)⟩, 2, 7, 4, by decide +kernel⟩⟩

/-- Each clause of OutputCommandsComplete is met by a state and operands. -/
theorem witness_OutputCommandsComplete :
    (∃ (s : State) (o : Fin 10) (w a : Nat) (rest : List Nat), (s.dev.out o).wait = some w ∧ (s.dev.out o).svc = a :: rest ∧
      s.dev.bit Fld.outCalctrlRotEn o = true) ∧
    (∃ (s : State) (o : Fin 10) (k : Nat), (s.dev.out o).cal = some k ∧ (s.dev.out o).wait = none) ∧
    (∃ (s : State) (o : Fin 10) (k : Nat), (s.dev.out o).cal = some k) ∧
    (∃ (s : State) (o : Fin 10) (k : Fin 10) (w : Nat), (s.dev.out o).svc.contains k = true ∧ (s.dev.out o).wait = some w) ∧
    (∃ (s : State) (o : Fin 10) (k : Fin 10), (s.dev.out o).svc.contains k = true ∧ (s.dev.out o).wait = none) ∧
    (∃ (s : State) (o : Fin 4), s.dev.get (Fld.outStatusPersona o) ≠ 0 ∧ s.dev.undriven o = false) ∧
    (∃ (s : State) (o : Fin 4), bitOf (s.dev.clrCauses o) Cause.protect = true ∧ s.dev.get (Fld.outStatusPersona o) ≠ 0 ∧
      s.dev.undriven o = false ∧
      (s.dev.out o).hold = .none ∧ (s.dev.out o).recovering = false) ∧
    (∃ (s : State) (o : Fin 4), s.dev.hostReady = true ∧ bitOf (s.dev.clrCauses o) Cause.protect = true) ∧
    (∃ (s : State) (o : Fin 4), (s.dev.out o).recovering = true ∧ (s.dev.out o).hold = .none) ∧
    (∃ (s : State) (h : Fin 2), s.dev.undriven (4 + h) = false) ∧
    (∃ (s : State) (h : Fin 2), s.dev.hostReady = true) ∧
    (∃ (s : State), s.dev.on Dom.hp = true ∧ s.dev.bootSt ≠ BootSt.selftest) ∧
    (∃ (s : State) (o : Fin 10), s.dev.on (outDom o) = true ∧ s.dev.bootSt ≠ BootSt.selftest ∧
      ((o : Nat) < 4 ∨ ((o : Nat) < 6 ∧ s.dev.get Fld.hpPumpReady ≠ 0) ∨
        (6 ≤ (o : Nat) ∧ s.dev.get Fld.spkPvddReady ≠ 0 ∧ s.dev.get Fld.repStatusSpkDeferred = 0))) ∧
    (∃ (s : State) (o : Fin 10) (run : Bool), s.dev.hostReady = true ∧ s.dev.upper o = false) ∧
    (∃ (s : State) (o : Fin 10), s.dev.hostReady = true ∧ s.dev.upper o = false ∧ s.dev.get (Fld.outCtrlRun o) = 0 ∧
      s.dev.outSt o = OutSt.powerup) ∧
    (∃ (s : State), s.dev.pins.outClr = false) ∧
    (∃ (s : State), s.dev.pins.outClr = true) ∧
    (∃ (s : State) (o : Fin 10), ((s.dev.out o).hold = .refgain ∨ (s.dev.out o).hold = .slice ∨ (s.dev.out o).hold = .segment ∨ (s.dev.out o).hold = .fsp)) ∧
    (∃ (s : State) (o : Fin 10), ((s.dev.out o).hold = .entry ∨ (s.dev.out o).hold = .restart) ∧ s.dev.clrCauses o ≠ 0) ∧
    (∃ (s : State) (o : Fin 10), ((s.dev.out o).hold = .entry ∨ (s.dev.out o).hold = .restart) ∧ s.dev.outSt o = OutSt.clear ∧
      s.dev.clrCauses o = 0 ∧
      (s.dev.out o).recovering = false ∧ s.dev.pinHiz o = false) ∧
    (∃ (s : State) (o : Fin 10), (s.dev.out o).hold = .exit ∧ s.dev.get (Fld.outCtrlRun o) ≠ 0) ∧
    (∃ (s : State) (o : Fin 10) (trim : Int) (limit : Bool) (st : Nat), (s.dev.out o).blocks = [.rampUp] ∧
      (s.dev.out o).fin = .state st) ∧
    (∃ (s : State) (o : Fin 10) (trim : Int) (limit : Bool) (st : Nat), (s.dev.out o).blocks = [.rampDown] ∧
      (s.dev.out o).fin = .state st) ∧
    (∃ (s : State) (o : Fin 10) (mute : Bool), s.dev.hostReady = true) ∧
    (∃ (s : State) (o : Fin 4), s.dev.kt! (5 + o) ≠ s.dev.get (Fld.outStatusPersona o) ∧ s.dev.outSt o ≠ OutSt.persona ∧
      (s.dev.undriven o = true ∨ s.dev.outSt o = OutSt.clear ∨ s.dev.outSt o = OutSt.failed)) ∧
    (∃ (s : State) (o : Fin 4), s.dev.kt! (5 + o) ≠ s.dev.get (Fld.outStatusPersona o) ∧ s.dev.outSt o ≠ OutSt.persona ∧
      s.dev.gain o ≠ 0 ∧
      s.dev.undriven o = false ∧ s.dev.outSt o ≠ OutSt.clear ∧ s.dev.outSt o ≠ OutSt.failed) :=
  ⟨⟨(ready.on (fun d => (d.modOut 1 (fun x => { x with svc := [4, 5], wait := some 7, cal := some 2 })).puts [(Fld.outCalctrlRotEn, 2)])), 1, 7, 4, [5], by decide +kernel⟩,
   ⟨(ready.on (fun d => d.modOut 1 (fun x => { x with cal := some 2 }))), 1, 2, by decide +kernel⟩,
   ⟨(ready.on (fun d => d.modOut 1 (fun x => { x with cal := some 2 }))), 1, 2, by decide +kernel⟩,
   ⟨(ready.on (fun d => d.modOut 1 (fun x => { x with wait := some 8 }))), 1, 3, 8, by decide +kernel⟩,
   ⟨ready, 1, 3, by decide +kernel⟩,
   ⟨(ready.on (fun d => d.puts [(Fld.outStatusPersona 1, 1), (Fld.outStatusState 1, 4)])), 1, by decide +kernel⟩,
   ⟨(ready.on (fun d => d.puts [(Fld.outStatusPersona 1, 1), (Fld.outStatusState 1, 4), (Fld.outStatusClrCause 1, 4)])), 1,
     by decide +kernel⟩,
   ⟨(ready.on (fun d => d.puts [(Fld.outStatusClrCause 1, 4)])), 1, by decide +kernel⟩,
   ⟨(ready.on (fun d => d.modOut 1 (fun x => { x with recovering := true }))), 1, by decide +kernel⟩,
   ⟨(ready.on (fun d => d.puts [(Fld.outStatusState 5, 4)])), 1, by decide +kernel⟩,
   ⟨ready, 1, by decide +kernel⟩,
   ⟨ready, by decide +kernel⟩,
   ⟨ready, 1, by decide +kernel⟩,
   ⟨ready, 1, true, by decide +kernel⟩,
   ⟨(ready.on (fun d => d.puts [(Fld.outStatusState 1, 2)])), 1, by decide +kernel⟩,
   ⟨ready, by decide +kernel⟩,
   ⟨(ready.on (fun d => { d with pins := { d.pins with outClr := true } })), by decide +kernel⟩,
   ⟨(ready.on (fun d => d.modOut 1 (fun x => { x with hold := .slice }))), 1, by decide +kernel⟩,
   ⟨(ready.on (fun d => (d.modOut 1 (fun x => { x with hold := .entry })).puts [(Fld.outStatusClrCause 1, 1)])), 1, by decide +kernel⟩,
   ⟨(ready.on (fun d => (d.modOut 1 (fun x => { x with hold := .entry, ready := true })).puts [(Fld.outStatusState 1, 6)])), 1, by decide +kernel⟩,
   ⟨(ready.on (fun d => (d.modOut 1 (fun x => { x with hold := .exit })).puts [(Fld.outCtrlRun 1, 1)])), 1, by decide +kernel⟩,
   ⟨(ready.on (fun d => d.modOut 1 (fun x => { x with blocks := [.rampUp], fin := .state 4 }))), 1, 0, false, 4, by decide +kernel⟩,
   ⟨(ready.on (fun d => d.modOut 1 (fun x => { x with blocks := [.rampDown], fin := .state 2 }))), 1, 0, false, 2, by decide +kernel⟩,
   ⟨ready, 1, true, by decide +kernel⟩,
   ⟨(ready.on (fun d => (d.setSlot 6 0 ⟨true, true, 0, 1⟩).puts [(Fld.outStatusState 1, 0)])), 1, by decide +kernel⟩,
   ⟨(ready.on (fun d => (d.setSlot 6 0 ⟨true, true, 0, 1⟩).puts [(Fld.outStatusState 1, 4), (Fld.seqStatusGain 1, 0x8000)])), 1,
     by decide +kernel⟩⟩

/-- Each clause of SpeakerCommandsComplete is met by a state and operands. -/
theorem witness_SpeakerCommandsComplete :
    (∃ (s : State) (n : Fin 4) (h : Fin 2) (seg : Fin 18) (cell : Fin 3) (spare : Nat), s.dev.bit (segFld n h) seg = true ∧
      (s.dev.out (6 + n)).swap = none ∧ s.dev.get (segRetFld n h) < 2 ∧
      [16, 17].find? (fun k => !s.dev.bit (segFld n h) k) = some spare) ∧
    (∃ (s : State) (n : Fin 4) (h : Fin 2) (seg : Fin 18) (cell : Fin 3), s.dev.bit (segFld n h) seg = true ∧
      (s.dev.out (6 + n)).swap = none ∧ 2 ≤ s.dev.get (segRetFld n h)) ∧
    (∃ (s : State) (n : Fin 4), s.dev.hostReady = true ∧ s.dev.get (Fld.spkStatusHizCauseShort n) ≠ 0 ∧
      s.dev.outSt (s.dev.lowerOf n) = OutSt.hiz ∧
      s.dev.hizCauses (s.dev.lowerOf n) = 16 ∧ (s.dev.out (s.dev.lowerOf n)).ready = true) ∧
    (∃ (s : State) (n : Fin 4), s.dev.hostReady = true ∧ s.dev.upper (6 + n) = false ∧ s.dev.outSt (6 + n) = OutSt.powerup) ∧
    (∃ (s : State) (n : Fin 4) (pin : Option Bool) (r : Nat), s.dev.outSt (6 + n) = OutSt.diag) ∧
    (∃ (s : State) (n : Fin 4) (amps : Bool) (z : Nat), s.dev.get (Fld.spkPilotEn n) ≠ 0 ∧ s.dev.outSt (6 + n) = OutSt.running ∧
      s.dev.upper (6 + n) = false) ∧
    (∃ (s : State), s.dev.get Fld.spkPvddReady ≠ 0) ∧
    (∃ (s : State), s.dev.get Fld.spkPvddReady ≠ 0) ∧
    (∃ (s : State) (n : Fin 4) (d : Int), s.dev.get (Fld.spkEventsThermal n) = 0 ∧ d < 1000) :=
  ⟨⟨ready, 1, 0, 3, 1, 16, by decide +kernel⟩,
   ⟨(ready.on (fun d => d.puts [(Fld.spkSegpRetired 1, 2)])), 1, 0, 3, 1, by decide +kernel⟩,
   ⟨(ready.on (fun d => (d.modOut 7 (fun x => { x with ready := true })).puts [(Fld.spkStatusHizCauseShort 1, 1), (Fld.outStatusState 7, 1)])), 1, by decide +kernel⟩,
   ⟨(ready.on (fun d => d.puts [(Fld.outStatusState 7, 2)])), 1, by decide +kernel⟩,
   ⟨(ready.on (fun d => d.puts [(Fld.outStatusState 7, OutSt.diag)])), 1, none, 64, by decide +kernel⟩,
   ⟨(ready.on (fun d => d.puts [(Fld.spkPilotEn 1, 1), (Fld.outStatusState 7, 4)])), 1, true, 64, by decide +kernel⟩,
   ⟨(ready.on (fun d => d.puts [(Fld.spkPvddReady, 1)])), by decide +kernel⟩,
   ⟨(ready.on (fun d => d.puts [(Fld.spkPvddReady, 1)])), by decide +kernel⟩,
   ⟨ready, 1, 900, by decide +kernel⟩⟩

/-- Each clause of JackCommandsComplete is met by a state and operands. -/
theorem witness_JackCommandsComplete :
    (∃ (s : State) (k : Fin 4), s.dev.get (Fld.jdCfgEn k) ≠ 0 ∧ s.dev.rawIn k ≠ s.dev.bit Fld.jackStatusInserted k) ∧
    (∃ (s : State) (k : Fin 4) (v : Word), s.dev.hostReady = true) ∧
    (∃ (s : State) (h : Fin 2), s.dev.hostReady = true ∧ s.dev.get (Fld.hsResRunning h) = 0 ∧
      s.dev.on (micbDom (s.dev.get (Fld.hsCfgMicb h))) = true ∧
      s.dev.pinHiz 4 = false ∧ s.dev.pinHiz 5 = false) ∧
    (∃ (s : State) (h : Fin 2), s.dev.hostReady = true ∧ s.dev.get (Fld.hsResRunning h) = 0 ∧
      s.dev.on (micbDom (s.dev.get (Fld.hsCfgMicb h))) = false) ∧
    (∃ (s : State) (h : Fin 2), s.dev.hostReady = true ∧ s.dev.get (Fld.hsResRunning h) ≠ 0) ∧
    (∃ (s : State) (h : Fin 2), s.dev.get (Fld.hsResRunning h) ≠ 0) ∧
    (∃ (s : State) (h : Fin 2) (z : Nat), s.dev.get (Fld.hsResRunning h) ≠ 0 ∧ (s.dev.hsd h).avg = true) ∧
    (∃ (s : State) (h : Fin 2) (level : Nat) (reached : Bool), s.dev.hsDecodes h reached = true) ∧
    (∃ (s : State) (h : Fin 2) (level : Nat) (reached : Bool), s.dev.hsDecodes h reached = false) ∧
    (∃ (s : State) (h : Fin 2) (v : Word), s.dev.hostReady = true) :=
  ⟨⟨(ready.on (fun d => d.puts [(Fld.jdCfgEn 2, 1), (Fld.jdCfgPol 2, 1), (Fld.jackStatusRaw, 4)])), 2, by decide +kernel⟩,
   ⟨ready, 2, 0, by decide +kernel⟩,
   ⟨(ready.on (fun d => (d.modOut 4 (fun x => { x with ready := true })).modOut 5 (fun x => { x with ready := true }))), 1, by decide +kernel⟩,
   ⟨(ready.on (fun d => d.setDom 39 0)), 1, by decide +kernel⟩,
   ⟨(ready.on (fun d => d.puts [(Fld.hsResRunning 1, 1)])), 1, by decide +kernel⟩,
   ⟨(ready.on (fun d => d.puts [(Fld.hsResRunning 1, 1)])), 1, by decide +kernel⟩,
   ⟨(ready.on (fun d => (d.modHs 1 (fun x => { x with avg := true })).puts [(Fld.hsResRunning 1, 1)])), 1, 32, by decide +kernel⟩,
   ⟨(ready.on (fun d => d.puts [(Fld.hsCfgBtnEn 1, 1), (Fld.micbCfgEn 0, 1), (Fld.micbStatusDriving, 1)])), 1, 40, true,
     by decide +kernel⟩,
   ⟨ready, 1, 40, true, by decide +kernel⟩,
   ⟨ready, 1, 0, by decide +kernel⟩⟩

/-- Each clause of InputCommandsComplete is met by a state and operands. -/
theorem witness_InputCommandsComplete :
    (∃ (s : State) (n : Fin 8) (a : Nat) (rest : List Nat), (s.dev.ain n).svc = a :: rest ∧
      s.dev.bit Fld.anainCalctrlRotEn n = true ∧
      s.dev.get (Fld.anainChStatusOutSlice n) ≠ 15 ∧ (s.dev.ain n).ready = true) ∧
    (∃ (s : State) (n : Fin 8), s.dev.get (Fld.anainChStatusOutSlice n) ≠ 15 ∧ (s.dev.ain n).ready = false) ∧
    (∃ (s : State) (n : Fin 8), s.dev.get (Fld.anainChStatusOutSlice n) ≠ 15 ∧ (s.dev.ain n).ready = false) ∧
    (∃ (s : State) (n : Fin 8) (k : Fin 9), (s.dev.ain n).svc.contains k = true ∧ s.dev.get (Fld.anainChStatusOutSlice n) ≠ 15 ∧
      (s.dev.ain n).ready = true) ∧
    (∃ (s : State) (n : Fin 8) (k : Fin 9), (s.dev.ain n).svc.contains k = true ∧ s.dev.get (Fld.anainChStatusOutSlice n) = 15) ∧
    (∃ (s : State) (n : Fin 4), s.dev.bit Fld.micbStatusDriving n = true ∧ bitOf s.dev.inp.micbBusy n = false) ∧
    (∃ (s : State) (k : Fin 8), s.dev.bit Fld.pdmStatusReceiving k = true ∧ s.dev.bit Fld.pdmStatusClkPresent k = true) ∧
    (∃ (s : State) (k : Fin 8), s.dev.bit Fld.pdmStatusReceiving k = true) ∧
    (∃ (s : State) (k : Fin 32), (k : Nat) < 8) :=
  ⟨⟨(ready.on (fun d => (d.setAin 1 { d.ain 1 with svc := [4, 5], ready := true }).puts [(Fld.anainCalctrlRotEn, 2), (Fld.anainChStatusOutSlice 1, 2)])), 1, 4, [5], by decide +kernel⟩,
   ⟨(ready.on (fun d => d.puts [(Fld.anainChStatusOutSlice 1, 2)])), 1, by decide +kernel⟩,
   ⟨(ready.on (fun d => d.puts [(Fld.anainChStatusOutSlice 1, 2)])), 1, by decide +kernel⟩,
   ⟨(ready.on (fun d => (d.setAin 1 { d.ain 1 with ready := true }).puts [(Fld.anainChStatusOutSlice 1, 8)])), 1, 3, by decide +kernel⟩,
   ⟨(ready.on (fun d => d.puts [(Fld.anainChStatusOutSlice 1, 15)])), 1, 3, by decide +kernel⟩,
   ⟨(ready.on (fun d => d.puts [(Fld.micbStatusDriving, 2)])), 1, by decide +kernel⟩,
   ⟨(ready.on (fun d => d.puts [(Fld.pdmStatusReceiving, 2), (Fld.pdmStatusClkPresent, 2)])), 1, by decide +kernel⟩,
   ⟨(ready.on (fun d => d.puts [(Fld.pdmStatusReceiving, 2)])), 1, by decide +kernel⟩,
   ⟨ready, 3, by decide +kernel⟩⟩

/-- Each clause of PortCommandsComplete is met by a state and operands. -/
theorem witness_PortCommandsComplete :
    (∃ (s : State) (n : Fin 7) (tx : Bool), s.dev.hostReady = true ∧ s.dev.regUp (unitCtrl n) = true ∧ s.dev.portWard n = true ∧
      s.dev.is (runF n tx) = false ∧
      s.dev.dirSt n tx = PortSt.idle ∧ (s.dev.dir n tx).stopPend = false) ∧
    (∃ (s : State) (n : Fin 7) (tx : Bool), s.dev.hostReady = true ∧ s.dev.regUp (unitCtrl n) = true ∧ s.dev.portWard n = true ∧
      s.dev.is (runF n tx) = true ∧ s.dev.dirSt n tx = PortSt.running) ∧
    (∃ (s : State) (n : Fin 7), s.dev.hostReady = true ∧ s.dev.regUp (unitCtrl n) = true ∧ s.dev.portWard n = true) ∧
    (∃ (s : State) (n : Fin 6) (slots : List Nat), s.dev.on Dom.ports = true ∧ s.dev.dirSt n false = PortSt.running ∧
      s.dev.isMem n false = false ∧
      (s.dev.dir n false).fifo.length < 4) ∧
    (∃ (s : State) (pair : Fin 12) (bits : Nat) (n : Nat) (tx : Bool), s.dev.on Dom.ports = true ∧
      s.dev.followers pair = [(n, tx)] ∧ s.dev.is (lockF n tx) = true ∧
      bits ≠ s.dev.unitSlots n * s.dev.slotWidth n) ∧
    (∃ (s : State) (pair : Fin 12) (bits : Nat) (n : Nat) (tx : Bool), s.dev.on Dom.ports = true ∧
      s.dev.followers pair = [(n, tx)] ∧ s.dev.is (lockF n tx) = false ∧
      (s.dev.dir n tx).edge = true ∧ (s.dev.dir n tx).good = 0 ∧ bits = s.dev.unitSlots n * s.dev.slotWidth n) ∧
    (∃ (s : State) (n : Fin 7) (f : PFrame) (rest : List PFrame), (n : Nat) < 6 ∧ s.dev.on Dom.ports = true ∧
      s.dev.dirSt n true = PortSt.running ∧ s.dev.isConv n true = false ∧
      s.dev.isMem n true = false ∧ (s.dev.dir n true).stopPend = false ∧ (s.dev.dir n true).isOpen = true ∧
      (s.dev.dir n true).primed = true ∧ (s.dev.dir n true).fifo = f :: rest) ∧
    (∃ (s : State) (f : SpdifIn), s.dev.on Dom.ports = true ∧ s.dev.dirSt 6 false = PortSt.running ∧
      s.dev.is (lockF 6 false) = true ∧
      f.preA = 0 ∧ f.preB = 1 ∧ f.biphase = false ∧ (s.dev.dir 6 false).fifo.length < 4) ∧
    (∃ (s : State) (f : SpdifIn), s.dev.on Dom.ports = true ∧ s.dev.dirSt 6 false ≠ PortSt.idle ∧
      s.dev.is (lockF 6 false) = true ∧ f.biphase = true) ∧
    (∃ (s : State) (k : Fin 8), s.dev.is (Fld.spdifNpstatMuted k) = true ∧ s.dev.npDue k = true) ∧
    (∃ (s : State) (m : Fin 13), s.dev.rmonFollow m ≠ [] ∧
      (s.dev.get (Fld.rmonStatusState m) = 2 ∨ s.dev.get (Fld.rmonStatusState m) = 3)) ∧
    (∃ (s : State) (m : Fin 13) (c : Nat), s.dev.rmonFollow m ≠ [] ∧ s.dev.get (Fld.rmonStatusState m) = 3 ∧
      (s.dev.rmon m).before = 0 ∧ (s.dev.rmon m).lost = false ∧
      (s.dev.rmon m).off = [] ∧ (s.dev.rmon m).acc ≠ [] ∧ near2 c (mean256 (s.dev.rmon m).acc) = true) ∧
    (∃ (s : State) (mask : Word), s.dev.hostReady = true ∧ s.dev.regUp (Reg.rmonCtrl) = true) ∧
    (∃ (s : State) (g : Fin 14), s.dev.asrcSt g = AsrcSt.acquire) ∧
    (∃ (s : State) (g : Fin 14), s.dev.asrcSt g = AsrcSt.fadeIn ∧ 256 ≤ (s.dev.asrc g).gain) ∧
    (∃ (s : State) (g : Fin 14), s.dev.asrcSt g = AsrcSt.fadeOut ∧ (s.dev.asrc g).gain = 0 ∧ (s.dev.asrc g).dest = AsrcSt.wait) ∧
    (∃ (s : State) (g : Fin 14), s.dev.asrcSt g = AsrcSt.hold) ∧
    (∃ (s : State) (mask : Word), s.dev.hostReady = true ∧ s.dev.regUp (Reg.asrcCtrl) = true) :=
  ⟨⟨(ready.on (fun d => { d with boot := { d.boot with run := some ⟨0, 0, [], [⟨8, false, 1, [], [], []⟩]⟩ } })), 1, true, by decide +kernel⟩,
   ⟨(ready.on (fun d => { d with boot := { d.boot with run := some ⟨0, 0, [], [⟨8, false, 1, [], [], []⟩]⟩ } }.puts [(runF 1 true, 1), (stateF 1 true, 3)])), 1, true, by decide +kernel⟩,
   ⟨(ready.on (fun d => { d with boot := { d.boot with run := some ⟨0, 0, [], [⟨8, false, 1, [], [], []⟩]⟩ } })), 1, by decide +kernel⟩,
   ⟨(ready.on (fun d => d.puts [(stateF 1 false, 3)])), 1, [1, 2], by decide +kernel⟩,
   ⟨(ready.on (fun d => d.puts [(stateF 1 false, 3), (lockF 1 false, 1)])), 2, 5, 1, false, by decide +kernel⟩,
   ⟨(ready.on (fun d => (d.modDir 1 false (fun x => { x with edge := true })).puts [(stateF 1 false, 1)])), 2, 32, 1, false, by decide +kernel⟩,
   ⟨(ready.on (fun d => (d.modDir 1 true (fun x => { x with isOpen := true, primed := true, fifo := [⟨1, 0, 3, false, [5, 6]⟩] })).puts [(stateF 1 true, 3)])), 1, ⟨1, 0, 3, false, [5, 6]⟩, [], by decide +kernel⟩,
   ⟨(ready.on (fun d => d.puts [(stateF 6 false, 3), (lockF 6 false, 1)])), ⟨0, 1, false, 0, 0⟩, by decide +kernel⟩,
   ⟨(ready.on (fun d => d.puts [(stateF 6 false, 3), (lockF 6 false, 1)])), ⟨0, 1, true, 0, 0⟩, by decide +kernel⟩,
   ⟨(ready.on (fun d => d.puts [(Fld.spdifNpstatMuted 1, 1), (Fld.spdifNpcfgHold, 0)])), 1, by decide +kernel⟩,
   ⟨(ready.on (fun d => d.puts [(stateF 1 false, 3), (Fld.rmonStatusState 2, 3)])), 2, by decide +kernel⟩,
   ⟨(ready.on (fun d => ({ d with ser := { d.ser with rmon := [(2, ⟨[2560], [], 0, [], false⟩)] } }).puts [(stateF 1 false, 3), (Fld.rmonStatusState 2, 3)])), 2, 2560, by decide +kernel⟩,
   ⟨ready, 4, by decide +kernel⟩,
   ⟨(ready.on (fun d => d.puts [(Fld.asrcGStatusState 3, 2)])), 3, by decide +kernel⟩,
   ⟨(ready.on (fun d => (d.setAsrc 3 ⟨256, 1, false⟩).puts [(Fld.asrcGStatusState 3, 3)])), 3, by decide +kernel⟩,
   ⟨(ready.on (fun d => (d.setAsrc 3 ⟨0, 1, false⟩).puts [(Fld.asrcGStatusState 3, 7)])), 3, by decide +kernel⟩,
   ⟨(ready.on (fun d => d.puts [(Fld.asrcGStatusState 3, 5)])), 3, by decide +kernel⟩,
   ⟨ready, 8, by decide +kernel⟩⟩

/-- Each clause of UsbCommandsComplete is met by a state and operands. -/
theorem witness_UsbCommandsComplete :
    (∃ (s : State) (bytes : List Byte), s.dev.usbSt = UsbSt.configured ∧ s.dev.get Fld.usbStatusPlayAlt ≠ 0 ∧
      s.dev.inFallback = false ∧
      s.dev.usb.playCh * s.dev.usb.playSub ≠ 0 ∧ bytes.length % (s.dev.usb.playCh * s.dev.usb.playSub) = 0 ∧
      bytes.length / (s.dev.usb.playCh * s.dev.usb.playSub) ≤ usbCeil (s.dev.is Fld.usbStatusSpeed) (s.dev.usbHz false) + 1) ∧
    (∃ (s : State) (bytes : List Byte), s.dev.usbSt = UsbSt.configured ∧ s.dev.get Fld.usbStatusPlayAlt ≠ 0 ∧
      s.dev.inFallback = true) ∧
    (∃ (s : State) (up : Bool), s.dev.usbSt = UsbSt.configured) ∧
    (∃ (s : State) (up : Bool), s.dev.usbSt = UsbSt.configured ∧ s.dev.get Fld.usbStatusCapAlt ≠ 0 ∧ s.dev.inFallback = false ∧
      s.dev.usb.cap ≠ []) ∧
    (∃ (s : State) (frame micro : Nat) (meas : Int), s.dev.usbSt ≠ UsbSt.detached ∧ s.dev.usbSt ≠ UsbSt.released ∧
      s.dev.usbSt ≠ UsbSt.suspended) ∧
    (∃ (s : State) (cap : Bool) (alt ch sub res : Nat), s.dev.usbSt = UsbSt.configured) ∧
    (∃ (s : State) (cap : Bool) (hz c r : Nat), (bitList 13 (s.dev.usbOffered cap)).find? (fun k => rateHz k == hz) = some c ∧
      s.dev.usbRatio hz = some r) ∧
    (∃ (s : State) (a : Nat), s.dev.usbSt = UsbSt.default ∧ a % 128 ≠ 0) ∧
    (∃ (s : State) (c : Nat), (s.dev.usbSt = UsbSt.addressed ∨ s.dev.usbSt = UsbSt.configured) ∧ c ≠ 0) ∧
    (∃ (s : State) (v : Word), s.dev.hostReady = true ∧ s.dev.regUp (Reg.usbHidin) = true ∧
      s.dev.get Fld.usbHidinReport ≠ bitsOf v.toNat 0 5) ∧
    (∃ (s : State), s.dev.alive = true ∧ s.dev.usbWard.isSome = true ∧ s.dev.released = false ∧
      s.dev.is Fld.usbCtrlDiscon = false ∧ s.dev.on Dom.usb = true ∧
      s.dev.usb.pullup = false) ∧
    (∃ (s : State), s.dev.usb.pullup = true ∧ s.dev.released = false) ∧
    (∃ (s : State), UsbSt.attached ≤ s.dev.usbSt ∧ s.dev.usbSt ≤ UsbSt.configured) ∧
    (∃ (s : State) (high : Bool), s.dev.released = false ∧ s.dev.usbSt = UsbSt.suspended ∧ s.dev.is Fld.pwrTxnBusy = true) ∧
    (∃ (s : State) (high : Bool), s.dev.released = false ∧ s.dev.usbSt ≠ UsbSt.detached ∧ s.dev.usbSt ≠ UsbSt.released ∧
      s.dev.is Fld.pwrTxnBusy = true) ∧
    (∃ (s : State), UsbSt.default ≤ s.dev.usbSt ∧ s.dev.usbSt ≤ UsbSt.configured ∧ s.dev.usb.lpm = true ∧
      s.dev.get Fld.usbStatusPlayAlt = 0 ∧
      s.dev.get Fld.usbStatusCapAlt = 0) ∧
    (∃ (s : State) (v : Word), s.dev.hostReady = true ∧ s.dev.regUp (Reg.usbCtrl) = true) :=
  ⟨⟨(ready.on (fun d => { d.puts [(Fld.usbStatusState, 4), (Fld.usbStatusPlayAlt, 1), (Fld.usbRatePlayRate, 8)] with usb := { d.usb with playCh := 2, playSub := 2, playRes := 16 }, clk := { d.clk with fallback := false } })), [1, 0, 2, 0], by decide +kernel⟩,
   ⟨(ready.on (fun d => d.puts [(Fld.usbStatusState, 4), (Fld.usbStatusPlayAlt, 1)])), [1, 0, 2, 0], by decide +kernel⟩,
   ⟨(ready.on (fun d => d.puts [(Fld.usbStatusState, 4)])), true, by decide +kernel⟩,
   ⟨(ready.on (fun d => { d.puts [(Fld.usbStatusState, 4), (Fld.usbStatusCapAlt, 1), (Fld.usbRateCapRate, 8)] with usb := { d.usb with cap := [[1, 2]] }, clk := { d.clk with fallback := false } })), true, by decide +kernel⟩,
   ⟨(ready.on (fun d => d.puts [(Fld.usbStatusState, 4)])), 5, 1, 0, by decide +kernel⟩,
   ⟨(ready.on (fun d => d.puts [(Fld.usbStatusState, 4)])), true, 1, 2, 3, 24, by decide +kernel⟩,
   ⟨(ready.on (fun d => { d with boot := { d.boot with run := some ⟨0, 0, [], [⟨0x0B, false, 0, [], [], [0, 1, 0, 1]⟩]⟩ } })), false, 48000, 8, 1, by decide +kernel⟩,
   ⟨(ready.on (fun d => d.puts [(Fld.usbStatusState, 2)])), 5, by decide +kernel⟩,
   ⟨(ready.on (fun d => d.puts [(Fld.usbStatusState, 3)])), 1, by decide +kernel⟩,
   ⟨ready, 3, by decide +kernel⟩,
   ⟨(ready.on (fun d => { d with boot := { d.boot with run := some ⟨0, 0, [], [⟨0x0B, false, 0, [], [], [0, 1, 0, 1]⟩]⟩ } })), by decide +kernel⟩,
   ⟨(ready.on (fun d => { d with usb := { d.usb with pullup := true } })), by decide +kernel⟩,
   ⟨(ready.on (fun d => d.puts [(Fld.usbStatusState, 4)])), by decide +kernel⟩,
   ⟨(ready.on (fun d => { d.puts [(Fld.usbStatusState, 5), (Fld.pwrTxnBusy, 1)] with usb := { d.usb with before := 4 } })), false, by decide +kernel⟩,
   ⟨(ready.on (fun d => d.puts [(Fld.usbStatusState, 5), (Fld.pwrTxnBusy, 1)])), true, by decide +kernel⟩,
   ⟨(ready.on (fun d => { d.puts [(Fld.usbStatusState, 4)] with usb := { d.usb with lpm := true } })), by decide +kernel⟩,
   ⟨ready, 3, by decide +kernel⟩⟩

/-- Each clause of EngineCommandsComplete is met by a state and operands. -/
theorem witness_EngineCommandsComplete :
    (∃ (s : State) (e : Fin 16) (cycles : Nat) (env : Env) (pa : Nat) (secure : Bool), (let p := (s.dev.rd (Reg.engPc e)).toNat
      let x := s.dev.eng e
      let b := leNat (s.bytes pa 8)
      s.dev.engPowered e = true ∧ s.dev.engSt e = EngSt.running ∧ x.loop = false ∧
        s.dev.translate (x.winSet e) .fetch p 8 = .ok pa secure ∧ s.dev.reach secure pa = .ok ∧ env.errs = [] ∧
        bundleLegal b = true ∧ (x.executes b = true → memShape (opOf (scalarOf b)) = none ∧
        ¬ opOf (scalarOf b) ∈ [0x1E, 0x1F, 0x24]))) ∧
    (∃ (s : State) (e : Fin 16) (errs : List EccErr) (pa : Nat) (secure : Bool), (let v := (SMap.get 0 (s.dev.eng e).c 9 + 0x200#32).toNat
      s.dev.engPowered e = true ∧ s.dev.engSt e = EngSt.running ∧ s.dev.takesNormal e = true ∧ s.dev.takesFast e = false ∧
        s.dev.translate e .fetch v 8 = .ok pa secure ∧ spanBad errs pa 8 = false)) ∧
    (∃ (s : State) (e : Fin 16) (errs : List EccErr) (k pa : Nat) (secure : Bool), (let v := (SMap.get 0 (s.dev.eng e).c 10).toNat
      s.dev.engPowered e = true ∧ s.dev.engSt e = EngSt.running ∧ (s.dev.eng e).fast = false ∧ s.dev.best e true = some k ∧
        keyId k ≠ 1023 ∧
        s.dev.translate (16 + e) .fetch v 8 = .ok pa secure ∧ spanBad errs pa 8 = false)) ∧
    (∃ (s : State) (e : Fin 16) (cycles : Nat) (errs : List EccErr), s.dev.engPowered e = true ∧ s.dev.engSt e = EngSt.waiting ∧
      s.dev.ready e false = true ∧ s.dev.ready e true = false ∧
      (s.dev.eng e).accept = false) ∧
    (∃ (s : State) (e : Fin 16), s.dev.hostReady = true ∧ s.dev.regUp (Reg.engCtrl e) = true ∧ s.dev.tooHot = false ∧
      s.dev.engSt e ≠ EngSt.running ∧ s.dev.engSt e ≠ EngSt.waiting) ∧
    (∃ (s : State) (e : Fin 16), s.dev.hostReady = true ∧ s.dev.regUp (Reg.engCtrl e) = true ∧ s.dev.engBusy e = true) ∧
    (∃ (s : State) (e : Fin 16), s.dev.hostReady = true ∧ s.dev.regUp (Reg.engCtrl e) = true ∧ s.dev.tooHot = false ∧
      s.dev.engSt e = EngSt.stopped) ∧
    (∃ (s : State) (e : Fin 16) (env : Env), s.dev.hostReady = true ∧ s.dev.regUp (Reg.engCtrl e) = true ∧
      s.dev.engSt e = EngSt.stopped ∧ s.dev.engPowered e = true) ∧
    (∃ (s : State) (e : Fin 16), s.dev.hostReady = true ∧ s.dev.regUp (Reg.engCtrl e) = true) ∧
    (∃ (s : State) (e : Fin 16) (v : Word), s.dev.hostReady = true ∧ s.dev.regUp (Reg.engCtrl e) = true) ∧
    (∃ (s : State) (e : Fin 16) (v : Word), s.dev.hostReady = true ∧ s.dev.regUp (Reg.engCtrl e) = true ∧
      (s.dev.engSt e = EngSt.stopped ∨ s.dev.engSt e = EngSt.halted) ∧
      0 < s.dev.get (Fld.engRegselIndex e) ∧ s.dev.get (Fld.engRegselIndex e) < 32) ∧
    (∃ (s : State) (e : Fin 16) (v : Word), s.dev.hostReady = true ∧ s.dev.regUp (Reg.engCtrl e) = true ∧
      (s.dev.engSt e = EngSt.reset ∨ s.dev.engSt e = EngSt.stopped) ∧
      (s.dev.wr (Reg.engRingin e) (v &&& 0x3FFC0)).ringOk e = true) ∧
    (∃ (s : State) (e : Fin 16) (v : Word), s.dev.hostReady = true ∧ s.dev.regUp (Reg.engCtrl e) = true ∧
      (s.dev.engSt e = EngSt.reset ∨ s.dev.engSt e = EngSt.stopped) ∧
      (s.dev.wr (Reg.engRinggeom e) (v &&& 0x1717)).ringOk e = true) :=
  ⟨⟨(ready.on (fun d => (d.wr (Reg.winVa 0 1) 0x7).puts [(Fld.engStatusState 1, 1)])), 1, 3, Env.quiet, 0, false,
    by decide +kernel⟩,
   ⟨(ready.on (fun d => ((d.setEng 1 ((Eng.init).setMode 0 true)).setGate 70 { Gate.init with st := .pending }).wr (Reg.winVa 0 1) 0x47 |>.puts [(Fld.engStatusState 1, 1), (⟨srcCfg 70, 31, 29⟩, 3), (⟨srcCfg 70, 20, 16⟩, 1)])), 1, [], 0x200, false, by decide +kernel⟩,
   ⟨(ready.on (fun d => ((d.setGate 70 { Gate.init with st := .pending }).wr (Reg.winVa 0 17) 0x47).puts [(Fld.engStatusState 1, 1), (⟨srcCfg 70, 31, 29⟩, 3), (⟨srcCfg 70, 28, 28⟩, 1), (⟨srcCfg 70, 20, 16⟩, 1)])), 1, [], 70, 0, false, by decide +kernel⟩,
   ⟨(ready.on (fun d => (d.setGate 70 { Gate.init with st := .pending }).puts [(Fld.engStatusState 1, 2), (⟨srcCfg 70, 31, 29⟩, 3), (⟨srcCfg 70, 20, 16⟩, 1)])), 1, 5, [], by decide +kernel⟩,
   ⟨ready, 1, by decide +kernel⟩,
   ⟨(ready.on (fun d => d.puts [(Fld.engStatusState 1, 1)])), 1, by decide +kernel⟩,
   ⟨(ready.on (fun d => d.puts [(Fld.engStatusState 1, 3)])), 1, by decide +kernel⟩,
   ⟨(ready.on (fun d => d.puts [(Fld.engStatusState 1, 3)])), 1, Env.quiet, by decide +kernel⟩,
   ⟨ready, 1, by decide +kernel⟩,
   ⟨ready, 1, 9, by decide +kernel⟩,
   ⟨(ready.on (fun d => d.puts [(Fld.engStatusState 1, 3), (Fld.engRegselIndex 1, 5)])), 1, 9, by decide +kernel⟩,
   ⟨ready, 1, 0x40, by decide +kernel⟩,
   ⟨ready, 1, 0x0204, by decide +kernel⟩⟩

/-- Each clause of MemoryCommandsComplete is met by a state and operands. -/
theorem witness_MemoryCommandsComplete :
    (∃ (s : State) (a : Nat), s.dev.memc.wb.contains (a / 16 * 16) = true) ∧
    (∃ (s : State) (a : Nat) (e : EccErr) (b : Nat), s.dev.is Fld.memScrubcfgEn = true ∧ a < 0x610000 ∧
      s.dev.bankOn (s.dev.region a) = true ∧
      e.word = a / 16 * 16 ∧ e.bit = some b ∧ s.dev.memc.seen.contains (a / 16 * 16) = false) ∧
    (∃ (s : State) (a : Nat), s.dev.is Fld.memScrubcfgEn = true ∧ a < 0x610000 ∧ s.dev.bankOn (s.dev.region a) = true) ∧
    (∃ (s : State) (loc kind : Nat), s.dev.memc.copies.contains (loc, kind) = true) ∧
    (∃ (s : State) (set : Fin 64) (win : Fin 16) (v : Word), s.dev.hostReady = true ∧ s.dev.winIdle set = true ∧
      s.dev.is (Fld.winVaS win set) = false) ∧
    (∃ (s : State) (set : Fin 64) (win : Fin 16) (v : Word), s.dev.hostReady = true ∧ s.dev.winIdle set = true ∧
      s.dev.is (Fld.winVaS win set) = false ∧ bitOf v.toNat 3 = false) ∧
    (∃ (s : State), s.dev.is Fld.lbxStatusWiping = true ∧ s.dev.kt.advance = false) ∧
    (∃ (s : State), s.dev.is Fld.lbxStatusWiping = true ∧ s.dev.kt.advance = true) ∧
    (∃ (s : State) (v : Word), s.dev.hostReady = true ∧ bitOf v.toNat 0 = true) ∧
    (∃ (s : State) (v : Word), s.dev.hostReady = true ∧ bitOf v.toNat 1 = true) :=
  ⟨⟨(ready.on (fun d => { d with memc := { d.memc with wb := [0x20] } })), 0x24, by decide +kernel⟩,
   ⟨(ready.on (fun d => d.puts [(Fld.memScrubcfgEn, 1)])), 0x24, ⟨0x20, 0, some 5⟩, 5, by decide +kernel⟩,
   ⟨(ready.on (fun d => d.puts [(Fld.memScrubcfgEn, 1)])), 0x24, by decide +kernel⟩,
   ⟨(ready.on (fun d => { d with memc := { d.memc with copies := [(0x1000, 1)] } })), 0x1000, 1, by decide +kernel⟩,
   ⟨ready, 3, 2, 0x1000, by decide +kernel⟩,
   ⟨ready, 3, 2, 0x1017, by decide +kernel⟩,
   ⟨(ready.on (fun d => d.puts [(Fld.lbxStatusWiping, 1)])), by decide +kernel⟩,
   ⟨(ready.on (fun d => { d.puts [(Fld.lbxStatusWiping, 1)] with kt := { d.kt with advance := true } })), by decide +kernel⟩,
   ⟨ready, 1, by decide +kernel⟩,
   ⟨ready, 2, by decide +kernel⟩⟩

/-- Each clause of DmaCommandsComplete is met by a state and operands. -/
theorem witness_DmaCommandsComplete :
    (∃ (s : State) (c : Fin 64), s.dev.hostReady = true ∧ s.dev.regUp (Reg.dmaChCtrl c) = true ∧
      (s.dev.chSt c = ChSt.idle ∨ s.dev.chSt c = ChSt.stopped ∨ s.dev.chSt c = ChSt.faulted)) ∧
    (∃ (s : State) (c : Fin 64), s.dev.hostReady = true ∧ s.dev.regUp (Reg.dmaChCtrl c) = true ∧
      (s.dev.chSt c = ChSt.fetch ∨ s.dev.chSt c = ChSt.active ∨ s.dev.chSt c = ChSt.waitDesc)) ∧
    (∃ (s : State) (c : Fin 64), s.dev.hostReady = true ∧ s.dev.regUp (Reg.dmaChCtrl c) = true ∧
      (s.dev.chSt c = ChSt.stopped ∨ s.dev.chSt c = ChSt.faulted)) ∧
    (∃ (s : State) (c : Fin 64), s.dev.hostReady = true ∧ s.dev.regUp (Reg.dmaChCtrl c) = true ∧ s.dev.chSt c = ChSt.waitDesc) ∧
    (∃ (s : State) (c : Fin 64), s.dev.hostReady = true ∧ s.dev.regUp (Reg.dmaChCtrl c) = true) ∧
    (∃ (s : State) (c : Fin 64) (v : Word), s.dev.hostReady = true ∧ s.dev.regUp (Reg.dmaChCtrl c) = true ∧
      s.dev.chanBusy c = false) ∧
    (∃ (s : State) (c : Fin 64) (v : Word), s.dev.hostReady = true ∧ s.dev.regUp (Reg.dmaChCtrl c) = true ∧
      s.dev.chanBusy c = false) ∧
    (∃ (s : State) (c : Fin 64) (env : Env) (ws : List Word), s.dev.on Dom.dma = true ∧ s.dev.chSt c = ChSt.fetch ∧
      (s.readDesc env c).2.toOption = some ws ∧ bitOf (ws.getD 7 0).toNat 31 = false) ∧
    (∃ (s : State) (c : Fin 64) (k : Fin 4) (env : Env) (off pa : Nat) (secure : Bool),
      (s.dev.chan c).beats[(k : Nat)]? = some ⟨off, none⟩ ∧
      s.dev.translate (s.dev.chanSet c) .load ((s.dev.chan c).srcAt off) 16 = .ok pa secure ∧ s.dev.region pa ≠ .reg ∧
      s.dev.reach secure pa = .ok ∧ env.errs = []) ∧
    (∃ (s : State) (c : Fin 64) (env : Env) (u : State) (off pa : Nat) (secure : Bool) (bs : List Byte) (rest : List Beat),
      s.dev.on Dom.dma = true ∧ (s.dev.chSt c = ChSt.active ∨ s.dev.chSt c = ChSt.stopping) ∧ s.dmaRun env = u ∧
      (u.dev.chan c).beats = ⟨off, some bs⟩ :: rest ∧ u.dev.portSide c = none ∧
      u.dev.translate (u.dev.chanSet c) .store ((u.dev.chan c).dstAt off) 16 = .ok pa secure) ∧
    (∃ (s : State) (c : Fin 64) (env : Env) (w : State), s.dev.on Dom.dma = true ∧ s.dev.chSt c = ChSt.active ∧
      (s.dev.chan c).beats = [] ∧ (s.dev.chan c).bad = none ∧
      s.dev.portSide c = none ∧ s.dev.descLen c = some (s.dev.chanOff c) ∧ (s.dev.chan c).arm = false ∧
        (s.dev.chan c).last = true ∧
      (s.on (·.modChan c (fun x => { x with trunc := false }))).writeback env c (2 ^ 30 + s.dev.chanOff c) = (w, none) ∧ w.dev.chSt c = ChSt.active) ∧
    (∃ (s : State) (c : Fin 64), s.dev.chSt c = ChSt.active ∧ s.dev.get (Fld.dmaChCfgTimeout c) ≠ 0 ∧
      s.dev.get (Fld.dmaChCfgTimeout c) ≤ (s.dev.chan c).idle) :=
  ⟨⟨ready, 3, by decide +kernel⟩,
   ⟨(ready.on (fun d => (d.setChan 3 { Chan.init with beats := [⟨0, none⟩] }).puts [(Fld.dmaChStatusState 3, 2)])), 3, by decide +kernel⟩,
   ⟨(ready.on (fun d => d.puts [(Fld.dmaChStatusState 3, 5)])), 3, by decide +kernel⟩,
   ⟨(ready.on (fun d => d.puts [(Fld.dmaChStatusState 3, 3)])), 3, by decide +kernel⟩,
   ⟨ready, 3, by decide +kernel⟩,
   ⟨ready, 3, 0x40, by decide +kernel⟩,
   ⟨ready, 3, 5, by decide +kernel⟩,
   ⟨(ready.on (fun d => (d.puts [(Fld.dmaChStatusState 3, 1)]).wr (Reg.winVa 0 32) 0x3)), 3, Env.quiet, List.replicate 8 0,
     by decide +kernel⟩,
   ⟨(ready.on (fun d => ((d.setChan 3 { Chan.init with desc := [0, 0, 32, 0, 0, 0, 0, 0], beats := [⟨0, none⟩] }).puts [(Fld.dmaChStatusState 3, 2)]).wr (Reg.winVa 0 32) 0x3)), 3, 0, Env.quiet, 0, 0, false, by decide +kernel⟩,
   ⟨(ready.on (fun d => ((d.setChan 3 { Chan.init with desc := [0, 0, 16, 0, 0, 0, 0, 0], beats := [⟨0, some (List.replicate 16 1)⟩], next := 16 }).puts [(Fld.dmaChStatusState 3, 2)]).wr (Reg.winVa 0 32) 0x3)), 3, Env.quiet, ((ready.on (fun d => ((d.setChan 3 { Chan.init with desc := [0, 0, 16, 0, 0, 0, 0, 0], beats := [⟨0, some (List.replicate 16 1)⟩], next := 16 }).puts [(Fld.dmaChStatusState 3, 2)]).wr (Reg.winVa 0 32) 0x3)).dmaRun (Env.quiet)), 0, 0, false, List.replicate 16 1, [], by decide +kernel⟩,
   ⟨(ready.on (fun d => ((d.setChan 3 { Chan.init with desc := [0, 0, 16, 0, 0, 0, 1, 0], next := 16 }).puts [(Fld.dmaChStatusState 3, 2), (Fld.dmaChOffsetBytes 3, 16)]).wr (Reg.winVa 0 32) 0x3)), 3, Env.quiet, (((ready.on (fun d => ((d.setChan 3 { Chan.init with desc := [0, 0, 16, 0, 0, 0, 1, 0], next := 16 }).puts [(Fld.dmaChStatusState 3, 2), (Fld.dmaChOffsetBytes 3, 16)]).wr (Reg.winVa 0 32) 0x3)).on (·.modChan (3) (fun x => { x with trunc := false }))).writeback (Env.quiet) (3) (2 ^ 30 + (ready.on (fun d => ((d.setChan 3 { Chan.init with desc := [0, 0, 16, 0, 0, 0, 1, 0], next := 16 }).puts [(Fld.dmaChStatusState 3, 2), (Fld.dmaChOffsetBytes 3, 16)]).wr (Reg.winVa 0 32) 0x3)).dev.chanOff (3))).1, by decide +kernel⟩,
   ⟨(ready.on (fun d => (d.setChan 3 { Chan.init with idle := 4 }).puts [(Fld.dmaChStatusState 3, 2), (Fld.dmaChCfgTimeout 3, 2)])), 3, by decide +kernel⟩⟩

/-- Each clause of IntcCommandsComplete is met by a state and operands. -/
theorem witness_IntcCommandsComplete :
    (∃ (s : State) (k : Fin 2048), (s.dev.gate k).timer = true ∧ s.dev.isEdge k = true) ∧
    (∃ (s : State) (k : Fin 2048), (s.dev.gate k).timer = true ∧ s.dev.isEdge k = false ∧ s.dev.level k = true) ∧
    (∃ (s : State) (g : Fin 18) (fast : Bool) (k : Nat), s.dev.pwr.inReset = false ∧ ((g : Nat) < 16 ∨ fast = false) ∧
      s.dev.best g fast = some k) ∧
    (∃ (s : State) (g : Fin 18) (fast : Bool), s.dev.pwr.inReset = false ∧ ((g : Nat) < 16 ∨ fast = false) ∧
      s.dev.best g fast = none) ∧
    (∃ (s : State) (g : Fin 18) (fast : Bool) (id : Fin 1024) (k : Nat), s.dev.hostReady = true ∧
      ((g : Nat) < 16 ∨ fast = false) ∧ (id : Nat) ≠ 1023 ∧ idKey g id = some k ∧ s.dev.activeAt g fast k = true) ∧
    (∃ (s : State) (v : Word), s.dev.hostReady = true ∧
      bitOf (s.dev.rd (Reg.sysTilemap (bitsOf v.toNat 16 4 / 8))).toNat (4 * (bitsOf v.toNat 16 4 % 8) + 3) = false) ∧
    (∃ (s : State) (hold : Bool), s.dev.hostReady = true) ∧
    (∃ (s : State) (k : Fin 2048) (v : Word), s.dev.hostReady = true ∧ cfgSource (srcCfg k) = some (k : Nat) ∧
      (regRow (srcCfg k)).isSome = true) ∧
    (∃ (s : State) (k : Fin 2048) (v : Word), s.dev.hostReady = true ∧ cfgSource (srcCoal k) = some (k : Nat) ∧
      (regRow (srcCoal k)).isSome = true) :=
  ⟨⟨(ready.on (fun d => d.setGate 1042 { Gate.init with timer := true, cnt := 1 })), 1042, by decide +kernel⟩,
   ⟨(ready.on (fun d => (d.setGate 70 { Gate.init with timer := true, cnt := 1 }).wr (Reg.spkEvents 0) 1)), 70, by decide +kernel⟩,
   ⟨(ready.on (fun d => (d.setGate 70 { Gate.init with st := .pending }).puts [(Fld.engStatusState 1, 1), (⟨srcCfg 70, 31, 29⟩, 3), (⟨srcCfg 70, 20, 16⟩, 1)])), 1, false, 70, by decide +kernel⟩,
   ⟨ready, 1, false, by decide +kernel⟩,
   ⟨(ready.on (fun d => d.setGate 70 { Gate.init with st := .active, tgt := 1 })), 1, false, 70, 70, by decide +kernel⟩,
   ⟨ready, 0x00010003, by decide +kernel⟩,
   ⟨ready, true, by decide +kernel⟩,
   ⟨ready, 70, 0xE0010000, by decide +kernel⟩,
   ⟨ready, 70, 0, by decide +kernel⟩⟩

/-- Each clause of LinkCommandsComplete is met by a state and operands. -/
theorem witness_LinkCommandsComplete :
    (∃ (s : State) (p : Fin 3) (f : LinkIn), s.dev.on Dom.link = true ∧ s.dev.is (Fld.linkPortCfgUsed p) = true ∧
      s.dev.lportSt p ≠ LPortSt.idle ∧ f.codeErr = false ∧ hdrOk f.hdr = true) ∧
    (∃ (s : State) (p : Fin 3) (f : LinkIn), s.dev.on Dom.link = true ∧ s.dev.is (Fld.linkPortCfgUsed p) = true ∧
      s.dev.lportSt p ≠ LPortSt.idle ∧ (f.codeErr = true ∨ hdrOk f.hdr = false)) ∧
    (∃ (s : State) (same : Bool), s.dev.isRoot = false ∧ s.dev.released = false ∧ s.dev.lportSt 0 = LPortSt.framed ∧
      s.dev.linkSt = LinkSt.ranging ∧ 32 ≤ s.dev.link.ranging) ∧
    (∃ (s : State), s.dev.isRoot = false ∧ s.dev.is (Fld.linkPortCfgUsed 0) = true ∧ s.dev.is Fld.linkStatusRootLost = false ∧
      8 ≤ (s.dev.lport 0).gone ∧
      (s.dev.linkSt = LinkSt.joined ∨ s.dev.linkSt = LinkSt.slew)) ∧
    (∃ (s : State) (p : Fin 3) (m : List Byte), s.dev.msgOn p = true ∧ msgNat m 4 1 = MsgType.app ∧
      (s.dev.checkMsg p m).2 = true ∧ (s.dev.route p m).1 = true ∧ s.dev.link.rxq.length < 8) ∧
    (∃ (s : State) (p : Fin 3) (m : List Byte), s.dev.msgOn p = true ∧ msgNat m 4 1 = MsgType.assign ∧
      (s.dev.checkMsg p m).2 = true ∧ (s.dev.route p m).1 = true ∧ s.dev.is Fld.linkCfgIdHost = true ∧
        s.dev.is Fld.linkNodeidValid = false) ∧
    (∃ (s : State) (p : Fin 3) (m : List Byte), s.dev.msgOn p = true ∧ msgNat m 4 1 = MsgType.join ∧
      (s.dev.checkMsg p m).2 = true ∧ (s.dev.route p m).1 = true ∧ s.dev.isRoot = true ∧ s.dev.link.rxq.length < 8) ∧
    (∃ (s : State) (p : Fin 3) (m : List Byte), s.dev.msgOn p = true ∧ msgNat m 4 1 = MsgType.reset ∧
      (s.dev.checkMsg p m).2 = true ∧ (s.dev.route p m).1 = true ∧ msgNat m 16 4 = 0x9616) ∧
    (∃ (s : State) (p : Fin 3) (m : List Byte), s.dev.msgOn p = true ∧ msgNat m 4 1 = MsgType.bootData ∧
      (s.dev.checkMsg p m).2 = true ∧ (s.dev.route p m).1 = true) ∧
    (∃ (s : State), s.dev.hostReady = true ∧ s.dev.regUp (Reg.linkTxctrl) = true ∧ s.dev.link.key.isSome = true) ∧
    (∃ (s : State), s.dev.hostReady = true ∧ s.dev.regUp (Reg.linkRxstat) = true) ∧
    (∃ (s : State) (v : Word), s.dev.hostReady = true ∧ s.dev.regUp (Reg.linkNodeid) = true ∧ s.dev.is Fld.linkCfgIdHost = true ∧
      s.dev.is Fld.linkNodeidValid = false) ∧
    (∃ (s : State) (p : Fin 3), s.dev.hostReady = true ∧ s.dev.regUp (Reg.linkPortCtrl p) = true ∧
      s.dev.is (Fld.linkPortCtrlIdle p) = false ∧ s.dev.lportSt p ≠ LPortSt.idle) ∧
    (∃ (s : State) (p : Fin 3), s.dev.hostReady = true ∧ s.dev.regUp (Reg.linkPortCtrl p) = true ∧
      s.dev.is (Fld.linkPortCfgUsed p) = true ∧ s.dev.lportSt p = LPortSt.idle) ∧
    (∃ (s : State) (p : Fin 3), s.dev.hostReady = true ∧ s.dev.regUp (Reg.linkPortCtrl p) = true) ∧
    (∃ (s : State) (p : Fin 3), s.dev.lportSt p = LPortSt.idle ∧ s.dev.is (Fld.linkPortCfgUsed p) = true) ∧
    (∃ (s : State), s.dev.hostReady = true ∧ s.dev.regUp (Reg.linkCtrl) = true) :=
  ⟨⟨(ready.on (fun d => d.puts [(Fld.linkPortCfgUsed 1, 1), (Fld.linkPortStatusState 1, 2)])), 1, testHdr, by decide +kernel⟩,
   ⟨(ready.on (fun d => d.puts [(Fld.linkPortCfgUsed 1, 1), (Fld.linkPortStatusState 1, 2)])), 1, { testHdr with codeErr := true }, by decide +kernel⟩,
   ⟨(ready.on (fun d => { d.puts [(Fld.linkPortStatusState 0, 3), (Fld.linkStatusState, 2)] with link := { d.link with ranging := 32 } })), true, by decide +kernel⟩,
   ⟨(ready.on (fun d => (d.modLport 0 (fun x => { x with gone := 8 })).puts [(Fld.linkPortCfgUsed 0, 1), (Fld.linkStatusState, 3)])), by decide +kernel⟩,
   ⟨(ready.on (fun d => { d.puts [(Fld.linkPortCfgUsed 1, 1), (Fld.linkPortStatusState 1, 3), (Fld.linkCfgRoot, 1)] with link := { d.link with key := some (List.replicate 16 1) } })), 1, testMsg 1, by decide +kernel⟩,
   ⟨(ready.on (fun d => { d.puts [(Fld.linkPortCfgUsed 0, 1), (Fld.linkPortStatusState 0, 3), (Fld.linkCfgIdHost, 1)] with link := { d.link with key := some (List.replicate 16 1) } })), 0, testMsg 2, by decide +kernel⟩,
   ⟨(ready.on (fun d => { d.puts [(Fld.linkPortCfgUsed 1, 1), (Fld.linkPortStatusState 1, 3), (Fld.linkCfgRoot, 1)] with link := { d.link with key := some (List.replicate 16 1) } })), 1, testMsg 3, by decide +kernel⟩,
   ⟨(ready.on (fun d => { d.puts [(Fld.linkPortCfgUsed 0, 1), (Fld.linkPortStatusState 0, 3)] with link := { d.link with key := some (List.replicate 16 1) } })), 0, testMsg 4, by decide +kernel⟩,
   ⟨(ready.on (fun d => { d.puts [(Fld.linkPortCfgUsed 0, 1), (Fld.linkPortStatusState 0, 3)] with link := { d.link with key := some (List.replicate 16 1) } })), 0, testMsg 5, by decide +kernel⟩,
   ⟨(ready.on (fun d => { d.puts [] with link := { d.link with key := some (List.replicate 16 1) } })), by decide +kernel⟩,
   ⟨ready, by decide +kernel⟩,
   ⟨(ready.on (fun d => d.puts [(Fld.linkCfgIdHost, 1)])), 5, by decide +kernel⟩,
   ⟨(ready.on (fun d => d.puts [(Fld.linkPortStatusState 1, 3)])), 1, by decide +kernel⟩,
   ⟨(ready.on (fun d => d.puts [(Fld.linkPortCfgUsed 1, 1)])), 1, by decide +kernel⟩,
   ⟨(ready.on (fun d => d.puts [(Fld.linkPortCtrlIdle 1, 1)])), 1, by decide +kernel⟩,
   ⟨(ready.on (fun d => d.puts [(Fld.linkPortCfgUsed 1, 1)])), 1, by decide +kernel⟩,
   ⟨ready, by decide +kernel⟩⟩

/-- Each clause of TwinCommandsComplete is met by a state and operands. -/
theorem witness_TwinCommandsComplete :
    (∃ (s : State) (f : HingeIn), s.dev.hingeOn = true ∧ f.ok = true ∧ f.req ≠ 3 ∧ s.dev.role = Role.solo) ∧
    (∃ (s : State) (f : HingeIn), s.dev.hingeOn = true ∧ f.ok = false ∧ s.dev.role = Role.solo) ∧
    (∃ (s : State), s.dev.role = Role.pairing ∧ s.dev.hinge.waiting = true ∧ s.dev.is Fld.hingeStatusPartner = false) ∧
    (∃ (s : State) (f : FrameIn), s.dev.hingeOn = true ∧ s.dev.hinge.sync = true ∧ s.dev.role = Role.active) ∧
    (∃ (s : State) (f : FrameIn) (b : Nat), s.dev.hingeOn = true ∧ s.dev.hinge.sync = true ∧
      (s.dev.role = Role.pairing ∨ s.dev.role = Role.standby) ∧
      s.dev.hinge.syncAt = some b ∧ s.dev.clk.fallback = false ∧ s.dev.pwr.inReset = false) ∧
    (∃ (s : State), s.dev.hinge.sync = true ∧ s.dev.role = Role.active ∧ s.dev.is Fld.hingeStatusArmed = false) ∧
    (∃ (s : State) (high priOk : Bool), s.dev.role = Role.standby ∧ s.dev.hinge.beat = false ∧
      s.dev.get Fld.hingeStatusMiss < 5) ∧
    (∃ (s : State) (priOk : Bool), s.dev.role = Role.standby ∧ s.dev.hinge.beat = false ∧ 5 ≤ s.dev.get Fld.hingeStatusMiss) ∧
    (∃ (s : State), s.dev.is Fld.hingeStatusArmed = true) ∧
    (∃ (s : State), s.dev.role = Role.active ∧ 6 ≤ s.dev.hinge.gone ∧ s.dev.is Fld.hingeStatusPartner = true) ∧
    (∃ (s : State), s.dev.hostReady = true ∧ s.dev.regUp (Reg.hingeCtrl) = true ∧ s.dev.role = Role.active) ∧
    (∃ (s : State), s.dev.hostReady = true ∧ s.dev.regUp (Reg.hingeCtrl) = true ∧ s.dev.role = Role.solo ∧ s.dev.hingeOn = true ∧
      s.dev.is Fld.hingeStatusPartner = true ∧
      s.dev.get Fld.hingeStatusPartnerRole = Role.pairing ∧ s.dev.pairCheck = none) ∧
    (∃ (s : State), s.dev.hostReady = true ∧ s.dev.regUp (Reg.hingeCtrl) = true ∧
      (s.dev.role = Role.solo ∨ s.dev.role = Role.active) ∧ s.dev.is Fld.hingeStatusPartner = true) ∧
    (∃ (s : State), s.dev.hostReady = true ∧ s.dev.regUp (Reg.hingeCtrl) = true) :=
  ⟨⟨(ready.on (fun d => { d.puts [(Fld.hingeCfgPresent, 1), (Fld.hingeStatusRole, 0)] with hinge := { d.hinge with dflt := 0 } })), testHinge, by decide +kernel⟩,
   ⟨(ready.on (fun d => { d.puts [(Fld.hingeCfgPresent, 1), (Fld.hingeStatusRole, 0)] with hinge := { d.hinge with dflt := 0 } })), { testHinge with ok := false }, by decide +kernel⟩,
   ⟨(ready.on (fun d => { d.puts [(Fld.hingeCfgPresent, 1), (Fld.hingeStatusRole, 1)] with hinge := { d.hinge with waiting := true } })), by decide +kernel⟩,
   ⟨(ready.on (fun d => { d.puts [(Fld.hingeCfgPresent, 1), (Fld.hingeStatusRole, 2)] with hinge := { d.hinge with dflt := 0, sync := true } })), quietFrame, by decide +kernel⟩,
   ⟨(ready.on (fun d => { { d.puts [(Fld.hingeCfgPresent, 1), (Fld.hingeStatusRole, 1)] with hinge := { d.hinge with dflt := 0, sync := true, syncAt := some 4 } } with clk := { d.clk with fallback := false } })), quietFrame, 4, by decide +kernel⟩,
   ⟨(ready.on (fun d => { d.puts [(Fld.hingeCfgPresent, 1), (Fld.hingeStatusRole, 2)] with hinge := { d.hinge with sync := true } })), by decide +kernel⟩,
   ⟨(ready.on (fun d => { d.puts [(Fld.hingeCfgPresent, 1), (Fld.hingeStatusRole, 3), (Fld.hingeStatusMiss, 2)] with hinge := { d.hinge with beat := false } })), false, false, by decide +kernel⟩,
   ⟨(ready.on (fun d => { d.puts [(Fld.hingeCfgPresent, 1), (Fld.hingeStatusRole, 3), (Fld.hingeStatusMiss, 5)] with hinge := { d.hinge with beat := false } })), true, by decide +kernel⟩,
   ⟨(ready.on (fun d => { d.puts [(Fld.hingeCfgPresent, 1), (Fld.hingeStatusRole, 2), (Fld.hingeStatusArmed, 1)] with hinge := { d.hinge with dflt := 0 } })), by decide +kernel⟩,
   ⟨(ready.on (fun d => { d.puts [(Fld.hingeCfgPresent, 1), (Fld.hingeStatusRole, 2), (Fld.hingeStatusPartner, 1)] with hinge := { d.hinge with gone := 6 } })), by decide +kernel⟩,
   ⟨(ready.on (fun d => { d.puts [(Fld.hingeCfgPresent, 1), (Fld.hingeStatusRole, 2)] with hinge := { d.hinge with dflt := 0 } })), by decide +kernel⟩,
   ⟨(ready.on (fun d => { d.puts [(Fld.hingeCfgPresent, 1), (Fld.hingeStatusRole, 0), (Fld.hingeStatusPartner, 1), (Fld.hingeStatusPartnerRole, 1)] with hinge := { d.hinge with dflt := 0, pHash := List.replicate 8 0, pRev := (d.rd Reg.sysRevid).toNat } })), by decide +kernel⟩,
   ⟨(ready.on (fun d => { d.puts [(Fld.hingeCfgPresent, 1), (Fld.hingeStatusRole, 0), (Fld.hingeStatusPartner, 1)] with hinge := { d.hinge with dflt := 0 } })), by decide +kernel⟩,
   ⟨ready, by decide +kernel⟩⟩

/-- Each clause of RepairCommandsComplete is met by a state and operands. -/
theorem witness_RepairCommandsComplete :
    (∃ (s : State) (n : Fin 16), s.dev.hostReady = true ∧ s.dev.swapAllowed n = true) ∧
    (∃ (s : State) (n : Nat), s.dev.kt.swap = some n ∧ n < 16) ∧
    (∃ (s : State) (r : Repair), s.dev.kt.burn = none ∧ s.dev.supplyWarn = false ∧ s.dev.life ≠ Life.retired ∧
      s.dev.kt.queue.find? s.dev.burnable = some r ∧
      s.dev.get Fld.repStatusUsed < 512) ∧
    (∃ (s : State) (r : Repair) (k : Nat), s.dev.kt.burn = some (r, k)) ∧
    (∃ (s : State) (k : Fin 26) (v : Word), s.dev.hostReady = true ∧ (k : Nat) ≠ 25 ∧ s.dev.running = true ∧
      s.dev.ktPermitted k = true ∧ s.dev.is Fld.ktStatusBusy = false ∧
      s.dev.supplyWarn = false ∧ s.dev.ktValue k v ≠ s.dev.kt! k ∧ s.dev.ktInvalid k (s.dev.ktValue k v) = false ∧
      s.dev.ktSpent k < ktBudget k) ∧
    (∃ (s : State) (w : Fin 8) (v : Word), s.dev.hostReady = true) ∧
    (∃ (s : State) (k n x : Nat), s.dev.kt.turn = some (k, n, x) ∧ k ≠ 3) ∧
    (∃ (s : State) (cat : Fin 16) (v : Word), s.dev.hostReady = true) :=
  ⟨⟨ready, 2, by decide +kernel⟩,
   ⟨(ready.on (fun d => { d with kt := { d.kt with swap := some 2 } })), 2, by decide +kernel⟩,
   ⟨(ready.on (fun d => { d.puts [(Fld.repCfgBurn, 2)] with kt := { d.kt with queue := [⟨0x1000, 0x20000000, false⟩] } })), ⟨0x1000, 0x20000000, false⟩, by decide +kernel⟩,
   ⟨(ready.on (fun d => { d with kt := { d.kt with burn := some (⟨0x1000, 0x20000000, false⟩, 3) } })), ⟨0x1000, 0x20000000, false⟩, 3, by decide +kernel⟩,
   ⟨ready, 4, 1, by decide +kernel⟩,
   ⟨ready, 1, 5, by decide +kernel⟩,
   ⟨(ready.on (fun d => { d.setSlot 4 0 ⟨true, false, 0, 1⟩ with kt := { (d.setSlot 4 0 ⟨true, false, 0, 1⟩).kt with turn := some (4, 0, 1) } })), 4, 0, 1, by decide +kernel⟩,
   ⟨ready, 3, 1, by decide +kernel⟩⟩

/-- Each clause of PowerCommandsComplete is met by a state and operands. -/
theorem witness_PowerCommandsComplete :
    (∃ (s : State) (w : Fin 3) (v : Word), s.dev.hostReady = true ∧ s.dev.is Fld.pwrTxnBusy = false ∧ s.dev.host.posted = [] ∧
      s.dev.host.stretched = none ∧
      (∀ k : Fin 46, (k : Nat) / 16 ≠ w → s.dev.target k = s.dev.present k) ∧
      (∀ k : Fin 46, (k : Nat) / 16 = w → s.dev.present k ≤ codeIn v k ∧ codeIn v k ≤ 2) ∧
      (∃ k : Fin 46, (k : Nat) / 16 = w ∧ s.dev.present k < codeIn v k ∧ s.dev.target k < codeIn v k)) ∧
    (∃ (s : State) (k : Fin 46), s.dev.quiescing k = true ∧ s.dev.pwr.agreed.contains (k : Nat) = false ∧
      s.dev.waitsNow k = false) ∧
    (∃ (s : State) (k : Nat), (s.dev.pwr.lower.map (·.1)).find? (fun k => !s.dev.pwr.agreed.contains k) = some k ∧
      s.dev.pwr.wakePend = 0 ∧ s.dev.pwr.held = [] ∧ s.dev.host.posted = [] ∧ s.dev.host.stretched = none) ∧
    (∃ (s : State) (k : Fin 46) (v : Fin 2), s.dev.pwr.lower = [((k : Nat), (v : Nat))] ∧
      s.dev.pwr.agreed.contains (k : Nat) = true ∧ s.dev.pwr.wakePend = 0 ∧ s.dev.pwr.held = [] ∧ s.dev.host.posted = [] ∧
        s.dev.host.stretched = none) ∧
    (∃ (s : State) (k : Fin 46) (v : Nat), (s.dev.pwr.rise.find? (fun e => e.1 == (k : Nat))).map (·.2) = some v ∧ v < 4 ∧
      s.dev.pwr.wakePend = 0) ∧
    (∃ (s : State) (src : Fin 6), s.dev.bit Fld.pwrWakecfgEn src = true ∧ s.dev.is Fld.pwrTxnBusy = false) ∧
    (∃ (s : State) (src : Fin 6), s.dev.bit Fld.pwrWakecfgEn src = true ∧ s.dev.is Fld.pwrTxnBusy = true) ∧
    (∃ (s : State) (k : Fin 2), s.dev.bit Fld.pwrWakecfgEn (4 + k) = true ∧ s.dev.is Fld.pwrTxnBusy = false) ∧
    (∃ (s : State) (w : Fin 2) (v : Word), s.dev.hostReady = true) ∧
    (∃ (s : State) (k : Fin 46), bitOf s.dev.pwr.clkReq k = true ∧ s.dev.on k = true ∧
      (s.dev.is Fld.clkStatusLocked || s.dev.is Fld.clkStatusHoldover) = true) ∧
    (∃ (s : State) (w : Fin 2) (v : Word), s.dev.hostReady = true) :=
  ⟨⟨(ready.on (fun d => ((((d.setDom 36 0).wr (Reg.pwrTarget 0) 0xAAAAAAAA).wr (Reg.pwrTarget 1) 0xAAAAAAAA).wr (Reg.pwrTarget 2) 0x0AAAA8AA))), 2, 0x0AAAAAAA, by decide +kernel⟩,
   ⟨(ready.on (fun d => { d.puts [] with pwr := { d.pwr with lower := [(36, 0)] } })), 36, by decide +kernel⟩,
   ⟨(ready.on (fun d => { d.puts [] with pwr := { d.pwr with lower := [(36, 0)] } })), 36, by decide +kernel⟩,
   ⟨(ready.on (fun d => { d.puts [] with pwr := { d.pwr with lower := [(36, 0)], agreed := [36] } })), 36, 0, by decide +kernel⟩,
   ⟨(ready.on (fun d => { d.puts [] with pwr := { d.pwr with rise := [(36, 2)] } })), 36, 2, by decide +kernel⟩,
   ⟨(ready.on (fun d => d.puts [(Fld.pwrWakecfgEn, 2)])), 1, by decide +kernel⟩,
   ⟨(ready.on (fun d => d.puts [(Fld.pwrWakecfgEn, 2), (Fld.pwrTxnBusy, 1)])), 1, by decide +kernel⟩,
   ⟨(ready.on (fun d => d.puts [(Fld.pwrWakecfgEn, 32)])), 1, by decide +kernel⟩,
   ⟨ready, 1, 0x10, by decide +kernel⟩,
   ⟨(ready.on (fun d => { d.puts [(Fld.clkStatusLocked, 1)] with pwr := { d.pwr with clkReq := 2 ^ 36 } })), 36, by decide +kernel⟩,
   ⟨ready, 1, 0x10, by decide +kernel⟩⟩

/-- Each clause of SupplyCommandsComplete is met by a state and operands. -/
theorem witness_SupplyCommandsComplete :
    (∃ (s : State), s.dev.hostReady = true) ∧
    (∃ (s : State) (v : Word), s.dev.hostReady = true ∧ (s.dev.is Fld.sysWdtcfgEn = true → bitOf v.toNat 31 = true)) ∧
    (∃ (s : State), s.dev.wdtCounts = true) ∧
    (∃ (s : State) (sup : Fin 4) (mv : Nat), bitOf s.dev.pins.low sup = false) ∧
    (∃ (s : State) (sup : Fin 4) (mv : Nat), bitOf s.dev.pins.low sup = true ∧ bitOf s.dev.pwr.recov sup = false) ∧
    (∃ (s : State), s.dev.hostReady = true ∧ s.dev.pins.low = 0) ∧
    (∃ (s : State) (k : Fin 3) (T : Int), 920 ≤ T) ∧
    (∃ (s : State) (T : Int), 1000 ≤ T ∧ s.dev.is (Fld.engStatusThrottled 0) = false) ∧
    (∃ (s : State) (T : Int), T < 960) ∧
    (∃ (s : State) (T : Int) (long : Bool), 1080 ≤ T) :=
  ⟨⟨ready, by decide +kernel⟩,
   ⟨ready, 0x80050000, by decide +kernel⟩,
   ⟨(ready.on (fun d => d.puts [(Fld.sysWdtcfgEn, 1)])), by decide +kernel⟩,
   ⟨ready, 1, 3000, by decide +kernel⟩,
   ⟨(ready.on (fun d => { d with pins := { d.pins with low := 2 } })), 1, 3300, by decide +kernel⟩,
   ⟨ready, by decide +kernel⟩,
   ⟨ready, 1, 930, by decide +kernel⟩,
   ⟨ready, 1000, by decide +kernel⟩,
   ⟨ready, 900, by decide +kernel⟩,
   ⟨ready, 1080, false, by decide +kernel⟩⟩

/-- Each clause of HostCommandsComplete is met by a state and operands. -/
theorem witness_HostCommandsComplete :
    (∃ (s : State) (env : Env) (adr : Fin 128) (reg : Nat) (bytes : List Byte) (u : State), s.dev.i2cHears adr = true ∧
      bytes ≠ [] ∧ bytes.length % 4 = 0 ∧ u = s.on (fun d => (d.wakeEvent 2).setPtr 7 reg) ∧ u.dev.i2cCrc adr = false) ∧
    (∃ (s : State) (adr : Fin 128) (reg : Nat), s.dev.i2cHears adr = true) ∧
    (∃ (s : State) (env : Env) (adr : Fin 128) (words : Nat), s.dev.i2cHears adr = true) ∧
    (∃ (s : State), s.dev.pwr.inReset = false) ∧
    (∃ (s : State), s.dev.pwr.inReset = false) ∧
    (∃ (s : State) (a : Nat) (v : Word), s.dev.pwr.held = [(16, a, v)]) ∧
    (∃ (s : State) (env : Env) (adr bytes : List Byte) (u : State), s.dev.pwr.inReset = false ∧ 4 ≤ adr.length ∧
      bytes.length % 4 = 0 ∧ s.dev.is Fld.hostifSpicfgCrc = false ∧
      u = s.on (·.setPtr 8 (beNat adr))) ∧
    (∃ (s : State) (env : Env) (adr : List Byte) (words : Nat), s.dev.pwr.inReset = false ∧ 4 ≤ adr.length) ∧
    (∃ (s : State), s.dev.pwr.inReset = false) ∧
    (∃ (s : State) (v : Word), s.dev.hostReady = true ∧ s.dev.flashFree = true) ∧
    (∃ (s : State) (bytes : List Byte), s.dev.is Fld.qspiCmdBusy = true) ∧
    (∃ (s : State) (env : Env) (a : Nat) (v : Word), s.dev.hostReady = true ∧ s.dev.regUp (a) = true ∧ a ≠ Reg.sysRstctrl ∧
      a ≠ Reg.bootCtrl ∧ a ≠ Reg.bootHostdata) ∧
    (∃ (s : State) (env : Env) (a : Nat) (v : Word), s.dev.hostReady = true ∧ a % 4 = 0 ∧ a < 0x600000 ∧
      s.dev.bankOn (s.dev.region a) = true ∧ env.errs = []) ∧
    (∃ (s : State) (cmd : Nat), s.dev.pwr.inReset = false ∧ cmd ≠ 2 ∧ cmd ≠ 3 ∧ cmd ≠ 5) :=
  ⟨⟨ready, Env.quiet, 0x38, 0x810000, [1, 2, 3, 4], (ready.on (fun d => (d.wakeEvent 2).setPtr 7 (0x810000))), by decide +kernel⟩,
   ⟨ready, 0x38, 0x810002, by decide +kernel⟩,
   ⟨ready, Env.quiet, 0x38, 1, by decide +kernel⟩,
   ⟨ready, by decide +kernel⟩,
   ⟨ready, by decide +kernel⟩,
   ⟨(ready.on (fun d => { d.puts [] with pwr := { d.pwr with held := [(16, 0x40, 1)] } })), 0x40, 1, by decide +kernel⟩,
   ⟨ready, Env.quiet, [0, 0x81, 0, 0], [], (ready.on (·.setPtr 8 (beNat ([0, 0x81, 0, 0])))), by decide +kernel⟩,
   ⟨ready, Env.quiet, [0, 0x81, 0, 0], 1, by decide +kernel⟩,
   ⟨ready, by decide +kernel⟩,
   ⟨ready, 1, by decide +kernel⟩,
   ⟨(ready.on (fun d => d.puts [(Fld.qspiCmdBusy, 1)])), [1], by decide +kernel⟩,
   ⟨ready, Env.quiet, Reg.monCfg, 1, by decide +kernel⟩,
   ⟨ready, Env.quiet, 0x100, 1, by decide +kernel⟩,
   ⟨ready, 0x9F, by decide +kernel⟩⟩

/-! ### Witnesses for the frame statements -/

/-- The hypotheses of each clause of BootCommandsFrame are met by a state and operands. -/
theorem witness_BootCommandsFrame :
    (∃ (s t : State) (twinSel : Bool), exec (.resetRelease twinSel) s = .next t) ∧
    (∃ (s t : State) (findings : List (Nat × Nat × Nat × Nat)), exec (.spkSegmentTestsDeferred findings) s = .next t) ∧
    (∃ (s t : State) (img : List Byte), exec (.reseatCompare img) s = .next t) ∧
    (∃ (s t : State) (v : Word), exec (.bootCtrlBadKey v) s = .next t ∧ s.dev.hostFree = true ∧ bitsOf v.toNat 16 16 ≠ guardKey) ∧
    (∃ (s t : State), exec (.hostload) s = .next t ∧ s.dev.hostFree = true) ∧
    (∃ (s t : State) (src : Fin 16), exec (.reseat src) s = .next t ∧ s.dev.hostReady = true) ∧
    (∃ (s t : State), exec (.live) s = .next t ∧ s.dev.hostFree = true) ∧
    (∃ (s t : State), exec (.abort) s = .next t ∧ s.dev.hostFree = true) ∧
    (∃ (s t : State) (env : Env) (w : Word), exec (.bootHostdata env w) s = .next t ∧ s.dev.hostFree = true) ∧
    (∃ (s t : State), exec (.loadSourceTimeout) s = .next t) ∧
    (∃ (s t : State) (img : List Byte), exec (.flashLoadFail img) s = .next t) ∧
    (∃ (s t : State) (findings : List (Nat × Nat)), exec (.bootTestsDone findings) s = .next t) ∧
    (∃ (s t : State), exec (.reseatTeardown) s = .next t) ∧
    (∃ (s t : State) (img : List Byte), exec (.commit img) s = .next t) ∧
    (∃ (s t : State) (f : FrameIn), exec (.keywayStart f) s = .next t) ∧
    (∃ (s t : State), exec (.por) s = .next t) ∧
    (∃ (s t : State) (supply : Nat), exec (.bor supply) s = .next t) ∧
    (∃ (s t : State), exec (.pinReset) s = .next t) ∧
    (∃ (s t : State), exec (.wdtReset) s = .next t) ∧
    (∃ (s t : State), exec (.soft) s = .next t ∧ s.dev.hostReady = true) :=
  ⟨⟨ready, _, true, rfl⟩,
   ⟨ready, _, [], rfl⟩,
   ⟨ready, _, [], rfl⟩,
   ⟨ready, _, 0x12340001, rfl, by decide +kernel⟩,
   ⟨ready, _, rfl, by decide +kernel⟩,
   ⟨ready, _, 15, rfl, by decide +kernel⟩,
   ⟨ready, _, rfl, by decide +kernel⟩,
   ⟨ready, _, rfl, by decide +kernel⟩,
   ⟨ready, _, Env.quiet, 0xFFFFFFFF, rfl, by decide +kernel⟩,
   ⟨ready, _, rfl⟩,
   ⟨ready, _, [], rfl⟩,
   ⟨ready, _, [], rfl⟩,
   ⟨ready, _, rfl⟩,
   ⟨ready, _, [], rfl⟩,
   ⟨ready, _, quietFrame, rfl⟩,
   ⟨ready, _, rfl⟩,
   ⟨ready, _, 0, rfl⟩,
   ⟨ready, _, rfl⟩,
   ⟨ready, _, rfl⟩,
   ⟨ready, _, rfl, by decide +kernel⟩⟩

/-- The hypotheses of each clause of ClockCommandsFrame are met by a state and operands. -/
theorem witness_ClockCommandsFrame :
    (∃ (s t : State) (frac : Bool) (v : Word), exec (.pllWrite frac v) s = .next t ∧ s.dev.hostReady = true) ∧
    (∃ (s t : State) (v : Word), exec (.refselWrite v) s = .next t ∧ s.dev.hostReady = true) ∧
    (∃ (s t : State), exec (.reacquire) s = .next t ∧ s.dev.hostReady = true) ∧
    (∃ (s t : State) (near : Bool), exec (.swap near) s = .next t ∧ s.dev.hostReady = true) ∧
    (∃ (s t : State) (band : Fin 64), exec (.bandSearchDone band) s = .next t) ∧
    (∃ (s t : State) (fref : Nat), exec (.pllLock fref) s = .next t) ∧
    (∃ (s t : State), exec (.acqTimeout) s = .next t) ∧
    (∃ (s t : State), exec (.phaseFreeze) s = .next t) ∧
    (∃ (s t : State) (phaseOk : Bool) (near : Bool), exec (.freezeDecision phaseOk near) s = .next t) ∧
    (∃ (s t : State) (count : Nat), exec (.refmonRefresh count) s = .next t) ∧
    (∃ (s t : State) (ref : Fin 4), exec (.refLost ref) s = .next t) ∧
    (∃ (s t : State) (ref : Fin 4) (near : Bool), exec (.refReturned ref near) s = .next t) ∧
    (∃ (s t : State), exec (.fallbackExit) s = .next t) :=
  ⟨⟨ready, _, true, 0xFFFFFFFF, rfl, by decide +kernel⟩,
   ⟨ready, _, 0xFFFFFFFF, rfl, by decide +kernel⟩,
   ⟨ready, _, rfl, by decide +kernel⟩,
   ⟨ready, _, true, rfl, by decide +kernel⟩,
   ⟨ready, _, 63, rfl⟩,
   ⟨ready, _, 0, rfl⟩,
   ⟨ready, _, rfl⟩,
   ⟨ready, _, rfl⟩,
   ⟨ready, _, true, true, rfl⟩,
   ⟨ready, _, 0, rfl⟩,
   ⟨ready, _, 3, rfl⟩,
   ⟨ready, _, 3, true, rfl⟩,
   ⟨ready, _, rfl⟩⟩

/-- The hypotheses of each clause of KeywayCommandsFrame are met by a state and operands. -/
theorem witness_KeywayCommandsFrame :
    (∃ (s t : State) (a : Nat) (v : Word), exec (.tumblerStage a v) s = .next t ∧ s.dev.hostReady = true ∧
      s.dev.regUp (a) = true ∧ rwtMask a ≠ 0) ∧
    (∃ (s t : State) (late : Bool), exec (.arm late) s = .next t ∧ s.dev.hostReady = true ∧ s.dev.regUp (Reg.tumbCtrl) = true) ∧
    (∃ (s t : State) (late : Bool), exec (.armAt late) s = .next t ∧ s.dev.hostReady = true ∧ s.dev.regUp (Reg.tumbCtrl) = true) ∧
    (∃ (s t : State) (late : Bool), exec (.disarm late) s = .next t ∧ s.dev.hostReady = true ∧
      s.dev.regUp (Reg.tumbCtrl) = true) ∧
    (∃ (s t : State), exec (.discard) s = .next t ∧ s.dev.hostReady = true ∧ s.dev.regUp (Reg.tumbCtrl) = true) ∧
    (∃ (s t : State) (c : Fin 8192), exec (.xpRampEnd c) s = .next t) ∧
    (∃ (s t : State) (c : Fin 8192), exec (.fadeShadowEnd c) s = .next t) ∧
    (∃ (s t : State) (c : Fin 8192), exec (.serialFadeHalf c) s = .next t) ∧
    (∃ (s t : State) (f : FrameIn), exec (.frameBoundary f) s = .next t) :=
  ⟨⟨ready, _, Reg.keyXppage, 0xFFFFFFFF, rfl, by decide +kernel⟩,
   ⟨ready, _, true, rfl, by decide +kernel⟩,
   ⟨ready, _, true, rfl, by decide +kernel⟩,
   ⟨ready, _, true, rfl, by decide +kernel⟩,
   ⟨ready, _, rfl, by decide +kernel⟩,
   ⟨ready, _, 8191, rfl⟩,
   ⟨ready, _, 8191, rfl⟩,
   ⟨ready, _, 8191, rfl⟩,
   ⟨ready, _, quietFrame, rfl⟩⟩

/-- The hypotheses of each clause of InputCommandsFrame are met by a state and operands. -/
theorem witness_InputCommandsFrame :
    (∃ (s t : State) (n : Fin 8), exec (.anainSettleEnd n) s = .next t) ∧
    (∃ (s t : State) (n : Fin 8), exec (.adcSliceSwap n) s = .next t) ∧
    (∃ (s t : State) (n : Fin 8) (beyond : Bool), exec (.adcSliceCalDone n beyond) s = .next t) ∧
    (∃ (s t : State) (n : Fin 8) (k : Fin 9), exec (.adcSliceCheckFail n k) s = .next t) ∧
    (∃ (s t : State) (n : Fin 4), exec (.micbTrip n) s = .next t) ∧
    (∃ (s t : State) (k : Fin 8), exec (.pdmClkLost k) s = .next t) ∧
    (∃ (s t : State) (k : Fin 8), exec (.pdmClkReturn k) s = .next t) ∧
    (∃ (s t : State) (ch : Bool) (k : Fin 32), exec (.pdmSettleEnd ch k) s = .next t) :=
  ⟨⟨ready, _, 7, rfl⟩,
   ⟨ready, _, 7, rfl⟩,
   ⟨ready, _, 7, true, rfl⟩,
   ⟨ready, _, 7, 8, rfl⟩,
   ⟨ready, _, 3, rfl⟩,
   ⟨ready, _, 7, rfl⟩,
   ⟨ready, _, 7, rfl⟩,
   ⟨ready, _, true, 31, rfl⟩⟩

/-- The hypotheses of each clause of OutputCommandsFrame are met by a state and operands. -/
theorem witness_OutputCommandsFrame :
    (∃ (s t : State) (o : Fin 10), exec (.dacSliceSwap o) s = .next t) ∧
    (∃ (s t : State) (o : Fin 10) (beyond : Bool), exec (.dacSliceCalDone o beyond) s = .next t) ∧
    (∃ (s t : State) (o : Fin 10) (k : Fin 10), exec (.dacSliceCheckFail o k) s = .next t) ∧
    (∃ (s t : State) (o : Fin 4), exec (.complianceTrip o) s = .next t) ∧
    (∃ (s t : State) (o : Fin 4), exec (.complianceHiz o) s = .next t) ∧
    (∃ (s t : State) (o : Fin 4), exec (.complianceRecover o) s = .next t) ∧
    (∃ (s t : State) (o : Fin 4), exec (.complianceCleared o) s = .next t ∧ s.dev.hostReady = true ∧
      s.dev.regUp (Reg.outEvents o) = true) ∧
    (∃ (s t : State) (h : Fin 2), exec (.hpCurrentLimit h) s = .next t) ∧
    (∃ (s t : State) (h : Fin 2), exec (.hpProtectCleared h) s = .next t ∧ s.dev.hostReady = true ∧
      s.dev.regUp (Reg.outEvents (4 + h)) = true) ∧
    (∃ (s t : State), exec (.pumpReady) s = .next t) ∧
    (∃ (s t : State) (o : Fin 10), exec (.chainReady o) s = .next t) ∧
    (∃ (s t : State) (o : Fin 10) (run : Bool), exec (.outputRun o run) s = .next t ∧ s.dev.hostReady = true ∧
      s.dev.regUp (Reg.outCtrl o) = true) ∧
    (∃ (s t : State), exec (.outClrAssert) s = .next t) ∧
    (∃ (s t : State), exec (.outClrRelease) s = .next t) ∧
    (∃ (s t : State) (o : Fin 10), exec (.holdEnd o) s = .next t) ∧
    (∃ (s t : State) (o : Fin 10) (trim : Int) (limit : Bool), exec (.seqBlockDone o trim limit) s = .next t) ∧
    (∃ (s t : State) (o : Fin 10) (mute : Bool), exec (.seqMuteWrite o mute) s = .next t ∧ s.dev.hostReady = true ∧
      s.dev.regUp (Reg.seqCtrl o) = true) ∧
    (∃ (s t : State) (o : Fin 4), exec (.personaSequence o) s = .next t) :=
  ⟨⟨ready, _, 9, rfl⟩,
   ⟨ready, _, 9, true, rfl⟩,
   ⟨ready, _, 9, 9, rfl⟩,
   ⟨ready, _, 3, rfl⟩,
   ⟨ready, _, 3, rfl⟩,
   ⟨ready, _, 3, rfl⟩,
   ⟨ready, _, 3, rfl, by decide +kernel⟩,
   ⟨ready, _, 1, rfl⟩,
   ⟨ready, _, 1, rfl, by decide +kernel⟩,
   ⟨ready, _, rfl⟩,
   ⟨ready, _, 9, rfl⟩,
   ⟨ready, _, 9, true, rfl, by decide +kernel⟩,
   ⟨ready, _, rfl⟩,
   ⟨ready, _, rfl⟩,
   ⟨ready, _, 9, rfl⟩,
   ⟨ready, _, 9, 0, true, rfl⟩,
   ⟨ready, _, 9, true, rfl, by decide +kernel⟩,
   ⟨ready, _, 3, rfl⟩⟩

/-- The hypotheses of each clause of SpeakerCommandsFrame are met by a state and operands. -/
theorem witness_SpeakerCommandsFrame :
    (∃ (s t : State) (n : Fin 4) (h : Fin 2) (seg : Fin 18) (cell : Fin 3), exec (.segmentFailing n h seg cell) s = .next t) ∧
    (∃ (s t : State) (n : Fin 4), exec (.spkShortTrip n) s = .next t) ∧
    (∃ (s t : State) (n : Fin 4), exec (.spkShortCleared n) s = .next t ∧ s.dev.hostReady = true ∧
      s.dev.regUp (Reg.spkEvents n) = true) ∧
    (∃ (s t : State) (n : Fin 4), exec (.spkDiag n) s = .next t ∧ s.dev.hostReady = true ∧ s.dev.regUp (Reg.spkCtrl n) = true) ∧
    (∃ (s t : State) (n : Fin 4) (pin : Option Bool) (r : Nat), exec (.diagDone n pin r) s = .next t) ∧
    (∃ (s t : State) (n : Fin 4) (amps : Bool) (z : Nat), exec (.pilotMeasure n amps z) s = .next t) ∧
    (∃ (s t : State), exec (.spkPvddReady) s = .next t) ∧
    (∃ (s t : State), exec (.pvddCutoff) s = .next t) ∧
    (∃ (s t : State), exec (.pvddOvervoltage) s = .next t) ∧
    (∃ (s t : State) (tg : Int), exec (.spkThermalShutdown tg) s = .next t) ∧
    (∃ (s t : State) (tg : Int), exec (.derateStep tg) s = .next t) ∧
    (∃ (s t : State) (n : Fin 4) (tg : Int), exec (.spkThermalCleared n tg) s = .next t) :=
  ⟨⟨ready, _, 3, 1, 17, 2, rfl⟩,
   ⟨ready, _, 3, rfl⟩,
   ⟨ready, _, 3, rfl, by decide +kernel⟩,
   ⟨ready, _, 3, rfl, by decide +kernel⟩,
   ⟨ready, _, 3, none, 0, rfl⟩,
   ⟨ready, _, 3, true, 0, rfl⟩,
   ⟨ready, _, rfl⟩,
   ⟨ready, _, rfl⟩,
   ⟨ready, _, rfl⟩,
   ⟨ready, _, 0, rfl⟩,
   ⟨ready, _, 0, rfl⟩,
   ⟨ready, _, 3, 0, rfl⟩⟩

/-- The hypotheses of each clause of JackCommandsFrame are met by a state and operands. -/
theorem witness_JackCommandsFrame :
    (∃ (s t : State) (k : Fin 4) (high : Bool), exec (.jackRawChange k high) s = .next t) ∧
    (∃ (s t : State) (k : Fin 4), exec (.jackDebounced k) s = .next t) ∧
    (∃ (s t : State) (k : Fin 4) (v : Word), exec (.jdCfgWrite k v) s = .next t ∧ s.dev.hostReady = true ∧
      s.dev.regUp (Reg.jdCfg k) = true) ∧
    (∃ (s t : State) (h : Fin 2), exec (.hsStart h) s = .next t ∧ s.dev.hostReady = true ∧ s.dev.regUp (Reg.hsCtrl h) = true) ∧
    (∃ (s t : State) (h : Fin 2), exec (.hsAbort h) s = .next t ∧ s.dev.hostReady = true ∧ s.dev.regUp (Reg.hsCtrl h) = true) ∧
    (∃ (s t : State) (h : Fin 2), exec (.hsSettleEnd h) s = .next t) ∧
    (∃ (s t : State) (h : Fin 2) (z : Nat), exec (.hsDetectDone h z) s = .next t) ∧
    (∃ (s t : State) (h : Fin 2) (level : Nat) (reached : Bool), exec (.buttonSample h level reached) s = .next t) ∧
    (∃ (s t : State) (h : Fin 2) (v : Word), exec (.btncfgWrite h v) s = .next t ∧ s.dev.hostReady = true ∧
      s.dev.regUp (Reg.hsBtncfg h) = true) :=
  ⟨⟨ready, _, 3, true, rfl⟩,
   ⟨ready, _, 3, rfl⟩,
   ⟨ready, _, 3, 0xFFFFFFFF, rfl, by decide +kernel⟩,
   ⟨ready, _, 1, rfl, by decide +kernel⟩,
   ⟨ready, _, 1, rfl, by decide +kernel⟩,
   ⟨ready, _, 1, rfl⟩,
   ⟨ready, _, 1, 0, rfl⟩,
   ⟨ready, _, 1, 0, true, rfl⟩,
   ⟨ready, _, 1, 0xFFFFFFFF, rfl, by decide +kernel⟩⟩

/-- The hypotheses of each clause of PortCommandsFrame are met by a state and operands. -/
theorem witness_PortCommandsFrame :
    (∃ (s t : State) (n : Fin 7) (tx : Bool), exec (.portRunStart n tx) s = .next t ∧ s.dev.hostReady = true ∧
      s.dev.regUp (unitCtrl n) = true) ∧
    (∃ (s t : State) (n : Fin 7) (tx : Bool), exec (.portRunStop n tx) s = .next t ∧ s.dev.hostReady = true ∧
      s.dev.regUp (unitCtrl n) = true) ∧
    (∃ (s t : State) (n : Fin 7), exec (.portClrCnt n) s = .next t ∧ s.dev.hostReady = true ∧ s.dev.regUp (unitCtrl n) = true) ∧
    (∃ (s t : State) (n : Fin 6) (slots : List Nat), exec (.portFrameReceived n slots) s = .next t) ∧
    (∃ (s t : State) (pair : Fin 12) (bits : Nat), exec (.portFsEdge pair bits) s = .next t) ∧
    (∃ (s t : State) (n : Fin 7), exec (.portPinFrameStart n) s = .next t) ∧
    (∃ (s t : State) (f : SpdifIn), exec (.spdifFrameReceived f) s = .next t) ∧
    (∃ (s t : State) (k : Fin 8), exec (.npUnmute k) s = .next t) ∧
    (∃ (s t : State) (m : Fin 13), exec (.rmonStop m) s = .next t) ∧
    (∃ (s t : State) (m : Fin 13) (c : Nat), exec (.rmonPeriod m c) s = .next t) ∧
    (∃ (s t : State) (mask : Word), exec (.rmonClr mask) s = .next t ∧ s.dev.hostReady = true ∧
      s.dev.regUp (Reg.rmonCtrl) = true) ∧
    (∃ (s t : State) (mask : Word), exec (.asrcClr mask) s = .next t ∧ s.dev.hostReady = true ∧
      s.dev.regUp (Reg.asrcCtrl) = true) ∧
    (∃ (s t : State) (g : Fin 14), exec (.asrcAcquired g) s = .next t) ∧
    (∃ (s t : State) (g : Fin 14), exec (.asrcFadeDone g) s = .next t) ∧
    (∃ (s t : State) (g : Fin 14), exec (.asrcHoldTimeout g) s = .next t) :=
  ⟨⟨ready, _, 6, true, rfl, by decide +kernel⟩,
   ⟨ready, _, 6, true, rfl, by decide +kernel⟩,
   ⟨ready, _, 6, rfl, by decide +kernel⟩,
   ⟨ready, _, 5, [], rfl⟩,
   ⟨ready, _, 11, 0, rfl⟩,
   ⟨ready, _, 6, rfl⟩,
   ⟨ready, _, ⟨0, 2, false, 0, 0⟩, rfl⟩,
   ⟨ready, _, 7, rfl⟩,
   ⟨ready, _, 12, rfl⟩,
   ⟨ready, _, 12, 0, rfl⟩,
   ⟨ready, _, 0xFFFFFFFF, rfl, by decide +kernel⟩,
   ⟨ready, _, 0xFFFFFFFF, rfl, by decide +kernel⟩,
   ⟨ready, _, 13, rfl⟩,
   ⟨ready, _, 13, rfl⟩,
   ⟨ready, _, 13, rfl⟩⟩

/-- The hypotheses of each clause of UsbCommandsFrame are met by a state and operands. -/
theorem witness_UsbCommandsFrame :
    (∃ (s t : State) (bytes : List Byte), exec (.usbOutPacket bytes) s = .next t) ∧
    (∃ (s t : State) (ep : Fin 4) (up : Bool), exec (.usbInToken ep up) s = .next t) ∧
    (∃ (s t : State) (frame : Nat) (micro : Nat) (meas : Int), exec (.usbSof frame micro meas) s = .next t) ∧
    (∃ (s t : State) (cap : Bool) (alt : Nat) (ch : Nat) (sub : Nat) (res : Nat),
      exec (.setInterface cap alt ch sub res) s = .next t) ∧
    (∃ (s t : State) (cap : Bool) (hz : Nat), exec (.setCurSamplingFreq cap hz) s = .next t) ∧
    (∃ (s t : State) (req : UsbClassReq), exec (.usbClassRequest req) s = .next t) ∧
    (∃ (s t : State) (req : UsbStdReq), exec (.usbStandardRequest req) s = .next t) ∧
    (∃ (s t : State) (report : Nat), exec (.setReport report) s = .next t) ∧
    (∃ (s t : State), exec (.usbConnect) s = .next t) ∧
    (∃ (s t : State) (vbus : Bool), exec (.usbDisconnect vbus) s = .next t) ∧
    (∃ (s t : State), exec (.usbSuspend) s = .next t) ∧
    (∃ (s t : State) (reset : Bool) (high : Bool), exec (.usbResume reset high) s = .next t) ∧
    (∃ (s t : State), exec (.lpm) s = .next t) ∧
    (∃ (s t : State) (cap : Bool) (mute : Option Bool) (vol : Option Int), exec (.featureUnitSet cap mute vol) s = .next t) ∧
    (∃ (s t : State) (v : Word), exec (.hidinWrite v) s = .next t ∧ s.dev.hostReady = true ∧ s.dev.regUp (Reg.usbHidin) = true) ∧
    (∃ (s t : State) (v : Word), exec (.usbCtrlWrite v) s = .next t ∧ s.dev.hostReady = true ∧
      s.dev.regUp (Reg.usbCtrl) = true) :=
  ⟨⟨ready, _, [], rfl⟩,
   ⟨ready, _, 3, true, rfl⟩,
   ⟨ready, _, 0, 0, 0, rfl⟩,
   ⟨ready, _, true, 0, 0, 0, 0, rfl⟩,
   ⟨ready, _, true, 0, rfl⟩,
   ⟨ready, _, .freqCur, rfl⟩,
   ⟨ready, _, .read, rfl⟩,
   ⟨ready, _, 0, rfl⟩,
   ⟨ready, _, rfl⟩,
   ⟨ready, _, true, rfl⟩,
   ⟨ready, _, rfl⟩,
   ⟨ready, _, true, true, rfl⟩,
   ⟨ready, _, rfl⟩,
   ⟨ready, _, true, none, none, rfl⟩,
   ⟨ready, _, 0xFFFFFFFF, rfl, by decide +kernel⟩,
   ⟨ready, _, 0xFFFFFFFF, rfl, by decide +kernel⟩⟩

/-- The hypotheses of each clause of EngineCommandsFrame are met by a state and operands. -/
theorem witness_EngineCommandsFrame :
    (∃ (s t : State) (e : Fin 16) (errs : List EccErr), exec (.interruptTrap e errs) s = .next t) ∧
    (∃ (s t : State) (e : Fin 16) (errs : List EccErr), exec (.fastEntry e errs) s = .next t) ∧
    (∃ (s t : State) (e : Fin 16) (cycles : Nat) (errs : List EccErr), exec (.waitWake e cycles errs) s = .next t) ∧
    (∃ (s t : State) (e : Fin 16), exec (.engineStart e) s = .next t ∧ s.dev.hostReady = true ∧
      s.dev.regUp (Reg.engCtrl e) = true) ∧
    (∃ (s t : State) (e : Fin 16), exec (.engineStop e) s = .next t ∧ s.dev.hostReady = true ∧
      s.dev.regUp (Reg.engCtrl e) = true) ∧
    (∃ (s t : State) (e : Fin 16), exec (.engineResume e) s = .next t ∧ s.dev.hostReady = true ∧
      s.dev.regUp (Reg.engCtrl e) = true) ∧
    (∃ (s t : State) (e : Fin 16), exec (.engineClrCnt e) s = .next t ∧ s.dev.hostReady = true ∧
      s.dev.regUp (Reg.engCtrl e) = true) ∧
    (∃ (s t : State) (e : Fin 16) (v : Word), exec (.doorbell e v) s = .next t ∧ s.dev.hostReady = true ∧
      s.dev.regUp (Reg.engDoorbell e) = true) ∧
    (∃ (s t : State) (e : Fin 16) (v : Word), exec (.regdataWrite e v) s = .next t ∧ s.dev.hostReady = true ∧
      s.dev.regUp (Reg.engRegdata e) = true) ∧
    (∃ (s t : State) (e : Fin 16) (which : Fin 3) (v : Word), exec (.ringConfigWrite e which v) s = .next t ∧
      s.dev.hostReady = true ∧ s.dev.regUp ((if which = 0 then Reg.engRingin e else if which = 1 then Reg.engRingout e else Reg.engRinggeom e)) = true) ∧
    (∃ (s t : State) (e : Fin 16) (env : Env), exec (.engineStep e env) s = .next t) ∧
    (∃ (s t : State) (e : Fin 16) (cycles : Nat) (env : Env), exec (.engineBundle e cycles env) s = .next t) ∧
    (∃ (s t : State) (e : Fin 16) (cycles : Nat) (env : Env), exec (.engineBundle e cycles env) s = .next t ∧
      (s.dev.engPowered e = false ∨ (s.dev.engSt e ≠ EngSt.running ∧ ¬ (s.dev.engSt e = EngSt.stopped ∧
        (s.dev.eng e).stepReq = true)))) ∧
    (∃ (s t : State) (e : Fin 16) (cycles : Nat) (env : Env) (pa : Nat) (secure : Bool), exec (.engineBundle e cycles env) s = .next t ∧ (let b := leNat (s.bytes pa 8)
      s.dev.fetches e pa secure ∧ env.errs = [] ∧ bundleLegal b = true ∧
        ((s.dev.eng e).executes b = true → memShape (opOf (scalarOf b)) = none ∧ ¬ opOf (scalarOf b) ∈ [0x1E, 0x1F, 0x24]))) ∧
    (∃ (s t : State) (e : Fin 16) (cycles : Nat) (env : Env) (pa n p2 : Nat) (secure s2 : Bool), exec (.engineBundle e cycles env) s = .next t ∧ (let b := leNat (s.bytes pa 8)
      let w := scalarOf b
      let x := s.dev.eng e
      let v := (x.readS x.fast (raOf w) + BitVec.ofInt 32 (memOff w)).toNat
      s.dev.fetches e pa secure ∧ env.errs = [] ∧ bundleLegal b = true ∧ x.executes b = true ∧
        memShape (opOf w) = some (n, false) ∧ n ≤ 16 ∧
        v % n = 0 ∧ s.dev.translate (x.winSet e) .store v n = .ok p2 s2 ∧ s.dev.region p2 ≠ .reg)) :=
  ⟨⟨ready, _, 15, [], rfl⟩,
   ⟨ready, _, 15, [], rfl⟩,
   ⟨ready, _, 15, 0, [], rfl⟩,
   ⟨ready, _, 15, rfl, by decide +kernel⟩,
   ⟨ready, _, 15, rfl, by decide +kernel⟩,
   ⟨ready, _, 15, rfl, by decide +kernel⟩,
   ⟨ready, _, 15, rfl, by decide +kernel⟩,
   ⟨ready, _, 15, 0xFFFFFFFF, rfl, by decide +kernel⟩,
   ⟨ready, _, 15, 0xFFFFFFFF, rfl, by decide +kernel⟩,
   ⟨ready, _, 15, 2, 0xFFFFFFFF, rfl, by decide +kernel⟩,
   ⟨ready, _, 15, Env.quiet, rfl⟩,
   ⟨ready, _, 15, 0, Env.quiet, rfl⟩,
   ⟨ready, _, 15, 0, Env.quiet, rfl, by decide +kernel⟩,
   ⟨(ready.on (fun d => (d.wr (Reg.winVa 0 1) 0x7).puts [(Fld.engStatusState 1, 1)])), _, 1, 0, Env.quiet, 0, false, rfl,
     by decide +kernel⟩,
   ⟨{ ready.on (fun d => (d.wr (Reg.winVa 0 1) 0x7).puts [(Fld.engStatusState 1, 1)]) with mem := [(1, 8), (3, 0x54)] }, _, 1, 0, Env.quiet, 0, 4, 0x80, false, false, rfl, by decide +kernel⟩⟩

/-- The hypotheses of each clause of MemoryCommandsFrame are met by a state and operands. -/
theorem witness_MemoryCommandsFrame :
    (∃ (s t : State) (a : Nat), exec (.eccWriteback a) s = .next t) ∧
    (∃ (s t : State) (a : Nat) (errs : List EccErr), exec (.scrubRead a errs) s = .next t) ∧
    (∃ (s t : State) (loc : Nat) (kind : Nat), exec (.repairCopyDone loc kind) s = .next t) ∧
    (∃ (s t : State) (set : Fin 64) (win : Fin 16) (pa : Bool) (v : Word), exec (.windowWrite set win pa v) s = .next t ∧
      s.dev.hostReady = true ∧ s.dev.regUp (0x848000 + 0x80 * set + 8 * win + if pa then 4 else 0) = true) ∧
    (∃ (s t : State) (v : Word), exec (.memCtrlWrite v) s = .next t ∧ s.dev.hostReady = true ∧ s.dev.regUp (Reg.memCtrl) = true) ∧
    (∃ (s t : State), exec (.lbxWipeDone) s = .next t) :=
  ⟨⟨ready, _, 0, rfl⟩,
   ⟨ready, _, 0, [], rfl⟩,
   ⟨ready, _, 0, 0, rfl⟩,
   ⟨ready, _, 63, 15, true, 0xFFFFFFFF, rfl, by decide +kernel⟩,
   ⟨ready, _, 0xFFFFFFFF, rfl, by decide +kernel⟩,
   ⟨ready, _, rfl⟩⟩

/-- The hypotheses of each clause of DmaCommandsFrame are met by a state and operands. -/
theorem witness_DmaCommandsFrame :
    (∃ (s t : State) (c : Fin 64), exec (.dmaStart c) s = .next t ∧ s.dev.hostReady = true ∧
      s.dev.regUp (Reg.dmaChCtrl c) = true) ∧
    (∃ (s t : State) (c : Fin 64), exec (.dmaStop c) s = .next t ∧ s.dev.hostReady = true ∧
      s.dev.regUp (Reg.dmaChCtrl c) = true) ∧
    (∃ (s t : State) (c : Fin 64), exec (.dmaResume c) s = .next t ∧ s.dev.hostReady = true ∧
      s.dev.regUp (Reg.dmaChCtrl c) = true) ∧
    (∃ (s t : State) (c : Fin 64), exec (.kick c) s = .next t ∧ s.dev.hostReady = true ∧ s.dev.regUp (Reg.dmaChCtrl c) = true) ∧
    (∃ (s t : State) (c : Fin 64), exec (.dmaClrCnt c) s = .next t ∧ s.dev.hostReady = true ∧
      s.dev.regUp (Reg.dmaChCtrl c) = true) ∧
    (∃ (s t : State) (c : Fin 64) (desc : Bool) (v : Word), exec (.dmaCfgWrite c desc v) s = .next t ∧ s.dev.hostReady = true ∧
      s.dev.regUp ((if desc then Reg.dmaChDesc c else Reg.dmaChCfg c)) = true) ∧
    (∃ (s t : State) (c : Fin 64), exec (.dmaStall c) s = .next t) ∧
    (∃ (s t : State) (c : Fin 64) (env : Env), exec (.descFetch c env) s = .next t ∧
      (s.dev.on Dom.dma = false ∨ s.dev.chSt c ≠ ChSt.fetch)) ∧
    (∃ (s t : State) (c : Fin 64) (env : Env) (ws : List Word), exec (.descFetch c env) s = .next t ∧ (s.readDesc env c).1 = s ∧
      (s.readDesc env c).2.toOption = some ws ∧ s.dev.on Dom.dma = true ∧ s.dev.chSt c = ChSt.fetch ∧
      bitOf (ws.getD 7 0).toNat 31 = false) ∧
    (∃ (s t : State) (c : Fin 64) (k : Fin 4) (env : Env) (off pa : Nat) (secure : Bool),
      exec (.dmaReadReturn c k env) s = .next t ∧
        s.dev.translate (s.dev.chanSet c) .load ((s.dev.chan c).srcAt off) 16 = .ok pa secure ∧
      (s.dev.chan c).beats[(k : Nat)]? = some ⟨off, none⟩ ∧ s.dev.region pa ≠ .reg ∧ s.dev.reach secure pa = .ok ∧
        env.errs = []) ∧
    (∃ (s t : State) (c : Fin 64) (k : Fin 4) (env : Env), exec (.dmaReadReturn c k env) s = .next t) ∧
    (∃ (s t : State) (c : Fin 64) (env : Env), exec (.dmaBeatCommit c env) s = .next t) ∧
    (∃ (s t : State) (c : Fin 64) (env : Env), exec (.descComplete c env) s = .next t) ∧
    (∃ (s t : State) (c : Fin 64) (env : Env), exec (.descFetch c env) s = .next t) :=
  ⟨⟨ready, _, 63, rfl, by decide +kernel⟩,
   ⟨ready, _, 63, rfl, by decide +kernel⟩,
   ⟨ready, _, 63, rfl, by decide +kernel⟩,
   ⟨ready, _, 63, rfl, by decide +kernel⟩,
   ⟨ready, _, 63, rfl, by decide +kernel⟩,
   ⟨ready, _, 63, true, 0xFFFFFFFF, rfl, by decide +kernel⟩,
   ⟨ready, _, 63, rfl⟩,
   ⟨ready, _, 63, Env.quiet, rfl, by decide +kernel⟩,
   ⟨(ready.on (fun d => (d.puts [(Fld.dmaChStatusState 3, 1)]).wr (Reg.winVa 0 32) 0x3)), _, 3, Env.quiet, List.replicate 8 0,
     rfl, by decide +kernel⟩,
   ⟨(ready.on (fun d => ((d.setChan 3 { Chan.init with desc := [0, 0, 32, 0, 0, 0, 0, 0], beats := [⟨0, none⟩] }).puts [(Fld.dmaChStatusState 3, 2)]).wr (Reg.winVa 0 32) 0x3)), _, 3, 0, Env.quiet, 0, 0, false, rfl, by decide +kernel⟩,
   ⟨ready, _, 63, 3, Env.quiet, rfl⟩,
   ⟨ready, _, 63, Env.quiet, rfl⟩,
   ⟨ready, _, 63, Env.quiet, rfl⟩,
   ⟨ready, _, 63, Env.quiet, rfl⟩⟩

/-- The hypotheses of each clause of IntcCommandsFrame are met by a state and operands. -/
theorem witness_IntcCommandsFrame :
    (∃ (s t : State) (k : Fin 2048), exec (.coalTimerExpire k) s = .next t) ∧
    (∃ (s t : State) (tg : Fin 18) (fast : Bool), exec (.claim tg fast) s = .next t ∧ s.dev.hostReady = true ∧
      (fast = true → (tg : Nat) < 16)) ∧
    (∃ (s t : State) (tg : Fin 18) (fast : Bool) (id : Fin 1024), exec (.complete tg fast id) s = .next t ∧
      s.dev.hostReady = true ∧ s.dev.regUp (Reg.intcTClaim tg + if fast then 16 else 0) = true ∧
        (fast = true → (tg : Nat) < 16)) ∧
    (∃ (s t : State) (v : Word), exec (.swset v) s = .next t ∧ s.dev.hostReady = true ∧ s.dev.regUp (Reg.intcSwset) = true) ∧
    (∃ (s t : State) (hold : Bool), exec (.intcHoldWrite hold) s = .next t ∧ s.dev.hostReady = true ∧
      s.dev.regUp (Reg.intcCtrl) = true) ∧
    (∃ (s t : State) (k : Fin 2048) (coal : Bool) (v : Word), exec (.intcCfgWrite k coal v) s = .next t ∧
      s.dev.hostReady = true ∧ s.dev.regUp (srcCfg k + if coal then 4 else 0) = true) ∧
    (∃ (s t : State) (k : Fin 16) (high : Bool), exec (.extintChange k high) s = .next t) :=
  ⟨⟨ready, _, 2047, rfl⟩,
   ⟨ready, _, 15, true, rfl, by decide +kernel⟩,
   ⟨ready, _, 15, true, 1023, rfl, by decide +kernel⟩,
   ⟨ready, _, 0xFFFFFFFF, rfl, by decide +kernel⟩,
   ⟨ready, _, true, rfl, by decide +kernel⟩,
   ⟨ready, _, 2047, true, 0xFFFFFFFF, rfl, by decide +kernel⟩,
   ⟨ready, _, 15, true, rfl⟩⟩

/-- The hypotheses of each clause of LinkCommandsFrame are met by a state and operands. -/
theorem witness_LinkCommandsFrame :
    (∃ (s t : State) (p : Fin 3) (f : LinkIn), exec (.linkFrameRx p f) s = .next t) ∧
    (∃ (s t : State) (same : Bool), exec (.linkRangingDone same) s = .next t) ∧
    (∃ (s t : State), exec (.linkRootLoss) s = .next t) ∧
    (∃ (s t : State) (p : Fin 3) (m : List Byte), exec (.app p m) s = .next t) ∧
    (∃ (s t : State) (p : Fin 3) (m : List Byte), exec (.assign p m) s = .next t) ∧
    (∃ (s t : State) (p : Fin 3) (m : List Byte), exec (.join p m) s = .next t) ∧
    (∃ (s t : State), exec (.linkSend) s = .next t ∧ s.dev.hostReady = true ∧ s.dev.regUp (Reg.linkTxctrl) = true) ∧
    (∃ (s t : State), exec (.linkPop) s = .next t ∧ s.dev.hostReady = true ∧ s.dev.regUp (Reg.linkRxstat) = true) ∧
    (∃ (s t : State) (v : Word), exec (.linkNodeidWrite v) s = .next t ∧ s.dev.hostReady = true ∧
      s.dev.regUp (Reg.linkNodeid) = true) ∧
    (∃ (s t : State), exec (.linkClrCnt) s = .next t ∧ s.dev.hostReady = true ∧ s.dev.regUp (Reg.linkCtrl) = true) ∧
    (∃ (s t : State) (p : Fin 3), exec (.linkIdle p) s = .next t ∧ s.dev.hostReady = true ∧
      s.dev.regUp (Reg.linkPortCtrl p) = true) ∧
    (∃ (s t : State) (p : Fin 3) (wake : Bool), exec (.linkWake p wake) s = .next t ∧ s.dev.hostReady = true ∧
      s.dev.regUp (Reg.linkPortCtrl p) = true) ∧
    (∃ (s t : State) (p : Fin 3), exec (.squelchWake p) s = .next t) ∧
    (∃ (s t : State) (p : Fin 3) (m : List Byte), exec (.bootData p m) s = .next t) ∧
    (∃ (s t : State) (p : Fin 3) (m : List Byte), exec (.linkReset p m) s = .next t) :=
  ⟨⟨ready, _, 2, testHdr, rfl⟩,
   ⟨ready, _, true, rfl⟩,
   ⟨ready, _, rfl⟩,
   ⟨ready, _, 2, [], rfl⟩,
   ⟨ready, _, 2, [], rfl⟩,
   ⟨ready, _, 2, [], rfl⟩,
   ⟨ready, _, rfl, by decide +kernel⟩,
   ⟨ready, _, rfl, by decide +kernel⟩,
   ⟨ready, _, 0xFFFFFFFF, rfl, by decide +kernel⟩,
   ⟨ready, _, rfl, by decide +kernel⟩,
   ⟨ready, _, 2, rfl, by decide +kernel⟩,
   ⟨ready, _, 2, true, rfl, by decide +kernel⟩,
   ⟨ready, _, 2, rfl⟩,
   ⟨ready, _, 2, [], rfl⟩,
   ⟨ready, _, 2, [], rfl⟩⟩

/-- The hypotheses of each clause of TwinCommandsFrame are met by a state and operands. -/
theorem witness_TwinCommandsFrame :
    (∃ (s t : State), exec (.pairWaitExpire) s = .next t) ∧
    (∃ (s t : State), exec (.pairSyncTimeout) s = .next t) ∧
    (∃ (s t : State) (high : Bool) (priOk : Bool), exec (.heartbeatMiss high priOk) s = .next t) ∧
    (∃ (s t : State), exec (.deadmanFire) s = .next t) ∧
    (∃ (s t : State), exec (.partnerLost) s = .next t) ∧
    (∃ (s t : State), exec (.detach) s = .next t ∧ s.dev.hostReady = true ∧ s.dev.regUp (Reg.hingeCtrl) = true) ∧
    (∃ (s t : State), exec (.attach) s = .next t ∧ s.dev.hostReady = true ∧ s.dev.regUp (Reg.hingeCtrl) = true) ∧
    (∃ (s t : State), exec (.resetTwin) s = .next t ∧ s.dev.hostReady = true ∧ s.dev.regUp (Reg.hingeCtrl) = true) ∧
    (∃ (s t : State), exec (.hingeClrCnt) s = .next t ∧ s.dev.hostReady = true ∧ s.dev.regUp (Reg.hingeCtrl) = true) ∧
    (∃ (s t : State) (f : FrameIn), exec (.standbySync f) s = .next t) ∧
    (∃ (s t : State) (f : HingeIn), exec (.hingeFrameRx f) s = .next t) :=
  ⟨⟨ready, _, rfl⟩,
   ⟨ready, _, rfl⟩,
   ⟨ready, _, true, true, rfl⟩,
   ⟨ready, _, rfl⟩,
   ⟨ready, _, rfl⟩,
   ⟨ready, _, rfl, by decide +kernel⟩,
   ⟨ready, _, rfl, by decide +kernel⟩,
   ⟨ready, _, rfl, by decide +kernel⟩,
   ⟨ready, _, rfl, by decide +kernel⟩,
   ⟨ready, _, quietFrame, rfl⟩,
   ⟨ready, _, testHinge, rfl⟩⟩

/-- The hypotheses of each clause of RepairCommandsFrame are met by a state and operands. -/
theorem witness_RepairCommandsFrame :
    (∃ (s t : State) (n : Fin 16), exec (.tileSwap n) s = .next t ∧ s.dev.hostReady = true ∧ s.dev.regUp (Reg.repCtrl) = true) ∧
    (∃ (s t : State), exec (.tileSwapDone) s = .next t) ∧
    (∃ (s t : State), exec (.repairBurnStart) s = .next t) ∧
    (∃ (s t : State), exec (.repairBurnDone) s = .next t) ∧
    (∃ (s t : State) (setting : Fin 26) (v : Word), exec (.ktWrite setting v) s = .next t ∧ s.dev.hostReady = true ∧
      s.dev.regUp (ktReg setting) = true) ∧
    (∃ (s t : State) (w : Fin 8) (v : Word), exec (.ktHoldingWrite w v) s = .next t ∧ s.dev.hostReady = true ∧
      s.dev.regUp (if (w : Nat) = 0 then Reg.ktLikeness0 else Reg.ktRoothash (w - 1)) = true) ∧
    (∃ (s t : State) (cat : Fin 16) (v : Word), exec (.violClear cat v) s = .next t ∧ s.dev.hostReady = true ∧
      s.dev.regUp (Reg.violCnt cat) = true) ∧
    (∃ (s t : State) (cause : Fin 3), exec (.tamper cause) s = .next t) ∧
    (∃ (s t : State), exec (.ktSeal) s = .next t) :=
  ⟨⟨ready, _, 15, rfl, by decide +kernel⟩,
   ⟨ready, _, rfl⟩,
   ⟨ready, _, rfl⟩,
   ⟨ready, _, rfl⟩,
   ⟨ready, _, 25, 0xFFFFFFFF, rfl, by decide +kernel⟩,
   ⟨ready, _, 0, 0xFFFFFFFF, rfl, by decide +kernel⟩,
   ⟨ready, _, 15, 0xFFFFFFFF, rfl, by decide +kernel⟩,
   ⟨ready, _, 2, rfl⟩,
   ⟨ready, _, rfl⟩⟩

/-- The hypotheses of each clause of PowerCommandsFrame are met by a state and operands. -/
theorem witness_PowerCommandsFrame :
    (∃ (s t : State) (k : Fin 46), exec (.quiesceAgree k) s = .next t) ∧
    (∃ (s t : State) (src : Fin 6), exec (.wake src) s = .next t) ∧
    (∃ (s t : State) (k : Fin 2), exec (.wakePin k) s = .next t) ∧
    (∃ (s t : State) (k : Fin 46), exec (.domainClkSwitch k) s = .next t) ∧
    (∃ (s t : State) (ws : List (Fin 3 × Word)), exec (.pwrTransaction ws) s = .next t ∧ s.dev.hostReady = true ∧
      s.dev.host.posted = [] ∧ s.dev.host.stretched = none) ∧
    (∃ (s t : State) (w : Fin 2) (v : Word), exec (.pwrClkselWrite w v) s = .next t ∧ s.dev.hostReady = true ∧
      s.dev.regUp (Reg.pwrClksel w) = true) ∧
    (∃ (s t : State) (w : Fin 2) (v : Word), exec (.shackleRelease w v) s = .next t ∧ s.dev.hostReady = true ∧
      s.dev.regUp (Reg.pwrShackle w) = true) ∧
    (∃ (s t : State) (k : Fin 46), exec (.domainArrive k) s = .next t) ∧
    (∃ (s t : State), exec (.pwrCommit) s = .next t ∧ s.dev.pwr.held = [] ∧ s.dev.host.posted = [] ∧
      s.dev.host.stretched = none) ∧
    (∃ (s t : State), exec (.quiesceTimeout) s = .next t ∧ s.dev.pwr.held = [] ∧ s.dev.host.posted = [] ∧
      s.dev.host.stretched = none) :=
  ⟨⟨ready, _, 45, rfl⟩,
   ⟨ready, _, 5, rfl⟩,
   ⟨ready, _, 1, rfl⟩,
   ⟨ready, _, 45, rfl⟩,
   ⟨ready, _, [], rfl, by decide +kernel⟩,
   ⟨ready, _, 1, 0xFFFFFFFF, rfl, by decide +kernel⟩,
   ⟨ready, _, 1, 0xFFFFFFFF, rfl, by decide +kernel⟩,
   ⟨ready, _, 45, rfl⟩,
   ⟨ready, _, rfl, by decide +kernel⟩,
   ⟨ready, _, rfl, by decide +kernel⟩⟩

/-- The hypotheses of each clause of SupplyCommandsFrame are met by a state and operands. -/
theorem witness_SupplyCommandsFrame :
    (∃ (s t : State), exec (.wdtKick) s = .next t ∧ s.dev.hostReady = true) ∧
    (∃ (s t : State) (v : Word), exec (.wdtcfgWrite v) s = .next t ∧ s.dev.hostReady = true) ∧
    (∃ (s t : State), exec (.watchdogPre) s = .next t) ∧
    (∃ (s t : State) (sup : Fin 4) (mv : Nat), exec (.supplyWarning sup mv) s = .next t) ∧
    (∃ (s t : State) (sup : Fin 4) (mv : Nat), exec (.supplyRecover sup mv) s = .next t) ∧
    (∃ (s t : State), exec (.resume) s = .next t ∧ s.dev.hostReady = true ∧ s.dev.regUp (Reg.monCtrl) = true) ∧
    (∃ (s t : State) (k : Fin 3) (tg : Int), exec (.thermalWarning k tg) s = .next t) ∧
    (∃ (s t : State) (tg : Int), exec (.die0Throttle tg) s = .next t) ∧
    (∃ (s t : State) (tg : Int), exec (.die0ThrottleEnd tg) s = .next t) ∧
    (∃ (s t : State) (tg : Int) (long : Bool), exec (.die0Shutdown tg long) s = .next t) :=
  ⟨⟨ready, _, rfl, by decide +kernel⟩,
   ⟨ready, _, 0xFFFFFFFF, rfl, by decide +kernel⟩,
   ⟨ready, _, rfl⟩,
   ⟨ready, _, 3, 0, rfl⟩,
   ⟨ready, _, 3, 0, rfl⟩,
   ⟨ready, _, rfl, by decide +kernel⟩,
   ⟨ready, _, 2, 0, rfl⟩,
   ⟨ready, _, 0, rfl⟩,
   ⟨ready, _, 0, rfl⟩,
   ⟨ready, _, 0, true, rfl⟩⟩

/-- The hypotheses of each clause of HostCommandsFrame are met by a state and operands. -/
theorem witness_HostCommandsFrame :
    (∃ (s t : State) (adr : Fin 128) (reg : Nat), exec (.i2cSetPointer adr reg) s = .next t) ∧
    (∃ (s t : State) (env : Env) (adr : Fin 128) (words : Nat), exec (.i2cRead env adr words) s = .next t ∧
      s.dev.clk.pend = false ∧ s.dev.pwr.staged = []) ∧
    (∃ (s t : State) (env : Env) (adr : List Byte) (words : Nat) (late : List Nat) (cut : Bool),
      exec (.spiRead env adr words late cut) s = .next t ∧ s.dev.clk.pend = false ∧ s.dev.pwr.staged = []) ∧
    (∃ (s t : State), exec (.i2cAbort) s = .next t) ∧
    (∃ (s t : State), exec (.i2cStuck) s = .next t) ∧
    (∃ (s t : State), exec (.spiStatus) s = .next t) ∧
    (∃ (s t : State) (bytes : List Byte), exec (.qspiDone bytes) s = .next t) ∧
    (∃ (s t : State) (cmd : Nat), exec (.spiUnknownCommand cmd) s = .next t) ∧
    (∃ (s t : State) (v : Word), exec (.qspiGo v) s = .next t ∧ s.dev.hostReady = true ∧ s.dev.regUp (Reg.qspiCmd) = true) ∧
    (∃ (s t : State) (env : Env) (adr : Fin 128) (reg : Nat) (bytes : List Byte),
      exec (.i2cWrite env adr reg bytes) s = .next t) ∧
    (∃ (s t : State) (env : Env) (adr : List Byte) (bytes : List Byte) (cut : Bool),
      exec (.spiWrite env adr bytes cut) s = .next t) ∧
    (∃ (s t : State), exec (.i2cStretchTimeout) s = .next t) ∧
    (∃ (s t : State) (env : Env) (a : Nat) (v : Word), exec (.registerWrite env a v) s = .next t) ∧
    (∃ (s t : State) (env : Env) (a : Nat) (v : Word), exec (.registerWrite env a v) s = .next t ∧ s.dev.hostReady = true ∧
      a % 4 = 0 ∧ a < 0x600000 ∧ s.dev.bankOn (s.dev.region a) = true ∧ env.errs = []) :=
  ⟨⟨ready, _, 127, 0, rfl⟩,
   ⟨ready, _, Env.quiet, 127, 0, rfl, by decide +kernel⟩,
   ⟨ready, _, Env.quiet, [], 0, [], true, rfl, by decide +kernel⟩,
   ⟨ready, _, rfl⟩,
   ⟨ready, _, rfl⟩,
   ⟨ready, _, rfl⟩,
   ⟨ready, _, [], rfl⟩,
   ⟨ready, _, 0, rfl⟩,
   ⟨ready, _, 0xFFFFFFFF, rfl, by decide +kernel⟩,
   ⟨ready, _, Env.quiet, 127, 0, [], rfl⟩,
   ⟨ready, _, Env.quiet, [], [], true, rfl⟩,
   ⟨ready, _, rfl⟩,
   ⟨ready, _, Env.quiet, 0x5FFFFC, 0xFFFFFFFF, rfl⟩,
   ⟨ready, _, Env.quiet, 0x5FFFFC, 0xFFFFFFFF, rfl, by decide +kernel⟩⟩

/-! ### Witnesses for the statements about the machine and its rules -/

/-- The hypotheses of StepRunsFrontCommand's second clause, and of ExecKeepsTheQueue. -/
theorem witness_StepRunsFrontCommand : ∃ s : State, s.pending = [] := ⟨ready, rfl⟩
theorem witness_ExecKeepsTheQueue : ∃ (c : Instr) (s t : State), exec c s = .next t := ⟨.discard, ready, _, rfl⟩

/-- A state with memory listed and a wipe at its end in front. -/
def wiping : State :=
  { ready.on (fun d => d.puts [(Fld.lbxStatusWiping, 1)]) with mem := [(0, 1), (0x5FFFFF, 0xFF)], pending := [.lbxWipeDone, .por] }

theorem witness_StepKeepsMemoryCanonical : ∃ s t : State, Memory.wf s.mem = true ∧ step s = .next t :=
  ⟨wiping, _, by decide +kernel, rfl⟩

theorem witness_StepEndsEveryAccess : ∃ s t : State, s.dev.accessEnded ∧ step s = .next t :=
  ⟨wiping, _, by unfold Dev.accessEnded; decide +kernel, rfl⟩

theorem witness_ResetValues : ∃ a, a ∉ [Reg.pwrState 0, Reg.pwrState 1, Reg.pwrState 2, Reg.hostifI2cnow, Reg.ktBootcnt] ∧
    (∀ o, o < 10 → a ≠ Reg.outStatus o) := ⟨Reg.violLastaddr, by decide, by decide⟩

/-- In SOLO, and in PAIRING, where R502 names category 10. -/
theorem witness_ClkWriteDuringReseatRefused :
    (∃ (s : State) (a : Nat), s.dev.pwr.inReset = false ∧ s.dev.accessEnded ∧ s.dev.boot.everRun = true ∧
      s.dev.boot.reseat ≠ 0 ∧ a / 0x10000 = 0x81 ∧ s.dev.released = false) ∧
    (∃ (s : State) (a : Nat), s.dev.pwr.inReset = false ∧ s.dev.accessEnded ∧ s.dev.boot.everRun = true ∧
      s.dev.boot.reseat ≠ 0 ∧ a / 0x10000 = 0x81 ∧ s.dev.released = true) :=
  ⟨⟨ready.on (fun d => { d with boot := { d.boot with reseat := 7 } }), Reg.clkPllcfg, by unfold Dev.accessEnded; decide +kernel⟩,
   ⟨ready.on (fun d => { d.puts [(Fld.hingeStatusRole, 1)] with boot := { d.boot with reseat := 1 } }), 0x81FFFF,
     by unfold Dev.accessEnded; decide +kernel⟩⟩

theorem witness_LiveReloadOnlyWhenRunning : ∃ s : State, s.dev.hostFree = true ∧ s.dev.bootSt ≠ BootSt.running :=
  ⟨ready.on (fun d => d.puts [(Fld.bootStatusState, 0)]), by decide +kernel⟩

theorem witness_ButtonThresholdsAscend : ∃ (s : State) (h : Fin 2), s.dev.hostReady = true ∧
  s.dev.regUp (Reg.hsBtncfg h) = true :=
  ⟨ready, 1, by decide +kernel⟩

theorem witness_UnmappedAddresses :
    (∃ a : Nat, ¬ (a < 0x610000 ∨ (0x800000 ≤ a ∧ a < 0x910000) ∨ (0xA00000 ≤ a ∧ a < 0xA10000))) ∧
    (∃ (s : State) (a : Nat), s.dev.region (a / 4 * 4) = .unmapped ∧ s.dev.accessEnded) ∧
    (∃ (d : Dev) (set j v n : Nat) (k : Access), (List.range 16).find? (d.winCovers set v) = some j ∧
      v + n ≤ (d.rd (Reg.winVa j set)).toNat / 256 * 256 + 2 ^ (8 + bitsOf (d.rd (Reg.winVa j set)).toNat 4 4) ∧
      k.permits (d.rd (Reg.winVa j set)).toNat = true ∧
      d.region (((d.rd (Reg.winPa j set)).toNat / 256 * 256 + (v - (d.rd (Reg.winVa j set)).toNat / 256 * 256)) % 2 ^ 32) =
        .unmapped) :=
  ⟨⟨0x610000, by decide⟩, ⟨ready, 0xFFFFFFFF, by unfold Dev.accessEnded; decide +kernel⟩,
   ⟨(ready.dev.wr (Reg.winVa 0 47) 1).wr (Reg.winPa 0 47) 0x00610000, 47, 0, 0xFF, 1, .load, by decide +kernel⟩⟩

theorem witness_StandbyRefusesHostWrites : ∃ (s : State) (a : Nat) (v : Word), s.dev.pwr.inReset = false ∧ s.dev.accessEnded ∧
    s.dev.boot.everRun = true ∧ a % 4 = 0 ∧ isRegAddr a = true ∧ s.dev.downHere a true = false ∧ s.dev.released = true ∧
    s.dev.roleAccepts a v = false :=
  ⟨ready.on (fun d => d.puts [(Fld.hingeStatusRole, 3)]), Reg.pwrSleepcfg, 0, by unfold Dev.accessEnded; decide +kernel⟩

/-- A device before its first commit, out of reset. -/
def fresh : State := State.reset.on (fun d => { d with pwr := { d.pwr with inReset := false } })

theorem witness_WritesBeforeRunningRefused :
    (∃ (s : State) (a : Nat), s.dev.boot.everRun = false ∧ a % 4 = 0 ∧ s.dev.pwr.inReset = false ∧ s.dev.accessEnded ∧
      s.dev.region a ≠ .unmapped ∧ a / 0x10000 ≠ 0x8E ∧ ktSetting a = none) ∧
    (∃ (s : State) (a : Nat), s.dev.boot.everRun = false ∧ a % 4 = 0 ∧ isRegAddr a = true ∧ s.dev.downHere a false = false ∧
      a / 0x10000 ≠ 0x83) :=
  ⟨⟨fresh, 0x5FFFFC, by unfold Dev.accessEnded; decide +kernel⟩, ⟨fresh, 0x90FFFC, by decide +kernel⟩⟩

/-- The first and the last word of the lockbox, without and with a wipe. -/
theorem witness_LockboxClosedToHost :
    (∃ (s : State) (a : Nat), s.dev.hostReady = true ∧ a % 4 = 0 ∧ 0x600000 ≤ a ∧ a < 0x610000 ∧
      s.dev.is Fld.lbxStatusWiping = false) ∧
    (∃ (s : State) (a : Nat), s.dev.hostReady = true ∧ a % 4 = 0 ∧ 0x600000 ≤ a ∧ a < 0x610000 ∧
      s.dev.is Fld.lbxStatusWiping = true) :=
  ⟨⟨ready, 0x600000, by decide +kernel⟩, ⟨wiping, 0x60FFFC, by decide +kernel⟩⟩

theorem witness_DownDomainAccess :
    (∃ (s : State) (a k : Nat), s.dev.hostReady = true ∧ a % 4 = 0 ∧ regDom a = some k ∧ s.dev.on k = false) ∧
    (∃ (s : State) (a : Nat), s.dev.hostReady = true ∧ a % 4 = 0 ∧ a < 0x600000 ∧ s.dev.bankOn (s.dev.region a) = false) :=
  ⟨⟨ready.on (fun d => d.setDom Dom.usb 1), Reg.usbCtrl, Dom.usb, by decide +kernel⟩,
   ⟨ready.on (fun d => d.setDom 15 0), 0x3FFFFC, by decide +kernel⟩⟩

theorem witness_QuiescingDomainHoldsWrite : ∃ (s : State) (a k : Nat), s.dev.pwr.inReset = false ∧ s.dev.accessEnded ∧
    s.dev.boot.everRun = true ∧ s.dev.released = false ∧ s.dev.boot.reseat = 0 ∧ s.dev.regUp a = true ∧ regDom a = some k ∧
    s.dev.quiescing k = true :=
  ⟨ready.on (·.modPwr (fun p => { p with lower := [(Dom.usb, 0)] })), Reg.usbCtrl, Dom.usb,
    by unfold Dev.accessEnded; decide +kernel⟩

theorem witness_HostMemoryReadAfterWrite : ∃ (s t : State) (env : Env) (a : Nat) (v : Word), s.dev.hostReady = true ∧ a % 4 = 0 ∧
    a < 0x600000 ∧ s.dev.bankOn (s.dev.region a) = true ∧ env.errs = [] ∧ exec (.registerWrite env a v) s = .next t :=
  ⟨ready, _, Env.quiet, 0x5FFFFC, 0x01020304, by decide +kernel, by decide, by decide, by decide +kernel, rfl, rfl⟩

theorem witness_EngineConstantRegisters : (∃ n : Nat, n ≠ 0) ∧ (∃ n : Nat, 24 ≤ n) ∧ (∃ n : Nat, n ≠ 0 ∧ n < 24) :=
  ⟨⟨31, by decide⟩, ⟨24, by decide⟩, ⟨23, by decide⟩⟩

theorem witness_InterruptCompletion :
    (∃ (s : State) (tg : Fin 18) (id : Fin 1024), s.dev.hostReady = true ∧ s.dev.regUp (Reg.intcTClaim tg) = true ∧
      (id : Nat) = 1023) ∧
    (∃ (s : State) (tg : Fin 18) (id : Fin 1024), s.dev.hostReady = true ∧ s.dev.regUp (Reg.intcTFclaim tg) = true ∧
      (tg : Nat) < 16 ∧ (id : Nat) ≠ 1023 ∧ idKey tg id = none) ∧
    (∃ (s : State) (tg : Fin 18) (id : Fin 1024) (k : Nat), s.dev.hostReady = true ∧ s.dev.regUp (Reg.intcTFclaim tg) = true ∧
      (tg : Nat) < 16 ∧ (id : Nat) ≠ 1023 ∧ idKey tg id = some k ∧ s.dev.activeAt tg true k = true) :=
  ⟨⟨ready, 17, 1023, by decide +kernel⟩, ⟨ready, 15, 512, by decide +kernel⟩,
   ⟨ready.on (fun d => d.setGate 511 { Gate.init with st := .active, tgt := 15, fast := true }), 15, 511, 511, by decide +kernel⟩⟩

/-- The tumbler empty, holding the word, and holding 256 others. -/
theorem witness_TumblerStaging :
    let ok (s : State) (a : Nat) (v : Word) := s.dev.hostReady = true ∧ s.dev.regUp a = true ∧ rwtMask a ≠ 0 ∧
      s.dev.stageClosed .host = false ∧ s.dev.secondWriter (s.dev.stageKey a) (s.dev.stageWord a v).1 = none
    (∃ (s : State) (a : Nat) (v : Word), ok s a v ∧ ∃ e ∈ s.dev.key.entries, e.key = s.dev.stageKey a) ∧
    (∃ (s : State) (a : Nat) (v : Word), ok s a v ∧ (∀ e ∈ s.dev.key.entries, e.key ≠ s.dev.stageKey a) ∧
      s.dev.key.entries.length < 256) ∧
    (∃ (s : State) (a : Nat) (v : Word), ok s a v ∧ (∀ e ∈ s.dev.key.entries, e.key ≠ s.dev.stageKey a) ∧
      256 ≤ s.dev.key.entries.length) :=
  ⟨⟨ready.on (fun d => { d with key := { d.key with entries := [⟨Reg.keyRoute 511, 0⟩] } }), Reg.keyRoute 511, 0x80070005,
     by decide +kernel⟩,
   ⟨ready, Reg.keyRoute 511, 0x80070005, by decide +kernel⟩,
   ⟨ready.on (fun d => { d with key := { d.key with entries := (List.range 256).map (fun k => ⟨Reg.keyRoute k, 0⟩) } }),
     Reg.keyRoute 511, 0x80070005, by decide +kernel⟩⟩

/-- A device with one route, from source 1022 to sink 7. -/
def routed : Dev := ready.dev.wr (Reg.keyRoute 0) 0x800703FE

theorem witness_RoutesCopySamples :
    (∃ (d : Dev) (src sink : Nat), (src, sink) ∈ d.tickXps.enabledRoutes ∧
      (∀ r ∈ d.tickXps.enabledRoutes, r.2 = sink → r.1 = src) ∧ (src < 768 ∨ 895 < src) ∧ src ≠ 1023) ∧
    (∃ (d : Dev) (sink : Nat), ∀ r ∈ d.tickXps.enabledRoutes, r.2 ≠ sink) :=
  ⟨⟨routed, 1022, 7, by decide +kernel⟩, ⟨routed, 8, by decide +kernel⟩⟩

theorem witness_ViolationCounting : (∃ cat addr : Nat, cat < 16 ∧ addr < 2 ^ 32) ∧ (∃ s : State, s.dev.hostReady = true) :=
  ⟨⟨15, 2 ^ 32 - 1, by decide⟩, ⟨ready, by decide +kernel⟩⟩

/-! ### Ill-formed commands, one for each check -/

/-- A quiet frame with every list of its length. -/
def fullFrame : FrameIn :=
  { quietFrame with ain := List.replicate 8 0, pdm := List.replicate 32 0, supplies := List.replicate 4 3300, temps := [25, 25, 25] }

theorem test_wf_accepts_frame : (Instr.frameBoundary fullFrame).wf = true := by decide
theorem test_wf_refuses_frame_inputs : (Instr.frameBoundary { fullFrame with ain := [] }).wf = false ∧
    (Instr.keywayStart { fullFrame with pdm := [0] }).wf = false ∧ (Instr.standbySync { fullFrame with temps := [] }).wf = false ∧
    (Instr.frameBoundary { fullFrame with supplies := [] }).wf = false := by decide
theorem test_wf_refuses_frame_ranges : (Instr.frameBoundary { fullFrame with clips := 1024 }).wf = false ∧
    (Instr.frameBoundary { fullFrame with micb := 16 }).wf = false ∧ (Instr.frameBoundary { fullFrame with servo := [(10, 0)] }).wf = false ∧
    (Instr.frameBoundary { fullFrame with banks := [(33, 0, false)] }).wf = false ∧
    (Instr.frameBoundary { fullFrame with lateIn := 65536 }).wf = false ∧
    (Instr.frameBoundary { fullFrame with lateOut := 65536 }).wf = false := by decide
theorem test_wf_refuses_bor : (Instr.bor 0).wf = false ∧ (Instr.bor 8).wf = false := by decide
theorem test_wf_refuses_findings : (Instr.bootTestsDone [(8, 0)]).wf = false ∧ (Instr.bootTestsDone [(0, 0)]).wf = false ∧
    (Instr.spkSegmentTestsDeferred [(4, 0, 0, 0)]).wf = false ∧ (Instr.spkSegmentTestsDeferred [(3, 2, 0, 0)]).wf = false ∧
    (Instr.spkSegmentTestsDeferred [(3, 1, 18, 0)]).wf = false ∧ (Instr.spkSegmentTestsDeferred [(3, 1, 17, 3)]).wf = false := by
  decide
theorem test_wf_refuses_pllLock : (Instr.pllLock 0).wf = false := by decide
theorem test_wf_refuses_tumblerStage : (Instr.tumblerStage Reg.monCfg 0).wf = false := by decide +kernel
theorem test_wf_refuses_pdmSettleEnd : (Instr.pdmSettleEnd false 2).wf = false := by decide
theorem test_wf_refuses_spdif : (Instr.spdifFrameReceived ⟨3, 0, false, 0, 0⟩).wf = false ∧
    (Instr.spdifFrameReceived ⟨0, 3, false, 0, 0⟩).wf = false ∧ (Instr.spdifFrameReceived ⟨0, 2, false, 2 ^ 32, 0⟩).wf = false ∧
    (Instr.spdifFrameReceived ⟨0, 2, false, 0, 2 ^ 32⟩).wf = false := by decide
theorem test_wf_refuses_usbSof : (Instr.usbSof 2048 0 0).wf = false ∧ (Instr.usbSof 0 8 0).wf = false := by decide
theorem test_wf_refuses_ecc : (Instr.eccWriteback 0x610000).wf = false ∧ (Instr.eccWriteback 8).wf = false ∧
    (Instr.scrubRead 0x610000 []).wf = false ∧ (Instr.scrubRead 8 []).wf = false := by decide
theorem test_wf_refuses_repairCopyDone : (Instr.repairCopyDone 0x1000 3).wf = false ∧
  (Instr.repairCopyDone (2 ^ 32) 1).wf = false := by
  decide
theorem test_wf_refuses_intcCfgWrite : (Instr.intcCfgWrite 512 false 0).wf = false := by decide +kernel
theorem test_wf_refuses_link : (Instr.linkFrameRx 0 { testHdr with hdr := [] }).wf = false ∧
    (Instr.linkFrameRx 0 { testHdr with slots := [⟨256, 0, false, 0⟩] }).wf = false ∧ (Instr.app 0 []).wf = false ∧
    (Instr.assign 0 []).wf = false ∧ (Instr.join 0 []).wf = false ∧ (Instr.linkReset 0 []).wf = false ∧
    (Instr.bootData 0 []).wf = false := by decide +kernel
theorem test_wf_refuses_host : (Instr.i2cWrite Env.quiet 0 (2 ^ 32) []).wf = false ∧ (Instr.i2cSetPointer 0 (2 ^ 32)).wf = false ∧
    (Instr.spiRead Env.quiet [0, 0, 0, 0, 0] 1 [] false).wf = false ∧
      (Instr.spiWrite Env.quiet [0, 0, 0, 0, 0] [] false).wf = false ∧
    (Instr.spiUnknownCommand 3).wf = false ∧ (Instr.spiUnknownCommand 256).wf = false ∧
    (Instr.registerWrite Env.quiet (2 ^ 32) 0).wf = false := by decide

theorem test_wf_refuses_errors : (Instr.scrubRead 0 [⟨0, 0, some 72⟩]).wf = false ∧
  (Instr.scrubRead 0 [⟨0, 2, none⟩]).wf = false ∧
    (Instr.scrubRead 0 [⟨8, 0, none⟩]).wf = false ∧ (Instr.scrubRead 0 [⟨0x610000, 0, none⟩]).wf = false ∧
    (Instr.engineStep 0 { Env.quiet with errs := [⟨8, 0, none⟩] }).wf = false := by decide

/-! ### The spec's worked numbers -/

/-- The encoding example after R364: LDW s5, [s2 + 8] beside VFMAS v0, v2, s4. -/
theorem test_bundle_fields :
    let b := 0x8008800040A20080
    opOf (scalarOf b) = 0x10 ∧ rdOf (scalarOf b) = 5 ∧ raOf (scalarOf b) = 2 ∧ memOff (scalarOf b) = 8 ∧
      opOf (vectorOf b) = 0x20 ∧ vdOf (vectorOf b) = 0 ∧ vaOf (vectorOf b) = 2 ∧ sbOf (vectorOf b) = 4 ∧
        bundleLegal b = true := by
  decide

/-- BR.!p1 −4 of the same example: four bundles of 8 bytes back, when p1 is clear. -/
theorem test_branch_fields : opOf 0x83FFFFC3 = 0x20 ∧ offOf 0x83FFFFC3 = -32 ∧ pgOf 0x83FFFFC3 = 1 ∧
  piOf 0x83FFFFC3 = true := by decide

/-- The worked example of R20: the low-side switch of segment 17, negative half-bridge of SPK3. -/
theorem test_location_word : locWord 2 1 1 1 17 1 = 0x49091001 := by decide

/-- The example of R10: a bit cell of the spare tile of cluster 2. -/
theorem test_location_of_cell : locWord 0 2 4 0 12 100 = 0x1400C064 := by decide

/-- The worked example of R387: key 3, address 0x00412345, byte 5 of its word. -/
theorem test_pool_location :
    let d := ready.dev.put Fld.memHashkeyK 3
    poolFold 0x412345 = 4 ∧ poolBank 3 0x412345 = 7 ∧ memRow 0x412345 = 36 ∧ memWordIdx 0x412345 = 3 ∧
      bitGroup 0x412345 0 40 = 26 ∧ d.memLoc 0x412345 26 = 0x0079A024 := by decide +kernel

/-- The worked example of chapter 14: window set 35 at 0x20000 of 512 bytes; beat 31 fits, beat 32 lies outside. -/
theorem test_window_edge :
    let d := (ready.dev.wr (Reg.winVa 0 35) 0x00020013).wr (Reg.winPa 0 35) 0x00010000
    d.translate 35 .store 0x000201F0 16 = .ok 0x000101F0 false ∧ d.translate 35 .store 0x00020200 16 = .translation := by
  decide +kernel

/-- R76: an int of 47 is stored as 48 and counted in category 3. -/
theorem test_pll_int_clamped :
    let t := (ready.on (·.pllWrite .host Reg.clkPllcfg 0x8000002F)).dev
    t.get Fld.clkPllcfgInt = 48 ∧ t.get (Fld.violCntCount 3) = 1 ∧ t.get Fld.violLastaddrAddr = 0x00810000 := by decide +kernel

/-- R254: thresholds of 255 saturate and are counted. -/
theorem test_btncfg_saturates :
    let t := ready.dev.btnCfg .host 0 0xFFFFFFFF
    t.get (Fld.hsBtncfgTh0 0) = 255 ∧ t.get (Fld.hsBtncfgTh3 0) = 255 ∧ t.get (Fld.violCntCount 3) = 1 := by decide +kernel

/-- R364: 1 + 1 = 2; a NaN that an operation makes is 0x7FC00000; a subnormal input reads as zero of its sign. -/
theorem test_fp32 : fadd 0x3F800000 0x3F800000 = 0x40000000 ∧ fsub 0x7F800000 0x7F800000 = 0x7FC00000 ∧
    fadd 0x80000001 0x80000001 = 0x80000000 := by decide

/-- The check values of the standard CRCs with these polynomials and initial values, of the bytes "123456789". -/
theorem test_crcs :
    let m : List Byte := [0x31, 0x32, 0x33, 0x34, 0x35, 0x36, 0x37, 0x38, 0x39]
    crc8 m = 0xF4 ∧ crc16 m = 0x29B1 ∧ crc32 m = 0xCBF43926 := by decide +kernel

/-- FIPS 180-4's example: the digest of "abc". -/
theorem test_sha256 : sha256 [0x61, 0x62,
  0x63] = beBytes 32 0xba7816bf8f01cfea414140de5dae2223b00361a396177a9cb410ff61f20015ad := by
  decide +kernel

/-- FIPS 197's example for a key of 256 bits. -/
theorem test_aes256 : aes256 ((List.range 32).map (BitVec.ofNat 8)) (beBytes 16 0x00112233445566778899aabbccddeeff) =
    beBytes 16 0x8ea2b7ca516745bfeafc49904b496089 := by decide +kernel

/-- R446: RTN and other commands aside, a completion of 1023 is not counted; one of an ID at rest is. -/
theorem test_complete_counts : (ready.dev.complete .host 3 false 1023).get (Fld.violCntCount 0) = 0 ∧
    (ready.dev.complete .host 3 false 70).get (Fld.violCntCount 0) = 1 := by decide +kernel

/-- R119: a second write of a word replaces the first in place. -/
theorem test_stage_replaces :
    let d := (ready.dev.stage .host (Reg.keyRoute 0) 0x80010002).stage .host (Reg.keyRoute 1) 0x80030004
    (d.stage .host (Reg.keyRoute 0) 0x80050006).key.entries.map (·.value) = [0x80050006, 0x80030004] := by decide +kernel

/-- R80, R545: an engine's store to CLK_PLLFRAC ends its access: the restart begins in the step that stores. -/
theorem test_engine_store_restarts_pll :
    let d := (ready.dev.wr (Reg.winVa 0 1) 3).wr (Reg.winPa 0 1) 0x00810000
    let t := ((ready.on (fun _ => d.puts [(Fld.clkPllcfgRun, 1)])).engStore Env.quiet 1 4 4 5).1
    t.dev.get Fld.clkPllfracFrac = 5 ∧ t.dev.clk.pend = false ∧ t.dev.get Fld.clkStatusAcquiring = 1 ∧
      t.dev.get Fld.clkStatusLastCause = 1 := by decide +kernel

/-- R557: the failed mark of a speaker stage outlasts a BOR. -/
theorem test_bor_keeps_failed_stage :
    ((ready.on (fun d => d.puts [(Fld.spkStatusHizCauseStage 1,
      1)])).assertReset Rst.bor 1).dev.get (Fld.spkStatusHizCauseStage 1) = 1 := by
  decide +kernel

end Sys2Proof.Machine
end

/-! What the model's operations do to a state is made of three edits: another device, bytes stored, bytes erased. A property of
states that these three keep is kept by every operation, and so by every command. One lemma per operation, in the order of the
model's files. -/
namespace Sys2Proof.Machine

/-- The property `P` outlasts the edits of which every operation is made. -/
structure EditClosed (P : State → Prop) : Prop where
  dev : ∀ {s : State} (d : Dev), P s → P { s with dev := d }
  store : ∀ {s : State} (a : Nat) (bs : List Byte), P s → P (s.store a bs)
  erase : ∀ {s : State} (p : Nat → Bool), P s → P (s.erase p)

namespace EditClosed

variable {P : State → Prop} {s : State}

theorem on (k : EditClosed P) {f : Dev → Dev} (h : P s) : P (s.on f) := k.dev _ h

/-- A loop of operations that keep `P`. -/
theorem foldl {α : Type} {f : State → α → State} {l : List α} (hf : ∀ s x, P s → P (f s x)) (h : P s) : P (l.foldl f s) :=
  List.foldlRecOn l f h (fun s h x _ => hf s x h)

/-- A loop that carries a value beside the state. -/
theorem foldl_fst {α β : Type} {f : State × β → α → State × β} {l : List α} {b : β}
    (hf : ∀ r x, P r.1 → P (f r x).1) (h : P s) : P (l.foldl f (s, b)).1 :=
  List.foldlRecOn (motive := fun r => P r.1) l f h (fun r h x _ => hf r x h)

/-! ### Memories and the lockbox -/

theorem wipe (k : EditClosed P) (h : P s) : P s.wipe := by
  unfold State.wipe
  split
  · exact h
  · exact k.on (k.erase _ h)

theorem agentRead (k : EditClosed P) {ag : Agent} {code : Nat} {secure : Bool} {errs : List EccErr} {a n : Nat} (h : P s) :
    P (s.agentRead ag code secure errs a n).1 := by
  unfold State.agentRead
  split
  · exact k.dev _ h
  · exact h
  · exact k.dev _ h

theorem agentWrite (k : EditClosed P) {ag : Agent} {code : Nat} {secure : Bool} {errs : List EccErr} {a : Nat}
    {bs : List Byte} (h : P s) : P (s.agentWrite ag code secure errs a bs) := by
  obtain ⟨d, e | e⟩ := s.agentWrite_cases ag code secure errs a bs
  · exact e ▸ k.dev d h
  · exact e ▸ k.store a bs (k.dev d h)

/-! ### Power domains -/

theorem lowerDomain (k : EditClosed P) {dom v : Nat} (h : P s) : P (s.lowerDomain dom v) := by
  unfold State.lowerDomain State.clearDomain
  dsimp only
  split
  · split
    · exact k.erase _ (k.dev _ h)
    · exact k.dev _ h
  · exact k.dev _ h

theorem pwrCommit (k : EditClosed P) (h : P s) : P s.pwrCommit := by
  unfold State.pwrCommit
  split
  · exact h
  · exact k.on (k.on (foldl (fun _ _ h => k.lowerDomain h) h))

/-! ### The boot controller and the commit -/

theorem placeSegs (k : EditClosed P) {ws : List Ward} (h : P s) : P (s.placeSegs ws) :=
  k.dev _ (foldl (fun _ _ h => k.store _ _ h) h)

theorem unplace (k : EditClosed P) (h : P s) : P s.unplace := k.dev _ (k.erase _ h)

theorem loadFail (k : EditClosed P) {code ward : Nat} (h : P s) : P (s.loadFail code ward) :=
  k.on (k.unplace h)

theorem checkImage (k : EditClosed P) {partner : Nat} (h : P s) : P (s.checkImage partner) := by
  unfold State.checkImage
  dsimp only
  have hw : P (s.placeSegs (s.dev.kpVerdict s.dev.loadKind s.dev.boot.image).2) := k.placeSegs h
  split
  · split
    · exact k.on h
    · split
      · exact k.on h
      · exact k.on h
    · exact h
  · split
    · exact k.loadFail hw
    · exact k.on hw
    · exact hw

/-- A load whose source fails: a live reload ends on the device alone, another clears what it wrote. -/
theorem sourceFails (k : EditClosed P) {ward : Nat} (h : P s) :
    P (if s.dev.boot.load = some .live then s.on (·.liveEnd Kp.source ward) else s.loadFail Kp.source ward) := by
  split
  · exact k.on h
  · exact k.loadFail h

theorem hostData (k : EditClosed P) {spi : Bool} {taken partner : Nat} {w : Word} (h : P s) :
    P (s.hostData spi taken partner w) := by
  unfold State.hostData
  dsimp only
  split
  · exact h
  · split
    · exact k.sourceFails h
    · split
      · exact k.checkImage (k.on h)
      · exact k.on h

theorem linkData (k : EditClosed P) {payload : List Byte} (h : P s) : P (s.linkData payload) := by
  unfold State.linkData
  split
  · exact k.checkImage (k.on h)
  · exact h

theorem sourceTimeout (k : EditClosed P) (h : P s) : P s.sourceTimeout := by
  unfold State.sourceTimeout
  split
  · exact k.sourceFails h
  · split
    · exact k.loadFail h
    · exact h

theorem flashFail (k : EditClosed P) {img : List Byte} (h : P s) : P (s.flashFail img) := by
  unfold State.flashFail
  split
  · exact h
  · split
    · exact k.loadFail h
    · exact h

theorem abort (k : EditClosed P) {ag : Agent} (h : P s) : P (s.abort ag) := by
  have hf : P (s.on Dev.irqFree) := k.on h
  unfold State.abort
  dsimp only
  split
  · exact k.on hf
  · split
    · exact k.loadFail hf
    · exact k.on hf

theorem bootCtrl (k : EditClosed P) {ag : Agent} {v : Word} (h : P s) : P (s.bootCtrl ag v) := by
  unfold State.bootCtrl
  split
  · exact k.on h
  · split
    · exact k.on h
    · exact k.on h
    · exact k.on h
    · exact k.abort h
    · exact k.on h

theorem reseatTeardown (k : EditClosed P) (h : P s) : P s.reseatTeardown := by
  unfold State.reseatTeardown
  dsimp only
  split
  · have he : P ((s.on Dev.teardown).erase (fun a => decide (a < 0x600000))) := k.erase _ (k.on h)
    split
    · exact k.checkImage he
    · exact he
  · exact h

theorem mapCommit (k : EditClosed P) {p : Plan} (h : P s) : P (s.mapCommit p) := by
  refine k.dev _ (foldl (fun s dom h => ?_) (k.on h))
  dsimp only
  split
  · exact k.lowerDomain h
  · exact k.on h

theorem commitApply (k : EditClosed P) (h : P s) : P s.commitApply := by
  unfold State.commitApply
  split
  · exact h
  · exact k.on (k.erase _ (k.on (k.on (k.mapCommit (k.on h)))))

theorem commit (k : EditClosed P) {img : List Byte} (h : P s) : P (s.commit img) := by
  unfold State.commit
  dsimp only
  split
  · split
    · exact k.commitApply (k.on (k.on (k.placeSegs h)))
    · split
      · exact k.on (k.on (k.placeSegs h))
      · exact k.commitApply (k.on (k.on (k.placeSegs h)))
  · exact h

theorem fallbackExit (k : EditClosed P) (h : P s) : P s.fallbackExit := by
  unfold State.fallbackExit
  split
  · exact h
  · dsimp only
    split
    · exact k.commitApply (k.on h)
    · exact k.on h

/-! ### Resets -/

theorem assertReset (k : EditClosed P) {c supply : Nat} (h : P s) : P (s.assertReset c supply) := k.dev _ (k.erase _ h)

theorem por (k : EditClosed P) (h : P s) : P s.por := by
  unfold State.por
  exact k.on (k.assertReset h)

theorem bor (k : EditClosed P) {supply : Nat} (h : P s) : P (s.bor supply) := k.assertReset h

theorem wdtReset (k : EditClosed P) (h : P s) : P s.wdtReset := by
  unfold State.wdtReset
  split
  · exact k.assertReset h
  · exact h

theorem rstCtrl (k : EditClosed P) {ag : Agent} {v : Word} (h : P s) : P (s.rstCtrl ag v) := by
  unfold State.rstCtrl
  split
  · exact k.on h
  · split
    · exact k.assertReset h
    · exact h

/-! ### Words read and written by agents -/

theorem applyWord (k : EditClosed P) {env : Env} {ag : Agent} {a : Nat} {v : Word} (h : P s) :
    P (s.applyWord env ag a v) := by
  unfold State.applyWord
  split
  · exact h
  · split
    · exact k.rstCtrl h
    · split
      · exact k.bootCtrl h
      · split
        · exact k.hostData h
        · exact k.on h
  · exact k.agentWrite h

theorem writeWord (k : EditClosed P) {env : Env} {ag : Agent} {a : Nat} {v : Word} (h : P s) :
    P (s.writeWord env ag a v) := by
  unfold State.writeWord
  dsimp only
  split
  · exact h
  · split
    · exact k.on h
    · split
      · exact k.on h
      · split
        · exact k.on h
        · exact k.applyWord h

theorem readWord (k : EditClosed P) {env : Env} {ag : Agent} {a : Nat} (h : P s) : P (s.readWord env ag a).1 := by
  unfold State.readWord
  dsimp only
  split
  · exact h
  · split
    · exact k.dev _ h
    · exact k.dev _ h
  · exact k.agentRead h

theorem endAccess (k : EditClosed P) (h : P s) : P s.endAccess := k.on h

theorem i2cFetch (k : EditClosed P) {env : Env} {a n : Nat} {ws : List Word} (h : P s) : P (s.i2cFetch env a n ws) := by
  induction n generalizing s ws with
  | zero => exact k.endAccess (k.on h)
  | succ n ih =>
    unfold State.i2cFetch
    split
    · exact k.on h
    · exact ih (k.on (k.readWord h))

theorem serveHeld (k : EditClosed P) (h : P s) : P s.serveHeld := by
  unfold State.serveHeld
  split
  · exact h
  · dsimp only
    split
    · exact k.i2cFetch (k.on (k.endAccess (foldl (fun _ _ h => k.writeWord h) (foldl (fun _ _ h => k.writeWord h) (k.on h)))))
    · exact k.endAccess (foldl (fun _ _ h => k.writeWord h) (foldl (fun _ _ h => k.writeWord h) (k.on h)))

theorem hostWrite (k : EditClosed P) {env : Env} {ws : List (Nat × Word)} (h : P s) : P (s.hostWrite env ws) := by
  unfold State.hostWrite
  split
  · exact h
  · exact k.endAccess (foldl (fun _ _ h => k.writeWord h) h)

theorem hostWord (k : EditClosed P) {env : Env} {a : Nat} {v : Word} (h : P s) : P (s.hostWord env a v) := by
  unfold State.hostWord
  split
  · exact h
  · exact k.endAccess (k.writeWord h)

theorem hostReg (k : EditClosed P) {a : Nat} {v : Word} (h : P s) : P (s.hostReg a v) := k.hostWord h

theorem hostRun (k : EditClosed P) {n : Nat} {tx on : Bool} (h : P s) : P (s.hostRun n tx on) := by
  unfold State.hostRun
  exact k.hostReg h

theorem hostClrCnt (k : EditClosed P) {n : Nat} (h : P s) : P (s.hostClrCnt n) := by
  unfold State.hostClrCnt
  exact k.hostReg h

theorem hostRead (k : EditClosed P) {a : Nat} (h : P s) : P (s.hostRead a) := by
  unfold State.hostRead
  split
  · exact h
  · exact k.readWord h

/-! ### Engines -/

/-- A step that answers a pair keeps `P` where the pair's state has it. -/
theorem of_fst {α : Type} {r : State × α} {t : State} {x : α} (e : r = (t, x)) (h : P r.1) : P t := by
  rw [e] at h
  exact h

theorem engReadSpan (k : EditClosed P) {env : Env} {e : Nat} {t : Span} (h : P s) : P (s.engReadSpan env e t).1 := by
  unfold State.engReadSpan
  split
  · dsimp only
    split
    · exact foldl_fst (fun _ _ h => k.readWord h) h
    · exact k.dev _ (foldl_fst (fun _ _ h => k.readWord h) h)
  · dsimp only
    split
    · exact k.agentRead h
    · exact k.agentRead h

theorem engWriteSpan (k : EditClosed P) {env : Env} {e : Nat} {t : Span} {bs : List Byte} (h : P s) :
    P (s.engWriteSpan env e t bs) := by
  unfold State.engWriteSpan
  split
  · split
    · exact foldl (fun _ _ h => k.writeWord h) h
    · exact k.writeWord (k.on h)
  · exact k.agentWrite h

theorem engLoad (k : EditClosed P) {env : Env} {e v n : Nat} (h : P s) : P (s.engLoad env e v n).1 := by
  unfold State.engLoad
  split
  · exact h
  · split
    · exact h
    · dsimp only
      -- a load that faults and one that does not leave the state that its last part left
      split
      all_goals
        refine of_fst ‹_› (foldl_fst (fun r t h => ?_) h)
        split
        · exact h
        · split
          · exact of_fst ‹_› (k.engReadSpan h)
          · exact of_fst ‹_› (k.engReadSpan h)

theorem engStore (k : EditClosed P) {env : Env} {e v n x : Nat} (h : P s) : P (s.engStore env e v n x).1 := by
  unfold State.engStore
  split
  · exact h
  · split
    · exact h
    · dsimp only
      split
      · exact k.endAccess (foldl_fst (fun _ _ h => k.engWriteSpan h) h)
      · exact foldl_fst (fun _ _ h => k.engWriteSpan h) h

theorem engAtomic (k : EditClosed P) {env : Env} {e v : Nat} {swap : Bool} {x : Word} (h : P s) :
    P (s.engAtomic env e v swap x).1 := by
  unfold State.engAtomic
  dsimp only
  split
  · exact h
  · split
    · exact h
    · exact h
    · split
      · exact h
      · split
        · split
          · exact of_fst ‹_› (k.engReadSpan h)
          · exact k.store _ _ (of_fst ‹_› (k.engReadSpan h))
        · exact k.dev _ h
        · exact h

theorem engMemory (k : EditClosed P) {env : Env} {e w : Nat} (h : P s) : P (s.engMemory env e w).1 := by
  unfold State.engMemory
  dsimp only
  split
  · exact k.engAtomic h
  · split
    · exact h
    · exact k.engLoad h
    · exact k.engStore h

theorem engIssue (k : EditClosed P) {env : Env} {e p b : Nat} (h : P s) : P (s.engIssue env e p b) := by
  have hm (c : Bool) (w : Nat) : P (if c then s.engMemory env e w else (s, .ok 0)).1 := by
    split
    · exact k.engMemory h
    · exact h
  unfold State.engIssue
  dsimp only
  split
  · exact k.on h
  · split
    · exact k.on h
    · split
      · exact k.on (of_fst ‹_› (hm _ _))
      · exact k.on (of_fst ‹_› (hm _ _))

theorem engBundle (k : EditClosed P) {env : Env} {e : Nat} (h : P s) : P (s.engBundle env e) := by
  unfold State.engBundle
  dsimp only
  split
  · exact k.engIssue (k.on h)
  · split
    · exact k.dev _ h
    · exact k.engIssue (k.on (k.dev _ h))
    · exact k.engIssue (k.on (k.dev _ h))

theorem engStepNow (k : EditClosed P) {env : Env} {e : Nat} (h : P s) : P (s.engStepNow env e) :=
  k.on (k.engBundle (k.on h))

theorem engineBundle (k : EditClosed P) {e n : Nat} {env : Env} (h : P s) : P (s.engineBundle e n env) := by
  unfold State.engineBundle
  split
  · exact h
  · split
    · exact k.engBundle (k.on h)
    · split
      · exact k.engStepNow (k.on h)
      · exact h

theorem engineStep (k : EditClosed P) {e : Nat} {env : Env} (h : P s) : P (s.engineStep e env) := by
  unfold State.engineStep
  dsimp only
  split
  · exact k.engStepNow (k.hostWord h)
  · exact k.hostWord h

/-! ### DMA channels -/

theorem writeback (k : EditClosed P) {env : Env} {c w : Nat} (h : P s) : P (s.writeback env c w).1 := by
  unfold State.writeback
  dsimp only
  split
  · exact h
  · exact h
  · split
    · exact k.endAccess (foldl (fun _ _ h => k.writeWord h) h)
    · dsimp only
      exact k.agentWrite h

theorem dmaFault (k : EditClosed P) {env : Env} {c off code addr loc : Nat} {fetch : Bool} (h : P s) :
    P (s.dmaFault env c off code addr loc fetch) := by
  unfold State.dmaFault
  dsimp only
  split
  · exact k.dev _ h
  · exact k.writeback (k.dev _ h)

theorem dmaSettle (k : EditClosed P) {env : Env} {c : Nat} (h : P s) : P (s.dmaSettle env c) := by
  unfold State.dmaSettle
  dsimp only
  split
  · exact h
  · split
    · exact k.dmaFault h
    · split
      · exact k.on h
      · exact h

theorem dmaRun (k : EditClosed P) {env : Env} (h : P s) : P (s.dmaRun env) :=
  foldl (fun _ _ h => k.dmaSettle h) (k.on h)

theorem dmaMark (k : EditClosed P) {env : Env} {c off code addr loc : Nat} (h : P s) :
    P (s.dmaMark env c off code addr loc) := k.dmaSettle (k.on h)

theorem readDesc (k : EditClosed P) {env : Env} {c : Nat} (h : P s) : P (s.readDesc env c).1 := by
  refine foldl_fst (fun r o h => ?_) h
  split
  · exact h
  · split
    · exact h
    · exact h
    · split
      · refine foldl_fst (fun r i h => ?_) h
        split
        · exact k.readWord h
        · exact h
      · dsimp only
        split
        · exact k.agentRead h
        · exact k.agentRead h

theorem descFetch (k : EditClosed P) {env : Env} {c : Nat} (h : P s) : P (s.descFetch env c) := by
  unfold State.descFetch
  dsimp only
  split
  · exact h
  · split
    · exact k.dmaFault (of_fst ‹_› (k.readDesc h))
    · have hr := of_fst ‹_› (k.readDesc h)
      split
      · exact k.on hr
      · split
        · exact k.dmaFault (k.on hr)
        · exact k.dmaRun (k.on (k.on hr))

theorem dmaReadReturn (k : EditClosed P) {env : Env} {c n : Nat} (h : P s) : P (s.dmaReadReturn env c n) := by
  unfold State.dmaReadReturn
  dsimp only
  split
  · split
    · split
      · exact k.on (foldl_fst (fun _ _ h => k.readWord h) h)
      · split
        · exact k.dmaMark (k.agentRead h)
        · exact k.on (k.agentRead h)
    · exact h
  · exact h

theorem beatWrite (k : EditClosed P) {env : Env} {c pa : Nat} {secure : Bool} {bs : List Byte} (h : P s) :
    P (s.beatWrite env c pa secure bs) := by
  unfold State.beatWrite
  split
  · refine k.endAccess (foldl (fun s i h => ?_) h)
    dsimp only
    split
    · exact k.on (k.writeWord h)
    · exact k.writeWord h
  · exact k.agentWrite h

theorem beatDone (k : EditClosed P) {env : Env} {c off : Nat} (h : P s) : P (s.beatDone env c off) := by
  unfold State.beatDone
  split
  · split
    · exact k.dmaRun (k.dmaSettle (k.on h))
    · exact h
  · exact h

theorem dmaBeatCommit (k : EditClosed P) {env : Env} {c : Nat} (h : P s) : P (s.dmaBeatCommit env c) := by
  have hr : P (s.dmaRun env) := k.dmaRun h
  unfold State.dmaBeatCommit
  dsimp only
  split
  · exact h
  · split
    · split
      · split
        · exact hr
        · exact k.beatDone (k.on hr)
      · split
        · exact k.dmaMark hr
        · exact k.dmaMark hr
        · exact k.beatDone (k.beatWrite hr)
    · exact hr

theorem dmaArm (k : EditClosed P) {env : Env} {c : Nat} (h : P s) : P (s.dmaArm env c) := by
  unfold State.dmaArm
  dsimp only
  split
  · exact h
  · split
    · exact k.writeWord h
    · exact k.on h

theorem descComplete (k : EditClosed P) {env : Env} {c : Nat} (h : P s) : P (s.descComplete env c) := by
  unfold State.descComplete
  dsimp only
  split
  · exact h
  · split
    · exact k.dmaFault (of_fst ‹_› (k.writeback (k.dmaArm (k.on h))))
    · exact k.on (of_fst ‹_› (k.writeback (k.dmaArm (k.on h))))

/-! ### The host interfaces -/

theorem ptrWrite (k : EditClosed P) {env : Env} {ws : List Word} (h : P s) : P (s.ptrWrite env ws) :=
  foldl (fun _ _ h => k.on (k.writeWord h)) h

theorem i2cWrite (k : EditClosed P) {env : Env} {a reg : Nat} {bs : List Byte} (h : P s) : P (s.i2cWrite env a reg bs) := by
  have hp : P (s.on (fun d => (d.wakeEvent 2).setPtr 7 reg)) := k.on h
  unfold State.i2cWrite
  dsimp only
  split
  · exact h
  · split
    · exact hp
    · split
      · split
        · exact k.endAccess (k.ptrWrite hp)
        · exact k.on hp
      · split
        · exact k.endAccess (k.ptrWrite hp)
        · exact k.on (k.endAccess (k.ptrWrite hp))

theorem i2cRead (k : EditClosed P) {env : Env} {a n : Nat} (h : P s) : P (s.i2cRead env a n) := by
  unfold State.i2cRead
  split
  · exact h
  · exact k.i2cFetch (k.on h)

theorem stretchTimeout (k : EditClosed P) (h : P s) : P s.stretchTimeout := by
  unfold State.stretchTimeout
  split
  · exact k.endAccess (foldl (fun _ _ h => k.writeWord h) (k.on h))
  · split
    · exact k.i2cFetch (k.on h)
    · split
      · exact k.on (k.sourceTimeout h)
      · exact h

theorem spiPost (k : EditClosed P) {env : Env} {w : Word} (h : P s) : P (s.spiPost env w) := by
  refine k.on ?_
  split
  · split
    · exact k.on h
    · exact k.on h
  · exact k.writeWord h

theorem spiWrite (k : EditClosed P) {env : Env} {adr bs : List Byte} {cut : Bool} (h : P s) :
    P (s.spiWrite env adr bs cut) := by
  have hp : P (s.on (·.setPtr 8 (beNat adr))) := k.on h
  unfold State.spiWrite
  dsimp only
  split
  · exact h
  · split
    · exact k.on h
    · split
      · split
        · exact k.on hp
        · split
          · exact k.endAccess (k.ptrWrite hp)
          · exact k.on hp
      · split
        · exact k.on (k.endAccess (foldl (fun _ _ h => k.spiPost h) hp))
        · exact k.endAccess (foldl (fun _ _ h => k.spiPost h) hp)

theorem ptrRead (k : EditClosed P) {env : Env} {n : Nat} (h : P s) : P (s.ptrRead env n).1 :=
  foldl_fst (fun _ _ h => k.on (k.readWord h)) h

theorem spiRead (k : EditClosed P) {env : Env} {adr : List Byte} {n : Nat} {late : List Nat} {cut : Bool} (h : P s) :
    P (s.spiRead env adr n late cut) := by
  unfold State.spiRead
  dsimp only
  split
  · exact h
  · split
    · exact k.on h
    · refine k.endAccess ?_
      split
      · exact k.on (k.on (k.ptrRead (k.on h)))
      · exact k.on (k.ptrRead (k.on h))

/-! ### The pair, turns, the link and transactions -/

theorem hingeRx (k : EditClosed P) {f : HingeIn} (h : P s) : P (s.hingeRx f) := by
  unfold State.hingeRx
  dsimp only
  split
  · exact k.assertReset (k.dev _ h)
  · exact k.dev _ h

theorem ktSeal (k : EditClosed P) (h : P s) : P s.ktSeal := by
  unfold State.ktSeal
  dsimp only
  split
  · exact h
  · split
    · exact k.on h
    · split
      · exact k.assertReset (k.on h)
      · exact k.on (k.wipe (k.on h))

theorem lbxWipeDone (k : EditClosed P) (h : P s) : P s.lbxWipeDone := by
  unfold State.lbxWipeDone
  dsimp only
  split
  · exact h
  · split
    · exact k.assertReset (k.on h)
    · exact k.on h

theorem tamper (k : EditClosed P) {cause : Nat} (h : P s) : P (s.tamper cause) := k.on (k.wipe (k.on h))

theorem linkReset (k : EditClosed P) {p : Nat} {m : Msg} (h : P s) : P (s.linkReset p m) := by
  unfold State.linkReset
  dsimp only
  split
  · exact k.assertReset (k.dev _ h)
  · exact k.dev _ h

theorem bootData (k : EditClosed P) {p : Nat} {m : Msg} (h : P s) : P (s.bootData p m) := by
  unfold State.bootData
  dsimp only
  split
  · exact k.linkData (k.dev _ h)
  · exact k.dev _ h

theorem pwrTransaction (k : EditClosed P) {ws : List (Nat × Word)} (h : P s) : P (s.pwrTransaction ws) :=
  k.serveHeld (k.hostWrite h)

theorem pwrCommitAll (k : EditClosed P) (h : P s) : P s.pwrCommitAll := k.serveHeld (k.pwrCommit h)

theorem quiesceEnds (k : EditClosed P) (h : P s) : P s.quiesceEnds := k.serveHeld (k.on h)

/-! ### The frame boundary -/

theorem ringIn (k : EditClosed P) {f : FrameIn} {n e : Nat} (h : P s) : P (s.ringIn f n e) := by
  unfold State.ringIn
  dsimp only
  split
  · exact k.on h
  · split
    · refine foldl (fun s p h => ?_) h
      split
      · exact k.store _ _ (k.dev _ h)
      · exact k.dev _ h
    · exact k.store _ _ h

/-- The ring writes of the pass before, where one was. -/
theorem ringsIn (k : EditClosed P) {f : FrameIn} {n : Nat} {es : List Nat} (h : P s) :
    P (if s.dev.key.age ≤ 1 then s else es.foldl (fun s e => s.ringIn f n e) s) := by
  split
  · exact h
  · exact foldl (fun _ _ h => k.ringIn h) h

theorem pass (k : EditClosed P) {f : FrameIn} {n : Nat} (h : P s) : P (s.pass f n) := by
  unfold State.pass
  dsimp only
  exact k.dev _ (iteInduction (motive := P) (fun _ => k.ringsIn h) (fun _ => k.on (k.ringsIn h)))

theorem mirrorsDue (k : EditClosed P) {n : Nat} (h : P s) : P (s.mirrorsDue n) := by
  unfold State.mirrorsDue
  dsimp only
  split
  · exact k.dev _ h
  · refine k.endAccess (foldl (fun s w h => ?_) (k.dev _ h))
    split
    · exact k.on h
    · exact k.applyWord h

theorem runPass (k : EditClosed P) {f : FrameIn} {n : Nat} (h : P s) : P (s.runPass f n) := by
  unfold State.runPass
  exact k.on (k.pass (k.mirrorsDue (k.on h)))

theorem frameBoundary (k : EditClosed P) {f : FrameIn} (h : P s) : P (s.frameBoundary f) := by
  unfold State.frameBoundary
  dsimp only
  split
  · exact h
  · exact k.on (iteInduction (motive := P) (fun _ => k.runPass (k.on (k.on (k.on h)))) (fun _ => k.on (k.on h)))

theorem keywayStart (k : EditClosed P) {f : FrameIn} (h : P s) : P (s.keywayStart f) := by
  unfold State.keywayStart
  dsimp only
  split
  · exact h
  · exact k.on (iteInduction (motive := P) (fun _ => k.runPass (k.on (k.on h))) (fun _ => k.on (k.on h)))

theorem applyCopy (k : EditClosed P) (h : P s) : P s.applyCopy := foldl (fun _ _ h => k.applyWord h) (k.on h)

theorem standbyStart (k : EditClosed P) {b : Nat} (h : P s) : P (s.standbyStart b) := by
  unfold State.standbyStart
  exact k.on (k.endAccess (foldl (fun _ _ h => k.applyWord h) (k.on (k.applyCopy (k.on h)))))

theorem standbySync (k : EditClosed P) {f : FrameIn} (h : P s) : P (s.standbySync f) := by
  unfold State.standbySync
  dsimp only
  split
  · exact h
  · split
    · exact k.on h
    · split
      · exact h
      · split
        · exact h
        · exact k.on (k.runPass (k.standbyStart (k.on (k.on h))))

/-! ### Commands -/

/-- Every command keeps `P`: most act on the device alone, many are one host write, and the others are operations above. -/
theorem exec_next (k : EditClosed P) {c : Instr} {t : State} (h : P s) (e : exec c s = .next t) : P t := by
  cases c with obtain rfl := Host.Outcome.next.inj e
  | por => exact k.por h
  | bor => exact k.bor h
  | pinReset => exact k.assertReset h
  | wdtReset => exact k.wdtReset h
  | commit => exact k.commit h
  | keywayStart => exact k.keywayStart h
  | reseatTeardown => exact k.reseatTeardown h
  | loadSourceTimeout => exact k.sourceTimeout h
  | fallbackExit => exact k.fallbackExit h
  | frameBoundary => exact k.frameBoundary h
  | engineBundle => exact k.engineBundle h
  | engineStep => exact k.engineStep h
  | lbxWipeDone => exact k.lbxWipeDone h
  | descFetch => exact k.descFetch h
  | dmaReadReturn => exact k.dmaReadReturn h
  | dmaBeatCommit => exact k.dmaBeatCommit h
  | descComplete => exact k.descComplete h
  | claim => exact k.hostRead h
  | linkReset => exact k.linkReset h
  | bootData => exact k.bootData h
  | hingeFrameRx => exact k.hingeRx h
  | standbySync => exact k.standbySync h
  | ktSeal => exact k.ktSeal h
  | tamper => exact k.tamper h
  | pwrTransaction => exact k.pwrTransaction h
  | quiesceTimeout => exact k.quiesceEnds h
  | pwrCommit => exact k.pwrCommitAll h
  | i2cWrite => exact k.i2cWrite h
  | i2cRead => exact k.i2cRead h
  | i2cStretchTimeout => exact k.stretchTimeout h
  | spiWrite => exact k.spiWrite h
  | spiRead => exact k.spiRead h
  | flashLoadFail => exact k.flashFail h
  | portRunStart | portRunStop => exact k.hostRun h
  | portClrCnt => exact k.hostClrCnt h
  | bootHostdata | swap | arm | armAt | disarm | registerWrite => exact k.hostWord h
  | soft | hostload | reseat | live | abort | bootCtrlBadKey | pllWrite | refselWrite | reacquire | tumblerStage |
      discard | complianceCleared | hpProtectCleared | outputRun | spkShortCleared | spkDiag | seqMuteWrite |
      jdCfgWrite | hsStart | hsAbort | btncfgWrite | rmonClr | asrcClr | hidinWrite | usbCtrlWrite | engineStart |
      engineStop | engineResume | engineClrCnt | doorbell | regdataWrite | ringConfigWrite | windowWrite |
      memCtrlWrite | dmaStart | dmaStop | dmaResume | kick | dmaClrCnt | dmaCfgWrite | complete | swset |
      intcHoldWrite | intcCfgWrite | linkSend | linkPop | linkNodeidWrite | linkIdle | linkWake | linkClrCnt | detach
      | attach | resetTwin | hingeClrCnt | tileSwap | ktWrite | ktHoldingWrite | violClear | pwrClkselWrite |
      shackleRelease | wdtKick | wdtcfgWrite | resume | qspiGo => exact k.hostReg h
  | _ => exact k.on h

end EditClosed
end Sys2Proof.Machine

/-! The invariant of memory over the steps of the machine. -/
namespace Sys2Proof.Machine

/-- A step with no command waiting idles; any other runs the command at the front of the queue. -/
theorem step_next_cases {s t : State} (e : step s = .next t) :
    (s.pending = [] ∧ t = s) ∨ ∃ c rest, s.pending = c :: rest ∧ exec c { s with pending := rest } = .next t := by
  unfold step at e
  split at e
  next hq => exact .inl ⟨hq, (Host.Outcome.next.inj e).symm⟩
  next c rest hq => exact .inr ⟨c, rest, hq, e⟩

/-- Stores and erasures keep the canonical form, and what acts on the device leaves memory alone. -/
theorem editClosed_memory_wf : EditClosed (fun s => Memory.wf s.mem = true) where
  dev _ h := h
  store a bs h := State.store_wf _ a bs h
  erase p h := State.erase_wf _ p h

/-- Settles O4: memory changes by stores and erasures alone, and each keeps the canonical form. -/
theorem stepKeepsMemoryCanonical : Obligations.StepKeepsMemoryCanonical := by
  intro s t h e
  obtain ⟨-, rfl⟩ | ⟨c, rest, -, e⟩ := step_next_cases e
  · exact h
  · exact editClosed_memory_wf.exec_next (s := { s with pending := rest }) h e

end Sys2Proof.Machine

/-! Words of memory that the host writes and reads (R2, R27, R32): what an access comes to where its bank is on and the array has
no error. -/
namespace Sys2Proof.Machine

/-! ### Numbers as bytes (R2) -/

@[simp] theorem length_leBytes (k n : Nat) : (leBytes k n).length = k := by
  induction k generalizing n with
  | zero => rfl
  | succ k ih => simp [leBytes, ih]

theorem getElem_leBytes (k n i : Nat) (h : i < (leBytes k n).length) : (leBytes k n)[i] = BitVec.ofNat 8 (n / 256 ^ i) := by
  induction k generalizing n i with
  | zero => simp at h
  | succ k ih =>
    cases i with
    | zero => simp [leBytes]
    | succ i => simp [leBytes, ih, Nat.div_div_eq_div_mul, Nat.pow_succ']

theorem leNat_leBytes (k n : Nat) : leNat (leBytes k n) = n % 256 ^ k := by
  induction k generalizing n with
  | zero => simp [leBytes, leNat, Nat.mod_one]
  | succ k ih => simp [leBytes, leNat, ih, Nat.pow_succ', Nat.mod_mul]

theorem ofNat_leNat_leBytes (v : Word) : BitVec.ofNat 32 (leNat (leBytes 4 v.toNat)) = v := by
  have h : leNat (leBytes 4 v.toNat) = v.toNat := (leNat_leBytes 4 v.toNat).trans (Nat.mod_eq_of_lt v.isLt)
  rw [h, BitVec.ofNat_toNat, BitVec.setWidth_eq]

/-! ### Tiles and the pool (R27) -/

theorem Dev.region_of_lt (d : Dev) {a : Nat} (h : a < 0x600000) : (∃ n, d.region a = .tile n) ∨ ∃ b, d.region a = .pool b := by
  unfold Dev.region
  split
  · exact .inl ⟨_, rfl⟩
  · exact .inr ⟨_, rfl⟩

/-- An access to a tile or the pool reaches its memory while the bank is on. -/
theorem Dev.reach_of_bankOn (d : Dev) {secure : Bool} {a : Nat} (h : a < 0x600000) (hb : d.bankOn (d.region a) = true) :
    d.reach secure a = .ok := by
  unfold Dev.reach
  obtain ⟨n, hr⟩ | ⟨b, hr⟩ := d.region_of_lt h <;> rw [hr] at hb ⊢ <;> exact if_pos hb

/-! ### An array without errors (R393) -/

theorem Dev.eccWrite_nil (d : Dev) (code a n : Nat) : d.eccWrite code [] a n = (d, true) := by
  unfold Dev.eccWrite
  split
  · rfl
  · simp [errsAt, Dev.each]

theorem badCw_nil (a : Nat) : badCw [] a = false := rfl

theorem State.agentWrite_ok (s : State) {ag : Agent} {code : Nat} {secure : Bool} {a : Nat} {bs : List Byte}
    (h : s.dev.reach secure a = .ok) : s.agentWrite ag code secure [] a bs = s.store a bs := by
  simp [State.agentWrite, h, Dev.eccWrite_nil]

theorem State.agentRead_ok_snd (s : State) {ag : Agent} {code : Nat} {secure : Bool} {a n : Nat}
    (h : s.dev.reach secure a = .ok) : (s.agentRead ag code secure [] a n).2 = s.bytes a n := by
  simp only [State.agentRead, h, badCw_nil, Bool.false_eq_true, if_false]
  exact List.zipIdx_map_fst ..

theorem State.bytes_store (s : State) (a : Nat) (bs : List Byte) : (s.store a bs).bytes a bs.length = bs :=
  memRead_memWrite ..

/-! ### The host's word -/

/-- What a ready host finds (R49, R500, R502, R545, R546, R554), taken apart. -/
theorem Dev.hostReady_iff (d : Dev) : d.hostReady = true ↔
    d.pwr.inReset = false ∧ d.released = false ∧ d.hasStandby = false ∧ d.boot.reseat = 0 ∧ d.pwr.lower = [] ∧
      d.pwr.held = [] ∧ d.accessEnded ∧ d.boot.everRun = true := by
  simp only [Dev.hostReady, Dev.hostFree, Dev.accessEnded, Bool.and_eq_true, Bool.not_eq_true', beq_iff_eq, and_assoc,
    and_comm, and_left_comm]

/-- No rule refuses a ready host's write to a tile or the pool whose bank is on (R30, R49, R58, R502). -/
theorem Dev.writeGate_memory (d : Dev) {a : Nat} {v : Word} (h : d.hostReady = true) (ha : a < 0x600000)
    (hb : d.bankOn (d.region a) = true) : d.writeGate .host a v = none := by
  obtain ⟨-, hl, -, hz, -, -, -, he⟩ := d.hostReady_iff.mp h
  have hr : d.reach false a = .ok := d.reach_of_bankOn ha hb
  unfold Dev.writeGate
  obtain ⟨n, hg⟩ | ⟨b, hg⟩ := d.region_of_lt ha <;> simp [hg, hr, he, hl, hz]

/-- A write of a ready host to a tile or the pool whose bank is on stores the word's bytes, and nothing else changes. -/
theorem State.hostWord_memory (s : State) {env : Env} {a : Nat} {v : Word} (h : s.dev.hostReady = true) (h4 : a % 4 = 0)
    (ha : a < 0x600000) (hb : s.dev.bankOn (s.dev.region a) = true) (herr : env.errs = []) :
    s.hostWord env a v = s.store a (leBytes 4 v.toNat) := by
  have hg : s.dev.writeGate .host a v = none := s.dev.writeGate_memory h ha hb
  have hr : s.dev.reach false a = .ok := s.dev.reach_of_bankOn ha hb
  have haa : a / 4 * 4 = a := by omega
  obtain ⟨hin, -, hs, -, hq, hh, hend, -⟩ := s.dev.hostReady_iff.mp h
  have hm : s.dev.mirrors .host a = false := by simp [Dev.mirrors, hs]
  have hw : s.dev.holdsWrite .host a = false := by simp [Dev.holdsWrite, hh, Dev.quiescing, hq]
  have hword : s.writeWord env .host a v = s.store a (leBytes 4 v.toNat) := by
    obtain ⟨n, hn⟩ | ⟨b, hn⟩ := s.dev.region_of_lt ha <;>
      simp [State.writeWord, State.applyWord, haa, hn, hg, hw, hm, herr, s.agentWrite_ok hr]
  simp only [State.hostWord, hin, Bool.false_eq_true, if_false, hword]
  exact State.endAccess_of_ended _ hend

/-- A read of a tile or the pool whose bank is on answers its four bytes, lowest first. -/
theorem State.readWord_memory (s : State) {env : Env} {ag : Agent} {a : Nat} (h4 : a % 4 = 0) (ha : a < 0x600000)
    (hb : s.dev.bankOn (s.dev.region a) = true) (herr : env.errs = []) :
    (s.readWord env ag a).2 = BitVec.ofNat 32 (leNat (s.bytes a 4)) := by
  have hr : s.dev.reach false a = .ok := s.dev.reach_of_bankOn ha hb
  have haa : a / 4 * 4 = a := by omega
  unfold State.readWord
  obtain ⟨n, hn⟩ | ⟨b, hn⟩ := s.dev.region_of_lt ha <;> simp [haa, hn, herr, s.agentRead_ok_snd hr]

/-- Settles O55: the write stores the word's bytes and leaves the device alone, so that the read finds them. -/
theorem hostMemoryReadAfterWrite : Obligations.HostMemoryReadAfterWrite := by
  intro s t env a v h h4 ha hb herr e
  obtain rfl : s.store a (leBytes 4 v.toNat) = t :=
    (s.hostWord_memory h h4 ha hb herr).symm.trans (Host.Outcome.next.inj e)
  refine ⟨?_, fun i hi => ?_⟩
  · have hbytes : (s.store a (leBytes 4 v.toNat)).bytes a 4 = leBytes 4 v.toNat := by
      simpa using s.bytes_store a (leBytes 4 v.toNat)
    rw [(s.store a (leBytes 4 v.toNat)).readWord_memory h4 ha hb herr, hbytes, ofNat_leNat_leBytes]
  · rw [State.store, memGet_memWrite_in _ _ _ _ (by simpa using hi), getElem_leBytes]

end Sys2Proof.Machine

/-! Accesses of the host that reach nothing (R23, R29 to R31, R401, R402): unmapped addresses, the lockbox, and domains that are
in retention or off. A refused write counts and leaves the rest; a refused read counts and answers 0. -/
namespace Sys2Proof.Machine

@[simp] theorem Dev.accessEnded_viol (d : Dev) (c : Nat) (g : Agent) (a : Nat) :
    (d.viol c g a).accessEnded ↔ d.accessEnded := by
  simp [Dev.accessEnded]

/-! ### Which accesses reach memory -/

theorem Dev.region_unmapped (d : Dev) {a : Nat}
    (h : ¬ (a < 0x610000 ∨ (0x800000 ≤ a ∧ a < 0x910000) ∨ (0xA00000 ≤ a ∧ a < 0xA10000))) : d.region a = .unmapped := by
  have hr : isRegAddr a = false := by
    simp only [isRegAddr, Bool.or_eq_false_iff, decide_eq_false_iff_not]
    omega
  unfold Dev.region
  rw [if_neg (by omega), if_neg (by omega), if_neg (by omega), if_neg (by omega), hr, if_neg Bool.false_ne_true]

theorem Dev.region_lockbox (d : Dev) {a : Nat} (h : 0x600000 ≤ a) (h' : a < 0x610000) :
    d.region a = .keyStore ∨ d.region a = .secure := by
  unfold Dev.region
  rw [if_neg (by omega), if_neg (by omega)]
  split
  · exact .inl rfl
  · exact .inr rfl

/-- Memory alone refuses an access in a category of its own: registers and unmapped addresses do not. -/
theorem Dev.region_of_reach_refused {d : Dev} {secure : Bool} {a c : Nat} (h : d.reach secure a = .refused c) :
    d.region a ≠ .reg ∧ d.region a ≠ .unmapped := by
  constructor <;> intro hr <;> simp [Dev.reach, hr, Dev.bankOn] at h

theorem Dev.reach_of_bank_off (d : Dev) {secure : Bool} {a : Nat} (h : a < 0x600000) (hb : d.bankOn (d.region a) = false) :
    d.reach secure a = .refused 4 := by
  unfold Dev.reach
  obtain ⟨n, hr⟩ | ⟨b, hr⟩ := d.region_of_lt h <;> rw [hr] at hb ⊢ <;> simp [hb]

/-- Without the secure attribute no access reaches the lockbox (R31, R401), and while a wipe runs none is counted (R402, log 46). -/
theorem Dev.reach_lockbox (d : Dev) {a : Nat} (h : 0x600000 ≤ a) (h' : a < 0x610000) :
    d.reach false a = if d.is Fld.lbxStatusWiping = true then .silent else .refused 2 := by
  unfold Dev.reach
  obtain hr | hr := d.region_lockbox h h' <;> simp [hr]

/-! ### The gate of a ready host's write -/

theorem Dev.holdsWrite_ready (d : Dev) {a : Nat} (h : d.hostReady = true) : d.holdsWrite .host a = false := by
  obtain ⟨-, -, -, -, hq, hh, -, -⟩ := d.hostReady_iff.mp h
  simp [Dev.holdsWrite, hh, Dev.quiescing, hq]

theorem Dev.mirrors_ready (d : Dev) {a : Nat} (h : d.hostReady = true) : d.mirrors .host a = false := by
  obtain ⟨-, -, hs, -⟩ := d.hostReady_iff.mp h
  simp [Dev.mirrors, hs]

/-- A write that memory refuses is refused in memory's category. -/
theorem Dev.writeGate_of_reach_refused (d : Dev) {a c : Nat} {v : Word} (h : d.hostReady = true)
    (hr : d.reach false a = .refused c) : d.writeGate .host a v = some c := by
  obtain ⟨-, -, -, -, -, -, -, he⟩ := d.hostReady_iff.mp h
  have hm : d.region a ≠ .reg := (Dev.region_of_reach_refused hr).1
  unfold Dev.writeGate
  cases hg : d.region a <;> simp_all

/-- A write that memory neither takes nor counts meets no other refusal (R31, R402). -/
theorem Dev.writeGate_of_silent (d : Dev) {a : Nat} {v : Word} (h : d.hostReady = true) (hm : d.region a ≠ .reg)
    (hr : d.reach false a = .silent) : d.writeGate .host a v = none := by
  obtain ⟨-, hl, -, hz, -, -, -, he⟩ := d.hostReady_iff.mp h
  unfold Dev.writeGate
  cases hg : d.region a <;> simp_all

/-- A write to a register whose domain is down is refused in category 4 (R23, R30). -/
theorem Dev.writeGate_of_down (d : Dev) {a : Nat} {v : Word} (h : d.hostReady = true) (hm : d.region a = .reg)
    (hd : d.downHere a true = true) : d.writeGate .host a v = some 4 := by
  obtain ⟨-, -, -, -, -, -, -, he⟩ := d.hostReady_iff.mp h
  simp [Dev.writeGate, hm, hd, he]

/-! ### Words that the host does not write or read -/

theorem exec_registerWrite (s : State) (env : Env) (a : Nat) (v : Word) :
    exec (.registerWrite env a v) s = .next (s.hostWord env a v) := rfl

/-- A host's write that the gate refuses counts in its category, and nothing else changes. -/
theorem State.hostWord_refused (s : State) {env : Env} {a c : Nat} {v : Word} (hin : s.dev.pwr.inReset = false)
    (hend : s.dev.accessEnded) (h4 : a % 4 = 0) (hu : s.dev.region a ≠ .unmapped)
    (hg : s.dev.writeGate .host a v = some c) : s.hostWord env a v = s.on (·.viol c .host a) := by
  have haa : a / 4 * 4 = a := by omega
  have hword : s.writeWord env .host a v = s.on (·.viol c .host a) := by
    unfold State.writeWord
    simp [haa, hu, hg]
  simp only [State.hostWord, hin, Bool.false_eq_true, if_false, hword]
  exact State.endAccess_of_ended _ (by simpa using hend)

theorem State.hostWord_unmapped (s : State) {env : Env} {a : Nat} {v : Word} (hr : s.dev.region (a / 4 * 4) = .unmapped)
    (hend : s.dev.accessEnded) : s.hostWord env a v = s := by
  have hword : s.writeWord env .host a v = s := if_pos hr
  unfold State.hostWord
  split
  · rfl
  · rw [hword, s.endAccess_of_ended hend]

/-- A ready host's write to the lockbox while a wipe runs changes nothing (R402, log 46). -/
theorem State.hostWord_silent (s : State) {env : Env} {a : Nat} {v : Word} (h : s.dev.hostReady = true) (h4 : a % 4 = 0)
    (hl : 0x600000 ≤ a) (hl' : a < 0x610000) (hr : s.dev.reach false a = .silent) : s.hostWord env a v = s := by
  have haa : a / 4 * 4 = a := by omega
  obtain ⟨hin, -, -, -, -, -, hend, -⟩ := s.dev.hostReady_iff.mp h
  have hword : s.writeWord env .host a v = s := by
    obtain hn | hn := s.dev.region_lockbox hl hl' <;>
      simp [State.writeWord, State.applyWord, State.agentWrite, haa, hn, hr, s.dev.writeGate_of_silent h (by simp [hn]) hr,
        s.dev.holdsWrite_ready h, s.dev.mirrors_ready h]
  simp only [State.hostWord, hin, Bool.false_eq_true, if_false, hword]
  exact s.endAccess_of_ended hend

/-- The word of an aligned read that memory refuses counts and reads 0. -/
theorem State.readWord_refused (s : State) {env : Env} {ag : Agent} {a c : Nat} (h4 : a % 4 = 0)
    (hr : s.dev.reach false a = .refused c) : s.readWord env ag a = (s.on (·.viol c ag a), 0) := by
  have haa : a / 4 * 4 = a := by omega
  obtain ⟨hm, hu⟩ := Dev.region_of_reach_refused hr
  have hread : s.agentRead ag ag.code false env.errs a 4 = (s.on (·.viol c ag a), List.replicate 4 0) := by
    simp [State.agentRead, hr]
  unfold State.readWord
  cases hg : s.dev.region a <;> simp_all [leNat]

/-- A ready host's read of a register whose domain is down counts in category 4 and reads 0 (R30). -/
theorem State.readWord_down (s : State) {env : Env} {a : Nat} (h : s.dev.hostReady = true) (h4 : a % 4 = 0)
    (hm : s.dev.region a = .reg) (hd : s.dev.downHere a false = true) :
    s.readWord env .host a = (s.on (·.viol 4 .host a), 0) := by
  have haa : a / 4 * 4 = a := by omega
  obtain ⟨-, -, -, -, -, -, -, he⟩ := s.dev.hostReady_iff.mp h
  simp [State.readWord, haa, hm, hd, he]

/-- A read that memory silences reads 0 and changes nothing. -/
theorem State.readWord_silent (s : State) {env : Env} {ag : Agent} {a : Nat} (h4 : a % 4 = 0) (hm : s.dev.region a ≠ .reg)
    (hr : s.dev.reach false a = .silent) : s.readWord env ag a = (s, 0) := by
  have haa : a / 4 * 4 = a := by omega
  have hread : s.agentRead ag ag.code false env.errs a 4 = (s, List.replicate 4 0) := by simp [State.agentRead, hr]
  unfold State.readWord
  cases hg : s.dev.region a <;> simp_all [leNat]

/-! ### Unmapped addresses (R29) -/

/-- A window word `w` of base address `base` that leads an access it permits to an unmapped address is a translation fault. -/
theorem Dev.translate_unmapped (d : Dev) {set j v n w base : Nat} {k : Access}
    (hj : (List.range 16).find? (d.winCovers set v) = some j) (hw : w = (d.rd (Reg.winVa j set)).toNat)
    (hb : base = w / 256 * 256) (hn : v + n ≤ base + 2 ^ (8 + bitsOf w 4 4)) (hk : k.permits w = true)
    (hr : d.region (((d.rd (Reg.winPa j set)).toNat / 256 * 256 + (v - base)) % 2 ^ 32) = .unmapped) :
    d.translate set k v n = .translation := by
  subst hw hb
  unfold Dev.translate
  simp only [hj, hk, hr, Nat.not_lt.mpr hn, if_false, Bool.not_true, Bool.false_eq_true]

/-- Settles O49: the region decides at once, for a host's write and read and at the end of a translation. -/
theorem unmappedAddresses : Obligations.UnmappedAddresses := by
  refine ⟨fun d _ h => d.region_unmapped h, fun s env a v hr hend => ⟨?_, ?_⟩, ?_⟩
  · rw [exec_registerWrite, s.hostWord_unmapped hr hend]
  · simp [State.readWord, hr]
  · intro d set j v n k hj w base hn hk hr
    exact d.translate_unmapped hj rfl rfl hn hk hr

/-! ### The lockbox (R31, R402) -/

/-- Settles O52: the host's accesses lack the secure attribute, so that the lockbox refuses them, or silences them during a wipe. -/
theorem lockboxClosedToHost : Obligations.LockboxClosedToHost := by
  intro s env a v h h4 hl hl'
  obtain ⟨hin, -, -, -, -, -, hend, -⟩ := s.dev.hostReady_iff.mp h
  have hr := s.dev.reach_lockbox hl hl'
  rw [exec_registerWrite]
  split at hr
  case isTrue hw =>
    have hm : s.dev.region a ≠ .reg := by obtain hn | hn := s.dev.region_lockbox hl hl' <;> simp [hn]
    rw [if_pos hw, s.hostWord_silent h h4 hl hl' hr, s.readWord_silent h4 hm hr]
    exact ⟨rfl, rfl, rfl⟩
  case isFalse hw =>
    have hu : s.dev.region a ≠ .unmapped := (Dev.region_of_reach_refused hr).2
    rw [if_neg hw, s.hostWord_refused hin hend h4 hu (s.dev.writeGate_of_reach_refused h hr), s.readWord_refused h4 hr]
    exact ⟨rfl, rfl, s.on_mem _⟩

/-! ### Domains that are down (R23, R30) -/

/-- Every register of a power domain lies in a register block of R27. -/
theorem isRegAddr_of_regDom {a k : Nat} (h : regDom a = some k) : isRegAddr a = true := by
  simp only [isRegAddr, Bool.or_eq_true, decide_eq_true_eq]
  unfold regDom at h
  split_ifs at h <;> omega

theorem Dev.downHere_of_off (d : Dev) {a k : Nat} {write : Bool} (h : regDom a = some k) (hk : d.on k = false) :
    d.downHere a write = true := by
  simp [Dev.downHere, h, hk]

/-- Settles O53: the gate and the read refuse a register by its domain and memory by its bank. -/
theorem downDomainAccess : Obligations.DownDomainAccess := by
  intro s env a v h h4 hdown
  obtain ⟨hin, -, -, -, -, -, hend, -⟩ := s.dev.hostReady_iff.mp h
  rw [exec_registerWrite]
  obtain ⟨k, hk, hoff⟩ | ⟨ha, hb⟩ := hdown
  · have hm : s.dev.region a = .reg := s.dev.region_reg a (isRegAddr_of_regDom hk)
    have hg : s.dev.writeGate .host a v = some 4 := s.dev.writeGate_of_down h hm (s.dev.downHere_of_off hk hoff)
    rw [s.hostWord_refused hin hend h4 (by simp [hm]) hg]
    exact ⟨rfl, s.readWord_down h h4 hm (s.dev.downHere_of_off hk hoff)⟩
  · have hr : s.dev.reach false a = .refused 4 := s.dev.reach_of_bank_off ha hb
    have hu : s.dev.region a ≠ .unmapped := (Dev.region_of_reach_refused hr).2
    rw [s.hostWord_refused hin hend h4 hu (s.dev.writeGate_of_reach_refused h hr)]
    exact ⟨rfl, s.readWord_refused h4 hr⟩

end Sys2Proof.Machine

/-! The end of I2C stretching over a held write (R546, R576), and the state in which its count of category 4 is lost. -/
namespace Sys2Proof.Machine

/-- The one write that is held is given up and counted; what the access had staged takes effect at its end (R80, R545). -/
theorem State.stretchTimeout_of_held_one (s : State) {a : Nat} {v : Word} (h : s.dev.pwr.held = [(16, a, v)]) :
    s.stretchTimeout = (s.on (fun d => (d.modPwr (fun p => { p with held := [] })).viol 4 .host a)).endAccess := by
  simp [State.stretchTimeout, h]

/-- A violation counts in its category, up to the largest count (R535). -/
theorem Dev.get_viol_same (d : Dev) {c : Nat} (g : Agent) (a : Nat) (hc : c < 16) :
    (d.viol c g a).get (Fld.violCntCount c) = min (d.get (Fld.violCntCount c) + 1) 65535 := by
  have hlast : Reg.violCnt c ≠ Reg.violLast := by unfold Reg.violCnt Reg.violLast; omega
  have haddr : Reg.violCnt c ≠ Reg.violLastaddr := by unfold Reg.violCnt Reg.violLastaddr; omega
  have hfits : (Fld.violCntCount c).fits := ⟨Nat.zero_le 15, show 15 < 32 by decide⟩
  have hw : (Fld.violCntCount c).width = 16 := rfl
  unfold Dev.viol Dev.violN Dev.addSat
  rw [Dev.get_put_ne _ _ _ _ haddr, Dev.get_put_ne _ _ _ _ hlast, Dev.get_put_ne _ _ _ _ hlast,
    Dev.get_put_same _ _ _ hfits, hw]
  omega

/-- What the clause of I2C_STRETCH_TIMEOUT says of a state in which no access waits for its end. -/
theorem State.stretchTimeout_of_accessEnded (s : State) {a : Nat} {v : Word} (h : s.dev.pwr.held = [(16, a, v)])
    (hend : s.dev.accessEnded) : s.stretchTimeout.dev.pwr.held = [] ∧
      s.stretchTimeout.dev.get (Fld.violCntCount 4) = min (s.dev.get (Fld.violCntCount 4) + 1) 65535 := by
  have hcount := (s.dev.modPwr (fun p => { p with held := [] })).get_viol_same .host a (show 4 < 16 by decide)
  rw [s.stretchTimeout_of_held_one h, State.endAccess_of_ended _ (by simpa [Dev.accessEnded, Dev.modPwr] using hend)]
  exact ⟨by simp [Dev.modPwr], hcount⟩

/-- A held write, and a staged word of PWR_TARGET whose index lies beyond the three words: its address is that of VIOL_CNT4. -/
def stagedOverCount : State :=
  ready.on (·.modPwr (fun p => { p with held := [(16, 0x40, 1)], staged := [((Reg.violCnt 4 - Reg.pwrTarget 0) / 4, 5)] }))

/-- The count is 0 before, and the end of the access writes the staged 5 over the 1 that the timeout has counted. -/
theorem stretchTimeout_stagedOverCount :
    stagedOverCount.dev.get (Fld.violCntCount 4) = 0 ∧ stagedOverCount.stretchTimeout.dev.get (Fld.violCntCount 4) = 5 := by
  rw [stagedOverCount.stretchTimeout_of_held_one rfl]
  decide +kernel

/-- Refutes O26: its clause of I2C_STRETCH_TIMEOUT does not ask that no access waits for its end (`accessEnded`), with which it
holds (`State.stretchTimeout_of_accessEnded`). It so speaks of states whose words staged for PWR_TARGET have any index. In
`stagedOverCount` one of them lies at VIOL_CNT4, and its write at the end of the access replaces the count. -/
theorem not_hostCommandsComplete : ¬ Obligations.HostCommandsComplete := by
  intro h
  obtain ⟨-, -, -, -, -, hstretch, -⟩ := h
  obtain ⟨t, ht, -, hcount⟩ := hstretch stagedOverCount 0x40 1 rfl
  obtain rfl : stagedOverCount.stretchTimeout = t := Host.Outcome.next.inj ht
  obtain ⟨hbefore, hafter⟩ := stretchTimeout_stagedOverCount
  rw [hbefore, hafter] at hcount
  exact absurd hcount (by decide)

end Sys2Proof.Machine

/-! Writes of the host that the rules refuse for the state that the block is in: before the first commit (R49), where reads are
served all the same, and during a reseat (R58). -/
namespace Sys2Proof.Machine

/-! ### Which registers take staged writes (R118) -/

theorem RegRow.base_le_of_has {r : RegRow} {a : Nat} (h : r.has a = true) : r.base ≤ a := by
  simp only [RegRow.has, Bool.and_eq_true, decide_eq_true_eq] at h
  exact h.1

/-- The row found for an address is one of the table, and begins at or below the address. -/
theorem regRow_some {r : RegRow} {a : Nat} (h : regRow a = some r) : r ∈ regRows ∧ r.base ≤ a := by
  unfold regRow at h
  have hhas := List.find?_some h
  exact ⟨List.mem_of_find?_eq_some h, RegRow.base_le_of_has hhas⟩

/-- Every row with RWT bits lies above blocks SYS and CLK. -/
theorem regRows_rwt_base : ∀ r ∈ regRows, r.rwt = 0 ∨ 0x820000 ≤ r.base := by decide +kernel

theorem rwtMask_of_lt {a : Nat} (h : a < 0x820000) : rwtMask a = 0 := by
  have hmod : a % 2 ^ 32 = a := Nat.mod_eq_of_lt (by omega)
  unfold rwtMask
  rw [hmod]
  cases hr : regRow a with
  | none => rfl
  | some r =>
    obtain ⟨hmem, hbase⟩ := regRow_some hr
    obtain hrwt | hlow := regRows_rwt_base r hmem
    · exact hrwt
    · omega

/-! ### Blocks SYS and CLK are in no power domain (R23, R27) -/

/-- The power domains' registers begin with block DMA. -/
theorem le_of_regDom {a k : Nat} (h : regDom a = some k) : 0x840000 ≤ a := by
  unfold regDom at h
  split_ifs at h <;> omega

theorem regDom_of_lt {a : Nat} (h : a < 0x840000) : regDom a = none :=
  Option.eq_none_iff_forall_ne_some.mpr fun _ hk => absurd (le_of_regDom hk) (by omega)

theorem Dev.downHere_of_lt (d : Dev) {a : Nat} {write : Bool} (h : a < 0x820000) : d.downHere a write = false := by
  have hblock : ¬ (0xA00000 ≤ a ∧ a < 0xA10000) := by omega
  simp [Dev.downHere, Dev.tileGone, regDom_of_lt (show a < 0x840000 by omega), rwtMask_of_lt h, hblock]

theorem isRegAddr_of_clk {a : Nat} (h : a / 0x10000 = 0x81) : isRegAddr a = true := by
  simp only [isRegAddr, Bool.or_eq_true, decide_eq_true_eq]
  omega

/-! ### The gate in the two states -/

/-- Category 0 is the lowest of all: before the first commit it comes before what the address would be refused for (R49, R535). -/
theorem Dev.writeGate_before_commit (d : Dev) {a : Nat} {v : Word} (he : d.boot.everRun = false) (hb : a / 0x10000 ≠ 0x8E)
    (hk : ktSetting a = none) : d.writeGate .host a v = some 0 := by
  simp [Dev.writeGate, he, hb, hk]

/-- A CLK register's domain is never down, so that only the role stands before category 14 (R58, R502, R535). -/
theorem Dev.writeGate_clk_reseat (d : Dev) {a : Nat} {v : Word} (he : d.boot.everRun = true) (hz : d.boot.reseat ≠ 0)
    (hb : a / 0x10000 = 0x81) :
    d.writeGate .host a v = some (if d.released && !d.roleAccepts a v then 10 else 14) := by
  have hreg : d.region a = .reg := d.region_reg a (isRegAddr_of_clk hb)
  have hup : d.downHere a true = false := d.downHere_of_lt (by omega)
  cases hrole : d.released && !d.roleAccepts a v <;> simp [Dev.writeGate, hreg, hup, he, hz, hb, hrole]

/-! ### Words written and read -/

/-- A host's write acts on the word that holds its address (R7). -/
theorem State.hostWord_aligned (s : State) (env : Env) (a : Nat) (v : Word) :
    s.hostWord env (a / 4 * 4) v = s.hostWord env a v := by
  have haa : a / 4 * 4 / 4 * 4 = a / 4 * 4 := by omega
  simp only [State.hostWord, State.writeWord, haa]

/-- Claims lie in block INTC (R444): a read of any other register has no side effect. -/
theorem Dev.readReg_of_not_intc (d : Dev) {a : Nat} (h : a / 0x10000 ≠ 0x83) : d.readReg a = (d, d.regRead a) :=
  if_neg (by omega)

/-- An aligned read of a register that is not down answers what the register reads, and leaves the state as it is. -/
theorem State.readWord_reg (s : State) {env : Env} {ag : Agent} {a : Nat} (h4 : a % 4 = 0) (hr : isRegAddr a = true)
    (hd : s.dev.downHere a false = false) (hi : a / 0x10000 ≠ 0x83) : s.readWord env ag a = (s, s.dev.regRead a) := by
  have haa : a / 4 * 4 = a := by omega
  simp [State.readWord, haa, s.dev.region_reg a hr, hd, s.dev.readReg_of_not_intc hi]

/-! ### The two statements -/

/-- Settles O46: the word's CLK register passes every check before the two of R502 and R58, and the gate answers theirs. -/
theorem clkWriteDuringReseatRefused : Obligations.ClkWriteDuringReseatRefused := by
  intro s env a v hin hend he hz hb
  have hword : a / 4 * 4 / 0x10000 = 0x81 := by omega
  have hmapped : s.dev.region (a / 4 * 4) ≠ .unmapped := by simp [s.dev.region_reg _ (isRegAddr_of_clk hword)]
  rw [exec_registerWrite, ← s.hostWord_aligned,
    s.hostWord_refused hin hend (by omega) hmapped (s.dev.writeGate_clk_reseat he hz hword)]

/-- Settles O51: the gate refuses the write in category 0 before it looks at the address, and no check stops the read. -/
theorem writesBeforeRunningRefused : Obligations.WritesBeforeRunningRefused := by
  intro s env a v he h4
  refine ⟨fun hin hend hmapped hb hk => ?_, fun hr hd hi => s.readWord_reg h4 hr hd hi⟩
  rw [exec_registerWrite, s.hostWord_refused hin hend h4 hmapped (s.dev.writeGate_before_commit he hb hk)]

end Sys2Proof.Machine

/-! The invariant `accessEnded` (R80, R545). A restart of the PLL waits after a write of CLK_PLLCFG, CLK_PLLFRAC, CLK_REFSEL or
CLK_CTRL, and a word of PWR_TARGET after a write of it; nothing else the device does makes anything wait. So every operation that
is not such a write keeps what waits (`Dev.Awaits`), the end of an access leaves nothing (`State.Ended.endAccess`), and every
command that lets an agent write registers ends the access. -/
namespace Sys2Proof.Machine

/-- What may wait for the end of an access: a restart of the PLL only where `restart` holds, and the words of PWR_TARGET. -/
structure Waiting where
  restart : Prop
  words : SMap Word

/-- No access is under way. -/
def Waiting.none : Waiting := ⟨False, []⟩

/-- In `d` no more waits for the end of an access than `W` says. -/
structure Dev.Awaits (d : Dev) (W : Waiting) : Prop where
  restart : d.clk.pend = true → W.restart
  words : d.pwr.staged = W.words

namespace Dev.Awaits

variable {d : Dev} {W : Waiting}

theorem of {t : Dev} (hq : d.Awaits W) (hc : t.clk.pend = d.clk.pend) (hp : t.pwr.staged = d.pwr.staged) : t.Awaits W :=
  ⟨fun h => hq.restart (hc ▸ h), hp.trans hq.words⟩

/-- An operation on the parts other than the clock root and the power sequencer. -/
theorem parts {regs intc boot key inp outs hs ser usb engs memc chans link hinge kt host pins free} (hq : d.Awaits W) :
    Dev.Awaits { regs, intc, boot, clk := d.clk, key, inp, outs, hs, ser, usb, engs, memc, chans, link, hinge, kt,
                 pwr := d.pwr, host, pins, free } W :=
  ⟨hq.restart, hq.words⟩

theorem modClk {f : Clk → Clk} (hf : (f d.clk).pend = d.clk.pend) (hq : d.Awaits W) : (d.modClk f).Awaits W :=
  of hq hf rfl

theorem modClk_ended {f : Clk → Clk} (hf : (f d.clk).pend = false) (hst : d.pwr.staged = W.words) :
    (d.modClk f).Awaits W :=
  ⟨fun h => Bool.noConfusion (hf.symm.trans h), hst⟩

theorem modPwr {f : Pwr → Pwr} (hf : (f d.pwr).staged = d.pwr.staged) (hq : d.Awaits W) : (d.modPwr f).Awaits W :=
  of hq rfl hf

/-! #### Choices, loops and pairs -/

theorem of_ite {c : Prop} [Decidable c] {a b : Dev} (ha : a.Awaits W) (hb : b.Awaits W) :
    (if c then a else b).Awaits W := by
  split
  · exact ha
  · exact hb

theorem of_ite_fst {β : Type} {c : Prop} [Decidable c] {a : Dev} {x : β} {b : Dev × β} (ha : a.Awaits W)
    (hb : b.1.Awaits W) : (if c then (a, x) else b).1.Awaits W := by
  split
  · exact ha
  · exact hb

theorem of_fst {α : Type} {r : Dev × α} {t : Dev} {x : α} (e : r = (t, x)) (hq : r.1.Awaits W) : t.Awaits W := by
  rw [e] at hq
  exact hq

theorem cond {f : Dev → Dev} {c : Bool} (hf : d.Awaits W → (f d).Awaits W) (hq : d.Awaits W) : (d.cond c f).Awaits W :=
  of_ite (hf hq) hq

theorem each {α : Type} {f : Dev → α → Dev} {xs : List α} (hf : ∀ d x, Dev.Awaits d W → (f d x).Awaits W)
    (hq : d.Awaits W) : (d.each xs f).Awaits W :=
  Dev.each_induct (fun d => d.Awaits W) f hf xs d hq

theorem foldl {α : Type} {f : Dev → α → Dev} {xs : List α} (hf : ∀ d x, Dev.Awaits d W → (f d x).Awaits W)
    (hq : d.Awaits W) : (xs.foldl f d).Awaits W :=
  Dev.each_induct (fun d => d.Awaits W) f hf xs d hq

theorem foldl_fst {α β : Type} {f : Dev × β → α → Dev × β} {xs : List α} {b : β}
    (hf : ∀ acc x, Dev.Awaits acc.1 W → (f acc x).1.Awaits W) (hq : d.Awaits W) : (xs.foldl f (d, b)).1.Awaits W :=
  List.foldlRecOn (motive := fun acc : Dev × β => acc.1.Awaits W) xs f hq (fun acc h x _ => hf acc x h)

theorem foldl_snd {α β : Type} {f : β × Dev → α → β × Dev} {xs : List α} {b : β}
    (hf : ∀ acc x, Dev.Awaits acc.2 W → (f acc x).2.Awaits W) (hq : d.Awaits W) : (xs.foldl f (b, d)).2.Awaits W :=
  List.foldlRecOn (motive := fun acc : β × Dev => acc.2.Awaits W) xs f hq (fun acc h x _ => hf acc x h)

/-! #### Registers, fields, events and the interrupt controller (chapter 15) -/

theorem wr {a : Nat} {w : Word} (hq : d.Awaits W) : (d.wr a w).Awaits W := parts hq

theorem put {f : Fld} {v : Nat} (hq : d.Awaits W) : (d.put f v).Awaits W := wr hq

theorem flag {f : Fld} {b : Bool} (hq : d.Awaits W) : (d.flag f b).Awaits W := put hq

theorem setBit {f : Fld} {i : Nat} (hq : d.Awaits W) : (d.setBit f i).Awaits W := put hq

theorem dropBit {f : Fld} {i : Nat} (hq : d.Awaits W) : (d.dropBit f i).Awaits W := put hq

theorem putBit {f : Fld} {i : Nat} {b : Bool} (hq : d.Awaits W) : (d.putBit f i b).Awaits W :=
  of_ite (setBit hq) (dropBit hq)

theorem addSat {f : Fld} {n : Nat} (hq : d.Awaits W) : (d.addSat f n).Awaits W := put hq

theorem inc {f : Fld} (hq : d.Awaits W) : (d.inc f).Awaits W := addSat hq

theorem incWrap {f : Fld} (hq : d.Awaits W) : (d.incWrap f).Awaits W := put hq

theorem clrRegs {as : List Nat} (hq : d.Awaits W) : (d.clrRegs as).Awaits W := parts hq

theorem dropRegs {p : Nat → Bool} (hq : d.Awaits W) : (d.dropRegs p).Awaits W := parts hq

theorem violN {n cat : Nat} {ag : Agent} {addr : Nat} (hq : d.Awaits W) : (d.violN n cat ag addr).Awaits W :=
  put (put (put (addSat hq)))

theorem viol {cat : Nat} {ag : Agent} {addr : Nat} (hq : d.Awaits W) : (d.viol cat ag addr).Awaits W := violN hq

theorem setDom {k v : Nat} (hq : d.Awaits W) : (d.setDom k v).Awaits W := wr hq

theorem setGate {k : Nat} {g : Gate} (hq : d.Awaits W) : (d.setGate k g).Awaits W := parts hq

theorem srcEvent {k : Nat} (hq : d.Awaits W) : (d.srcEvent k).Awaits W := of_ite hq (setGate hq)

theorem raise {e i : Nat} (hq : d.Awaits W) : (d.raise e i).Awaits W := srcEvent hq

theorem happenBit {a b : Nat} (hq : d.Awaits W) : (d.happenBit a b).Awaits W := by
  unfold Dev.happenBit
  dsimp only
  split
  · exact srcEvent (wr hq)
  · exact wr hq

theorem happen {f : Fld} (hq : d.Awaits W) : (d.happen f).Awaits W := happenBit hq

theorem happenAt {f : Fld} {i : Nat} (hq : d.Awaits W) : (d.happenAt f i).Awaits W := happenBit hq

theorem settle {ids : List Nat} (hq : d.Awaits W) : (d.settle ids).Awaits W :=
  each (fun _ _ hq => of_ite (setGate hq) hq) hq

theorem claim {t : Nat} {fast : Bool} (hq : d.Awaits W) : (d.claim t fast).2.Awaits W := by
  unfold Dev.claim
  split
  · exact setGate hq
  · exact inc hq

theorem completeKey {t k : Nat} (hq : d.Awaits W) : (d.completeKey t k).Awaits W :=
  of_ite (parts (setGate hq)) (setGate hq)

theorem completeAll {e : Nat} (hq : d.Awaits W) : (d.completeAll e).Awaits W := each (fun _ _ hq => completeKey hq) hq

theorem coalExpire {k : Nat} (hq : d.Awaits W) : (d.coalExpire k).Awaits W :=
  of_ite hq (of_ite (setGate hq) (setGate hq))

theorem extintChange {k : Nat} {b : Bool} (hq : d.Awaits W) : (d.extintChange k b).Awaits W :=
  of_ite hq (of_ite (srcEvent (parts hq)) (settle (parts hq)))

theorem cfgWrite {ag : Agent} {k : Nat} {v : Word} (hq : d.Awaits W) : (d.cfgWrite ag k v).Awaits W :=
  of_ite (wr hq) (viol (wr hq))

theorem coalWrite {ag : Agent} {k : Nat} {v : Word} (hq : d.Awaits W) : (d.coalWrite ag k v).Awaits W :=
  of_ite (viol (wr hq)) (wr hq)

/-! #### Self-repair and the keyturn store (chapter 18) -/

theorem setPhys {n p : Nat} (hq : d.Awaits W) : (d.setPhys n p).Awaits W := wr hq

theorem setUnavail {n : Nat} (hq : d.Awaits W) : (d.setUnavail n).Awaits W := wr hq

theorem takeSpare {l kind : Nat} (hq : d.Awaits W) : (d.takeSpare l kind).Awaits W := parts hq

theorem queueBurn {r : Repair} (hq : d.Awaits W) : (d.queueBurn r).Awaits W := parts hq

theorem softRepair {loc kind spare : Nat} {boot : Bool} (hq : d.Awaits W) : (d.softRepair loc kind spare boot).Awaits
    W := of_ite (happen (put (parts (happen (inc (put (put hq))))))) (queueBurn (parts (happen (inc (put (put hq))))))

theorem setSlot {i t : Nat} {x : Slot} (hq : d.Awaits W) : (d.setSlot i t x).Awaits W := parts hq

theorem ktResult {i code : Nat} (hq : d.Awaits W) : (d.ktResult i code).Awaits W := put (put hq)

theorem cutTurn (hq : d.Awaits W) : d.cutTurn.Awaits W := by
  unfold Dev.cutTurn
  dsimp only
  split
  · exact hq
  · exact ktResult (put (parts hq))

theorem cutBurn (hq : d.Awaits W) : d.cutBurn.Awaits W := by
  unfold Dev.cutBurn
  split
  · exact hq
  · exact put (parts hq)

theorem burnStart (hq : d.Awaits W) : d.burnStart.Awaits W := by
  unfold Dev.burnStart
  dsimp only
  split
  · exact hq
  · split
    · exact hq
    · exact of_ite (happen (put hq)) (of_ite (put (put (put (put (put (parts hq)))))) (put (put (put (put (parts
        hq))))))

theorem burnDone (hq : d.Awaits W) : d.burnDone.Awaits W := by
  unfold Dev.burnDone
  dsimp only
  split
  · exact hq
  · exact happen (put (parts hq))

theorem swapDone (hq : d.Awaits W) : d.swapDone.Awaits W := by
  unfold Dev.swapDone
  dsimp only
  split
  · exact hq
  · exact happen (dropBit (softRepair (setPhys (parts hq))))

theorem markTileFail {n : Nat} (hq : d.Awaits W) : (d.markTileFail n).Awaits W := happen (setBit hq)

theorem tileFailed {c p : Nat} {spareOk boot : Bool} (hq : d.Awaits W) : (d.tileFailed c p spareOk boot).Awaits W :=
    by
  unfold Dev.tileFailed
  split
  · exact hq
  · exact of_ite (softRepair (setPhys hq)) (setUnavail hq)

theorem retireAdc {n k : Nat} (hq : d.Awaits W) : (d.retireAdc n k).Awaits W := put hq

theorem retireDac {o k : Nat} (hq : d.Awaits W) : (d.retireDac o k).Awaits W := setBit (inc hq)

theorem applyRepair {l kind spare : Nat} (hq : d.Awaits W) : (d.applyRepair l kind spare).Awaits W := by
  unfold Dev.applyRepair
  dsimp only
  split
  · exact of_ite hq (takeSpare hq)
  · split
    · split
      · exact of_ite (setPhys hq) hq
      · exact hq
    · exact of_ite (of_ite (parts hq) hq) (of_ite (retireAdc hq) (of_ite (retireDac hq) (of_ite (of_ite hq (inc
        (setBit (dropBit hq)))) hq)))

theorem applyPool (hq : d.Awaits W) : d.applyPool.Awaits W := each (fun _ _ hq => applyRepair hq) hq

/-! #### Outputs (chapters 06 to 08) -/

theorem setOut {o : Nat} {x : Out} (hq : d.Awaits W) : (d.setOut o x).Awaits W := parts hq

theorem modOut {o : Nat} {f : Out → Out} (hq : d.Awaits W) : (d.modOut o f).Awaits W := setOut hq

theorem setOutSt {o st : Nat} (hq : d.Awaits W) : (d.setOutSt o st).Awaits W := put hq

theorem setCause {o c : Nat} {b : Bool} (hq : d.Awaits W) : (d.setCause o c b).Awaits W := putBit hq

theorem setGain {o g : Nat} (hq : d.Awaits W) : (d.setGain o g).Awaits W := put hq

theorem beginBlk {o : Nat} {b : Blk} (hq : d.Awaits W) : (d.beginBlk o b).Awaits W :=
  of_ite (put (put (modOut hq))) (put (modOut hq))

theorem startHold {o : Nat} {h : HoldK} (hq : d.Awaits W) : (d.startHold o h).Awaits W := put (put (modOut hq))

theorem dropHold {o : Nat} (hq : d.Awaits W) : (d.dropHold o).Awaits W := put (put (modOut hq))

theorem switchPersona {o : Nat} (hq : d.Awaits W) : (d.switchPersona o).Awaits W := put (modOut (put hq))

theorem finish {o : Nat} (hq : d.Awaits W) : (d.finish o).Awaits W := by
  unfold Dev.finish
  dsimp only
  split
  · exact setOutSt (put hq)
  · exact startHold (switchPersona (put hq))
  · exact put hq

theorem advance {o : Nat} {bs : List Blk} (hq : d.Awaits W) : (d.advance o bs).Awaits W := by
  induction bs with
  | nil => exact finish (modOut hq)
  | cons b bs ih => exact of_ite ih (beginBlk (modOut hq))

theorem startSeq {o : Nat} {bs : List Blk} {st : Nat} {fin : SeqEnd} (hq : d.Awaits W) : (d.startSeq o bs st
    fin).Awaits W := advance (setOutSt (modOut hq))

theorem unmuteClear {o : Nat} (hq : d.Awaits W) : (d.unmuteClear o).Awaits W := of_ite (startSeq hq) (startSeq hq)

theorem startOut {o : Nat} (hq : d.Awaits W) : (d.startOut o).Awaits W := startSeq hq

theorem stopOut {o : Nat} (hq : d.Awaits W) : (d.stopOut o).Awaits W := startSeq hq

theorem abandon {o : Nat} (hq : d.Awaits W) : (d.abandon o).Awaits W := put (setGain (modOut hq))

theorem atClear {o : Nat} (hq : d.Awaits W) : (d.atClear o).Awaits W := by
  unfold Dev.atClear
  exact modOut hq

theorem atPowerup {o : Nat} (hq : d.Awaits W) : (d.atPowerup o).Awaits W := by
  unfold Dev.atPowerup
  exact modOut hq

theorem enterClear {o : Nat} {fallback : Bool} (hq : d.Awaits W) : (d.enterClear o fallback).Awaits W :=
  of_ite hq (of_ite (setOutSt hq) (of_ite (dropHold (atClear (setOutSt (abandon hq)))) (startHold (atClear (setOutSt
    (abandon hq))))))

theorem enterHiz {o : Nat} (hq : d.Awaits W) : (d.enterHiz o).Awaits W := setOutSt (put (modOut (abandon hq)))

theorem tryExit {o : Nat} (hq : d.Awaits W) : (d.tryExit o).Awaits W := of_ite (startHold hq) hq

theorem startDiag {o : Nat} (hq : d.Awaits W) : (d.startDiag o).Awaits W := setOutSt (modOut hq)

theorem settleOut {o : Nat} (hq : d.Awaits W) : (d.settleOut o).Awaits W :=
  of_ite (setOutSt hq) (of_ite (enterHiz hq) (of_ite (dropHold (atClear (setOutSt (abandon hq)))) (of_ite (startOut
    (dropHold (atPowerup (setOutSt (abandon hq))))) (dropHold (atPowerup (setOutSt (abandon hq)))))))

theorem leaveHiz {o : Nat} (hq : d.Awaits W) : (d.leaveHiz o).Awaits W :=
  of_ite hq (of_ite (startDiag hq) (settleOut hq))

theorem chainReady {o : Nat} (hq : d.Awaits W) : (d.chainReady o).Awaits W := of_ite hq (settleOut (modOut hq))

theorem chainReadyEvent {o : Nat} (hq : d.Awaits W) : (d.chainReadyEvent o).Awaits W := of_ite (chainReady hq) hq

theorem outDown {o : Nat} {off : Bool} (hq : d.Awaits W) : (d.outDown o off).Awaits W :=
  enterHiz (of_ite (put (modOut hq)) (modOut hq))

theorem setMute {o : Nat} {f : Nat → Fld} {b : Bool} (hq : d.Awaits W) : (d.setMute o f b).Awaits W :=
  of_ite (flag hq) (of_ite (startSeq (flag hq)) (of_ite (startSeq (flag hq)) (flag hq)))

theorem blkEffect {o : Nat} {b : Blk} {trim : Int} {limit : Bool} (hq : d.Awaits W) : (d.blkEffect o b trim
    limit).Awaits W := by
  unfold Dev.blkEffect
  dsimp only
  split
  · exact of_ite (happenAt (put (put (modOut hq)))) (put (put (modOut hq)))
  · exact modOut hq
  · exact modOut hq
  · exact modOut hq
  · exact modOut hq
  · exact modOut hq
  · exact modOut hq
  · exact setGain hq
  · exact setGain hq
  · exact setGain hq
  · exact hq

theorem afterSeq {o : Nat} (hq : d.Awaits W) : (d.afterSeq o).Awaits W := of_ite (unmuteClear hq) hq

theorem blkDone {o : Nat} {trim : Int} {limit : Bool} (hq : d.Awaits W) : (d.blkDone o trim limit).Awaits W := by
  unfold Dev.blkDone
  split
  · exact hq
  · exact afterSeq (advance (blkEffect hq))

theorem blkProgress {o n : Nat} (hq : d.Awaits W) : (d.blkProgress o n).Awaits W := by
  unfold Dev.blkProgress
  dsimp only
  split
  · exact hq
  · split
    · exact setGain (setOut hq)
    · exact setGain (setOut hq)
    · exact setGain (setOut hq)
    · exact modOut (setOut hq)
    · exact modOut (setOut hq)
    · exact modOut (setOut hq)
    · exact modOut (setOut hq)
    · exact setOut hq

theorem endSwap {o : Nat} (hq : d.Awaits W) : (d.endSwap o).Awaits W := by
  unfold Dev.endSwap
  dsimp only
  split
  · exact hq
  · exact softRepair (happen (inc (setBit (dropBit (modOut hq)))))

theorem holdEnd {o : Nat} (hq : d.Awaits W) : (d.holdEnd o).Awaits W := by
  unfold Dev.holdEnd
  extract_lets h d1
  have h1 : d1.Awaits W := of_ite hq (endSwap (dropHold hq))
  cases h
  case entry => exact tryExit h1
  case restart => exact tryExit h1
  case exit => exact afterSeq (unmuteClear h1)
  case persona => exact startSeq h1
  all_goals exact h1

theorem scaleChange {o : Nat} (hq : d.Awaits W) : (d.scaleChange o).Awaits W := of_ite hq (startHold hq)

theorem codeChange {o : Nat} (hq : d.Awaits W) : (d.codeChange o).Awaits W :=
  of_ite hq (of_ite (startSeq hq) (of_ite (startSeq hq) hq))

theorem personaSeq {o : Nat} (hq : d.Awaits W) : (d.personaSeq o).Awaits W :=
  of_ite hq (of_ite (switchPersona hq) (of_ite (startHold (switchPersona hq)) (startSeq hq)))

theorem retireSlice {o k : Nat} (hq : d.Awaits W) : (d.retireSlice o k).Awaits W := softRepair (happen (retireDac hq))

theorem showOutSlice {o : Nat} (hq : d.Awaits W) : (d.showOutSlice o).Awaits W := put hq

theorem dacSwap {o : Nat} (hq : d.Awaits W) : (d.dacSwap o).Awaits W := by
  unfold Dev.dacSwap
  dsimp only
  split
  · exact of_ite (showOutSlice (setOut hq)) hq
  · exact hq

theorem dacCalDone {o : Nat} {beyond : Bool} (hq : d.Awaits W) : (d.dacCalDone o beyond).Awaits W := by
  unfold Dev.dacCalDone
  dsimp only
  split
  · exact hq
  · exact of_ite (showOutSlice (retireSlice (setOut hq))) (of_ite (showOutSlice (setOut hq)) hq)

theorem dacFail {o k : Nat} (hq : d.Awaits W) : (d.dacFail o k).Awaits W := by
  unfold Dev.dacFail
  dsimp only
  split
  · exact hq
  · split
    · exact of_ite (modOut (retireSlice hq)) (startHold (modOut (retireSlice hq)))
    · exact enterClear (happen (setCause hq))

theorem complianceTrip {o : Nat} (hq : d.Awaits W) : (d.complianceTrip o).Awaits W :=
  of_ite hq (enterClear (modOut (setCause (happen hq))))

theorem complianceHiz {o : Nat} (hq : d.Awaits W) : (d.complianceHiz o).Awaits W :=
  of_ite (happen (enterHiz (modOut hq))) hq

theorem complianceRecover {o : Nat} (hq : d.Awaits W) : (d.complianceRecover o).Awaits W :=
  of_ite (tryExit (modOut (setCause hq))) hq

theorem hpLimit {o : Nat} (hq : d.Awaits W) : (d.hpLimit o).Awaits W :=
  of_ite hq (enterClear (setCause (happen (put hq))))

theorem pumpReady (hq : d.Awaits W) : d.pumpReady.Awaits W := of_ite (chainReady (chainReady (put hq))) hq

theorem outClrAssert (hq : d.Awaits W) : d.outClrAssert.Awaits W :=
  of_ite hq (each (fun _ _ hq => enterClear (setCause hq)) (inc (put (parts hq))))

theorem outClrRelease (hq : d.Awaits W) : d.outClrRelease.Awaits W :=
  of_ite hq (each (fun _ _ hq => tryExit (setCause hq)) (put (parts hq)))

theorem outFallback (hq : d.Awaits W) : d.outFallback.Awaits W := each (fun _ _ hq => enterClear (setCause hq)) hq

theorem outSwitchBack (hq : d.Awaits W) : d.outSwitchBack.Awaits W := each (fun _ _ hq => tryExit (setCause hq)) hq

theorem takeoverOut {o : Nat} (hq : d.Awaits W) : (d.takeoverOut o).Awaits W :=
  of_ite hq (of_ite (enterHiz (modOut (abandon hq))) (of_ite (startSeq (modOut (abandon hq))) (of_ite (startSeq
    (modOut (abandon hq))) (startSeq (modOut (abandon hq))))))

theorem releaseOuts (hq : d.Awaits W) : d.releaseOuts.Awaits W := each (fun _ _ hq => enterHiz hq) hq

theorem bootSlices {o : Nat} (hq : d.Awaits W) : (d.bootSlices o).Awaits W := showOutSlice (modOut hq)

theorem ceilings (hq : d.Awaits W) : d.ceilings.Awaits W := each (fun _ _ hq => put hq) hq

/-! #### Speaker stages (chapter 07) -/

theorem stopStages {n : Nat} (hq : d.Awaits W) : (d.stopStages n).Awaits W := each (fun _ _ hq => enterHiz hq) hq

theorem segFailing {n h seg cell : Nat} (hq : d.Awaits W) : (d.segFailing n h seg cell).Awaits W := by
  unfold Dev.segFailing
  dsimp only
  split
  · exact hq
  · split
    · exact startHold (modOut hq)
    · exact stopStages (happen (put hq))

theorem shortTrip {n : Nat} (hq : d.Awaits W) : (d.shortTrip n).Awaits W := stopStages (happen (put hq))

theorem diagDone {n : Nat} {pin : Option Bool} {r : Nat} (hq : d.Awaits W) : (d.diagDone n pin r).Awaits W := by
  unfold Dev.diagDone
  refine of_ite hq ?_
  extract_lets res d1 d2 d3 latched
  have h2 : d2.Awaits W := of_ite (put (put hq)) (put hq)
  have h3 : d3.Awaits W := happen h2
  exact of_ite (settleOut h3) (of_ite (setOutSt (each (fun _ _ hq => happen hq) h3)) (settleOut (each (fun _ _ hq =>
    put hq) h3)))

theorem pilotMeasure {n : Nat} {amps : Bool} {z : Nat} (hq : d.Awaits W) : (d.pilotMeasure n amps z).Awaits W :=
  of_ite hq (of_ite (modOut (put hq)) (of_ite (happen (modOut (of_ite (put (put hq)) (put hq)))) (modOut (of_ite (put
    (put hq)) (put hq)))))

theorem pvddReady (hq : d.Awaits W) : d.pvddReady.Awaits W :=
  each (fun _ _ hq => leaveHiz (chainReadyEvent hq)) (each (fun _ _ hq => put (put hq)) (parts (put (put (put hq)))))

theorem pvddFault {bit : Fld} {cause : Nat → Fld} (hq : d.Awaits W) : (d.pvddFault bit cause).Awaits W :=
  of_ite (parts (put hq)) (each (fun _ _ hq => enterHiz (modOut hq)) (each (fun _ _ hq => happen (put hq)) (put (parts
    (put hq)))))

theorem pvddCutoff (hq : d.Awaits W) : d.pvddCutoff.Awaits W := by
  unfold Dev.pvddCutoff
  exact pvddFault (of_ite (of hq rfl rfl) hq)

theorem pvddOver (hq : d.Awaits W) : d.pvddOver.Awaits W := pvddFault hq

theorem derateStep {t : Int} (hq : d.Awaits W) : (d.derateStep t).Awaits W :=
  of_ite (each (fun _ _ hq => happen hq) (each (fun _ _ hq => put hq) (parts (put hq)))) (each (fun _ _ hq => put hq)
    (parts (put hq)))

theorem spkHot {t : Int} (hq : d.Awaits W) : (d.spkHot t).Awaits W :=
  each (fun _ _ hq => enterHiz hq) (each (fun _ _ hq => happen (put hq)) (put hq))

theorem spkCooled {n : Nat} {t : Int} (hq : d.Awaits W) : (d.spkCooled n t).Awaits W :=
  of_ite (put hq) (leaveHiz (put (put hq)))

theorem segBoot {n h seg cell : Nat} (hq : d.Awaits W) : (d.segBoot n h seg cell).Awaits W := by
  unfold Dev.segBoot
  split
  · exact hq
  · split
    · exact softRepair (inc (setBit (dropBit hq)))
    · exact setOutSt (happen (put hq))

theorem segTests {fs : List (Nat × Nat × Nat × Nat)} (hq : d.Awaits W) : (d.segTests fs).Awaits W :=
  of_ite hq (each (fun _ _ hq => chainReadyEvent hq) (put (each (fun _ _ hq => segBoot hq) hq)))

/-! #### The keyway and the tumbler (chapter 04) -/

theorem refuseRec {r : Nat × Nat × Nat} (hq : d.Awaits W) : (d.refuseRec r).Awaits W := put (put (put hq))

theorem arm {ag : Agent} {late : Bool} (hq : d.Awaits W) : (d.arm ag late).Awaits W :=
  of_ite (viol hq) (of_ite hq (put (parts hq)))

theorem armAt {ag : Agent} {late : Bool} (hq : d.Awaits W) : (d.armAt ag late).Awaits W :=
  of_ite (viol hq) (of_ite hq (put (parts hq)))

theorem disarm {ag : Agent} {late : Bool} (hq : d.Awaits W) : (d.disarm ag late).Awaits W := by
  unfold Dev.disarm
  split
  · exact viol hq
  · split
    · exact viol hq
    · exact of_ite (viol hq) (parts hq)

theorem discard {ag : Agent} (hq : d.Awaits W) : (d.discard ag).Awaits W := of_ite (viol hq) (parts hq)

theorem tumbCtrl {ag : Agent} {late : Bool} {v : Word} (hq : d.Awaits W) : (d.tumbCtrl ag late v).Awaits W := by
  unfold Dev.tumbCtrl
  split
  · exact arm hq
  · exact armAt hq
  · exact disarm hq
  · exact discard hq
  · exact hq

theorem setXp {c : Nat} {x : Xp} (hq : d.Awaits W) : (d.setXp c x).Awaits W := parts hq

theorem restXp {c : Nat} (hq : d.Awaits W) : (d.restXp c).Awaits W := parts hq

theorem commitXp {c : Nat} {cfg : Word} {gain : Nat} {gainStaged parallel : Bool} (hq : d.Awaits W) :
    (d.commitXp c cfg gain gainStaged parallel).Awaits W := by
  unfold Dev.commitXp
  extract_lets was now n motion shadow go serialNew counted
  split
  extract_lets changed
  have keep : ∀ (d : Dev) (x : Xp), d.Awaits W → (go d x).Awaits W := fun _ _ hq => of_ite (restXp hq) (setXp hq)
  have hcounted : counted.Awaits W := of_ite (inc hq) hq
  clear_value go counted changed serialNew shadow motion
  split
  · exact of_ite (of_ite (restXp hq) (keep _ _ hq)) hq
  · split
    · exact keep _ _ hq
    · split
      · exact of_ite (restXp hcounted) (of_ite (setXp hcounted) (setXp (inc hcounted)))
      · split
        · exact of_ite (keep _ _ hq) hq
        · exact of_ite (keep _ _ hq) hq

theorem commitXps {es : List TumbEntry} (hq : d.Awaits W) : (d.commitXps es).Awaits W :=
  each (fun _ _ hq => commitXp hq) hq

theorem xpRampEnd {c : Nat} (hq : d.Awaits W) : (d.xpRampEnd c).Awaits W := by
  unfold Dev.xpRampEnd
  split
  · split
    · split
      · exact setXp hq
      · exact restXp hq
    · exact hq
  · exact hq

theorem shadowEnd {c : Nat} (hq : d.Awaits W) : (d.shadowEnd c).Awaits W := by
  unfold Dev.shadowEnd
  split
  · split
    · exact of_ite (of_ite (restXp hq) (setXp hq)) hq
    · exact hq
  · exact hq

theorem serialHalf {c : Nat} (hq : d.Awaits W) : (d.serialHalf c).Awaits W := by
  unfold Dev.serialHalf
  split
  · split
    · exact of_ite (setXp hq) hq
    · exact hq
  · exact hq

theorem tickXps (hq : d.Awaits W) : d.tickXps.Awaits W := parts hq

theorem busSat {b : Nat} (hq : d.Awaits W) : (d.busSat b).Awaits W := of_ite hq (happen (setBit hq))

theorem mixPass {x : SMap Int} (hq : d.Awaits W) : (d.mixPass x).Awaits W :=
  parts (each (fun _ _ hq => busSat hq) (tickXps hq))

/-! #### Inputs (chapter 05) -/

theorem setAin {n : Nat} {x : Ain} (hq : d.Awaits W) : (d.setAin n x).Awaits W := parts hq

theorem retireAin {n k : Nat} (hq : d.Awaits W) : (d.retireAin n k).Awaits W :=
  softRepair (happen (put (put (retireAdc hq))))

theorem adcSwap {n : Nat} (hq : d.Awaits W) : (d.adcSwap n).Awaits W := by
  unfold Dev.adcSwap
  dsimp only
  split
  · exact of_ite (put (put (setAin hq))) hq
  · exact hq

theorem adcCalDone {n : Nat} {beyond : Bool} (hq : d.Awaits W) : (d.adcCalDone n beyond).Awaits W :=
  of_ite hq (of_ite (retireAin hq) (flag (setAin hq)))

theorem adcFail {n k : Nat} (hq : d.Awaits W) : (d.adcFail n k).Awaits W :=
  of_ite hq (of_ite (retireAin (setAin hq)) (happen (put hq)))

theorem bootAin {n : Nat} (hq : d.Awaits W) : (d.bootAin n).Awaits W := put (setAin hq)

theorem ainSettle {n : Nat} (hq : d.Awaits W) : (d.ainSettle n).Awaits W := put (put hq)

theorem ainSettleEnd {n : Nat} (hq : d.Awaits W) : (d.ainSettleEnd n).Awaits W := put hq

theorem ainCommit {n : Nat} {old : Word} (hq : d.Awaits W) : (d.ainCommit n old).Awaits W :=
  of_ite (ainSettle hq) (of_ite (put hq) hq)

theorem ainStep {n : Nat} (hq : d.Awaits W) : (d.ainStep n).Awaits W := of_ite hq (of_ite (happen (put hq)) (put hq))

theorem ainOverload {n : Nat} {x : Int} (hq : d.Awaits W) : (d.ainOverload n x).Awaits W := of_ite (happen hq) hq

theorem pdmCommit {c : Nat} {old : Word} (hq : d.Awaits W) : (d.pdmCommit c old).Awaits W := of_ite (parts hq) hq

theorem pdmInterval {k : Nat} (hq : d.Awaits W) : (d.pdmInterval k).Awaits W := parts hq

theorem pdmClkSettled {k : Nat} (hq : d.Awaits W) : (d.pdmClkSettled k).Awaits W := parts hq

theorem pdmChSettled {c : Nat} (hq : d.Awaits W) : (d.pdmChSettled c).Awaits W := parts hq

theorem pdmLost {k : Nat} (hq : d.Awaits W) : (d.pdmLost k).Awaits W := of_ite (happenAt (dropBit hq)) hq

theorem pdmReturn {k : Nat} (hq : d.Awaits W) : (d.pdmReturn k).Awaits W := of_ite (setBit hq) hq

theorem pdmRole {k : Nat} (hq : d.Awaits W) : (d.pdmRole k).Awaits W := of_ite (setBit hq) (dropBit (dropBit hq))

theorem pdmClkWrite {ag : Agent} {k : Nat} {v : Word} (hq : d.Awaits W) : (d.pdmClkWrite ag k v).Awaits W :=
  of_ite (viol hq) (pdmRole (of_ite (pdmInterval (of_ite (viol (wr hq)) (wr hq))) (of_ite (viol (wr hq)) (wr hq))))

theorem showMicb (hq : d.Awaits W) : d.showMicb.Awaits W := each (fun _ _ hq => putBit hq) hq

theorem micbCommit {n : Nat} (hq : d.Awaits W) : (d.micbCommit n).Awaits W := showMicb (of_ite (dropBit hq) hq)

theorem micbTrip {n : Nat} (hq : d.Awaits W) : (d.micbTrip n).Awaits W :=
  of_ite hq (showMicb (happenAt (dropBit (setBit hq))))

theorem anainUp {g : Nat} (hq : d.Awaits W) : (d.anainUp g).Awaits W :=
  showMicb (each (fun _ _ hq => of_ite (ainSettle hq) hq) hq)

theorem anainDown (hq : d.Awaits W) : d.anainDown.Awaits W := showMicb hq

/-! #### Serial ports, S/PDIF, monitors and rate converters (chapters 09 and 10) -/

theorem portEv {n b : Nat} (hq : d.Awaits W) : (d.portEv n b).Awaits W := happenBit hq

theorem portRestartEv {n : Nat} (hq : d.Awaits W) : (d.portRestartEv n).Awaits W := portEv hq

theorem portCount {n ev : Nat} (hq : d.Awaits W) : (d.portCount n ev).Awaits W := portEv (inc hq)

theorem setDir {n : Nat} {tx : Bool} {x : PDir} (hq : d.Awaits W) : (d.setDir n tx x).Awaits W := put (parts hq)

theorem modDir {n : Nat} {tx : Bool} {f : PDir → PDir} (hq : d.Awaits W) : (d.modDir n tx f).Awaits W := setDir hq

theorem setDirSt {n : Nat} {tx : Bool} {st : Nat} (hq : d.Awaits W) : (d.setDirSt n tx st).Awaits W := put hq

theorem setLock {n : Nat} {tx b : Bool} (hq : d.Awaits W) : (d.setLock n tx b).Awaits W := of_ite hq (flag hq)

theorem closeBlock {n : Nat} {short : Bool} (hq : d.Awaits W) : (d.closeBlock n short).Awaits W := by
  unfold Dev.closeBlock
  dsimp only
  split
  · exact hq
  · exact setDir hq

theorem fillBlock1 {n : Nat} (hq : d.Awaits W) : (d.fillBlock1 n).Awaits W := by
  unfold Dev.fillBlock1
  dsimp only
  split
  · exact of_ite (closeBlock hq) (of_ite (closeBlock (setDir hq)) (setDir hq))
  · exact hq

theorem fillBlock {n : Nat} (hq : d.Awaits W) : (d.fillBlock n).Awaits W :=
  of_ite (each (fun _ _ hq => fillBlock1 hq) hq) hq

theorem breakBlock {n : Nat} (hq : d.Awaits W) : (d.breakBlock n).Awaits W := of_ite (modDir (closeBlock hq)) hq

theorem refill {n : Nat} (hq : d.Awaits W) : (d.refill n).Awaits W := of_ite (setDir hq) hq

theorem setNp {k : Nat} {x : NpMon} (hq : d.Awaits W) : (d.setNp k x).Awaits W := parts hq

theorem bindNp (hq : d.Awaits W) : d.bindNp.Awaits W := each (fun _ _ hq => put (put (put hq))) hq

theorem npIndicate {k cause : Nat} (hq : d.Awaits W) : (d.npIndicate k cause).Awaits W :=
  of_ite (put (put (put (setNp (of_ite (modDir hq) hq))))) (happen (put (put (put (setNp (of_ite (modDir hq) hq))))))

theorem npRelock {n : Nat} (hq : d.Awaits W) : (d.npRelock n).Awaits W :=
  each (fun _ _ hq => of_ite (npIndicate hq) (put (setNp hq))) hq

theorem npStop {n : Nat} (hq : d.Awaits W) : (d.npStop n).Awaits W := each (fun _ _ hq => put (setNp hq)) hq

theorem npUnmute {k : Nat} (hq : d.Awaits W) : (d.npUnmute k).Awaits W := of_ite (happen (put (setNp hq))) hq

theorem npTick {k : Nat} (hq : d.Awaits W) : (d.npTick k).Awaits W :=
  of_ite hq (of_ite (of_ite (put (setNp hq)) hq) (of_ite (setNp hq) hq))

theorem subCount {w : Nat} (hq : d.Awaits W) : (d.subCount w).Awaits W :=
  of_ite (inc (of_ite hq (happen (inc hq)))) (of_ite hq (happen (inc hq)))

theorem npPair {k a b : Nat} (hq : d.Awaits W) : (d.npPair k a b).1.Awaits W := by
  unfold Dev.npPair
  extract_lets x pos vm
  split
  split
  extract_lets d2 d3
  have h2 : d2.Awaits W := setNp (subCount (subCount hq))
  have h3 : d3.Awaits W := of_ite (npIndicate h2) (of_ite (npIndicate h2) h2)
  exact of_ite_fst h3 h3

theorem setAsrc {g : Nat} {x : Asrc} (hq : d.Awaits W) : (d.setAsrc g x).Awaits W := parts hq

theorem bindAsrc (hq : d.Awaits W) : d.bindAsrc.Awaits W :=
  foldl_snd (fun _ _ hacc => put (put (put hacc))) hq

theorem asrcTry {g : Nat} (hq : d.Awaits W) : (d.asrcTry g).Awaits W := of_ite hq (of_ite (inc (put hq)) (put hq))

theorem asrcUnlock {g : Nat} (hq : d.Awaits W) : (d.asrcUnlock g).Awaits W := of_ite (happenAt hq) hq

theorem asrcLand {g dest : Nat} (hq : d.Awaits W) : (d.asrcLand g dest).Awaits W :=
  of_ite (setAsrc (put hq)) (asrcTry (setAsrc (put hq)))

theorem asrcFadeOut {g dest : Nat} (hq : d.Awaits W) : (d.asrcFadeOut g dest).Awaits W :=
  of_ite hq (of_ite (of_ite hq (setAsrc hq)) (setAsrc (put (inc (put (asrcUnlock hq))))))

theorem asrcStop {g : Nat} (hq : d.Awaits W) : (d.asrcStop g).Awaits W := asrcFadeOut hq

theorem asrcRate {g : Nat} (hq : d.Awaits W) : (d.asrcRate g).Awaits W :=
  of_ite (of_ite (inc (put hq)) hq) (of_ite (asrcTry hq) (asrcFadeOut hq))

theorem asrcHold {g : Nat} (hq : d.Awaits W) : (d.asrcHold g).Awaits W := of_ite (inc (put (asrcUnlock hq))) hq

theorem asrcRegain {g : Nat} (hq : d.Awaits W) : (d.asrcRegain g).Awaits W := of_ite (put hq) hq

theorem asrcAcquired {g : Nat} (hq : d.Awaits W) : (d.asrcAcquired g).Awaits W := of_ite (put (put hq)) hq

theorem asrcFadeDone {g : Nat} (hq : d.Awaits W) : (d.asrcFadeDone g).Awaits W :=
  of_ite (happenAt (put hq)) (of_ite (asrcLand hq) hq)

theorem asrcHoldTimeout {g : Nat} (hq : d.Awaits W) : (d.asrcHoldTimeout g).Awaits W := of_ite (asrcLand hq) hq

theorem asrcTick {g : Nat} (hq : d.Awaits W) : (d.asrcTick g).Awaits W := of_ite (setAsrc hq) (of_ite (setAsrc hq) hq)

theorem asrcFreeze {g : Nat} (hq : d.Awaits W) : (d.asrcFreeze g).Awaits W := setAsrc hq

theorem asrcThaw {g : Nat} (hq : d.Awaits W) : (d.asrcThaw g).Awaits W :=
  of_ite hq (of_ite (setAsrc (of_ite hq (inc (put (asrcUnlock hq))))) (asrcLand hq))

theorem setRmon {m : Nat} {x : Rmon} (hq : d.Awaits W) : (d.setRmon m x).Awaits W := parts hq

theorem rmonShow {m : Nat} (hq : d.Awaits W) : (d.rmonShow m).Awaits W := by
  unfold Dev.rmonShow
  split
  · exact put (put hq)
  · exact of_ite (put (put (put (setRmon hq)))) (of_ite (put (put (put (setRmon hq)))) hq)

theorem dirIdle {n : Nat} {tx : Bool} (hq : d.Awaits W) : (d.dirIdle n tx).Awaits W :=
  rmonShow (setLock (setDirSt (setDir hq)))

theorem dirStopped {n : Nat} {tx : Bool} (hq : d.Awaits W) : (d.dirStopped n tx).Awaits W := portEv (dirIdle hq)

theorem dirLock {n : Nat} {tx : Bool} (hq : d.Awaits W) : (d.dirLock n tx).Awaits W :=
  of_ite (setDirSt (setDir (setLock hq))) (of_ite (of_ite (portEv (modDir (setDirSt (setDir (setLock hq))))) (setDirSt
    (setDir (setLock hq)))) (setDirSt (setDir (setLock hq))))

theorem portStop {n : Nat} {tx : Bool} (hq : d.Awaits W) : (d.portStop n tx).Awaits W := by
  unfold Dev.portStop
  refine of_ite hq ?_
  extract_lets x d1 d2 st _ left d3
  have h1 : d1.Awaits W := asrcStop (put hq)
  have h2 : d2.Awaits W := of_ite h1 (npStop h1)
  have h3 : d3.Awaits W := setDir h2
  exact of_ite (setDir h2) (of_ite (dirStopped h2) (of_ite (dirStopped h2) (of_ite (of_ite (dirStopped h3) (setDirSt
    h3)) h2)))

theorem portClr {n : Nat} (hq : d.Awaits W) : (d.portClr n).Awaits W := each (fun _ _ hq => wr hq) hq

theorem portSamples {n : Nat} {ws : List Nat} (hq : d.Awaits W) : (d.portSamples n ws).1.Awaits W := by
  refine foldl_fst (fun acc j hacc => ?_) hq
  dsimp only
  split
  · exact npPair hacc
  · exact hacc

theorem frameIn {n : Nat} {slots : List Int} (hq : d.Awaits W) : (d.frameIn n slots).Awaits W :=
  of_ite (modDir (portCount hq)) (asrcRegain (fillBlock (setDir hq)))

theorem frameDone {n : Nat} {slots : List Int} (hq : d.Awaits W) : (d.frameDone n slots).Awaits W := by
  unfold Dev.frameDone
  extract_lets x st d1
  have h1 : d1.Awaits W :=
    of_ite (of_ite (cond (fun hq => portEv hq) (setDirSt (setDir hq))) (setDir hq))
      (of_ite (of_ite (dirStopped hq) (setDir hq)) (of_ite (frameIn hq) hq))
  exact modDir h1

theorem portFrame {n : Nat} {ws : List Nat} (hq : d.Awaits W) : (d.portFrame n ws).Awaits W := by
  refine of_ite hq (of_ite ?_ (frameDone (incWrap hq)))
  exact frameDone (portSamples (incWrap hq))

theorem dirUnframe {n : Nat} {tx : Bool} (hq : d.Awaits W) : (d.dirUnframe n tx).Awaits W := by
  unfold Dev.dirUnframe
  extract_lets st d1 pin d2 d3 d4
  have h3 : d3.Awaits W := setLock (modDir (of_ite hq (breakBlock hq)))
  have h4 : d4.Awaits W := of_ite (setDirSt h3) h3
  exact asrcHold (of_ite h4 (npRelock h4))

theorem fsEdge {pair bits : Nat} (hq : d.Awaits W) : (d.fsEdge pair bits).Awaits W :=
  of_ite hq (each (fun _ _ hq => of_ite (of_ite hq (dirUnframe hq)) (of_ite (of_ite (setDir hq) (of_ite (asrcTry
    (dirLock (setDir hq))) (setLock (setDir hq)))) (setDir hq))) (of_ite (parts (portCount hq)) hq))

theorem csCopy {reg : Nat → Nat} {cs : Nat} {prev : Option Nat} (hq : d.Awaits W) : (d.csCopy reg cs prev).Awaits W :=
  of_ite (cond (fun hq => happen hq) (each (fun _ _ hq => wr hq) hq)) hq

theorem csFrame {f : SpdifIn} (hq : d.Awaits W) : (d.csFrame f).Awaits W :=
  of_ite hq (of_ite (parts (csCopy (csCopy hq))) (parts hq))

theorem spdifSamples {f : SpdifIn} (hq : d.Awaits W) : (d.spdifSamples f).1.Awaits W := by
  unfold Dev.spdifSamples
  dsimp only
  split
  · exact parts (subCount (subCount hq))
  · exact of_ite (npIndicate (parts (subCount (subCount hq)))) (of_ite (npIndicate (parts (subCount (subCount hq))))
      (parts (subCount (subCount hq))))

theorem spdifFrame {f : SpdifIn} (hq : d.Awaits W) : (d.spdifFrame f).Awaits W := by
  unfold Dev.spdifFrame
  extract_lets st order s zBad locked pos _ d1 d2 d3 d4 _ d5 x d6
  have h1 : d1.Awaits W := parts hq
  have h3 : d3.Awaits W := csFrame (of_ite (put h1) h1)
  have h5 : d5.Awaits W := parts (dirUnframe (portCount h1))
  have h6 : d6.Awaits W := setDir h1
  have framed : (match d3.spdifSamples f with | (d, xs) => d.frameDone 6 xs).Awaits W := frameDone (spdifSamples h3)
  exact of_ite hq (of_ite (of_ite framed (of_ite (put h5) h5))
    (of_ite (of_ite h6 (of_ite (asrcTry (dirLock h6)) (setLock h6))) (setDir h1)))

theorem txFrame {xs : Option (List Int)} (hq : d.Awaits W) : (d.txFrame xs).Awaits W := by
  unfold Dev.txFrame
  exact modDir (parts hq)

theorem sendFrame {n mask : Nat} {xs : Option (List Int)} (hq : d.Awaits W) : (d.sendFrame n mask xs).Awaits W :=
  of_ite (txFrame hq) (modDir hq)

theorem convFrame {n : Nat} (hq : d.Awaits W) : (d.convFrame n).Awaits W := of_ite (parts (setDir hq)) hq

theorem realFrame {n : Nat} (hq : d.Awaits W) : (d.realFrame n).Awaits W := by
  unfold Dev.realFrame
  dsimp only
  split
  · exact sendFrame (refill (convFrame hq))
  · split
    · split
      · exact refill (sendFrame (setDir (refill (convFrame hq))))
      · exact sendFrame (portCount (refill (convFrame hq)))
    · exact sendFrame (refill (convFrame hq))

theorem pinStart {n : Nat} (hq : d.Awaits W) : (d.pinStart n).Awaits W := by
  unfold Dev.pinStart
  extract_lets st0 _ _ d1 d2 x _ d3 y st d4 d5
  have h2 : d2.Awaits W := of_ite (asrcTry (dirLock (of_ite (parts hq) hq))) hq
  have h3 : d3.Awaits W := of_ite (setDirSt (setDir h2)) h2
  have h4 : d4.Awaits W := of_ite h3 (incWrap h3)
  have h5 : d5.Awaits W := cond (fun hq => portEv hq) (setDirSt h4)
  exact of_ite hq (of_ite (dirStopped h3) (of_ite (sendFrame (setDir h4)) (of_ite (sendFrame (setDir h4))
    (of_ite (realFrame (modDir h5)) (of_ite (realFrame h4) (of_ite (sendFrame h4) h4))))))

theorem portLatch {n p : Nat} (hq : d.Awaits W) : (d.portLatch n p).1.Awaits W := by
  unfold Dev.portLatch
  extract_lets st x g mask masked d1 d2
  have h2 : d2.Awaits W := asrcTick (of_ite (setDir hq) hq)
  split
  · exact hq
  · split
    · split
      · exact h2
      · exact parts h2
    · split
      · exact hq
      · split
        · split
          · exact setDir hq
          · split
            · exact portCount hq
            · exact hq
        · split
          · exact portCount hq
          · exact hq

theorem portHand {n p : Nat} (hq : d.Awaits W) : (d.portHand n p).Awaits W :=
  of_ite (asrcTick hq) (of_ite hq (of_ite (portCount hq) (setDir hq)))

theorem portBoundary {n : Nat} (hq : d.Awaits W) : (d.portBoundary n).Awaits W :=
  of_ite hq (of_ite (asrcTry (dirLock hq)) (of_ite (of_ite (setDirSt (modDir (breakBlock hq))) (dirStopped (modDir
    (breakBlock hq)))) hq))

theorem maskCommit {n : Nat} (hq : d.Awaits W) : (d.maskCommit n).Awaits W := happen hq

theorem dirFallback {n : Nat} {tx : Bool} (hq : d.Awaits W) : (d.dirFallback n tx).Awaits W :=
  of_ite hq (of_ite (dirStopped hq) (of_ite hq (setDirSt (modDir (of_ite (setLock (of_ite hq (breakBlock hq))) (of_ite
    hq (breakBlock hq)))))))

theorem dirRestart {n : Nat} {tx : Bool} (hq : d.Awaits W) : (d.dirRestart n tx).Awaits W :=
  of_ite hq (of_ite (setDirSt (modDir (portRestartEv hq))) (of_ite (setDirSt (modDir (portRestartEv hq))) (setDirSt
    (portRestartEv hq))))

theorem portsFallback (hq : d.Awaits W) : d.portsFallback.Awaits W :=
  each (fun _ _ hq => asrcFreeze hq) (each (fun _ _ hq => dirFallback hq) hq)

theorem portsRestart (hq : d.Awaits W) : d.portsRestart.Awaits W :=
  each (fun _ _ hq => asrcThaw hq) (each (fun _ _ hq => dirRestart hq) hq)

theorem portsStop (hq : d.Awaits W) : d.portsStop.Awaits W := each (fun _ _ hq => portStop hq) hq

theorem portsRole (hq : d.Awaits W) : d.portsRole.Awaits W := flag (each (fun _ _ hq => flag hq) hq)

theorem rmonTrack {m : Nat} {x : Rmon} (hq : d.Awaits W) : (d.rmonTrack m x).Awaits W := put (put (put (setRmon hq)))

theorem rmonStop {m : Nat} (hq : d.Awaits W) : (d.rmonStop m).Awaits W :=
  of_ite hq (each (fun _ _ hq => asrcStop hq) (each (fun _ _ hq => npRelock hq) (put (put (put (setRmon (happenAt (inc
    hq))))))))

theorem rmonRate {m : Nat} (hq : d.Awaits W) : (d.rmonRate m).Awaits W :=
  each (fun _ _ hq => asrcRate hq) (each (fun _ _ hq => npRelock hq) (happenAt (inc hq)))

theorem rmonGlitch {m : Nat} (hq : d.Awaits W) : (d.rmonGlitch m).Awaits W := happenAt (inc hq)

theorem rmonAfter {m c : Nat} (hq : d.Awaits W) : (d.rmonAfter m c).Awaits W :=
  of_ite (put (setRmon hq)) (of_ite (happenAt (rmonTrack hq)) (of_ite (rmonRate (rmonTrack hq)) (rmonTrack hq)))

theorem rmonNext {m c : Nat} (hq : d.Awaits W) : (d.rmonNext m c).Awaits W :=
  of_ite (rmonTrack (of_ite (rmonGlitch hq) hq)) (of_ite (rmonRate (rmonTrack (of_ite (rmonGlitch hq) hq))) (setRmon
    (of_ite (rmonGlitch hq) hq)))

theorem rmonPeriod {m c : Nat} (hq : d.Awaits W) : (d.rmonPeriod m c).Awaits W :=
  of_ite (rmonShow hq) (each (fun _ _ hq => asrcTry hq) (of_ite (happen (of_ite (rmonAfter (rmonShow hq)) (rmonNext
    (rmonShow hq)))) (of_ite (rmonAfter (rmonShow hq)) (rmonNext (rmonShow hq)))))

theorem rmonClr {v : Word} (hq : d.Awaits W) : (d.rmonClr v).Awaits W := each (fun _ _ hq => wr hq) hq

theorem asrcClr {v : Word} (hq : d.Awaits W) : (d.asrcClr v).Awaits W := each (fun _ _ hq => wr hq) hq

/-! #### The USB audio function (chapter 11) -/

theorem modUsb {f : Usb → Usb} (hq : d.Awaits W) : (d.modUsb f).Awaits W := put (put (parts hq))

theorem usbStart {cap : Bool} (hq : d.Awaits W) : (d.usbStart cap).Awaits W := modUsb hq

theorem usbIdle (hq : d.Awaits W) : d.usbIdle.Awaits W := usbStart (usbStart (put (put hq)))

theorem usbEnd {st : Nat} (hq : d.Awaits W) : (d.usbEnd st).Awaits W := by
  unfold Dev.usbEnd
  exact modUsb (put (put (put (usbIdle hq))))

theorem usbCheck (hq : d.Awaits W) : d.usbCheck.Awaits W := of_ite (of_ite hq (usbEnd hq)) (put hq)

theorem usbConnect (hq : d.Awaits W) : d.usbConnect.Awaits W := of_ite (usbEnd (put (parts hq))) (put (parts hq))

theorem usbDisconnect {vbus : Bool} (hq : d.Awaits W) : (d.usbDisconnect vbus).Awaits W := usbCheck (flag (parts hq))

theorem usbCount {cnt ev : Fld} (hq : d.Awaits W) : (d.usbCount cnt ev).Awaits W := happen (inc hq)

theorem usbOut {bs : List Byte} (hq : d.Awaits W) : (d.usbOut bs).Awaits W :=
  of_ite hq (of_ite (usbCount hq) (of_ite (inc hq) (of_ite (usbCount (modUsb hq)) (modUsb hq))))

theorem usbIn {ep : Nat} {up : Bool} (hq : d.Awaits W) : (d.usbIn ep up).Awaits W :=
  of_ite hq (of_ite (parts hq) (of_ite (of_ite (usbCount hq) (modUsb hq)) hq))

theorem usbSof {frame micro : Nat} {meas : Int} (hq : d.Awaits W) : (d.usbSof frame micro meas).Awaits W :=
  of_ite hq (of_ite (put (put hq)) (put (put (put hq))))

theorem usbInterface {cap : Bool} {alt ch sub res : Nat} (hq : d.Awaits W) : (d.usbInterface cap alt ch sub
    res).Awaits W := of_ite hq (happen (usbStart (of_ite (put hq) (parts (put hq)))))

theorem usbStall (hq : d.Awaits W) : d.usbStall.Awaits W := viol hq

theorem usbFreq {cap : Bool} {hz : Nat} (hq : d.Awaits W) : (d.usbFreq cap hz).Awaits W := by
  unfold Dev.usbFreq
  dsimp only
  split
  · exact of_ite (happen (put (put hq))) (usbStart (happen (put (put hq))))
  · exact usbStall hq

theorem usbClass {r : UsbClassReq} (hq : d.Awaits W) : (d.usbClass r).Awaits W := by
  unfold Dev.usbClass
  split
  · exact hq
  · exact hq
  · exact hq
  · exact hq
  · exact hq
  · exact hq
  · exact hq
  · exact hq
  · exact parts hq
  · exact usbStall hq

theorem usbStd {r : UsbStdReq} (hq : d.Awaits W) : (d.usbStd r).Awaits W := by
  unfold Dev.usbStd
  dsimp only
  split
  · exact hq
  · split
    · exact of_ite hq (put (put hq))
    · exact of_ite hq (put (parts (usbIdle hq)))
    · exact flag hq
    · exact parts hq
    · exact hq

theorem usbFeature {cap : Bool} {mute : Option Bool} {vol : Option Int} (hq : d.Awaits W) :
    (d.usbFeature cap mute vol).Awaits W := by
  unfold Dev.usbFeature
  extract_lets b lo hi d1 d2
  have h1 : d1.Awaits W := by
    unfold d1
    split
    · exact flag hq
    · exact hq
  have h2 : d2.Awaits W := by
    unfold d2
    split
    · exact of_ite (put h1) (viol (put h1))
    · exact h1
  exact happen h2

theorem usbReport {v : Nat} (hq : d.Awaits W) : (d.usbReport v).Awaits W := happen (put hq)

theorem usbWakeUp {on : Fld} (hq : d.Awaits W) : (d.usbWakeUp on).Awaits W := of_ite (parts hq) hq

theorem usbSuspend (hq : d.Awaits W) : d.usbSuspend.Awaits W := of_ite (happen (put (parts hq))) hq

theorem usbResume {reset high : Bool} (hq : d.Awaits W) : (d.usbResume reset high).Awaits W :=
  of_ite hq (of_ite (happen (flag (put (usbEnd hq)))) (of_ite (put (parts hq)) hq))

theorem usbLpm (hq : d.Awaits W) : d.usbLpm.Awaits W := of_ite hq (of_ite (usbStall hq) (of_ite (put (parts hq)) hq))

theorem usbLatch (hq : d.Awaits W) : d.usbLatch.1.Awaits W := by
  unfold Dev.usbLatch
  extract_lets u code n xs d1
  have h1 : d1.Awaits W := modUsb hq
  exact of_ite_fst hq (of_ite_fst (usbCount hq) (of_ite_fst h1 (parts h1)))

theorem usbHand (hq : d.Awaits W) : d.usbHand.Awaits W :=
  of_ite hq (of_ite (usbCount hq) (of_ite (modUsb hq) (parts (modUsb hq))))

theorem usbRestart (hq : d.Awaits W) : d.usbRestart.Awaits W := usbStart (usbStart hq)

/-! #### Memories (chapter 13) -/

theorem ce {code a cw b : Nat} (hq : d.Awaits W) : (d.ce code a cw b).Awaits W := happen (wr (put (inc hq)))

theorem ue {code a cw : Nat} (hq : d.Awaits W) : (d.ue code a cw).Awaits W := happen (wr (put (inc hq)))

theorem startCopy {l kind : Nat} (hq : d.Awaits W) : (d.startCopy l kind).Awaits W := parts hq

theorem noSpare {l : Nat} (hq : d.Awaits W) : (d.noSpare l).Awaits W := by
  unfold Dev.noSpare
  split
  · split
    · exact of_ite hq (markTileFail hq)
    · exact hq
  · exact of_ite (startCopy hq) hq

theorem markRow {l : Nat} (hq : d.Awaits W) : (d.markRow l).Awaits W :=
  of_ite hq (of_ite (parts hq) (of_ite (startCopy (takeSpare (parts hq))) (noSpare (parts hq))))

theorem eccRead {code : Nat} {errs : List EccErr} {a : Nat} (hq : d.Awaits W) : (d.eccRead code errs a).Awaits W :=
  each (fun _ _ hq => (by split; exacts [of_ite (markRow (parts (ce hq))) (parts (ce hq)), ue hq])) (parts hq)

theorem eccSpan {code : Nat} {errs : List EccErr} {a n : Nat} (hq : d.Awaits W) : (d.eccSpan code errs a n).Awaits W
    := each (fun _ _ hq => eccRead hq) hq

theorem eccWrite {code : Nat} {errs : List EccErr} {a n : Nat} (hq : d.Awaits W) : (d.eccWrite code errs a n).1.Awaits
    W := by
  unfold Dev.eccWrite
  dsimp only
  split
  · exact hq
  · exact each (fun _ _ hq => (by split; exacts [ce hq, ue hq])) hq

theorem eccWriteback {a : Nat} (hq : d.Awaits W) : (d.eccWriteback a).Awaits W := of_ite (parts hq) hq

theorem scrubRead {a : Nat} {errs : List EccErr} (hq : d.Awaits W) : (d.scrubRead a errs).Awaits W :=
  of_ite (eccRead hq) hq

theorem copyDone {l kind : Nat} (hq : d.Awaits W) : (d.copyDone l kind).Awaits W := of_ite (softRepair (parts hq)) hq

theorem remap (hq : d.Awaits W) : d.remap.Awaits W :=
  each (fun _ _ hq => of_ite (parts hq) (happen (parts hq))) (parts hq)

theorem bankFrame {b busy : Nat} {starved : Bool} (hq : d.Awaits W) : (d.bankFrame b busy starved).Awaits W :=
  of_ite (happen (inc (put hq))) (put hq)

theorem memCtrl {v : Word} (hq : d.Awaits W) : (d.memCtrl v).Awaits W :=
  of_ite (wr (of_ite (each (fun _ _ hq => put hq) hq) hq)) (of_ite (each (fun _ _ hq => put hq) hq) hq)

theorem wipeDone (hq : d.Awaits W) : d.wipeDone.Awaits W := happen (inc (put hq))

/-! #### The Wokin link (chapter 16) -/

theorem setLport {p : Nat} {x : LPort} (hq : d.Awaits W) : (d.setLport p x).Awaits W := parts hq

theorem modLport {p : Nat} {f : LPort → LPort} (hq : d.Awaits W) : (d.modLport p f).Awaits W := setLport hq

theorem setLinkSt {st : Nat} (hq : d.Awaits W) : (d.setLinkSt st).Awaits W := put hq

theorem setLportSt {p st : Nat} (hq : d.Awaits W) : (d.setLportSt p st).Awaits W := put hq

theorem mapCheck {p : Nat} (hq : d.Awaits W) : (d.mapCheck p).Awaits W := of_ite (happen (flag hq)) (flag hq)

theorem upHeader {h : List Byte} {downB : Bool} (hq : d.Awaits W) : (d.upHeader h downB).Awaits W := by
  unfold Dev.upHeader
  extract_lets rate ph path d1 d2 d3
  have h2 : d2.Awaits W := put (put (put hq))
  have h3 : d3.Awaits W := of_ite (setLinkSt h2) h2
  exact of_ite (of_ite h2 (happen (setLinkSt h2))) (of_ite (parts h3) (of_ite (parts h3) h3))

theorem goodHeader {p : Nat} {f : LinkIn} (hq : d.Awaits W) : (d.goodHeader p f).Awaits W := by
  unfold Dev.goodHeader
  extract_lets h flags x good d1 d2 d3 d4 d5 near d6 d7
  have h5 : d5.Awaits W := mapCheck (put (put (put (put (setLport hq)))))
  have h6 : d6.Awaits W := of_ite (setLportSt h5) h5
  have h7 : d7.Awaits W := of_ite (setLportSt h6) h6
  exact of_ite (upHeader h7) h7

theorem slotTake {p m : Nat} {e : SlotIn} (hq : d.Awaits W) : (d.slotTake p m e).Awaits W :=
  parts (modLport (of_ite (inc hq) hq))

theorem linkFrame {p : Nat} {f : LinkIn} (hq : d.Awaits W) : (d.linkFrame p f).Awaits W :=
  of_ite hq (of_ite (each (fun _ _ hq => slotTake hq) (of_ite (goodHeader hq) (modLport (inc hq)))) (of_ite
    (goodHeader hq) (modLport (inc hq))))

theorem linkLatch {n : Nat} (hq : d.Awaits W) : (d.linkLatch n).1.Awaits W := by
  unfold Dev.linkLatch
  dsimp only
  split
  · exact hq
  · exact of_ite (happen (inc (parts hq))) (parts hq)

theorem linkHand {n : Nat} (hq : d.Awaits W) : (d.linkHand n).Awaits W := of_ite hq (parts hq)

theorem dropMsg (hq : d.Awaits W) : d.dropMsg.Awaits W := inc hq

theorem queueMsg {p : Nat} {m : Msg} (hq : d.Awaits W) : (d.queueMsg p m).Awaits W :=
  of_ite hq (of_ite (dropMsg hq) (modLport hq))

theorem forward {ps : List Nat} {m : Msg} (hq : d.Awaits W) : (d.forward ps m).Awaits W :=
  of_ite hq (of_ite (dropMsg hq) (each (fun _ _ hq => queueMsg hq) hq))

theorem checkMsg {p : Nat} {m : Msg} (hq : d.Awaits W) : (d.checkMsg p m).1.Awaits W := by
  unfold Dev.checkMsg
  extract_lets ty auth
  have hauth : auth.Awaits W := viol (inc hq)
  exact of_ite_fst (inc hq) (of_ite_fst hauth (of_ite_fst hauth (of_ite_fst (dropMsg hq) hq)))

theorem arrive {ty p : Nat} {m : Msg} (hq : d.Awaits W) : (d.arrive ty p m).1.Awaits W := by
  unfold Dev.arrive
  dsimp only
  split
  · exact hq
  · split
    · exact checkMsg hq
    · exact forward (checkMsg hq)

theorem showRx (hq : d.Awaits W) : d.showRx.Awaits W := put (each (fun _ _ hq => put hq) hq)

theorem deliver {m : Msg} (hq : d.Awaits W) : (d.deliver m).Awaits W :=
  of_ite (dropMsg hq) (happen (showRx (parts hq)))

theorem enterJoined (hq : d.Awaits W) : d.enterJoined.Awaits W := queueMsg (happen (setLinkSt hq))

theorem linkApp {p : Nat} {m : Msg} (hq : d.Awaits W) : (d.linkApp p m).Awaits W :=
  of_ite (deliver (arrive hq)) (arrive hq)

theorem linkAssign {p : Nat} {m : Msg} (hq : d.Awaits W) : (d.linkAssign p m).Awaits W :=
  of_ite (queueMsg (put (put (arrive hq)))) (arrive hq)

theorem linkJoin {p : Nat} {m : Msg} (hq : d.Awaits W) : (d.linkJoin p m).Awaits W :=
  of_ite (deliver (arrive hq)) (arrive hq)

theorem linkResetMsg {p : Nat} {m : Msg} (hq : d.Awaits W) : (d.linkResetMsg p m).1.Awaits W := by
  unfold Dev.linkResetMsg
  dsimp only
  split
  · split
    · exact arrive hq
    · exact dropMsg (arrive hq)
  · exact arrive hq

theorem linkClr (hq : d.Awaits W) : d.linkClr.Awaits W := each (fun _ _ hq => wr hq) (wr (wr hq))

theorem portAcquire {p : Nat} (hq : d.Awaits W) : (d.portAcquire p).Awaits W :=
  of_ite (of_ite (setLinkSt (setLportSt (setLport hq))) (setLportSt (setLport hq))) hq

theorem portIdle {p : Nat} (hq : d.Awaits W) : (d.portIdle p).Awaits W := setLportSt (setLport hq)

theorem squelch {p : Nat} (hq : d.Awaits W) : (d.squelch p).Awaits W := of_ite (portAcquire (happen hq)) hq

theorem rootLoss (hq : d.Awaits W) : d.rootLoss.Awaits W :=
  of_ite hq (of_ite (setLinkSt (modLport (of_ite (setLportSt (parts (happen (put hq)))) (parts (happen (put hq))))))
    (parts (happen (put hq))))

theorem rangingDone {same : Bool} (hq : d.Awaits W) : (d.rangingDone same).Awaits W :=
  of_ite hq (of_ite (enterJoined (put (put (parts hq)))) (of_ite (of_ite (setLinkSt (put (parts hq))) (setLinkSt (put
    (parts (inc (happen hq)))))) hq))

theorem startRanging (hq : d.Awaits W) : d.startRanging.Awaits W := of_ite (setLinkSt (parts hq)) hq

theorem linkUnframe (hq : d.Awaits W) : d.linkUnframe.Awaits W :=
  each (fun _ _ hq => of_ite (setLportSt (modLport hq)) hq) hq

theorem linkTick (hq : d.Awaits W) : d.linkTick.Awaits W :=
  each (fun _ _ hq => of_ite hq (of_ite (portIdle (setLport hq)) (of_ite (happen (portIdle (setLport hq))) (of_ite
    (setLportSt (modLport (setLport hq))) (setLport hq))))) (of_ite (setLinkSt (parts hq)) (parts hq))

theorem linkStart (hq : d.Awaits W) : d.linkStart.Awaits W :=
  of_ite hq (each (fun _ _ hq => of_ite (of_ite (portAcquire hq) hq) hq) (setLinkSt (of_ite hq (put (put hq)))))

/-! #### Twin operation (chapter 17) -/

theorem modHinge {f : Hinge → Hinge} (hq : d.Awaits W) : (d.modHinge f).Awaits W := parts hq

theorem roleEffects {was : Bool} (hq : d.Awaits W) : (d.roleEffects was).Awaits W :=
  usbCheck (portsRole (each (fun _ _ hq => pdmRole hq) (showMicb (of_ite (releaseOuts hq) hq))))

theorem setRole {r : Nat} (hq : d.Awaits W) : (d.setRole r).Awaits W :=
  roleEffects (flag (flag (of_ite (of_ite (put hq) (modHinge (put (put hq)))) (put (of_ite (put hq) (modHinge (put
    (put hq))))))))

theorem refusePair {code : Nat} (hq : d.Awaits W) : (d.refusePair code).Awaits W := happen (inc (put hq))

theorem beginSync (hq : d.Awaits W) : d.beginSync.Awaits W := modHinge hq

theorem pairFresh (hq : d.Awaits W) : d.pairFresh.Awaits W := by
  unfold Dev.pairFresh
  dsimp only
  split
  · exact refusePair (modHinge hq)
  · split
    · exact of_ite (refusePair (modHinge hq)) (setRole (refusePair (modHinge hq)))
    · exact of_ite (beginSync (setRole (modHinge hq))) (beginSync (modHinge hq))

theorem pairDecide (hq : d.Awaits W) : d.pairDecide.Awaits W :=
  of_ite hq (of_ite (setRole hq) (of_ite (of_ite (pairFresh hq) (setRole hq)) (modHinge hq)))

theorem pairWaitExpire (hq : d.Awaits W) : d.pairWaitExpire.Awaits W := pairDecide hq

theorem twinStart (hq : d.Awaits W) : d.twinStart.Awaits W :=
  of_ite (modHinge (put (setRole (modHinge (flag hq))))) (setRole (modHinge (flag hq)))

theorem lockstep {pass : Nat} {theirs : List Nat} (hq : d.Awaits W) : (d.lockstep pass theirs).Awaits W := by
  unfold Dev.lockstep
  dsimp only
  split
  · exact hq
  · exact of_ite (put hq) (of_ite (happen (inc (inc (put hq)))) (inc (inc (put hq))))

theorem lockCrcs {pass : Nat} (hq : d.Awaits W) : (d.lockCrcs pass).Awaits W := of_ite hq (modHinge hq)

theorem resync (hq : d.Awaits W) : d.resync.Awaits W := inc (happen (beginSync hq))

theorem takeBatch {seq eff : Nat} {es : List (Nat × Word)} (hq : d.Awaits W) : (d.takeBatch seq eff es).Awaits W :=
  of_ite hq (of_ite (resync (modHinge hq)) (modHinge hq))

theorem hingeFrame {f : HingeIn} (hq : d.Awaits W) : (d.hingeFrame f).Awaits W := by
  unfold Dev.hingeFrame
  refine of_ite hq (of_ite (inc hq) ?_)
  extract_lets framed d1 d2 d3 d4 d5 d6 d7 d8 d9 d10 d11
  have h2 : d2.Awaits W := modHinge (put (flag hq))
  have h3 : d3.Awaits W := by
    unfold d3
    split
    · exact modHinge h2
    · exact h2
  have h4 : d4.Awaits W := by
    unfold d4
    split
    · exact put (modHinge h3)
    · exact h3
  have h6 : d6.Awaits W := of_ite (modHinge (put (put h4))) (put h4)
  have h7 : d7.Awaits W := of_ite h6 (lockstep h6)
  have h8 : d8.Awaits W := by
    unfold d8
    split
    · exact takeBatch h7
    · exact h7
  have h9 : d9.Awaits W := of_ite (each (fun _ _ hq => wr hq) h8) h8
  have h10 : d10.Awaits W := each (fun _ _ hq => put (put hq)) h9
  have h11 : d11.Awaits W := of_ite (pairDecide h10) h10
  exact of_ite (beginSync h11) h11

theorem syncTimeout (hq : d.Awaits W) : d.syncTimeout.Awaits W := of_ite (modHinge (put (refusePair hq))) hq

theorem deadman (hq : d.Awaits W) : d.deadman.Awaits W := of_ite (happen (put (put (setRole hq)))) hq

theorem partnerLost (hq : d.Awaits W) : d.partnerLost.Awaits W := of_ite (happen (put (put (put hq)))) hq

theorem mirror {a : Nat} {v : Word} (hq : d.Awaits W) : (d.mirror a v).Awaits W := by
  unfold Dev.mirror
  exact modHinge hq

theorem hingeTick (hq : d.Awaits W) : d.hingeTick.Awaits W :=
  of_ite hq (of_ite (put (put (modHinge hq))) (modHinge hq))

theorem dueMirrors {n : Nat} (hq : d.Awaits W) : (d.dueMirrors n).1.Awaits W := by
  unfold Dev.dueMirrors
  dsimp only
  exact modHinge hq

theorem hingeUnframe (hq : d.Awaits W) : d.hingeUnframe.Awaits W := of_ite (modHinge hq) hq

/-! #### The clock root (chapter 03) -/

theorem enterFallback (hq : d.Awaits W) : d.enterFallback.Awaits W :=
  of_ite hq (hingeUnframe (linkUnframe (portsFallback (outFallback (put (modClk rfl hq))))))

theorem acquire {cause : Nat} (hst : d.pwr.staged = W.words) : (d.acquire cause).Awaits W := by
  unfold Dev.acquire
  extract_lets run d1 d2 d3
  have h3 : d3.pwr.staged = W.words := by
    unfold d3 d2 d1
    split <;> simp [hst]
  exact enterFallback (modClk_ended rfl h3)

theorem lockLoss {cause : Nat} (hq : d.Awaits W) : (d.lockLoss cause).Awaits W :=
  acquire (happen hq).words

theorem switchRef (hq : d.Awaits W) : d.switchRef.Awaits W := happen (flag (put hq))

theorem enterHoldover (hq : d.Awaits W) : d.enterHoldover.Awaits W := modClk rfl (put (put hq))

theorem bandDone {band : Nat} (hq : d.Awaits W) : (d.bandDone band).Awaits W := of_ite (modClk rfl (put hq)) hq

theorem pllLock {fref : Nat} (hq : d.Awaits W) : (d.pllLock fref).Awaits W := of_ite (modClk rfl (put hq)) hq

theorem acqTimeout (hq : d.Awaits W) : d.acqTimeout.Awaits W := of_ite (modClk rfl (put (happen (inc hq)))) hq

theorem switchBack (hq : d.Awaits W) : d.switchBack.Awaits W :=
  startRanging (usbRestart (portsRestart (outSwitchBack (modClk rfl (put hq)))))

theorem phaseFreeze (hq : d.Awaits W) : d.phaseFreeze.Awaits W := of_ite (modClk rfl hq) hq

theorem freezeDecision {phaseOk near : Bool} (hq : d.Awaits W) : (d.freezeDecision phaseOk near).Awaits W := by
  have h1 {f : Bool} : (d.modClk (fun c => { c with frozen := f })).Awaits W := modClk rfl hq
  exact of_ite hq (of_ite (happen h1) (of_ite (switchRef h1) (of_ite (enterHoldover h1) (lockLoss h1))))

theorem refLost {r : Nat} (hq : d.Awaits W) : (d.refLost r).Awaits W := of_ite (happen (modClk rfl hq)) hq

theorem refReturned {r : Nat} {near : Bool} (hq : d.Awaits W) : (d.refReturned r near).Awaits W := by
  have h1 {v : Nat} : ((d.modClk (fun c => { c with valid := orBit c.valid v })).happen
    Fld.clkEventsRefReturned).Awaits W :=
    happen (modClk rfl hq)
  exact of_ite hq (of_ite (of_ite (flag (put (put (put h1)))) (lockLoss h1)) h1)

theorem refmonRefresh {count : Nat} (hq : d.Awaits W) : (d.refmonRefresh count).Awaits W := flag (flag (put hq))

theorem pllOff (hq : d.Awaits W) : d.pllOff.Awaits W := enterFallback (modClk rfl (put (put (put (put hq)))))

theorem linkRangingDone {same : Bool} (hq : d.Awaits W) : (d.linkRangingDone same).Awaits W :=
  of_ite (acquire (parts (rangingDone hq)).words) (rangingDone hq)

/-! #### Jacks, headsets and buttons (chapter 08) -/

theorem modHs {h : Nat} {f : Hs → Hs} (hq : d.Awaits W) : (d.modHs h f).Awaits W := parts hq

theorem jackMutes (hq : d.Awaits W) : d.jackMutes.Awaits W := each (fun _ _ hq => setMute hq) hq

theorem dropDecode {h : Nat} (hq : d.Awaits W) : (d.dropDecode h).Awaits W := modHs hq

theorem jackRaw {k : Nat} {high : Bool} (hq : d.Awaits W) : (d.jackRaw k high).Awaits W :=
  of_ite (putBit hq) (dropDecode (putBit hq))

theorem hsBias {h : Nat} {b : Bool} (hq : d.Awaits W) : (d.hsBias h b).Awaits W := showMicb (parts hq)

theorem hsStart {h : Nat} (hq : d.Awaits W) : (d.hsStart h).Awaits W :=
  of_ite hq (of_ite (put hq) (of_ite (put hq) (hsBias (dropDecode (modHs (put hq))))))

theorem hsEnd {h ty : Nat} (hq : d.Awaits W) : (d.hsEnd h ty).Awaits W := happenAt (hsBias (modHs (put (put hq))))

theorem hsAbort {h : Nat} (hq : d.Awaits W) : (d.hsAbort h).Awaits W := of_ite (hsEnd hq) hq

theorem hsSettleEnd {h : Nat} (hq : d.Awaits W) : (d.hsSettleEnd h).Awaits W := of_ite (modHs hq) hq

theorem hsDetectDone {h z : Nat} (hq : d.Awaits W) : (d.hsDetectDone h z).Awaits W := of_ite (hsEnd (put hq)) hq

theorem hsReport {h b : Nat} (hq : d.Awaits W) : (d.hsReport h b).Awaits W :=
  of_ite (of_ite (happenAt (put hq)) hq) (of_ite hq (happenAt (put (put (of_ite (happenAt hq) hq)))))

theorem buttonSample {h level : Nat} {reached : Bool} (hq : d.Awaits W) : (d.buttonSample h level reached).Awaits W :=
  of_ite (dropDecode hq) (of_ite (hsReport (modHs (put hq))) (modHs (put hq)))

theorem hsRemoved {k : Nat} (hq : d.Awaits W) : (d.hsRemoved k).Awaits W := dropDecode (hsReport (hsAbort hq))

theorem jackDebounced {k : Nat} (hq : d.Awaits W) : (d.jackDebounced k).1.Awaits W := by
  unfold Dev.jackDebounced
  extract_lets ins d1 d2 d3 d4
  have h1 : d1.Awaits W := putBit hq
  have h3 : d3.Awaits W := jackMutes (of_ite (happenAt h1) (happenAt h1))
  have h4 : d4.Awaits W := of_ite (of_ite (hsStart h3) h3) (hsRemoved h3)
  split
  · exact hq
  · exact h4

theorem jdWrite {ag : Agent} {k : Nat} {v : Word} (hq : d.Awaits W) : (d.jdWrite ag k v).Awaits W :=
  jackMutes (of_ite (of_ite (viol (wr hq)) (wr hq)) (dropBit (of_ite (viol (wr hq)) (wr hq))))

theorem jdMuteWrite {k : Nat} {v : Word} (hq : d.Awaits W) : (d.jdMuteWrite k v).Awaits W := jackMutes (wr hq)

theorem btnCfg {ag : Agent} {h : Nat} {v : Word} (hq : d.Awaits W) : (d.btnCfg ag h v).Awaits W :=
  of_ite (wr hq) (viol (wr hq))

/-! #### Supplies, temperature and the watchdog (chapter 19) -/

theorem modPins {f : Pins → Pins} (hq : d.Awaits W) : (d.modPins f).Awaits W := parts hq

theorem supplyMutes (hq : d.Awaits W) : d.supplyMutes.Awaits W := each (fun _ _ hq => setMute hq) hq

theorem showSupply {i mv : Nat} (hq : d.Awaits W) : (d.showSupply i mv).Awaits W := by
  unfold Dev.showSupply
  split
  · exact put hq
  · exact put hq
  · exact put hq
  · exact put hq

theorem supplyWarning {i mv : Nat} (hq : d.Awaits W) : (d.supplyWarning i mv).Awaits W :=
  of_ite (showSupply hq) (supplyMutes (setBit (inc (happenAt (setBit (modPins (showSupply hq)))))))

theorem supplyRecover {i mv : Nat} (hq : d.Awaits W) : (d.supplyRecover i mv).Awaits W :=
  of_ite (showSupply hq) (of_ite (modPwr rfl (dropBit (modPins (showSupply hq)))) (of_ite (supplyMutes (dropBit
    (happenAt (dropBit (modPins (showSupply hq)))))) (happenAt (dropBit (modPins (showSupply hq))))))

theorem showTemp {k : Nat} {t : Int} (hq : d.Awaits W) : (d.showTemp k t).Awaits W := by
  unfold Dev.showTemp
  split
  · exact put hq
  · exact put hq
  · exact put hq

theorem thermalWarning {k : Nat} {t : Int} (hq : d.Awaits W) : (d.thermalWarning k t).Awaits W :=
  of_ite (happenAt (showTemp hq)) (showTemp hq)

theorem throttle {t : Int} (hq : d.Awaits W) : (d.throttle t).Awaits W :=
  of_ite (showTemp hq) (happen (each (fun _ _ hq => put hq) (showTemp hq)))

theorem throttleEnd {t : Int} (hq : d.Awaits W) : (d.throttleEnd t).Awaits W :=
  of_ite (showTemp hq) (each (fun _ _ hq => put hq) (showTemp hq))

theorem wdtRestart (hq : d.Awaits W) : d.wdtRestart.Awaits W := put hq

theorem wdtCfg {ag : Agent} {v : Word} (hq : d.Awaits W) : (d.wdtCfg ag v).Awaits W :=
  of_ite (viol hq) (wdtRestart (of_ite (wr hq) (viol (wr hq))))

theorem wdtPre (hq : d.Awaits W) : d.wdtPre.Awaits W := of_ite (happen (put hq)) hq

theorem sleepCfg {ag : Agent} {v : Word} (hq : d.Awaits W) : (d.sleepCfg ag v).Awaits W :=
  of_ite (viol (wr hq)) (wr hq)

/-! #### Words that the boot controller and the tumbler commit -/

theorem toneLoad {k : Nat} (hq : d.Awaits W) : (d.toneLoad k).Awaits W := parts hq

theorem toneCommit {d0 : Dev} {k : Nat} {phase : Bool} (hq : d.Awaits W) : (d.toneCommit d0 k phase).Awaits W :=
  of_ite (toneLoad hq) hq

theorem outCommit {d0 : Dev} {o : Nat} (hq : d.Awaits W) : (d.outCommit d0 o).Awaits W :=
  of_ite (codeChange (of_ite (scaleChange hq) hq)) (of_ite (scaleChange hq) hq)

theorem blockCommits {d0 : Dev} {keys : List Nat} (hq : d.Awaits W) : (d.blockCommits d0 keys).Awaits W := by
  unfold Dev.blockCommits
  extract_lets d1 d2 d3 d4 d5
  have h2 : d2.Awaits W := each (fun _ _ hq => of_ite (micbCommit hq) hq) (each (fun _ _ hq => of_ite (ainCommit hq)
    hq) hq)
  have h4 : d4.Awaits W := each (fun _ _ hq => of_ite (outCommit hq) hq) (each (fun _ _ hq => of_ite (pdmCommit hq)
    hq) h2)
  exact each (fun _ _ hq => of_ite (maskCommit hq) hq) (each (fun _ _ hq => toneCommit hq) h4)

theorem commitMade {n words : Nat} (hq : d.Awaits W) : (d.commitMade n words).Awaits W :=
  happen (put (incWrap (put hq)))

theorem commitEntries {es : List TumbEntry} {n : Nat} (hq : d.Awaits W) : (d.commitEntries es n).Awaits W :=
  commitMade (blockCommits (each (fun _ _ hq => wr hq) (commitXps hq)))

theorem tumbCommit {n : Nat} (hq : d.Awaits W) : (d.tumbCommit n).Awaits W := by
  unfold Dev.tumbCommit
  dsimp only
  split
  · exact hq
  · exact of_ite hq (of_ite (happen (put (commitEntries (parts hq)))) (commitEntries (parts hq)))

theorem npCfg {ag : Agent} {v : Word} (hq : d.Awaits W) : (d.npCfg ag v).Awaits W := of_ite (viol (wr hq)) (wr hq)

theorem i2cCfg {ag : Agent} {v : Word} (hq : d.Awaits W) : (d.i2cCfg ag v).Awaits W := of_ite (wr hq) (viol (wr hq))

theorem bootWord {a : Nat} {v : Word} (hq : d.Awaits W) : (d.bootWord a v).Awaits W := by
  unfold Dev.bootWord
  dsimp only
  split
  · split
    · split
      · exact refuseRec (wr hq)
      · exact wr hq
    · exact viol (by split; exacts [refuseRec (wr hq), wr hq])
  · split
    · exact of_ite (cfgWrite hq) (coalWrite hq)
    · exact of_ite (of_ite (jdWrite hq) (jdMuteWrite hq)) (of_ite (btnCfg hq) (of_ite (btnCfg hq) (of_ite (wdtCfg hq)
        (of_ite (sleepCfg hq) (of_ite (npCfg hq) (of_ite (i2cCfg hq) (of_ite (pdmClkWrite hq) (wr hq))))))))

/-! #### The power sequencer (chapter 19) -/

theorem setTarget {k v : Nat} (hq : d.Awaits W) : (d.setTarget k v).Awaits W := wr hq

theorem setPll {k : Nat} {b : Bool} (hq : d.Awaits W) : (d.setPll k b).Awaits W := putBit hq

theorem dropBlock {p : Nat → Bool} (hq : d.Awaits W) : (d.dropBlock p).Awaits W :=
  each (fun _ _ hq => put hq) (dropRegs hq)

theorem loseDomain {k : Nat} (hq : d.Awaits W) : (d.loseDomain k).Awaits W := by
  unfold Dev.loseDomain
  extract_lets thr d1
  have h1 : d1.Awaits W := dropBlock hq
  exact of_ite (put (parts h1)) (of_ite h1 (of_ite (parts h1) (of_ite (parts h1) (of_ite (parts h1) (of_ite (parts h1)
    (of_ite (flag (parts h1)) (of_ite (parts h1) (of_ite (parts h1) (of_ite (parts h1) h1)))))))))

theorem chainDown {k : Nat} {off : Bool} (hq : d.Awaits W) : (d.chainDown k off).Awaits W :=
  of_ite (anainDown hq) (of_ite (put hq) (of_ite (each (fun _ _ hq => portIdle hq) hq) (of_ite (put (foldl (fun _ _ hq
    => outDown hq) hq)) (foldl (fun _ _ hq => outDown hq) hq))))

theorem shackle {k : Nat} (hq : d.Awaits W) : (d.shackle k).Awaits W := of_ite (setBit hq) hq

theorem rewrite {k : Nat} (hq : d.Awaits W) : (d.rewrite k).Awaits W := by
  have h1 {es : List (Nat × Nat)} : (d.each es (fun d (e : Nat × Nat) => d.bootWord e.1 (BitVec.ofNat 32 e.2))).Awaits
    W :=
    each (fun _ _ hq => bootWord hq) hq
  exact of_ite (flag (each (fun _ _ hq => toneLoad hq) h1)) (of_ite (bindNp h1) (of_ite (bindAsrc h1) (of_ite
    (linkStart h1) h1)))

theorem domainUp {k : Nat} (hq : d.Awaits W) : (d.domainUp k).Awaits W :=
  of_ite (anainUp hq) (of_ite (anainUp hq) (of_ite (usbCheck hq) (foldl (fun _ _ hq => enterHiz hq) hq)))

theorem restoreTargets {ks : List Nat} (hq : d.Awaits W) : (d.restoreTargets ks).Awaits W :=
  each (fun _ _ hq => setTarget hq) hq

theorem refuseTxn {k reason : Nat} (hq : d.Awaits W) : (d.refuseTxn k reason).Awaits W :=
  happen (inc (put (put (put (put (put (modPwr rfl (restoreTargets hq))))))))

theorem startRise {k v : Nat} (hq : d.Awaits W) : (d.startRise k v).Awaits W := by
  unfold Dev.startRise
  exact modPwr rfl (setPll (setDom hq))

theorem sleepActs (hq : d.Awaits W) : d.sleepActs.Awaits W :=
  of_ite hq (cond (fun hq => modClk rfl hq) (cond (fun hq => pllOff hq) hq))

theorem fastOn (hq : d.Awaits W) : d.fastOn.Awaits W := modClk rfl hq

theorem runWake {src : Nat} (hq : d.Awaits W) : (d.runWake src).Awaits W :=
  of_ite (modPwr rfl (happen (put (put (each (fun _ _ hq => startRise (setTarget hq)) (restoreTargets (modPwr rfl
    (happen (put hq))))))))) (put (put (each (fun _ _ hq => startRise (setTarget hq)) (restoreTargets (modPwr rfl
    (happen (put hq)))))))

theorem pendingWake (hq : d.Awaits W) : d.pendingWake.Awaits W := of_ite (runWake hq) hq

theorem wakeEvent {src : Nat} (hq : d.Awaits W) : (d.wakeEvent src).Awaits W :=
  of_ite hq (of_ite (setBit (modPwr rfl (fastOn hq))) (runWake (fastOn hq)))

theorem reportTxn (hq : d.Awaits W) : d.reportTxn.Awaits W :=
  of_ite hq (pendingWake (of_ite (modPwr rfl (happen (put (put (put (put hq)))))) (sleepActs (modPwr rfl (happen (put
    (put (put (put hq)))))))))

theorem askQuiesce (hq : d.Awaits W) : d.askQuiesce.Awaits W := by
  unfold Dev.askQuiesce
  dsimp only
  split
  · exact pendingWake (refuseTxn (of_ite (each (fun _ _ hq => asrcStop hq) hq) hq))
  · exact modPwr rfl (of_ite (each (fun _ _ hq => asrcStop hq) hq) hq)

theorem startTxn (hq : d.Awaits W) : d.startTxn.Awaits W :=
  of_ite (reportTxn (modPwr rfl (each (fun _ _ hq => startRise hq) (put (put hq))))) (askQuiesce (modPwr rfl (each
    (fun _ _ hq => startRise hq) (put (put hq)))))

theorem quiesceAgree {k : Nat} (hq : d.Awaits W) : (d.quiesceAgree k).Awaits W := of_ite (modPwr rfl hq) hq

theorem quiesceTimeout (hq : d.Awaits W) : d.quiesceTimeout.Awaits W := by
  unfold Dev.quiesceTimeout
  split
  · exact pendingWake (refuseTxn hq)
  · exact hq

theorem domainArrive {k : Nat} (hq : d.Awaits W) : (d.domainArrive k).Awaits W := by
  unfold Dev.domainArrive
  dsimp only
  split
  · exact hq
  · exact reportTxn (of_ite (domainUp (of_ite (rewrite (setDom (modPwr rfl hq))) (setDom (modPwr rfl hq)))) (of_ite
      (rewrite (setDom (modPwr rfl hq))) (setDom (modPwr rfl hq))))

theorem clkSwitch {k : Nat} (hq : d.Awaits W) : (d.clkSwitch k).Awaits W :=
  of_ite (happen (modPwr rfl (setPll hq))) hq

/-! #### The boot controller (chapter 02) -/

theorem modBoot {f : Boot → Boot} (hq : d.Awaits W) : (d.modBoot f).Awaits W := parts hq

theorem setBoot {st : Nat} (hq : d.Awaits W) : (d.setBoot st).Awaits W := put hq

theorem setFifo {n : Nat} (hq : d.Awaits W) : (d.setFifo n).Awaits W := put (modBoot hq)

theorem openLoad {k : LoadKind} {src : Nat} (hq : d.Awaits W) : (d.openLoad k src).Awaits W :=
  setFifo (put (inc (modBoot hq)))

theorem bootResult {code ward : Nat} (hq : d.Awaits W) : (d.bootResult code ward).Awaits W := wr hq

theorem hostWait (hq : d.Awaits W) : d.hostWait.Awaits W := setBoot (modBoot hq)

theorem linkForBoot {on : Bool} (hq : d.Awaits W) : (d.linkForBoot on).Awaits W :=
  of_ite hq (of_ite (setLinkSt (portAcquire (put (setDom hq)))) (loseDomain (setDom hq)))

theorem linkBootPlan (hq : d.Awaits W) : d.linkBootPlan.Awaits W := acquire (put (wr (wr hq))).words

theorem tryNext {cs : List Nat} (hq : d.Awaits W) : (d.tryNext cs).Awaits W := by
  induction cs generalizing d with
  | nil => exact hostWait hq
  | cons c cs ih =>
    have h1 {b : Boot → Boot} : (d.modBoot b).Awaits W := modBoot hq
    exact of_ite (hostWait h1) (of_ite (setBoot (openLoad h1)) (of_ite (linkBootPlan (setBoot (openLoad (linkForBoot
      h1)))) (ih h1)))

theorem afterFail (hq : d.Awaits W) : d.afterFail.Awaits W := by
  unfold Dev.afterFail
  split
  · exact tryNext (of_ite (linkForBoot hq) hq)
  · exact hostWait hq
  · exact of_ite (hostWait hq) (openLoad (modBoot hq))
  · exact hq

theorem liveEnd {code ward : Nat} (hq : d.Awaits W) : (d.liveEnd code ward).Awaits W :=
  setFifo (of_ite (setBoot (of_ite (put (put (modBoot hq))) (put (put (put (modBoot hq)))))) (of_ite (put (put
    (modBoot hq))) (put (put (put (modBoot hq))))))

theorem liveViol {code : Nat} {ws : List Ward} {ward : Nat} (hq : d.Awaits W) : (d.liveViol code ws ward).Awaits W :=
    by
  unfold Dev.liveViol
  split
  · exact viol hq
  · split
    · exact of_ite (viol hq) hq
    · exact hq

theorem liveAccept {p : Plan} {at_ : Option Nat} (hq : d.Awaits W) : (d.liveAccept p at_).Awaits W :=
  of_ite (put (put (put (setFifo (of_ite (setBoot (modBoot hq)) (modBoot hq)))))) (put (setFifo (of_ite (setBoot
    (modBoot hq)) (modBoot hq))))

theorem reseatStop (hq : d.Awaits W) : d.reseatStop.Awaits W := by
  unfold Dev.reseatStop
  exact modBoot (portsStop (each (fun _ _ hq => of_ite (stopOut (put hq)) (put hq)) hq))

theorem reseatCompare {img : List Byte} (hq : d.Awaits W) : (d.reseatCompare img).Awaits W := by
  unfold Dev.reseatCompare
  dsimp only
  split
  · exact hq
  · split
    · exact setBoot (modBoot (bootResult hq))
    · exact reseatStop hq

theorem aonReseat (hq : d.Awaits W) : d.aonReseat.Awaits W :=
  parts (each (fun _ _ hq => setBit hq) (each (fun _ _ hq => wr hq) hq))

theorem teardown (hq : d.Awaits W) : d.teardown.Awaits W :=
  parts (modPins (jackMutes (aonReseat (each (fun _ _ hq => of_ite (shackle hq) hq) (each (fun _ _ hq => loseDomain
    hq) (usbCheck (modBoot hq)))))))

theorem settingsCommit {p : Plan} (hq : d.Awaits W) : (d.settingsCommit p).Awaits W := by
  unfold Dev.settingsCommit
  extract_lets d0 d1 d2 _ d3 d4 d5 d6 d7 d8 d9
  have h2 : d2.Awaits W := foldl (fun _ _ hq => foldl (fun _ _ hq => bootWord hq) hq) (modBoot hq)
  have h3 : d3.Awaits W := by
    unfold d3
    split
    · exact parts h2
    · exact h2
  have h4 : d4.Awaits W := ceilings (each (fun _ _ hq => toneLoad hq) h3)
  have h5 : d5.Awaits W := each (fun _ _ hq => micbCommit hq) h4
  have h7 : d7.Awaits W := anainUp (anainUp (each (fun _ _ hq => pdmCommit hq) h5))
  have h8 : d8.Awaits W := each (fun _ _ hq => of_ite (enterHiz hq) (outCommit hq)) h7
  exact each (fun _ _ hq => of_ite (loseDomain hq) hq) (linkStart (bindAsrc (bindNp h8)))

theorem runCommit {p : Plan} (hq : d.Awaits W) : (d.runCommit p).Awaits W := by
  unfold Dev.runCommit
  exact modBoot (each (fun _ _ hq => wr hq) (wr (wr (wr hq))))

theorem liveStage {w : Ward} (hq : d.Awaits W) : (d.liveStage w).1.Awaits W := by
  refine foldl_fst (fun acc e hacc => ?_) hq
  obtain ⟨d, es⟩ := acc
  have refused (sub : Option (Nat × Nat × Nat)) : (match sub with | some r => d.refuseRec r | none => d).Awaits W :=
    by
    split
    · exact refuseRec hacc
    · exact hacc
  exact of_ite (refused _) (viol (refused _))

theorem liveCommit {n : Nat} (hq : d.Awaits W) : (d.liveCommit n).Awaits W := by
  unfold Dev.liveCommit
  dsimp only
  split
  · exact hq
  · exact of_ite hq (of_ite (put (put (modBoot (put (inc (commitEntries (liveStage hq))))))) (modBoot (put (inc
      (commitEntries (liveStage hq))))))

/-! #### Engine and channel control (chapters 12 and 14) -/

theorem setEng {e : Nat} {x : Eng} (hq : d.Awaits W) : (d.setEng e x).Awaits W := parts hq

theorem modEng {e : Nat} {f : Eng → Eng} (hq : d.Awaits W) : (d.modEng e f).Awaits W := setEng hq

theorem setEngSt {e st : Nat} (hq : d.Awaits W) : (d.setEngSt e st).Awaits W := put hq

theorem engBegin {e : Nat} (hq : d.Awaits W) : (d.engBegin e).Awaits W := setEngSt (put (wr (setEng hq)))

theorem engSilence {e : Nat} (hq : d.Awaits W) : (d.engSilence e).Awaits W := modEng hq

theorem engHalt {e : Nat} (hq : d.Awaits W) : (d.engHalt e).Awaits W := engSilence (setEngSt hq)

theorem engClr {e : Nat} (hq : d.Awaits W) : (d.engClr e).Awaits W := wr hq

theorem shutdown {t : Int} {long : Bool} (hq : d.Awaits W) : (d.shutdown t long).Awaits W :=
  of_ite (showTemp hq) (happen (modPwr rfl (each (fun _ _ hq => of_ite (engHalt hq) hq) (showTemp hq))))

theorem setChan {c : Nat} {x : Chan} (hq : d.Awaits W) : (d.setChan c x).Awaits W := put (parts hq)

theorem modChan {c : Nat} {f : Chan → Chan} (hq : d.Awaits W) : (d.modChan c f).Awaits W := setChan hq

theorem setChSt {c st : Nat} (hq : d.Awaits W) : (d.setChSt c st).Awaits W := put hq

theorem dmaFetch {c a : Nat} {resume : Bool} (hq : d.Awaits W) : (d.dmaFetch c a resume).Awaits W :=
  setChSt (setChan (of_ite (wr hq) (put (wr hq))))

theorem dmaHalt {c : Nat} (hq : d.Awaits W) : (d.dmaHalt c).Awaits W := setChSt hq

theorem dmaClr {c : Nat} (hq : d.Awaits W) : (d.dmaClr c).Awaits W := wr hq

theorem haltLinked {e : Nat} (hq : d.Awaits W) : (d.haltLinked e).Awaits W :=
  each (fun _ _ hq => of_ite (dmaHalt hq) hq) hq

/-! #### Resets and the boot tests -/

theorem resetRegs {c : Nat} (hq : d.Awaits W) : (d.resetRegs c).Awaits W :=
  each (fun _ _ hq => of_ite (setCause hq) hq) (each (fun _ _ hq => put hq) (each (fun _ _ hq => wr hq) (each (fun _ _
    hq => wr hq) (parts hq))))

theorem resetPins {old : Dev} {c : Nat} (hq : d.Awaits W) : (d.resetPins old c).Awaits W :=
  flag (parts (of_ite (each (fun _ _ hq => setCause hq) (put (each (fun _ _ hq => happenAt hq) (put (modPins hq)))))
    (each (fun _ _ hq => happenAt hq) (put (modPins hq)))))

theorem recordReset {c supply : Nat} (hq : d.Awaits W) : (d.recordReset c supply).Awaits W :=
  of_ite (put (setBit (put hq))) (setBit (put hq))

theorem resetRelease {twinSel : Bool} (hq : d.Awaits W) : (d.resetRelease twinSel).Awaits W :=
  of_ite hq (of_ite (happen (parts (applyPool (put (modPins (modPwr rfl hq)))))) (applyPool (put (modPins (modPwr rfl
    hq)))))

theorem memFinding {kind l : Nat} (hq : d.Awaits W) : (d.memFinding kind l).Awaits W :=
  of_ite (softRepair (takeSpare hq)) (of_ite (softRepair (parts hq)) hq)

theorem adcFinding {l : Nat} (hq : d.Awaits W) : (d.adcFinding l).Awaits W :=
  of_ite hq (of_ite (softRepair (happen (retireAdc hq))) (happen (put hq)))

theorem dacFinding {l : Nat} (hq : d.Awaits W) : (d.dacFinding l).Awaits W :=
  of_ite hq (of_ite (softRepair (happen (retireDac hq))) (happen (setCause hq)))

theorem finding {f : Finding} (hq : d.Awaits W) : (d.finding f).Awaits W :=
  of_ite (memFinding hq) (of_ite (put hq) (of_ite (adcFinding hq) (of_ite (dacFinding hq) (of_ite (of_ite (segBoot hq)
    hq) hq))))

theorem failingTiles {fs : List Finding} (hq : d.Awaits W) : (d.failingTiles fs).Awaits W :=
  each (fun _ _ hq => tileFailed hq) (each (fun _ _ hq => finding hq) hq)

theorem bootTestsDone {fs : List Finding} (hq : d.Awaits W) : (d.bootTestsDone fs).Awaits W := by
  unfold Dev.bootTestsDone
  refine of_ite hq ?_
  extract_lets d1 d2 d3 diag d4 d5
  have h2 : d2.Awaits W := each (fun _ _ hq => bootSlices hq) (each (fun _ _ hq => bootAin hq) (flag (failingTiles
    hq)))
  have h3 : d3.Awaits W := ceilings (each (fun _ _ hq => switchPersona hq) h2)
  have h5 : d5.Awaits W := releaseOuts (each (fun _ _ hq => setTarget (setDom hq)) h3)
  exact of_ite (setBoot h5) (tryNext h5)

/-! #### Accesses of agents -/

theorem clearPart {a : Nat} {v : Word} (hq : d.Awaits W) : (d.clearPart a v).Awaits W :=
  of_ite hq (of_ite (portClr hq) (of_ite (portClr hq) (of_ite (engClr hq) (of_ite (memCtrl hq) (of_ite (dmaClr hq)
    (of_ite (rmonClr hq) (of_ite (asrcClr hq) (of_ite (linkClr hq) (wr (wr hq))))))))))

theorem mirrorWrite {a : Nat} {v : Word} (hq : d.Awaits W) : (d.mirrorWrite a v).Awaits W :=
  of_ite (clearPart hq) (mirror (clearPart hq))

theorem readReg {a : Nat} (hq : d.Awaits W) : (d.readReg a).1.Awaits W := by
  unfold Dev.readReg
  dsimp only
  split
  · exact claim hq
  · exact hq

theorem modHost {f : HostIf → HostIf} (hq : d.Awaits W) : (d.modHost f).Awaits W := parts hq

theorem stepPtr (hq : d.Awaits W) : d.stepPtr.Awaits W := modHost hq

/-! #### Engines at work (chapter 12) -/

theorem took {n : Nat} (hq : d.Awaits W) : (d.took n).Awaits W := parts hq

theorem engDouble {e situation p : Nat} {f : EngFault} (hq : d.Awaits W) : (d.engDouble e situation p f).Awaits W :=
  haltLinked (happenAt (completeAll (engSilence (setEngSt (wr (wr (wr (wr hq))))))))

theorem engTrap {e code ret : Nat} {addr : Option Nat} (hq : d.Awaits W) : (d.engTrap e code ret addr).Awaits W :=
  wr (setEng hq)

theorem fetchAt {e : Nat} {errs : List EccErr} {p : Nat} (hq : d.Awaits W) : (d.fetchAt e errs p).1.Awaits W := by
  unfold Dev.fetchAt
  dsimp only
  split
  · exact hq
  · exact hq
  · split
    · exact viol hq
    · exact hq
    · split
      · exact eccSpan hq
      · exact hq

theorem engEntry {e : Nat} {errs : List EccErr} (hq : d.Awaits W) : (d.engEntry e errs).Awaits W := by
  unfold Dev.engEntry
  extract_lets p
  have hf : (d.fetchAt e errs p).1.Awaits W := fetchAt hq
  generalize d.fetchAt e errs p = r at hf ⊢
  obtain ⟨d', f | w⟩ := r
  · exact engDouble hf
  · exact hq

theorem engFault {e p : Nat} {errs : List EccErr} {fetch : Bool} {f : EngFault} (hq : d.Awaits W) : (d.engFault e p
    errs fetch f).Awaits W :=
  of_ite (engDouble hq) (of_ite (engDouble hq) (of_ite (engDouble hq) (engEntry (engTrap hq))))

theorem engCommit {e p b : Nat} {errs : List EccErr} {x0 : Eng} {val : Nat} (hq : d.Awaits W) :
    (d.engCommit e p b errs x0 val).Awaits W := by
  unfold Dev.engCommit
  refine of_ite hq ?_
  extract_lets w ex free c x x1 x2
  split
  extract_lets d1 d2 d3
  have h2 : d2.Awaits W := of_ite (took (wr (setEng hq))) (wr (setEng hq))
  have h3 : d3.Awaits W := of_ite (viol h2) h2
  exact of_ite (of_ite (of_ite (setEngSt h3) h3) (of_ite (engEntry (engTrap h3)) (of_ite (engEntry h3) h3))) h3

theorem fastEntry {e : Nat} {errs : List EccErr} (hq : d.Awaits W) : (d.fastEntry e errs).Awaits W :=
  of_ite (claim hq) (engEntry (wr (setEng (claim hq))))

theorem irqTrap {e : Nat} {errs : List EccErr} (hq : d.Awaits W) : (d.irqTrap e errs).Awaits W :=
  engEntry (engTrap hq)

theorem takeIrq {e : Nat} {errs : List EccErr} (hq : d.Awaits W) : (d.takeIrq e errs).Awaits W :=
  of_ite (fastEntry hq) (of_ite (irqTrap hq) hq)

theorem engCycles {e n : Nat} (hq : d.Awaits W) : (d.engCycles e n).Awaits W := modEng hq

theorem interruptTrap {e : Nat} {errs : List EccErr} (hq : d.Awaits W) : (d.interruptTrap e errs).Awaits W :=
  of_ite (irqTrap hq) hq

theorem fastEntryAt {e : Nat} {errs : List EccErr} (hq : d.Awaits W) : (d.fastEntryAt e errs).Awaits W :=
  of_ite (fastEntry hq) hq

theorem waitWake {e n : Nat} {errs : List EccErr} (hq : d.Awaits W) : (d.waitWake e n errs).Awaits W :=
  of_ite (takeIrq (setEngSt (modEng hq))) hq

/-! #### Channels at work (chapter 14) -/

theorem putBeat {c : Nat} {data : Option (List Byte)} (hq : d.Awaits W) : (d.putBeat c data).Awaits W := modChan hq

theorem issueRead {c : Nat} (hq : d.Awaits W) : (d.issueRead c).Awaits W := by
  unfold Dev.issueRead
  dsimp only
  split
  · exact setChan hq
  · exact setChan hq
  · exact of_ite hq (putBeat hq)

theorem issueOne {c : Nat} (hq : d.Awaits W) : (d.issueOne c).Awaits W := by
  unfold Dev.issueOne
  dsimp only
  split
  · exact hq
  · split
    · exact of_ite (issueRead hq) hq
    · split
      · exact hq
      · split
        · exact putBeat hq
        · split
          · exact putBeat hq
          · exact issueRead hq

theorem dmaIssue (hq : d.Awaits W) : d.dmaIssue.Awaits W :=
  each (fun _ _ hq => each (fun _ _ hq => issueOne hq) hq) hq

theorem portAbandon {c : Nat} (hq : d.Awaits W) : (d.portAbandon c).Awaits W := by
  unfold Dev.portAbandon
  dsimp only
  split
  · split
    · exact hq
    · exact each (fun _ _ hq => portCount hq) (modDir hq)
  · exact hq

theorem txBeat {c n : Nat} {bs : List Byte} (hq : d.Awaits W) : (d.txBeat c n bs).Awaits W :=
  of_ite (viol (refill (modDir (modChan hq)))) (refill (modDir (modChan hq)))

theorem portDone {c : Nat} (hq : d.Awaits W) : (d.portDone c).Awaits W := by
  unfold Dev.portDone
  dsimp only
  split
  · exact hq
  · exact of_ite (cond (fun hq => viol hq) hq) (modDir (cond (fun hq => viol hq) hq))

theorem dmaStall {c : Nat} (hq : d.Awaits W) : (d.dmaStall c).Awaits W := of_ite (happen (inc (modChan hq))) hq

theorem dmaBoundary (hq : d.Awaits W) : d.dmaBoundary.Awaits W :=
  of_ite hq (each (fun _ _ hq => of_ite (setChSt hq) (of_ite (modChan hq) hq)) hq)

/-! #### The host interfaces (chapter 20) -/

theorem setPtr {cat a : Nat} (hq : d.Awaits W) : (d.setPtr cat a).Awaits W := by
  unfold Dev.setPtr
  exact modHost (of_ite hq (viol hq))

theorem i2cAborted (hq : d.Awaits W) : d.i2cAborted.Awaits W := happen (inc (viol hq))

theorem i2cSetPtr {a reg : Nat} (hq : d.Awaits W) : (d.i2cSetPtr a reg).Awaits W := of_ite (setPtr (wakeEvent hq)) hq

theorem i2cAbort (hq : d.Awaits W) : d.i2cAbort.Awaits W := of_ite hq (i2cAborted hq)

theorem i2cStuck (hq : d.Awaits W) : d.i2cStuck.Awaits W := of_ite hq (happen (inc (viol hq)))

theorem spiFrame (hq : d.Awaits W) : d.spiFrame.Awaits W := happen (modHost (viol hq))

theorem spiStatus (hq : d.Awaits W) : d.spiStatus.Awaits W := of_ite hq (modHost hq)

theorem spiUnknown {cmd : Nat} (hq : d.Awaits W) : (d.spiUnknown cmd).Awaits W := of_ite hq (spiFrame hq)

theorem qspiDone {bs : List Byte} (hq : d.Awaits W) : (d.qspiDone bs).Awaits W :=
  of_ite hq (happen (put (of_ite hq (each (fun _ _ hq => wr hq) hq))))

/-! #### Events that join blocks -/

theorem planFields (hq : d.Awaits W) : d.planFields.Awaits W := wr hq

theorem hingeRef (hq : d.Awaits W) : d.hingeRef.Awaits W := acquire (put (put (put hq))).words

theorem ownRef (hq : d.Awaits W) : d.ownRef.Awaits W := of_ite (acquire (planFields hq).words) hq

theorem syncEdge {d0 : Dev} (hq : d.Awaits W) : (d.syncEdge d0).Awaits W :=
  of_ite (hingeRef hq) (of_ite (ownRef hq) hq)

theorem takeover {priOk : Bool} (hq : d.Awaits W) : (d.takeover priOk).Awaits W := by
  unfold Dev.takeover
  extract_lets on3 d1 d2 d3 _ d4 d5
  have h2 : d2.Awaits W := inc (happen (setRole (modHinge hq)))
  have h5 : d5.Awaits W := put (planFields (usbCheck (parts (each (fun _ _ hq => takeoverOut hq) h2))))
  exact of_ite h5 (of_ite (happen (put h5)) (enterHoldover h5))

theorem heartbeatMiss {high priOk : Bool} (hq : d.Awaits W) : (d.heartbeatMiss high priOk).Awaits W :=
  of_ite hq (of_ite (modHinge (inc (inc hq))) (of_ite (takeover (modHinge (inc (inc hq)))) (of_ite (happen (modHinge
    (inc (inc hq)))) (modHinge (inc (inc hq))))))

theorem pairWaitEnds (hq : d.Awaits W) : d.pairWaitEnds.Awaits W := syncEdge (pairWaitExpire hq)

theorem syncTimesOut (hq : d.Awaits W) : d.syncTimesOut.Awaits W := syncEdge (syncTimeout hq)

theorem sealSlot {i t : Nat} (hq : d.Awaits W) : (d.sealSlot i t).Awaits W :=
  happen (ktResult (put (parts (setSlot hq))))

theorem codeSealed {d0 : Dev} {i : Nat} (hq : d.Awaits W) : (d.codeSealed d0 i).Awaits W :=
  of_ite (of_ite (codeChange hq) hq) hq

theorem squelchWake {p : Nat} (hq : d.Awaits W) : (d.squelchWake p).Awaits W := of_ite (squelch (wakeEvent hq)) hq

theorem resumeSignal {reset high : Bool} (hq : d.Awaits W) : (d.resumeSignal reset high).Awaits W :=
  of_ite hq (usbResume (wakeEvent hq))

theorem jackChange {k : Nat} (hq : d.Awaits W) : (d.jackChange k).Awaits W :=
  of_ite (usbWakeUp (wakeEvent (jackDebounced hq))) (jackDebounced hq)

theorem supplyWarned {i mv : Nat} (hq : d.Awaits W) : (d.supplyWarned i mv).Awaits W := supplyWarning (fastOn hq)

theorem quiesceAgrees {k : Nat} (hq : d.Awaits W) : (d.quiesceAgrees k).Awaits W := quiesceAgree hq

/-! #### The frame boundary -/

theorem ringLate {e : Nat} {cnt : Fld} (hq : d.Awaits W) : (d.ringLate e cnt).Awaits W := raise (inc hq)

theorem ringBlock {n e : Nat} (hq : d.Awaits W) : (d.ringBlock n e).Awaits W :=
  of_ite hq (raise (setEng (of_ite (put (put hq)) hq)))

theorem ringOut {mem : List Host.Cell} {f : FrameIn} {n e : Nat} (hq : d.Awaits W) : (d.ringOut mem f n e).1.Awaits W
    := by
  unfold Dev.ringOut
  dsimp only
  split
  · exact hq
  · split
    · exact hq
    · exact setEng hq
    · split
      · exact hq
      · split
        · exact setEng hq
        · split
          · exact ringLate hq
          · exact each (fun _ _ hq => eccRead hq) hq

theorem toneLatch {k : Nat} (hq : d.Awaits W) : (d.toneLatch k).1.Awaits W := by
  unfold Dev.toneLatch
  dsimp only
  split
  · exact hq
  · exact parts hq

theorem latchEach {es : List Nat} {base : Nat → Nat} {f : Dev → Nat → Dev × List Int}
    (hf : ∀ d e, Dev.Awaits d W → (f d e).1.Awaits W) (hq : d.Awaits W) : (d.latchEach es base f).1.Awaits W :=
  foldl_fst (fun _ _ hacc => hf _ _ hacc) hq

theorem latch {mem : List Host.Cell} {f : FrameIn} {n : Nat} (hq : d.Awaits W) : (d.latch mem f n).1.Awaits W := by
  unfold Dev.latch
  exact latchEach (fun _ _ hq => toneLatch hq) (latchEach (fun _ _ hq => ringOut hq) (latchEach (fun _ _ hq =>
    linkLatch hq)
    (latchEach (fun _ _ hq => usbLatch hq) (latchEach (fun _ _ hq => portLatch hq) hq))))

theorem countFrame {n : Nat} (hq : d.Awaits W) : (d.countFrame n).Awaits W := parts (flag (put (put hq)))

theorem servoTrack {o : Nat} {t : Int} (hq : d.Awaits W) : (d.servoTrack o t).Awaits W :=
  of_ite hq (of_ite (happenAt (put (put hq))) (put (put hq)))

theorem observe {f : FrameIn} (hq : d.Awaits W) : (d.observe f).Awaits W :=
  each (fun _ _ hq => of_ite (bankFrame hq) hq) (each (fun _ _ hq => of_ite (servoTrack hq) hq) (each (fun _ _ hq =>
    showTemp hq) (each (fun _ _ hq => showSupply hq) (put (each (fun _ _ hq => happen hq) (each (fun _ _ hq => ainStep
    (ainOverload hq)) hq))))))

theorem boundaryEnd (hq : d.Awaits W) : d.boundaryEnd.Awaits W := by
  unfold Dev.boundaryEnd
  extract_lets d1 d2 d3
  have h2 : d2.Awaits W := remap (dmaBoundary (ceilings (each (fun _ _ hq => blkProgress hq) hq)))
  have h3 : d3.Awaits W := each (fun _ _ hq => npTick hq) h2
  exact of_ite (hingeTick (of_ite (linkTick h3) h3)) h3

/-! #### The end of an access -/

theorem clkFlush (d : Dev) : d.clkFlush.Awaits ⟨False, d.pwr.staged⟩ := by
  unfold Dev.clkFlush
  split
  next => exact acquire rfl
  next h => exact ⟨fun h' => h h', rfl⟩

theorem pwrFlush (hq : d.Awaits W) : d.pwrFlush.Awaits ⟨W.restart, []⟩ := by
  unfold Dev.pwrFlush
  extract_lets staged d1
  split
  next h => exact ⟨hq.restart, h⟩
  next =>
    have h1 : d1.Awaits ⟨W.restart, []⟩ := ⟨hq.restart, rfl⟩
    exact of_ite h1 (startTxn (each (fun _ _ hq => wr hq) h1))

/-! #### What starts a device again -/

theorem afterReset (d : Dev) (c : Nat) : (d.afterReset c).Awaits .none := by
  unfold Dev.afterReset
  exact resetPins (resetRegs ⟨fun h => Bool.noConfusion h, rfl⟩)

theorem pllWrite {ag : Agent} {a : Nat} {v : Word} (hq : d.Awaits W) : (d.pllWrite ag a v).Awaits ⟨True, W.words⟩ := by
  have pended {t : Dev} (ht : t.Awaits W) : t.clkPend.Awaits ⟨True, W.words⟩ := ⟨fun _ => trivial, ht.words⟩
  exact of_ite (pended (wr hq)) (of_ite (pended (viol (wr hq))) (pended (wr hq)))

theorem refselWrite {ag : Agent} {v : Word} (hq : d.Awaits W) : (d.refselWrite ag v).Awaits ⟨True, W.words⟩ := by
  have pended {t : Dev} (ht : t.Awaits W) : t.Awaits ⟨True, W.words⟩ ∧ t.clkPend.Awaits ⟨True, W.words⟩ :=
    ⟨⟨fun _ => trivial, ht.words⟩, ⟨fun _ => trivial, ht.words⟩⟩
  unfold Dev.refselWrite
  extract_lets n p a ok old d1 d2
  have h2 : d2.Awaits W := of_ite (wr hq) (viol (wr hq))
  exact of_ite (pended h2).1 (pended h2).2

theorem clockEntry {a : Nat} {v : Word} {ws : SMap Word} (hq : d.Awaits ⟨True, ws⟩) :
    (d.clockEntry a v).Awaits ⟨True, ws⟩ :=
  of_ite (pllWrite hq) (of_ite (refselWrite hq) (of_ite (wr hq) (bootWord hq)))

theorem clockEntry_plan {v : Word} (hq : d.Awaits W) : (d.clockEntry Reg.clkPlan v).Awaits W := wr hq

theorem clockCommit {p : Plan} {link : Bool} (hq : d.Awaits W) : (d.clockCommit p link).Awaits W := by
  unfold Dev.clockCommit
  extract_lets pll d1 d2
  have h1 : d1.Awaits ⟨True, W.words⟩ := foldl (fun _ _ hq => clockEntry hq) ⟨fun _ => trivial, hq.words⟩
  have h2 : d2.Awaits W := modClk_ended rfl (put h1).words
  exact of_ite h2 (acquire h2.words)

/-- A channel that arms the tumbler writes TUMB_CTRL, which neither restarts the PLL nor stages a word of PWR_TARGET. -/
theorem regWrite_tumbCtrl {env : Env} {ag : Agent} {v : Word} (hq : d.Awaits W) :
    (d.regWrite env ag Reg.tumbCtrl v).Awaits W := by
  have hm : rwtMask Reg.tumbCtrl = 0 := by decide
  have e : d.regWrite env ag Reg.tumbCtrl v = d.tumbCtrl ag env.late v := by
    unfold Dev.regWrite
    rw [if_neg (not_not.mpr hm)]
    simp [Reg.tumbCtrl]
  exact e ▸ tumbCtrl hq

end Dev.Awaits

/-! ### States -/

theorem Dev.isRegAddr_of_region {d : Dev} {a : Nat} (h : d.region a = .reg) : isRegAddr a = true := by
  unfold Dev.region at h
  split_ifs at h with _ _ _ _ hr
  exact hr

/-- No access is under way in `s`. -/
def State.Ended (s : State) : Prop := s.dev.Awaits .none

namespace State.Ended

variable {s : State}

theorem on {f : Dev → Dev} (h : (f s.dev).Awaits .none) : (s.on f).Ended := h

theorem dev {d : Dev} (h : d.Awaits .none) : State.Ended { s with dev := d } := h

theorem store {a : Nat} {bs : List Byte} (h : s.Ended) : (s.store a bs).Ended := h

theorem erase {p : Nat → Bool} (h : s.Ended) : (s.erase p).Ended := h

theorem foldl {α : Type} {f : State → α → State} {xs : List α} (hf : ∀ s x, State.Ended s → (f s x).Ended)
    (h : s.Ended) : (xs.foldl f s).Ended :=
  List.foldlRecOn (motive := State.Ended) xs f h (fun s h x _ => hf s x h)

theorem foldl_fst {α β : Type} {f : State × β → α → State × β} {xs : List α} {b : β}
    (hf : ∀ r x, State.Ended r.1 → (f r x).1.Ended) (h : s.Ended) : (xs.foldl f (s, b)).1.Ended :=
  List.foldlRecOn (motive := fun r => r.1.Ended) xs f h (fun r h x _ => hf r x h)

theorem of_fst {α : Type} {r : State × α} {t : State} {x : α} (e : r = (t, x)) (h : r.1.Ended) : t.Ended := by
  rw [e] at h
  exact h

/-- Whatever an access did, its end leaves nothing waiting. -/
theorem endAccess (s : State) : s.endAccess.Ended := on (Dev.Awaits.clkFlush s.dev).pwrFlush

/-! #### Memories and the lockbox -/

theorem wipe (h : s.Ended) : s.wipe.Ended := by
  unfold State.wipe
  split
  · exact h
  · exact on (Dev.Awaits.put (Dev.Awaits.parts h))

theorem agentRead {ag : Agent} {code : Nat} {secure : Bool} {errs : List EccErr} {a n : Nat} (h : s.Ended) :
    (s.agentRead ag code secure errs a n).1.Ended := by
  unfold State.agentRead
  split
  · exact on h.viol
  · exact h
  · exact on h.eccSpan

theorem agentWrite {ag : Agent} {code : Nat} {secure : Bool} {errs : List EccErr} {a : Nat} {bs : List Byte}
    (h : s.Ended) :
    (s.agentWrite ag code secure errs a bs).Ended := by
  unfold State.agentWrite
  split
  · exact on h.viol
  · exact h
  · dsimp only
    split
    · exact h.eccWrite
    · exact h.eccWrite

/-! #### Power domains -/

theorem lowerDomain {k v : Nat} (h : s.Ended) : (s.lowerDomain k v).Ended := by
  unfold State.lowerDomain State.clearDomain
  extract_lets d1 d2 d3
  have h2 : d2.Awaits .none := h.setDom.setPll.chainDown.shackle
  have h3 : d3.Awaits .none := h2.modPwr rfl
  split
  · split
    · exact h3.loseDomain
    · exact h3.loseDomain
  · exact h3

theorem pwrCommit (h : s.Ended) : s.pwrCommit.Ended := by
  unfold State.pwrCommit
  split
  · exact h
  · exact on (Dev.Awaits.modPwr rfl (foldl (fun _ _ h => lowerDomain h) h)).put.reportTxn

/-! #### The boot controller and the commit -/

theorem placeSegs {ws : List Ward} (h : s.Ended) : (s.placeSegs ws).Ended :=
  on (Dev.Awaits.modBoot (foldl (fun _ _ h => h) h))

theorem unplace (h : s.Ended) : s.unplace.Ended := on (Dev.Awaits.modBoot h)

theorem loadFail {code ward : Nat} (h : s.Ended) : (s.loadFail code ward).Ended :=
  on (Dev.Awaits.bootResult (unplace h)).setFifo.afterFail

theorem checkImage {partner : Nat} (h : s.Ended) : (s.checkImage partner).Ended := by
  unfold State.checkImage
  dsimp only
  have hw : (s.placeSegs (s.dev.kpVerdict s.dev.loadKind s.dev.boot.image).2).Ended := placeSegs h
  split
  · split
    · exact on h.liveViol.liveEnd
    · split
      · exact on h.liveEnd
      · exact on h.liveAccept
    · exact h
  · split
    · exact loadFail hw
    · exact on (Dev.Awaits.of_ite hw.modBoot.setFifo hw.modBoot.setFifo.setBoot)
    · exact hw

theorem sourceFails {ward : Nat} (h : s.Ended) :
    (if s.dev.boot.load = some .live then s.on (·.liveEnd Kp.source ward) else s.loadFail Kp.source ward).Ended := by
  split
  · exact on h.liveEnd
  · exact loadFail h

theorem linkData {payload : List Byte} (h : s.Ended) : (s.linkData payload).Ended := by
  unfold State.linkData
  split
  · exact checkImage (on h.modBoot)
  · exact h

theorem sourceTimeout (h : s.Ended) : s.sourceTimeout.Ended := by
  unfold State.sourceTimeout
  split
  · exact sourceFails h
  · split
    · exact loadFail h
    · exact h

theorem flashFail {img : List Byte} (h : s.Ended) : (s.flashFail img).Ended := by
  unfold State.flashFail
  split
  · exact h
  · split
    · exact loadFail h
    · exact h

theorem reseatTeardown (h : s.Ended) : s.reseatTeardown.Ended := by
  unfold State.reseatTeardown
  dsimp only
  split
  · have ht : ((s.on Dev.teardown).erase (fun a => decide (a < 0x600000))).Ended := erase (on h.teardown)
    split
    · exact checkImage ht
    · exact ht
  · exact h

theorem mapCommit {p : Plan} (h : s.Ended) : (s.mapCommit p).Ended := by
  refine on (Dev.Awaits.each (fun _ _ hq => hq.setPll) (foldl (fun s k h => ?_) ?_))
  · dsimp only
    split
    · exact lowerDomain h
    · exact on h.setDom
  · exact on (Dev.Awaits.foldl (fun _ _ hq => hq.bootWord) h.clrRegs)

theorem commitApply (h : s.Ended) : s.commitApply.Ended := by
  unfold State.commitApply
  split
  · exact h
  · have hm := mapCommit (p := ‹Plan›) (on (f := (·.modBoot (fun b => { b with commit := 3 }))) h.modBoot)
    exact on (erase (on (Dev.Awaits.settingsCommit (Dev.Awaits.modPins hm)))).runCommit

theorem commit {img : List Byte} (h : s.Ended) : (s.commit img).Ended := by
  unfold State.commit
  extract_lets k v
  clear_value v
  split
  next p ws _ =>
    extract_lets s1 link s2
    have h1 : s1.Ended := on (Dev.Awaits.bootResult (placeSegs h)).modBoot
    have h2 : s2.Ended := on h1.clockCommit.setBoot
    clear_value s1 s2
    split
    · refine commitApply (on (Dev.Awaits.foldl (fun d e hq => ?_) h1))
      split
      next hplan => exact hplan ▸ hq.clockEntry_plan
      next => exact hq
    · split
      · exact h2
      · exact commitApply h2
  next => exact h

theorem fallbackExit (h : s.Ended) : s.fallbackExit.Ended := by
  unfold State.fallbackExit
  extract_lets s1
  have h1 : s1.Ended := on h.switchBack
  clear_value s1
  split
  · exact h
  · split
    · exact commitApply h1
    · exact h1

/-! #### Resets -/

/-- A reset starts the device with nothing waiting. -/
theorem assertReset (s : State) (c supply : Nat) : (s.assertReset c supply).Ended :=
  on (Dev.Awaits.modPwr rfl (Dev.Awaits.afterReset _ c).recordReset)

theorem por (s : State) : s.por.Ended := by
  unfold State.por
  exact on (assertReset s Rst.por 0).inc

theorem wdtReset (h : s.Ended) : s.wdtReset.Ended := by
  unfold State.wdtReset
  split
  · exact assertReset _ _ _
  · exact h

/-! #### Accesses of the agents -/

theorem readWord {env : Env} {ag : Agent} {a : Nat} (h : s.Ended) : (s.readWord env ag a).1.Ended := by
  unfold State.readWord
  dsimp only
  split
  · exact h
  · split
    · exact on h.viol
    · exact dev h.readReg
  · exact agentRead h

theorem i2cFetch {env : Env} {a n : Nat} {ws : List Word} (h : s.Ended) : (s.i2cFetch env a n ws).Ended := by
  induction n generalizing s ws with
  | zero => exact endAccess _
  | succ n ih =>
    unfold State.i2cFetch
    split
    · exact on h.modHost
    · exact ih (on (Dev.Awaits.stepPtr (readWord h)))

theorem serveHeld (h : s.Ended) : s.serveHeld.Ended := by
  unfold State.serveHeld
  split
  · exact h
  · dsimp only
    split
    · exact i2cFetch (on (Dev.Awaits.modHost (endAccess _)))
    · exact endAccess _

theorem hostWrite {env : Env} {ws : List (Nat × Word)} (h : s.Ended) : (s.hostWrite env ws).Ended := by
  unfold State.hostWrite
  split
  · exact h
  · exact endAccess _

theorem hostWord {env : Env} {a : Nat} {v : Word} (h : s.Ended) : (s.hostWord env a v).Ended := by
  unfold State.hostWord
  split
  · exact h
  · exact endAccess _

theorem hostReg {a : Nat} {v : Word} (h : s.Ended) : (s.hostReg a v).Ended := hostWord h

theorem hostRun {n : Nat} {tx on : Bool} (h : s.Ended) : (s.hostRun n tx on).Ended := by
  unfold State.hostRun
  exact hostReg h

theorem hostClrCnt {n : Nat} (h : s.Ended) : (s.hostClrCnt n).Ended := by
  unfold State.hostClrCnt
  exact hostReg h

theorem hostRead {a : Nat} (h : s.Ended) : (s.hostRead a).Ended := by
  unfold State.hostRead
  split
  · exact h
  · exact readWord h

/-! #### Engines -/

theorem engReadSpan {env : Env} {e : Nat} {t : Span} (h : s.Ended) : (s.engReadSpan env e t).1.Ended := by
  unfold State.engReadSpan
  split
  · dsimp only
    have hr := foldl_fst (xs := List.range ((t.len + 3) / 4)) (b := ([] : List Byte))
      (f := fun a i => ((a.1.readWord env (.engine e) (t.pa + 4 * i)).1,
        a.2 ++ leBytes 4 (a.1.readWord env (.engine e) (t.pa + 4 * i)).2.toNat)) (fun _ _ h => readWord h) h
    split
    · exact hr
    · exact on (Dev.Awaits.took hr)
  · dsimp only
    split
    · exact agentRead h
    · exact agentRead h

theorem engLoad {env : Env} {e v n : Nat} (h : s.Ended) : (s.engLoad env e v n).1.Ended := by
  unfold State.engLoad
  split
  · exact h
  · split
    · exact h
    · dsimp only
      split
      all_goals
        refine of_fst ‹_› (foldl_fst (fun r t h => ?_) h)
        split
        · exact h
        · split
          · exact of_fst ‹_› (engReadSpan h)
          · exact of_fst ‹_› (engReadSpan h)

/-- A store that reaches no register leaves nothing waiting, though no access of registers ends with it. -/
theorem engWriteSpan {env : Env} {e : Nat} {t : Span} {bs : List Byte} (hm : isRegAddr t.pa = false) (h : s.Ended) :
    (s.engWriteSpan env e t bs).Ended := by
  unfold State.engWriteSpan
  split
  next hr => exact absurd (Dev.isRegAddr_of_region hr) (by simp [hm])
  next => exact agentWrite h

theorem engStore {env : Env} {e v n x : Nat} (h : s.Ended) : (s.engStore env e v n x).1.Ended := by
  unfold State.engStore
  split
  · exact h
  · split
    · exact h
    next l _ =>
      dsimp only
      split
      · exact endAccess _
      next hany =>
        have hm : ∀ t ∈ l, isRegAddr t.pa = false := fun t ht => by
          by_contra hr
          exact hany (List.any_eq_true.mpr ⟨t, ht, by simp [s.dev.region_reg t.pa (by simpa using hr)]⟩)
        exact List.foldlRecOn (motive := fun r : State × List Byte => r.1.Ended) l _ h
          (fun r h t ht => engWriteSpan (hm t ht) h)

theorem engAtomic {env : Env} {e v : Nat} {swap : Bool} {x : Word} (h : s.Ended) :
    (s.engAtomic env e v swap x).1.Ended := by
  unfold State.engAtomic
  dsimp only
  split
  · exact h
  · split
    · exact h
    · exact h
    · split
      · exact h
      · split
        · split
          · exact of_fst ‹_› (engReadSpan h)
          · exact store (of_fst ‹_› (engReadSpan h))
        · exact on h.viol
        · exact h

theorem engMemory {env : Env} {e w : Nat} (h : s.Ended) : (s.engMemory env e w).1.Ended := by
  unfold State.engMemory
  dsimp only
  split
  · exact engAtomic h
  · split
    · exact h
    · exact engLoad h
    · exact engStore h

theorem engIssue {env : Env} {e p b : Nat} (h : s.Ended) : (s.engIssue env e p b).Ended := by
  have hm (c : Bool) (w : Nat) : (if c then s.engMemory env e w else (s, .ok 0)).1.Ended := by
    split
    · exact engMemory h
    · exact h
  unfold State.engIssue
  dsimp only
  split
  · exact on h.engFault
  · split
    · exact on h.engFault
    · split
      · exact on (Dev.Awaits.engFault (of_fst ‹_› (hm _ _)))
      · exact on (Dev.Awaits.engCommit (of_fst ‹_› (hm _ _)))

theorem engBundle {env : Env} {e : Nat} (h : s.Ended) : (s.engBundle env e).Ended := by
  have hf (p : Nat) : (s.dev.fetchAt e env.errs p).1.Awaits .none := h.fetchAt
  unfold State.engBundle
  dsimp only
  split
  · exact engIssue (on h.modEng)
  · split
    · exact dev (Dev.Awaits.of_fst ‹_› (hf _)).engFault
    · exact engIssue (on (Dev.Awaits.of_fst ‹_› (hf _)).modEng)
    · exact engIssue (on (Dev.Awaits.of_fst ‹_› (hf _)).eccSpan.modEng.modEng)

theorem engStepNow {env : Env} {e : Nat} (h : s.Ended) : (s.engStepNow env e).Ended := by
  unfold State.engStepNow
  extract_lets due before s1
  have h1 : s1.Ended := engBundle (on h.modEng)
  have h2 := (Dev.Awaits.setEngSt (e := e) (st := EngSt.running) h1).takeIrq (e := e) (errs := env.errs)
  exact on (Dev.Awaits.of_ite (Dev.Awaits.of_ite h2 h2.setEngSt) h1)

theorem engineBundle {e n : Nat} {env : Env} (h : s.Ended) : (s.engineBundle e n env).Ended := by
  unfold State.engineBundle
  split
  · exact h
  · split
    · exact engBundle (on h.engCycles)
    · split
      · exact engStepNow (on h.engCycles)
      · exact h

theorem engineStep {e : Nat} {env : Env} (h : s.Ended) : (s.engineStep e env).Ended := by
  unfold State.engineStep
  dsimp only
  split
  · exact engStepNow (hostWord h)
  · exact hostWord h

/-! #### DMA channels -/

theorem writeback {env : Env} {c w : Nat} (h : s.Ended) : (s.writeback env c w).1.Ended := by
  unfold State.writeback
  dsimp only
  split
  · exact h
  · exact h
  · split
    · exact endAccess _
    · exact agentWrite h

theorem dmaFault {env : Env} {c off code addr loc : Nat} {fetch : Bool} (h : s.Ended) :
    (s.dmaFault env c off code addr loc fetch).Ended := by
  unfold State.dmaFault
  extract_lets x d0 d1 d2 d3 d4 s1
  have h3 : d3.Awaits .none := h.wr.wr.wr.wr.wr
  have h4 : d4.Awaits .none := Dev.Awaits.modChan (Dev.Awaits.of_ite h3 h3.portAbandon)
  have h1 : s1.Ended := dev h4.setChSt.happen
  split
  · exact h1
  · exact writeback h1

theorem dmaSettle {env : Env} {c : Nat} (h : s.Ended) : (s.dmaSettle env c).Ended := by
  unfold State.dmaSettle
  dsimp only
  split
  · exact h
  · split
    · exact dmaFault h
    · split
      · exact on h.setChSt
      · exact h

theorem dmaRun {env : Env} (h : s.Ended) : (s.dmaRun env).Ended := foldl (fun _ _ h => dmaSettle h) (on h.dmaIssue)

theorem dmaMark {env : Env} {c off code addr loc : Nat} (h : s.Ended) : (s.dmaMark env c off code addr loc).Ended :=
  dmaSettle (on h.modChan)

theorem readDesc {env : Env} {c : Nat} (h : s.Ended) : (s.readDesc env c).1.Ended := by
  refine foldl_fst (fun r o h => ?_) h
  split
  · exact h
  · split
    · exact h
    · exact h
    · split
      · refine foldl_fst (fun r i h => ?_) h
        split
        · exact readWord h
        · exact h
      · dsimp only
        split
        · exact agentRead h
        · exact agentRead h

theorem descFetch {env : Env} {c : Nat} (h : s.Ended) : (s.descFetch env c).Ended := by
  unfold State.descFetch
  split
  · exact h
  · extract_lets a
    split
    · exact dmaFault (of_fst ‹_› (readDesc h))
    · have hr := of_fst ‹_› (readDesc h)
      extract_lets _ x s1 s2
      have h1 : s1.Ended := on hr.setChan.put
      split
      · exact on (Dev.Awaits.cond (fun h => h.happen) hr.setChan.setChSt)
      · split
        · exact dmaFault h1
        · refine dmaRun (on ?_)
          extract_lets d1 d2
          have h2 : d2.Awaits .none := (Dev.Awaits.of_ite h1.put h1).setChan.setChSt
          split
          · exact h2.fillBlock
          · exact h2

theorem dmaReadReturn {env : Env} {c n : Nat} (h : s.Ended) : (s.dmaReadReturn env c n).Ended := by
  unfold State.dmaReadReturn
  dsimp only
  split
  · split
    · split
      · exact on (Dev.Awaits.modChan (foldl_fst (fun _ _ h => readWord h) h))
      · split
        · exact dmaMark (agentRead h)
        · exact on (Dev.Awaits.modChan (agentRead h))
    · exact h
  · exact h

theorem beatWrite {env : Env} {c pa : Nat} {secure : Bool} {bs : List Byte} (h : s.Ended) :
    (s.beatWrite env c pa secure bs).Ended := by
  unfold State.beatWrite
  split
  · exact endAccess _
  · exact agentWrite h

theorem beatDone {env : Env} {c off : Nat} (h : s.Ended) : (s.beatDone env c off).Ended := by
  unfold State.beatDone
  split
  · split
    · exact dmaRun (dmaSettle (on h.modChan.put))
    · exact h
  · exact h

theorem dmaBeatCommit {env : Env} {c : Nat} (h : s.Ended) : (s.dmaBeatCommit env c).Ended := by
  have hr : (s.dmaRun env).Ended := dmaRun h
  unfold State.dmaBeatCommit
  dsimp only
  split
  · exact h
  · split
    · split
      · split
        · exact hr
        · exact beatDone (on hr.txBeat)
      · split
        · exact dmaMark hr
        · exact dmaMark hr
        · exact beatDone (beatWrite hr)
    · exact hr

/-- A channel writes TUMB_CTRL without an end of access (R419): that write leaves nothing waiting. -/
theorem writeWord_tumbCtrl {env : Env} {ag : Agent} {v : Word} (h : s.Ended) :
    (s.writeWord env ag Reg.tumbCtrl v).Ended := by
  have hr : s.dev.region Reg.tumbCtrl = .reg := s.dev.region_reg _ (by decide)
  unfold State.writeWord
  rw [show Reg.tumbCtrl / 4 * 4 = Reg.tumbCtrl by decide]
  dsimp only
  rw [if_neg (by simp [hr])]
  split
  · exact on h.viol
  · split
    · exact on (Dev.Awaits.modPwr rfl h)
    · split
      · exact on h.mirrorWrite
      · unfold State.applyWord
        rw [hr]
        exact on h.regWrite_tumbCtrl

theorem dmaArm {env : Env} {c : Nat} (h : s.Ended) : (s.dmaArm env c).Ended := by
  unfold State.dmaArm
  dsimp only
  split
  · exact h
  · split
    · exact writeWord_tumbCtrl h
    · exact on h.happen

theorem descComplete {env : Env} {c : Nat} (h : s.Ended) : (s.descComplete env c).Ended := by
  unfold State.descComplete
  extract_lets x total cut s1 s2
  have h2 : s2.Ended := dmaArm (on h.modChan)
  clear_value s2
  split
  · exact h
  · split
    · exact dmaFault (of_fst ‹_› (writeback h2))
    · have hw := of_fst ‹_› (writeback h2)
      refine on ?_
      extract_lets d1 d3
      have h3 : d3.Awaits .none := Dev.Awaits.cond (fun h => h.happen) hw.portDone.inc
      exact Dev.Awaits.of_ite h3 (Dev.Awaits.of_ite h3.setChan.setChSt h3.dmaFetch)

/-! #### The host interfaces -/

theorem i2cWrite {env : Env} {a reg : Nat} {bs : List Byte} (h : s.Ended) : (s.i2cWrite env a reg bs).Ended := by
  have hp : (s.on (fun d => (d.wakeEvent 2).setPtr 7 reg)).Ended := on h.wakeEvent.setPtr
  unfold State.i2cWrite
  dsimp only
  split
  · exact h
  · split
    · exact hp
    · split
      · split
        · exact endAccess _
        · exact on hp.viol.happen
      · split
        · exact endAccess _
        · exact on (endAccess _).i2cAborted

theorem i2cRead {env : Env} {a n : Nat} (h : s.Ended) : (s.i2cRead env a n).Ended := by
  unfold State.i2cRead
  split
  · exact h
  · exact i2cFetch (on h.wakeEvent)

theorem stretchTimeout (h : s.Ended) : s.stretchTimeout.Ended := by
  unfold State.stretchTimeout
  split
  · exact endAccess _
  · split
    · exact i2cFetch (on h.viol.stepPtr.modHost)
    · split
      · exact on (Dev.Awaits.viol (sourceTimeout h))
      · exact h

theorem spiWrite {env : Env} {adr bs : List Byte} {cut : Bool} (h : s.Ended) : (s.spiWrite env adr bs cut).Ended := by
  have hp : (s.on (·.setPtr 8 (beNat adr))).Ended := on h.setPtr
  unfold State.spiWrite
  dsimp only
  split
  · exact h
  · split
    · exact on h.spiFrame
    · split
      · split
        · exact on hp.spiFrame
        · split
          · exact endAccess _
          · exact on hp.spiFrame.modHost
      · split
        · exact on (endAccess _).spiFrame
        · exact endAccess _

theorem spiRead {env : Env} {adr : List Byte} {n : Nat} {late : List Nat} {cut : Bool} (h : s.Ended) :
    (s.spiRead env adr n late cut).Ended := by
  unfold State.spiRead
  dsimp only
  split
  · exact h
  · split
    · exact on h.spiFrame
    · exact endAccess _

/-! #### The pair, turns, the link and transactions -/

theorem hingeRx {f : HingeIn} (h : s.Ended) : (s.hingeRx f).Ended := by
  unfold State.hingeRx
  extract_lets d0 d1 d2 d3 d4 s1
  have h1 : d1.Awaits .none := h.hingeFrame
  have h3 : d3.Awaits .none := Dev.Awaits.syncEdge (Dev.Awaits.of_ite h1.resync h1)
  have h4 : d4.Awaits .none := by
    refine Dev.Awaits.of_ite ?_ h3
    split
    · exact h3.put.liveAccept
    · exact h3
  split
  · exact assertReset _ _ _
  · exact dev h4

theorem ktSeal (h : s.Ended) : s.ktSeal.Ended := by
  unfold State.ktSeal
  split
  · exact h
  next i t _ _ =>
    extract_lets s1
    have h1 : s1.Ended := on h.sealSlot.codeSealed
    split
    · exact h1
    · split
      · exact assertReset _ _ _
      · exact on (Dev.Awaits.parts (wipe h1))

theorem lbxWipeDone (h : s.Ended) : s.lbxWipeDone.Ended := by
  unfold State.lbxWipeDone
  dsimp only
  split
  · exact h
  · split
    · exact assertReset _ _ _
    · exact on h.wipeDone

theorem tamper {cause : Nat} (h : s.Ended) : (s.tamper cause).Ended :=
  on (Dev.Awaits.cutTurn (wipe (on h.fastOn))).cutBurn.happen.inc.put

theorem linkReset {p : Nat} {m : Msg} (h : s.Ended) : (s.linkReset p m).Ended := by
  unfold State.linkReset
  dsimp only
  split
  · exact assertReset _ _ _
  · exact dev h.linkResetMsg

theorem bootData {p : Nat} {m : Msg} (h : s.Ended) : (s.bootData p m).Ended := by
  unfold State.bootData
  dsimp only
  split
  · exact linkData (dev h.arrive)
  · exact dev h.arrive

theorem pwrTransaction {ws : List (Nat × Word)} (h : s.Ended) : (s.pwrTransaction ws).Ended := serveHeld (hostWrite h)

theorem pwrCommitAll (h : s.Ended) : s.pwrCommitAll.Ended := serveHeld (pwrCommit h)

theorem quiesceEnds (h : s.Ended) : s.quiesceEnds.Ended := serveHeld (on h.quiesceTimeout)

/-! #### The frame boundary -/

theorem ringIn {f : FrameIn} {n e : Nat} (h : s.Ended) : (s.ringIn f n e).Ended := by
  unfold State.ringIn
  dsimp only
  split
  · exact on h.ringLate
  · split
    · refine foldl (fun s p h => ?_) h
      split
      · exact store (dev h.eccWrite)
      · exact dev h.eccWrite
    · exact store h

theorem pass {f : FrameIn} {n : Nat} (h : s.Ended) : (s.pass f n).Ended := by
  unfold State.pass
  extract_lets es back s1 s2
  have h1 : s1.Ended := by
    unfold s1
    split
    · exact h
    · exact foldl (fun _ _ h => ringIn h) h
  have h2 : s2.Ended := by
    unfold s2
    split
    · exact h1
    · exact on (Dev.Awaits.each (fun _ _ h => h.ringBlock) h1)
  exact dev (Dev.Awaits.each (fun _ _ h => h.portHand) h2.latch.mixPass.lockCrcs).usbHand.linkHand

theorem mirrorsDue {n : Nat} (h : s.Ended) : (s.mirrorsDue n).Ended := by
  unfold State.mirrorsDue
  dsimp only
  split
  · exact dev h.dueMirrors
  · exact endAccess _

theorem runPass {f : FrameIn} {n : Nat} (h : s.Ended) : (s.runPass f n).Ended := by
  unfold State.runPass
  exact on (Dev.Awaits.each (fun _ _ h => h.raise) (pass (mirrorsDue (on h.countFrame))))

/-- What a boundary does before its pass and commits. -/
theorem portBoundaries (h : s.Ended) : (s.on (fun d => d.each (List.range 7) Dev.portBoundary)).Ended :=
  on (Dev.Awaits.each (fun _ _ h => h.portBoundary) h)

theorem frameBoundary {f : FrameIn} (h : s.Ended) : (s.frameBoundary f).Ended := by
  unfold State.frameBoundary
  extract_lets s1 s2 n s3
  have h2 : s2.Ended := portBoundaries (on h.observe)
  have h3 : s3.Ended := by
    unfold s3
    split
    · exact runPass (on h2.tumbCommit.liveCommit)
    · exact h2
  split
  · exact h
  · exact on h3.boundaryEnd

theorem keywayStart {f : FrameIn} (h : s.Ended) : (s.keywayStart f).Ended := by
  unfold State.keywayStart
  extract_lets again s1 s2 s3
  have h1 : s1.Ended := by
    unfold s1
    refine on ?_
    extract_lets d1 d2 d3
    have h2 : d2.Awaits .none := Dev.Awaits.each (fun _ _ h => h.engBegin) h.modBoot.setBoot
    exact (Dev.Awaits.of_ite h2 h2.twinStart).usbCheck.wdtRestart
  have h3 : s3.Ended := by
    unfold s3
    split
    · exact runPass (portBoundaries h1)
    · exact portBoundaries h1
  split
  · exact h
  · exact on h3.boundaryEnd

theorem standbyStart {b : Nat} (s : State) : (s.standbyStart b).Ended := by
  unfold State.standbyStart
  refine on ?_
  extract_lets d1 d2 d3 d4
  have h1 : d1.Awaits .none := (endAccess _).anainUp.anainUp
  have h3 : d3.Awaits .none := Dev.Awaits.each (fun _ _ h => h.engBegin) (Dev.Awaits.each (fun _ _ h => h.pdmCommit) h1)
  exact h3.modHinge.setRole.put.happen

theorem standbySync {f : FrameIn} (h : s.Ended) : (s.standbySync f).Ended := by
  unfold State.standbySync
  dsimp only
  split
  · exact h
  · split
    · exact on h.modHinge.put.happen
    · split
      · exact h
      · split
        · exact h
        · exact on (Dev.Awaits.boundaryEnd (runPass (standbyStart _)))

/-! #### Commands -/

/-- Every command ends the accesses it makes: those of the agents by the end of an access, and the others make none that a
restart of the PLL or a word of PWR_TARGET waits for. -/
theorem exec_next {c : Instr} {t : State} (h : s.Ended) (e : exec c s = .next t) : t.Ended := by
  cases c with obtain rfl := Host.Outcome.next.inj e
  | por => exact por _
  | bor => exact assertReset _ _ _
  | pinReset => exact assertReset _ _ _
  | wdtReset => exact wdtReset h
  | commit => exact commit h
  | keywayStart => exact keywayStart h
  | reseatTeardown => exact reseatTeardown h
  | loadSourceTimeout => exact sourceTimeout h
  | fallbackExit => exact fallbackExit h
  | frameBoundary => exact frameBoundary h
  | engineBundle => exact engineBundle h
  | engineStep => exact engineStep h
  | lbxWipeDone => exact lbxWipeDone h
  | descFetch => exact descFetch h
  | dmaReadReturn => exact dmaReadReturn h
  | dmaBeatCommit => exact dmaBeatCommit h
  | descComplete => exact descComplete h
  | claim => exact hostRead h
  | linkReset => exact linkReset h
  | bootData => exact bootData h
  | hingeFrameRx => exact hingeRx h
  | standbySync => exact standbySync h
  | ktSeal => exact ktSeal h
  | tamper => exact tamper h
  | pwrTransaction => exact pwrTransaction h
  | quiesceTimeout => exact quiesceEnds h
  | pwrCommit => exact pwrCommitAll h
  | i2cWrite => exact i2cWrite h
  | i2cRead => exact i2cRead h
  | i2cStretchTimeout => exact stretchTimeout h
  | spiWrite => exact spiWrite h
  | spiRead => exact spiRead h
  | flashLoadFail => exact flashFail h
  | portRunStart | portRunStop => exact hostRun h
  | portClrCnt => exact hostClrCnt h
  | bootHostdata | swap | arm | armAt | disarm | registerWrite => exact hostWord h
  | soft | hostload | reseat | live | abort | bootCtrlBadKey | pllWrite | refselWrite | reacquire | tumblerStage |
      discard | complianceCleared | hpProtectCleared | outputRun | spkShortCleared | spkDiag | seqMuteWrite |
      jdCfgWrite | hsStart | hsAbort | btncfgWrite | rmonClr | asrcClr | hidinWrite | usbCtrlWrite | engineStart |
      engineStop | engineResume | engineClrCnt | doorbell | regdataWrite | ringConfigWrite | windowWrite |
      memCtrlWrite | dmaStart | dmaStop | dmaResume | kick | dmaClrCnt | dmaCfgWrite | complete | swset |
      intcHoldWrite | intcCfgWrite | linkSend | linkPop | linkNodeidWrite | linkIdle | linkWake | linkClrCnt | detach
      | attach | resetTwin | hingeClrCnt | tileSwap | ktWrite | ktHoldingWrite | violClear | pwrClkselWrite |
      shackleRelease | wdtKick | wdtcfgWrite | resume | qspiGo => exact hostReg h
  | resetRelease => exact on h.resetRelease
  | bootTestsDone => exact on h.bootTestsDone
  | spkSegmentTestsDeferred => exact on h.segTests
  | reseatCompare => exact on h.reseatCompare
  | bandSearchDone => exact on h.bandDone
  | pllLock => exact on h.pllLock
  | acqTimeout => exact on h.acqTimeout
  | phaseFreeze => exact on h.phaseFreeze
  | freezeDecision => exact on h.freezeDecision
  | refLost => exact on h.refLost
  | refReturned => exact on h.refReturned
  | refmonRefresh => exact on h.refmonRefresh
  | dmaStall => exact on h.dmaStall
  | interruptTrap => exact on h.interruptTrap
  | fastEntry => exact on h.fastEntryAt
  | waitWake => exact on h.waitWake
  | i2cSetPointer => exact on h.i2cSetPtr
  | i2cAbort => exact on h.i2cAbort
  | i2cStuck => exact on h.i2cStuck
  | spiStatus => exact on h.spiStatus
  | qspiDone => exact on h.qspiDone
  | spiUnknownCommand => exact on h.spiUnknown
  | anainSettleEnd => exact on h.ainSettleEnd
  | adcSliceSwap => exact on h.adcSwap
  | adcSliceCalDone => exact on h.adcCalDone
  | adcSliceCheckFail => exact on h.adcFail
  | micbTrip => exact on h.micbTrip
  | pdmClkLost => exact on h.pdmLost
  | pdmClkReturn => exact on h.pdmReturn
  | pdmSettleEnd => exact on (Dev.Awaits.of_ite h.pdmChSettled h.pdmClkSettled)
  | coalTimerExpire => exact on h.coalExpire
  | extintChange => exact on h.extintChange
  | jackRawChange => exact on h.jackRaw
  | jackDebounced => exact on h.jackChange
  | hsSettleEnd => exact on h.hsSettleEnd
  | hsDetectDone => exact on h.hsDetectDone
  | buttonSample => exact on h.buttonSample
  | xpRampEnd => exact on h.xpRampEnd
  | fadeShadowEnd => exact on h.shadowEnd
  | serialFadeHalf => exact on h.serialHalf
  | linkFrameRx => exact on h.linkFrame
  | linkRangingDone => exact on h.linkRangingDone
  | linkRootLoss => exact on h.rootLoss
  | app => exact on h.linkApp
  | assign => exact on h.linkAssign
  | join => exact on h.linkJoin
  | squelchWake => exact on h.squelchWake
  | eccWriteback => exact on h.eccWriteback
  | scrubRead => exact on h.scrubRead
  | repairCopyDone => exact on h.copyDone
  | dacSliceSwap => exact on h.dacSwap
  | dacSliceCalDone => exact on h.dacCalDone
  | dacSliceCheckFail => exact on h.dacFail
  | complianceTrip => exact on h.complianceTrip
  | complianceHiz => exact on h.complianceHiz
  | complianceRecover => exact on h.complianceRecover
  | hpCurrentLimit => exact on h.hpLimit
  | pumpReady => exact on h.pumpReady
  | chainReady => exact on h.chainReadyEvent
  | outClrAssert => exact on h.outClrAssert
  | outClrRelease => exact on h.outClrRelease
  | holdEnd => exact on h.holdEnd
  | seqBlockDone => exact on h.blkDone
  | personaSequence => exact on h.personaSeq
  | portFrameReceived => exact on h.portFrame
  | portFsEdge => exact on h.fsEdge
  | portPinFrameStart => exact on h.pinStart
  | spdifFrameReceived => exact on h.spdifFrame
  | npUnmute => exact on h.npUnmute
  | rmonStop => exact on h.rmonStop
  | rmonPeriod => exact on h.rmonPeriod
  | asrcAcquired => exact on h.asrcAcquired
  | asrcFadeDone => exact on h.asrcFadeDone
  | asrcHoldTimeout => exact on h.asrcHoldTimeout
  | quiesceAgree => exact on h.quiesceAgrees
  | domainArrive => exact on h.domainArrive
  | wake => exact on h.wakeEvent
  | wakePin => exact on h.wakeEvent
  | domainClkSwitch => exact on h.clkSwitch
  | tileSwapDone => exact on h.swapDone
  | repairBurnStart => exact on h.burnStart
  | repairBurnDone => exact on h.burnDone
  | segmentFailing => exact on h.segFailing
  | spkShortTrip => exact on h.shortTrip
  | diagDone => exact on h.diagDone
  | pilotMeasure => exact on h.pilotMeasure
  | spkPvddReady => exact on h.pvddReady
  | pvddCutoff => exact on h.pvddCutoff
  | pvddOvervoltage => exact on h.pvddOver
  | derateStep => exact on h.derateStep
  | spkThermalShutdown => exact on h.spkHot
  | spkThermalCleared => exact on h.spkCooled
  | watchdogPre => exact on h.wdtPre
  | supplyWarning => exact on h.supplyWarned
  | supplyRecover => exact on h.supplyRecover
  | thermalWarning => exact on h.thermalWarning
  | die0Throttle => exact on h.throttle
  | die0ThrottleEnd => exact on h.throttleEnd
  | die0Shutdown => exact on h.shutdown
  | pairWaitExpire => exact on h.pairWaitEnds
  | pairSyncTimeout => exact on h.syncTimesOut
  | heartbeatMiss => exact on h.heartbeatMiss
  | deadmanFire => exact on h.deadman
  | partnerLost => exact on h.partnerLost
  | usbOutPacket => exact on h.usbOut
  | usbInToken => exact on h.usbIn
  | usbSof => exact on h.usbSof
  | setInterface => exact on h.usbInterface
  | setCurSamplingFreq => exact on h.usbFreq
  | usbClassRequest => exact on h.usbClass
  | usbStandardRequest => exact on h.usbStd
  | featureUnitSet => exact on h.usbFeature
  | setReport => exact on h.usbReport
  | usbConnect => exact on h.usbConnect
  | usbDisconnect => exact on h.usbDisconnect
  | usbSuspend => exact on h.usbSuspend
  | usbResume => exact on h.resumeSignal
  | lpm => exact on h.usbLpm

end State.Ended

theorem State.ended_iff (s : State) : s.Ended ↔ s.dev.accessEnded :=
  ⟨fun h => ⟨Bool.eq_false_iff.mpr h.restart, h.words⟩, fun ⟨hr, hw⟩ => ⟨Bool.eq_false_iff.mp hr, hw⟩⟩

/-- Settles O5: a command ends the accesses it makes, and a step with no command waiting makes none. -/
theorem stepEndsEveryAccess : Obligations.StepEndsEveryAccess := by
  unfold Obligations.StepEndsEveryAccess
  intro s t h e
  rw [← State.ended_iff] at h ⊢
  obtain ⟨-, rfl⟩ | ⟨c, rest, -, e⟩ := step_next_cases e
  · exact h
  · exact State.Ended.exec_next (s := { s with pending := rest }) h e

end Sys2Proof.Machine

/-! The clock root over fallback and the switch-back (R84, R89): what they do to outputs, ports, converters, USB, the link and the
hinge leaves the clock root, its registers and the boot controller alone. -/
namespace Sys2Proof.Machine

/-- The clock root, the registers up to the end of block CLK and the boot controller are in `t` as in `d`. -/
structure Dev.KeepsClk (d t : Dev) : Prop where
  clk : t.clk = d.clk
  boot : t.boot = d.boot
  regs : ∀ a < 0x820000, t.rd a = d.rd a

/-! ### Fields above block CLK -/

theorem outBase_above (o : Nat) : 0x820000 ≤ outBase o := by
  unfold outBase
  split_ifs <;> omega

@[simp] theorem Fld.outStatusState_above (o : Nat) : 0x820000 ≤ (Fld.outStatusState o).addr :=
  (outBase_above o).trans (Nat.le_add_right _ _)

@[simp] theorem Fld.outStatusHolding_above (o : Nat) : 0x820000 ≤ (Fld.outStatusHolding o).addr :=
  (outBase_above o).trans (Nat.le_add_right _ _)

@[simp] theorem Fld.outStatusClrCause_above (o : Nat) : 0x820000 ≤ (Fld.outStatusClrCause o).addr :=
  (outBase_above o).trans (Nat.le_add_right _ _)

@[simp] theorem Fld.seqStatusGain_above (o : Nat) : 0x820000 ≤ (Fld.seqStatusGain o).addr :=
  Nat.le_add_right_of_le (by decide)

@[simp] theorem Fld.seqStatusStep_above (o : Nat) : 0x820000 ≤ (Fld.seqStatusStep o).addr :=
  Nat.le_add_right_of_le (by decide)

@[simp] theorem unitEvents_above (n : Nat) : 0x820000 ≤ unitEvents n := by
  unfold unitEvents
  split
  · decide
  · exact Nat.le_add_right_of_le (by decide)

theorem unitStatus_above (n : Nat) : 0x820000 ≤ unitStatus n := by
  unfold unitStatus
  split
  · decide
  · exact Nat.le_add_right_of_le (by decide)

@[simp] theorem stateF_above (n : Nat) (tx : Bool) : 0x820000 ≤ (stateF n tx).addr := by
  cases tx <;> exact unitStatus_above n

@[simp] theorem fillF_above (n : Nat) (tx : Bool) : 0x820000 ≤ (fillF n tx).addr := by
  cases tx <;> exact unitStatus_above n

@[simp] theorem lockF_above (n : Nat) (tx : Bool) : 0x820000 ≤ (lockF n tx).addr := by
  cases tx <;> exact unitStatus_above n

@[simp] theorem Fld.rmonStatusState_above (m : Nat) : 0x820000 ≤ (Fld.rmonStatusState m).addr :=
  Nat.le_add_right_of_le (by decide)

@[simp] theorem Fld.rmonStatusRate_above (m : Nat) : 0x820000 ≤ (Fld.rmonStatusRate m).addr :=
  Nat.le_add_right_of_le (by decide)

@[simp] theorem Fld.rmonStatusPeriod_above (m : Nat) : 0x820000 ≤ (Fld.rmonStatusPeriod m).addr :=
  Nat.le_add_right_of_le (by decide)

@[simp] theorem Fld.asrcGStatusState_above (g : Nat) : 0x820000 ≤ (Fld.asrcGStatusState g).addr :=
  Nat.le_add_right_of_le (by decide)

@[simp] theorem Fld.asrcGCountAcquires_above (g : Nat) : 0x820000 ≤ (Fld.asrcGCountAcquires g).addr :=
  Nat.le_add_right_of_le (by decide)

@[simp] theorem Fld.asrcGCountFades_above (g : Nat) : 0x820000 ≤ (Fld.asrcGCountFades g).addr :=
  Nat.le_add_right_of_le (by decide)

@[simp] theorem Fld.asrcEventsUnlock_above : 0x820000 ≤ Fld.asrcEventsUnlock.addr := by decide

@[simp] theorem Fld.usbFillPlayFill_above : 0x820000 ≤ Fld.usbFillPlayFill.addr := by decide

@[simp] theorem Fld.usbFillCapFill_above : 0x820000 ≤ Fld.usbFillCapFill.addr := by decide

@[simp] theorem Fld.linkStatusState_above : 0x820000 ≤ Fld.linkStatusState.addr := by decide

@[simp] theorem Fld.linkPortStatusState_above (p : Nat) : 0x820000 ≤ (Fld.linkPortStatusState p).addr :=
  Nat.le_add_right_of_le (by decide)

@[simp] theorem Fld.keyStatusRunning_above : 0x820000 ≤ Fld.keyStatusRunning.addr := by decide

@[simp] theorem Fld.violCntCount_above (c : Nat) : 0x820000 ≤ (Fld.violCntCount c).addr :=
  Nat.le_add_right_of_le (by decide)

@[simp] theorem Fld.violLastCategory_above : 0x820000 ≤ Fld.violLastCategory.addr := by decide

@[simp] theorem Fld.violLastAgent_above : 0x820000 ≤ Fld.violLastAgent.addr := by decide

@[simp] theorem Fld.violLastaddrAddr_above : 0x820000 ≤ Fld.violLastaddrAddr.addr := by decide

namespace Dev.KeepsClk

variable {d t : Dev}

theorem refl (d : Dev) : d.KeepsClk d := ⟨rfl, rfl, fun _ _ => rfl⟩

theorem get (hk : d.KeepsClk t) {f : Fld} (hf : f.addr < 0x820000) : t.get f = d.get f := by
  simp only [Dev.get, hk.regs _ hf]

/-! ### Registers, choices and loops -/

/-- An operation on the parts other than the registers, the boot controller and the clock root. -/
theorem parts {intc key inp outs hs ser usb engs memc chans link hinge kt pwr host pins free} (hk : d.KeepsClk t) :
    d.KeepsClk { regs := t.regs, intc, boot := t.boot, clk := t.clk, key, inp, outs, hs, ser, usb, engs, memc, chans, link,
                 hinge, kt, pwr, host, pins, free } :=
  ⟨hk.clk, hk.boot, hk.regs⟩

theorem wr {a : Nat} {w : Word} (hk : d.KeepsClk t) (ha : 0x820000 ≤ a := by simp) : d.KeepsClk (t.wr a w) :=
  ⟨hk.clk, hk.boot, fun b hb => (t.rd_wr_ne a b w (by omega)).trans (hk.regs b hb)⟩

theorem put {f : Fld} {v : Nat} (hk : d.KeepsClk t) (ha : 0x820000 ≤ f.addr := by simp) : d.KeepsClk (t.put f v) := wr hk ha

theorem flag {f : Fld} {b : Bool} (hk : d.KeepsClk t) (ha : 0x820000 ≤ f.addr := by simp) : d.KeepsClk (t.flag f b) :=
  put hk ha

theorem inc {f : Fld} (hk : d.KeepsClk t) (ha : 0x820000 ≤ f.addr := by simp) : d.KeepsClk (t.inc f) := put hk ha

theorem of_ite {c : Prop} [Decidable c] {a b : Dev} (ha : d.KeepsClk a) (hb : d.KeepsClk b) :
    d.KeepsClk (if c then a else b) := by
  split
  · exact ha
  · exact hb

theorem each {α : Type} {f : Dev → α → Dev} {xs : List α} (hf : ∀ t x, d.KeepsClk t → d.KeepsClk (f t x))
    (hk : d.KeepsClk t) : d.KeepsClk (t.each xs f) :=
  Dev.each_induct (fun t => d.KeepsClk t) f hf xs t hk

theorem putBit {f : Fld} {i : Nat} {b : Bool} (hk : d.KeepsClk t) (ha : 0x820000 ≤ f.addr := by simp) :
    d.KeepsClk (t.putBit f i b) :=
  of_ite (put hk ha) (put hk ha)

theorem viol {cat : Nat} {ag : Agent} {addr : Nat} (hk : d.KeepsClk t) : d.KeepsClk (t.viol cat ag addr) :=
  put (put (put (put hk)))

theorem srcEvent {k : Nat} (hk : d.KeepsClk t) : d.KeepsClk (t.srcEvent k) := of_ite hk (parts hk)

theorem happenBit {a b : Nat} (hk : d.KeepsClk t) (ha : 0x820000 ≤ a := by simp) : d.KeepsClk (t.happenBit a b) := by
  unfold Dev.happenBit
  dsimp only
  split
  · exact srcEvent (wr hk ha)
  · exact wr hk ha

theorem happenAt {f : Fld} {i : Nat} (hk : d.KeepsClk t) (ha : 0x820000 ≤ f.addr := by simp) :
    d.KeepsClk (t.happenAt f i) := happenBit hk ha

/-! ### Outputs -/

theorem modOut {o : Nat} {f : Out → Out} (hk : d.KeepsClk t) : d.KeepsClk (t.modOut o f) := parts hk

theorem setOutSt {o st : Nat} (hk : d.KeepsClk t) : d.KeepsClk (t.setOutSt o st) := put hk

theorem setCause {o c : Nat} {b : Bool} (hk : d.KeepsClk t) : d.KeepsClk (t.setCause o c b) := putBit hk

theorem startHold {o : Nat} {h : HoldK} (hk : d.KeepsClk t) : d.KeepsClk (t.startHold o h) := put (put (modOut hk))

theorem dropHold {o : Nat} (hk : d.KeepsClk t) : d.KeepsClk (t.dropHold o) := put (put (modOut hk))

theorem abandon {o : Nat} (hk : d.KeepsClk t) : d.KeepsClk (t.abandon o) := put (put (modOut hk))

theorem atClear {o : Nat} (hk : d.KeepsClk t) : d.KeepsClk (t.atClear o) := parts hk

theorem enterClear {o : Nat} {fallback : Bool} (hk : d.KeepsClk t) : d.KeepsClk (t.enterClear o fallback) := by
  have hc {st : Nat} : d.KeepsClk (((t.abandon o).setOutSt o st).atClear o) := atClear (setOutSt (abandon hk))
  exact of_ite hk (of_ite (setOutSt hk) (of_ite (dropHold hc) (startHold hc)))

theorem tryExit {o : Nat} (hk : d.KeepsClk t) : d.KeepsClk (t.tryExit o) := of_ite (startHold hk) hk

theorem outFallback (hk : d.KeepsClk t) : d.KeepsClk t.outFallback := each (fun _ _ hk => enterClear (setCause hk)) hk

theorem outSwitchBack (hk : d.KeepsClk t) : d.KeepsClk t.outSwitchBack := each (fun _ _ hk => tryExit (setCause hk)) hk

/-! ### Ports and converters -/

theorem portEv {n b : Nat} (hk : d.KeepsClk t) : d.KeepsClk (t.portEv n b) := happenBit hk

theorem setDir {n : Nat} {tx : Bool} {x : PDir} (hk : d.KeepsClk t) : d.KeepsClk (t.setDir n tx x) := put (parts hk)

theorem modDir {n : Nat} {tx : Bool} {f : PDir → PDir} (hk : d.KeepsClk t) : d.KeepsClk (t.modDir n tx f) := setDir hk

theorem setDirSt {n : Nat} {tx : Bool} {st : Nat} (hk : d.KeepsClk t) : d.KeepsClk (t.setDirSt n tx st) := put hk

theorem setLock {n : Nat} {tx b : Bool} (hk : d.KeepsClk t) : d.KeepsClk (t.setLock n tx b) := of_ite hk (flag hk)

theorem closeBlock {n : Nat} {short : Bool} (hk : d.KeepsClk t) : d.KeepsClk (t.closeBlock n short) := by
  unfold Dev.closeBlock
  dsimp only
  split
  · exact hk
  · exact setDir hk

theorem breakBlock {n : Nat} (hk : d.KeepsClk t) : d.KeepsClk (t.breakBlock n) := of_ite (modDir (closeBlock hk)) hk

theorem setAsrc {g : Nat} {x : Asrc} (hk : d.KeepsClk t) : d.KeepsClk (t.setAsrc g x) := parts hk

theorem asrcTry {g : Nat} (hk : d.KeepsClk t) : d.KeepsClk (t.asrcTry g) := of_ite hk (of_ite (inc (put hk)) (put hk))

theorem asrcUnlock {g : Nat} (hk : d.KeepsClk t) : d.KeepsClk (t.asrcUnlock g) := of_ite (happenAt hk) hk

theorem asrcLand {g dest : Nat} (hk : d.KeepsClk t) : d.KeepsClk (t.asrcLand g dest) :=
  of_ite (setAsrc (put hk)) (asrcTry (setAsrc (put hk)))

theorem asrcFreeze {g : Nat} (hk : d.KeepsClk t) : d.KeepsClk (t.asrcFreeze g) := setAsrc hk

theorem asrcThaw {g : Nat} (hk : d.KeepsClk t) : d.KeepsClk (t.asrcThaw g) :=
  of_ite hk (of_ite (setAsrc (of_ite hk (inc (put (asrcUnlock hk))))) (asrcLand hk))

theorem rmonShow {m : Nat} (hk : d.KeepsClk t) : d.KeepsClk (t.rmonShow m) := by
  have hr {st : Nat} : d.KeepsClk ((((t.setRmon m Rmon.init).put (Fld.rmonStatusState m) st).put (Fld.rmonStatusRate m) 15).put
      (Fld.rmonStatusPeriod m) 0) := put (put (put (parts hk)))
  unfold Dev.rmonShow
  split
  · exact put (put hk)
  · exact of_ite hr (of_ite hr hk)

theorem dirStopped {n : Nat} {tx : Bool} (hk : d.KeepsClk t) : d.KeepsClk (t.dirStopped n tx) :=
  portEv (rmonShow (setLock (setDirSt (setDir hk))))

theorem dirFallback {n : Nat} {tx : Bool} (hk : d.KeepsClk t) : d.KeepsClk (t.dirFallback n tx) := by
  unfold Dev.dirFallback
  extract_lets st x d1 d2
  have h1 : d.KeepsClk d1 := of_ite hk (breakBlock hk)
  have h2 : d.KeepsClk d2 := of_ite (setLock h1) h1
  exact of_ite hk (of_ite (dirStopped hk) (of_ite hk (setDirSt (modDir h2))))

theorem dirRestart {n : Nat} {tx : Bool} (hk : d.KeepsClk t) : d.KeepsClk (t.dirRestart n tx) := by
  have he : d.KeepsClk (t.portRestartEv n) := portEv hk
  exact of_ite hk (of_ite (setDirSt (modDir he)) (of_ite (setDirSt (modDir he)) (setDirSt he)))

theorem portsFallback (hk : d.KeepsClk t) : d.KeepsClk t.portsFallback :=
  each (fun _ _ hk => asrcFreeze hk) (each (fun _ _ hk => dirFallback hk) hk)

theorem portsRestart (hk : d.KeepsClk t) : d.KeepsClk t.portsRestart :=
  each (fun _ _ hk => asrcThaw hk) (each (fun _ _ hk => dirRestart hk) hk)

/-! ### USB, the link and the hinge -/

theorem usbStart {cap : Bool} (hk : d.KeepsClk t) : d.KeepsClk (t.usbStart cap) := put (put (parts hk))

theorem usbRestart (hk : d.KeepsClk t) : d.KeepsClk t.usbRestart := usbStart (usbStart hk)

theorem startRanging (hk : d.KeepsClk t) : d.KeepsClk t.startRanging := of_ite (put (parts hk)) hk

theorem linkUnframe (hk : d.KeepsClk t) : d.KeepsClk t.linkUnframe := each (fun _ _ hk => of_ite (put (parts hk)) hk) hk

theorem hingeUnframe (hk : d.KeepsClk t) : d.KeepsClk t.hingeUnframe := of_ite (parts hk) hk

end Dev.KeepsClk

/-! ### Fallback and the switch-back -/

/-- The entry to fallback, of a device that may be in it already: CLK registers stay, and of the clock root the rest (R89). -/
theorem Dev.enterFallback_keepsClk (d : Dev) :
    (d.modClk (fun c => { c with fallback := true })).KeepsClk d.enterFallback := by
  unfold Dev.enterFallback
  split
  next h =>
    have e : d.modClk (fun c => { c with fallback := true }) = d := by
      rw [Dev.modClk, ← h]
    exact e ▸ .refl d
  next => exact .hingeUnframe (.linkUnframe (.portsFallback (.outFallback (.put (.refl _)))))

theorem Dev.switchBack_keepsClk (d : Dev) :
    ((d.put Fld.clkStatusLocked 1).modClk (fun c => { c with stage := AcqStage.none, fallback := false })).KeepsClk
      d.switchBack :=
  .startRanging (.usbRestart (.portsRestart (.outSwitchBack (.refl _))))

end Sys2Proof.Machine

/-! The commands of the clock root (chapter 03): the fields that they leave, read back through the operations they are made of. -/
namespace Sys2Proof.Machine

/-! ### Fields of block CLK read back -/

/-- The two fields share no bit. -/
def Fld.apart (f g : Fld) : Bool :=
  g.addr != f.addr || decide ((f.lo ≤ f.hi ∧ f.hi < 32) ∧ (g.lo ≤ g.hi ∧ g.hi < 32) ∧ (g.hi < f.lo ∨ f.hi < g.lo))

theorem Dev.get_put_apart (d : Dev) {f g : Fld} (v : Nat) (h : f.apart g = true) : (d.put f v).get g = d.get g := by
  simp only [Fld.apart, Bool.or_eq_true, bne_iff_ne, decide_eq_true_eq] at h
  by_cases ha : g.addr = f.addr
  · obtain ha' | ⟨hf, hg, hd⟩ := h
    · exact absurd ha ha'
    · exact d.get_put_disjoint f g v ha hf hg hd
  · exact d.get_put_ne f g v ha

theorem Dev.get_flag_apart (d : Dev) {f g : Fld} (b : Bool) (h : f.apart g = true) : (d.flag f b).get g = d.get g :=
  d.get_put_apart _ h

@[simp] theorem Dev.get_modClk (d : Dev) (c : Clk → Clk) (f : Fld) : (d.modClk c).get f = d.get f := rfl

theorem Dev.get_flag_same (d : Dev) {f : Fld} (b : Bool) (hf : f.fits) (hw : f.width = 1) :
    (d.flag f b).get f = if b then 1 else 0 := by
  rw [Dev.flag, d.get_put_same f _ hf, hw]
  split <;> rfl

/-- A field of one bit reads the condition that it differs from 0. -/
theorem Dev.is_toNat (d : Dev) {f : Fld} (hw : f.width = 1) : (if d.is f then 1 else 0) = d.get f := by
  have hlt := d.get_lt f
  rw [hw] at hlt
  cases h : d.is f with
  | true =>
    have : d.get f ≠ 0 := bne_iff_ne.mp h
    simp only [if_true]
    omega
  | false => simpa using (bne_eq_false_iff_eq.mp h).symm

/-! ### Acquisition (R80, R81, R92) -/

/-- What the start of an acquisition writes to CLK_STATUS. -/
def Dev.acqStatus (d : Dev) (cause : Nat) : Dev :=
  let run := d.is Fld.clkPllcfgRun
  let t := ((d.put Fld.clkStatusLocked 0).put Fld.clkStatusHoldover 0).put Fld.clkStatusOnAlt 0
  let t := (t.flag Fld.clkStatusAcquiring run).put Fld.clkStatusRefUsed (t.get Fld.clkRefselPrimary)
  if run then t.put Fld.clkStatusLastCause cause else t

theorem Dev.acquire_eq (d : Dev) (cause : Nat) : d.acquire cause = ((d.acqStatus cause).modClk (fun c =>
    { c with stage := if d.is Fld.clkPllcfgRun then AcqStage.band else AcqStage.none, frozen := false,
             pend := false })).enterFallback := rfl

theorem Dev.get_acquire (d : Dev) (cause : Nat) {f : Fld} (hf : f.addr < 0x820000) :
    (d.acquire cause).get f = (d.acqStatus cause).get f := by
  rw [d.acquire_eq, (Dev.enterFallback_keepsClk _).get hf]
  rfl

theorem Dev.get_acquire_ne (d : Dev) (cause : Nat) {f : Fld} (hf : f.addr < 0x820000) (hs : f.addr ≠ Reg.clkStatus) :
    (d.acquire cause).get f = d.get f := by
  have hcause (t : Dev) : (if d.is Fld.clkPllcfgRun then t.put Fld.clkStatusLastCause cause else t).get f = t.get f := by
    split
    · exact t.get_put_ne Fld.clkStatusLastCause f _ hs
    · rfl
  rw [d.get_acquire cause hf, Dev.acqStatus, hcause, Dev.get_put_ne _ Fld.clkStatusRefUsed f _ hs, Dev.flag,
    Dev.get_put_ne _ Fld.clkStatusAcquiring f _ hs, Dev.get_put_ne _ Fld.clkStatusOnAlt f _ hs,
    Dev.get_put_ne _ Fld.clkStatusHoldover f _ hs, Dev.get_put_ne _ Fld.clkStatusLocked f _ hs]

theorem Dev.acquire_locked (d : Dev) (cause : Nat) : (d.acquire cause).get Fld.clkStatusLocked = 0 := by
  have h : (d.put Fld.clkStatusLocked 0).get Fld.clkStatusLocked = 0 := d.get_put_same _ _ ⟨by decide, by decide⟩
  rw [d.get_acquire cause (by decide)]
  unfold Dev.acqStatus
  dsimp only
  split <;> simp (disch := decide) only [Dev.get_put_apart, Dev.get_flag_apart, h]

theorem Dev.acquire_acquiring (d : Dev) (cause : Nat) :
    (d.acquire cause).get Fld.clkStatusAcquiring = d.get Fld.clkPllcfgRun := by
  have h (t : Dev) : (t.flag Fld.clkStatusAcquiring (d.is Fld.clkPllcfgRun)).get Fld.clkStatusAcquiring =
      d.get Fld.clkPllcfgRun := by
    rw [t.get_flag_same _ ⟨by decide, by decide⟩ rfl, d.is_toNat rfl]
  rw [d.get_acquire cause (by decide)]
  unfold Dev.acqStatus
  dsimp only
  split <;> simp (disch := decide) only [Dev.get_put_apart, h]

theorem Dev.acquire_fallback (d : Dev) (cause : Nat) : (d.acquire cause).clk.fallback = true := by
  rw [d.acquire_eq, (Dev.enterFallback_keepsClk _).clk]
  rfl

/-! ### A host's write to a CLK register -/

/-- A restart that a write asked for begins at the end of the access, where no word of PWR_TARGET waits (R80, R545). -/
theorem State.endAccess_restart (s : State) (hp : s.dev.clk.pend = true) (hs : s.dev.pwr.staged = []) :
    s.endAccess.dev = s.dev.acquire AcqCause.write := by
  have hw : (s.dev.acquire AcqCause.write).pwr.staged = [] := (Dev.Awaits.acquire (W := .none) hs).words
  simp [State.endAccess, State.on, Dev.clkFlush, Dev.pwrFlush, hp, hw]

theorem Dev.regUp_clk (d : Dev) {a : Nat} (ha : a / 0x10000 = 0x81) (h4 : a % 4 = 0) : d.regUp a = true := by
  simp [Dev.regUp, isRegAddr_of_clk ha, h4, d.downHere_of_lt (show a < 0x820000 by omega)]

theorem Dev.regWrite_clk (d : Dev) {env : Env} {ag : Agent} {a : Nat} {v : Word} (ha : a / 0x10000 = 0x81) :
    d.regWrite env ag a v = d.miscWrite env ag a v := by
  have hm : rwtMask a = 0 := rwtMask_of_lt (by omega)
  have ht : a ≠ Reg.tumbCtrl := fun h => absurd (h ▸ ha) (by decide)
  have hh : a ≠ Reg.hingeCtrl := fun h => absurd (h ▸ ha) (by decide)
  simp [Dev.regWrite, hm, ha, ht, hh]

/-- A ready host's write to a register of block CLK is not refused, held or mirrored. -/
theorem State.hostWord_clk (s : State) {env : Env} {a : Nat} {v : Word} (h : s.dev.hostReady = true)
    (ha : a / 0x10000 = 0x81) (h4 : a % 4 = 0) :
    s.hostWord env a v = (s.on (·.miscWrite env .host a v)).endAccess := by
  have hr : s.dev.region a = .reg := s.dev.region_reg a (isRegAddr_of_clk ha)
  have h1 : a ≠ Reg.sysRstctrl := fun e => absurd (e ▸ ha) (by decide)
  have h2 : a ≠ Reg.bootCtrl := fun e => absurd (e ▸ ha) (by decide)
  have h3 : a ≠ Reg.bootHostdata := fun e => absurd (e ▸ ha) (by decide)
  rw [s.hostWord_ready env a v h (s.dev.regUp_clk ha h4)]
  simp [State.applyWord, hr, h1, h2, h3, s.dev.regWrite_clk ha, State.on]

theorem Dev.hostReady_ended {d : Dev} (h : d.hostReady = true) : d.clk.pend = false ∧ d.pwr.staged = [] := by
  obtain ⟨-, -, -, -, -, -, he, -⟩ := d.hostReady_iff.mp h
  exact he

end Sys2Proof.Machine

/-! The statement of the clock root's commands. -/
namespace Sys2Proof.Machine

/-! ### Writes of CLK registers (R80, R92 to R95) -/

/-- Outside CLK_STATUS the end of an access leaves the CLK registers as they are, whether a restart begins or not. -/
theorem State.get_endAccess (s : State) (hs : s.dev.pwr.staged = []) {f : Fld} (hf : f.addr < 0x820000)
    (hne : f.addr ≠ Reg.clkStatus) : s.endAccess.dev.get f = s.dev.get f := by
  cases hp : s.dev.clk.pend with
  | true => rw [s.endAccess_restart hp hs, Dev.get_acquire_ne _ _ hf hne]
  | false => rw [s.endAccess_idle hp hs]

theorem Dev.miscWrite_pll (d : Dev) {env : Env} {ag : Agent} {a : Nat} {v : Word} (ha : a = Reg.clkPllcfg ∨ a = Reg.clkPllfrac) :
    d.miscWrite env ag a v = d.pllWrite ag a v := by
  have h1 : a ≠ Reg.sysWdtcfg := by
    obtain rfl | rfl := ha <;> decide
  have h2 : a ≠ Reg.sysWdtkick := by
    obtain rfl | rfl := ha <;> decide
  rw [Dev.miscWrite, if_neg h1, if_neg h2, if_pos ha]

theorem Dev.miscWrite_refsel (d : Dev) {env : Env} {ag : Agent} {v : Word} :
    d.miscWrite env ag Reg.clkRefsel v = d.refselWrite ag v := by
  rw [Dev.miscWrite, if_neg (by decide), if_neg (by decide), if_neg (by decide), if_pos rfl]

theorem Dev.miscWrite_clkCtrl (d : Dev) {env : Env} {ag : Agent} {v : Word} :
    d.miscWrite env ag Reg.clkCtrl v = d.clkCtrl ag env.near v := by
  rw [Dev.miscWrite, if_neg (by decide), if_neg (by decide), if_neg (by decide), if_neg (by decide), if_pos rfl]

@[simp] theorem Dev.clkPend_pend (d : Dev) : d.clkPend.clk.pend = true := rfl

@[simp] theorem Dev.get_clkPend (d : Dev) (f : Fld) : d.clkPend.get f = d.get f := rfl

theorem Dev.get_wr_of_addr (d : Dev) {a : Nat} (w : Word) {f : Fld} (h : f.addr = a) : (d.wr a w).get f = f.of w :=
  h ▸ d.get_wr_same w f

/-- The word of CLK_PLLCFG with these fields. -/
def pllcfgWord (run refdiv int : Nat) : Word := BitVec.ofNat 32 (run * 2 ^ 31 + refdiv * 2 ^ 16 + int)

theorem pllcfgWord_fields {i r b : Nat} (hi : i < 2 ^ 9) (hr : r < 2 ^ 3) (hb : b < 2 ^ 1) :
    Fld.clkPllcfgInt.of (pllcfgWord b r i) = i ∧ Fld.clkPllcfgRefdiv.of (pllcfgWord b r i) = r ∧
      Fld.clkPllcfgRun.of (pllcfgWord b r i) = b := by
  simp only [pllcfgWord, Fld.of, Fld.width, Fld.clkPllcfgInt, Fld.clkPllcfgRefdiv, Fld.clkPllcfgRun, bitsOf,
    BitVec.toNat_ofNat]
  omega

theorem Dev.pllWrite_pllcfg (d : Dev) (ag : Agent) (v : Word) :
    d.pllWrite ag Reg.clkPllcfg v =
      if Fld.clkPllcfgInt.of v < 48 then
        ((d.wr Reg.clkPllcfg (pllcfgWord (Fld.clkPllcfgRun.of v) (Fld.clkPllcfgRefdiv.of v) 48)).viol 3 ag
          Reg.clkPllcfg).clkPend
      else
        (d.wr Reg.clkPllcfg (pllcfgWord (Fld.clkPllcfgRun.of v) (Fld.clkPllcfgRefdiv.of v) (Fld.clkPllcfgInt.of v))).clkPend := by
  have hi : Fld.clkPllcfgInt.of v < 2 ^ 9 := Fld.of_lt _ _
  unfold Dev.pllWrite pllcfgWord
  rw [if_neg (by decide)]
  extract_lets n
  have hn : n = Fld.clkPllcfgRun.of v * 2 ^ 31 + Fld.clkPllcfgRefdiv.of v * 2 ^ 16 + Fld.clkPllcfgInt.of v := by
    simp only [n, Fld.of, Fld.width, Fld.clkPllcfgRun, Fld.clkPllcfgRefdiv, Fld.clkPllcfgInt, Nat.reduceAdd, Nat.reduceSub,
      Nat.sub_zero]
  clear_value n
  subst hn
  generalize Fld.clkPllcfgInt.of v = i at hi ⊢
  generalize Fld.clkPllcfgRefdiv.of v = r
  generalize Fld.clkPllcfgRun.of v = b
  have hint : bitsOf (b * 2 ^ 31 + r * 2 ^ 16 + i) 0 9 = i := by
    unfold bitsOf
    omega
  have hset : setBits (b * 2 ^ 31 + r * 2 ^ 16 + i) 0 9 48 = b * 2 ^ 31 + r * 2 ^ 16 + 48 := by
    rw [setBits, hint]
    omega
  rw [hint, hset]

/-- A write of CLK_PLLCFG asks for a restart (R80). -/
theorem Dev.pllWrite_pllcfg_pend (d : Dev) (ag : Agent) (v : Word) : (d.pllWrite ag Reg.clkPllcfg v).clk.pend = true := by
  rw [d.pllWrite_pllcfg]
  split
  · exact Dev.clkPend_pend _
  · exact Dev.clkPend_pend _

/-- A write of CLK_PLLCFG stores its fields, int as at least 48 (R92). -/
theorem Dev.pllWrite_pllcfg_get (d : Dev) (ag : Agent) (v : Word) {f : Fld} (hf : f.addr = Reg.clkPllcfg) :
    (d.pllWrite ag Reg.clkPllcfg v).get f =
      f.of (pllcfgWord (Fld.clkPllcfgRun.of v) (Fld.clkPllcfgRefdiv.of v) (max 48 (Fld.clkPllcfgInt.of v))) := by
  rw [d.pllWrite_pllcfg]
  split
  next hlow =>
    rw [Dev.get_clkPend, (Dev.KeepsClk.viol (.refl _)).get (hf ▸ by decide), d.get_wr_of_addr _ hf,
      Nat.max_eq_left (by omega)]
  next hhigh => rw [Dev.get_clkPend, d.get_wr_of_addr _ hf, Nat.max_eq_right (by omega)]

/-- A write of CLK_PLLFRAC stores frac, keeps CLK_PLLCFG and asks for a restart (R80, R93). -/
theorem Dev.pllWrite_pllfrac (d : Dev) (ag : Agent) (v : Word) :
    (d.pllWrite ag Reg.clkPllfrac v).clk.pend = true ∧
      (d.pllWrite ag Reg.clkPllfrac v).get Fld.clkPllfracFrac = Fld.clkPllfracFrac.of v ∧
      (d.pllWrite ag Reg.clkPllfrac v).get Fld.clkPllcfgRun = d.get Fld.clkPllcfgRun := by
  rw [Dev.pllWrite, if_pos rfl]
  refine ⟨Dev.clkPend_pend _, ?_, ?_⟩
  · rw [Dev.get_clkPend, d.get_wr_of_addr _ (show Fld.clkPllfracFrac.addr = Reg.clkPllfrac from rfl)]
    simp only [Fld.of, Fld.width, Fld.clkPllfracFrac, bitsOf, BitVec.toNat_ofNat]
    omega
  · rw [Dev.get_clkPend, d.get_wr_ne _ _ _ (by decide)]

/-- The fields of a word of CLK_REFSEL that is put together from them (R94). -/
theorem refsel_fields {e a p : Nat} (he : e < 2 ^ 2) (ha : a < 4) (hp : p < 4) :
    Fld.clkRefselPrimary.of (BitVec.ofNat 32 (e * 2 ^ 8 + a * 16 + p)) = p ∧
      Fld.clkRefselAlt.of (BitVec.ofNat 32 (e * 2 ^ 8 + a * 16 + p)) = a ∧
      Fld.clkRefselAltEn.of (BitVec.ofNat 32 (e * 2 ^ 8 + a * 16 + p)) = e % 2 ∧
      Fld.clkRefselHoldoverEn.of (BitVec.ofNat 32 (e * 2 ^ 8 + a * 16 + p)) = e / 2 := by
  simp only [Fld.of, Fld.width, Fld.clkRefselPrimary, Fld.clkRefselAlt, Fld.clkRefselAltEn, Fld.clkRefselHoldoverEn, bitsOf,
    BitVec.toNat_ofNat]
  omega

/-- A reference code as CLK_REFSEL stores it (R94). -/
def refCode (c : Nat) : Nat := if c < 4 then c else 0

theorem refCode_lt (c : Nat) : refCode c < 4 := by
  unfold refCode
  split <;> omega

/-- A write of CLK_REFSEL stores its codes and its two enables, whatever else it does (R94). -/
theorem Dev.refselWrite_get (d : Dev) (ag : Agent) (v : Word) :
    (d.refselWrite ag v).get Fld.clkRefselPrimary = refCode (Fld.clkRefselPrimary.of v) ∧
      (d.refselWrite ag v).get Fld.clkRefselAlt = refCode (Fld.clkRefselAlt.of v) ∧
      (d.refselWrite ag v).get Fld.clkRefselAltEn = Fld.clkRefselAltEn.of v ∧
      (d.refselWrite ag v).get Fld.clkRefselHoldoverEn = Fld.clkRefselHoldoverEn.of v := by
  have hstored {f : Fld} (hf : f.addr = Reg.clkRefsel) : (d.refselWrite ag v).get f = f.of (BitVec.ofNat 32
      (bitsOf v.toNat 8 2 * 2 ^ 8 + refCode (Fld.clkRefselAlt.of v) * 16 + refCode (Fld.clkRefselPrimary.of v))) := by
    have hlt : f.addr < 0x820000 := hf ▸ by decide
    unfold Dev.refselWrite
    extract_lets n p a ok old d1 d2
    have h1 : d1.get f = f.of (BitVec.ofNat 32 (bitsOf v.toNat 8 2 * 2 ^ 8 + refCode (Fld.clkRefselAlt.of v) * 16 +
        refCode (Fld.clkRefselPrimary.of v))) := by
      exact d.get_wr_of_addr _ hf
    have h2 : d2.get f = d1.get f := by
      unfold d2
      split
      · rfl
      · exact (Dev.KeepsClk.viol (.refl d1)).get hlt
    split
    · exact h2.trans h1
    · exact h2.trans h1
  obtain ⟨h1, h2, h3, h4⟩ := refsel_fields (show bitsOf v.toNat 8 2 < 2 ^ 2 from bitsOf_lt _ _ _)
    (refCode_lt (Fld.clkRefselAlt.of v)) (refCode_lt (Fld.clkRefselPrimary.of v))
  refine ⟨(hstored rfl).trans h1, (hstored rfl).trans h2, (hstored rfl).trans (h3.trans ?_), (hstored rfl).trans (h4.trans ?_)⟩
  all_goals
    simp only [Fld.of, Fld.width, Fld.clkRefselAltEn, Fld.clkRefselHoldoverEn, bitsOf]
    omega

theorem Dev.hostReady_awaits {d : Dev} (h : d.hostReady = true) : d.Awaits .none := by
  obtain ⟨hp, hs⟩ := Dev.hostReady_ended h
  exact ⟨fun hw => absurd (hp.symm.trans hw) (by decide), hs⟩

/-- A ready host's write to a PLL register restarts acquisition at the end of its access (R80). -/
theorem State.hostReg_pll (s : State) {a : Nat} {v : Word} (h : s.dev.hostReady = true)
    (ha : a = Reg.clkPllcfg ∨ a = Reg.clkPllfrac) (hp : (s.dev.pllWrite .host a v).clk.pend = true) :
    (s.hostReg a v).dev = (s.dev.pllWrite .host a v).acquire AcqCause.write := by
  have hb : a / 0x10000 = 0x81 ∧ a % 4 = 0 := by
    obtain rfl | rfl := ha <;> decide
  have e : s.on (·.miscWrite Env.quiet .host a v) = s.on (·.pllWrite .host a v) := by
    simp only [State.on, s.dev.miscWrite_pll ha]
  rw [State.hostReg, s.hostWord_clk h hb.1 hb.2, e]
  exact State.endAccess_restart _ hp (Dev.Awaits.pllWrite (Dev.hostReady_awaits h)).words

theorem State.hostReg_pllcfg (s : State) (v : Word) (h : s.dev.hostReady = true) :
    (s.hostReg Reg.clkPllcfg v).dev.get Fld.clkPllcfgInt = max 48 (Fld.clkPllcfgInt.of v) ∧
      (s.hostReg Reg.clkPllcfg v).dev.get Fld.clkPllcfgRefdiv = Fld.clkPllcfgRefdiv.of v ∧
      (s.hostReg Reg.clkPllcfg v).dev.get Fld.clkPllcfgRun = Fld.clkPllcfgRun.of v ∧
      (s.hostReg Reg.clkPllcfg v).dev.get Fld.clkStatusLocked = 0 ∧
      (s.hostReg Reg.clkPllcfg v).dev.get Fld.clkStatusAcquiring = Fld.clkPllcfgRun.of v := by
  have hi : Fld.clkPllcfgInt.of v < 2 ^ 9 := Fld.of_lt _ _
  obtain ⟨hint, hrefdiv, hrun⟩ := pllcfgWord_fields (show max 48 (Fld.clkPllcfgInt.of v) < 2 ^ 9 by omega)
    (Fld.of_lt Fld.clkPllcfgRefdiv v) (Fld.of_lt Fld.clkPllcfgRun v)
  have hget {f : Fld} (hf : f.addr = Reg.clkPllcfg) := s.dev.pllWrite_pllcfg_get .host v hf
  rw [s.hostReg_pll h (.inl rfl) (s.dev.pllWrite_pllcfg_pend .host v), Dev.get_acquire_ne _ _ (by decide) (by decide),
    Dev.get_acquire_ne _ _ (by decide) (by decide), Dev.get_acquire_ne _ _ (by decide) (by decide), Dev.acquire_locked,
    Dev.acquire_acquiring, hget rfl, hget rfl, hget rfl]
  exact ⟨hint, hrefdiv, hrun, rfl, hrun⟩

theorem State.hostReg_pllfrac (s : State) (v : Word) (h : s.dev.hostReady = true) :
    (s.hostReg Reg.clkPllfrac v).dev.get Fld.clkPllfracFrac = Fld.clkPllfracFrac.of v ∧
      (s.hostReg Reg.clkPllfrac v).dev.get Fld.clkStatusLocked = 0 ∧
      (s.hostReg Reg.clkPllfrac v).dev.get Fld.clkStatusAcquiring = s.dev.get Fld.clkPllcfgRun := by
  obtain ⟨hp, hfrac, hrun⟩ := s.dev.pllWrite_pllfrac .host v
  rw [s.hostReg_pll h (.inr rfl) hp, Dev.get_acquire_ne _ _ (by decide) (by decide), Dev.acquire_locked,
    Dev.acquire_acquiring]
  exact ⟨hfrac, rfl, hrun⟩

theorem State.hostReg_refsel (s : State) (v : Word) (h : s.dev.hostReady = true) {f : Fld} (hf : f.addr = Reg.clkRefsel) :
    (s.hostReg Reg.clkRefsel v).dev.get f = (s.dev.refselWrite .host v).get f := by
  rw [State.hostReg, s.hostWord_clk h (by decide) (by decide),
    State.get_endAccess _ ?_ (hf ▸ by decide) (hf ▸ by decide), State.on, s.dev.miscWrite_refsel]
  rw [State.on, s.dev.miscWrite_refsel]
  exact (Dev.Awaits.refselWrite (Dev.hostReady_awaits h)).words

/-- REACQUIRE writes the one bit that asks for a restart (R95). -/
theorem State.hostReg_reacquire (s : State) (h : s.dev.hostReady = true) :
    (s.hostReg Reg.clkCtrl 2).dev = s.dev.clkPend.acquire AcqCause.write := by
  have e : s.dev.clkCtrl .host Env.quiet.near 2 = s.dev.clkPend := rfl
  rw [State.hostReg, s.hostWord_clk h (by decide) (by decide), State.on, s.dev.miscWrite_clkCtrl, e]
  exact State.endAccess_restart _ rfl (Dev.hostReady_ended h).2

/-! ### The hitless switch (R88) -/

theorem Dev.otherRef_lt (d : Dev) : d.otherRef < 2 ^ 3 := by
  unfold Dev.otherRef
  split
  · exact d.get_lt Fld.clkRefselPrimary
  · exact d.get_lt Fld.clkRefselAlt

theorem Dev.switchRef_get (d : Dev) : d.switchRef.get Fld.clkStatusRefUsed = d.otherRef ∧
    d.switchRef.get Fld.clkEventsRefSwitch = 1 := by
  unfold Dev.switchRef
  refine ⟨?_, Dev.happen_sets _ _ (by decide) rfl⟩
  rw [Dev.get_happen_ne _ _ _ (by decide), Dev.get_flag_apart _ _ (by decide), d.get_put_same _ _ ⟨by decide, by decide⟩]
  exact Nat.mod_eq_of_lt d.otherRef_lt

theorem Dev.switchRef_clk (d : Dev) : d.switchRef.clk = d.clk := by simp [Dev.switchRef]

/-- A ready host's SWAP to a usable reference, with the PLL locked, is the switch and no more (R88, R95). -/
theorem State.hostWord_swap (s : State) {env : Env} (h : s.dev.hostReady = true) (hl : s.dev.get Fld.clkStatusLocked ≠ 0)
    (hu : s.dev.otherUsable env.near = true) : (s.hostWord env Reg.clkCtrl 1).dev = s.dev.switchRef := by
  have hlocked : s.dev.is Fld.clkStatusLocked = true := bne_iff_ne.mpr hl
  have e : s.dev.clkCtrl .host env.near 1 = s.dev.switchRef := by
    have hbits : bitOf 1 0 = true ∧ bitOf 1 1 = false := by decide
    simp [Dev.clkCtrl, hbits, Dev.swapRef, hlocked, hu]
  have hq : s.dev.switchRef.Awaits .none := (Dev.hostReady_awaits h).switchRef
  have hend := State.endAccess_idle { s with dev := s.dev.switchRef } (Bool.eq_false_iff.mpr hq.restart) hq.words
  rw [s.hostWord_clk h (by decide) (by decide), State.on, s.dev.miscWrite_clkCtrl, e, hend]

/-! ### Lock, its loss and the references (R77 to R87, R99) -/

theorem Dev.bandDone_get (d : Dev) (band : Fin 64) (h : d.clk.stage = AcqStage.band) :
    (d.bandDone band).get Fld.clkStatusBand = band ∧ (d.bandDone band).clk.stage = AcqStage.lock := by
  rw [Dev.bandDone, if_pos h]
  refine ⟨?_, rfl⟩
  rw [Dev.get_modClk, d.get_put_same _ _ ⟨by decide, by decide⟩]
  exact Nat.mod_eq_of_lt band.isLt

theorem Dev.pllLock_get (d : Dev) {fref : Nat} (h : d.clk.stage = AcqStage.lock) (hr : d.rootInRange fref = true) :
    (d.pllLock fref).get Fld.clkStatusAcquiring = 0 ∧ (d.pllLock fref).clk.stage = AcqStage.locked := by
  rw [Dev.pllLock, if_pos ⟨h, hr⟩]
  refine ⟨?_, rfl⟩
  rw [Dev.get_modClk, d.get_put_same _ _ ⟨by decide, by decide⟩]
  rfl

theorem Dev.acqTimeout_get (d : Dev) (h : d.clk.stage = AcqStage.band ∨ d.clk.stage = AcqStage.lock) :
    d.acqTimeout.get Fld.clkStatusAcqFail = min (d.get Fld.clkStatusAcqFail + 1) 255 ∧
      d.acqTimeout.get Fld.clkEventsAcqTimeout = 1 ∧ d.acqTimeout.clk.stage = AcqStage.band := by
  rw [Dev.acqTimeout, if_pos h]
  refine ⟨?_, ?_, rfl⟩
  · rw [Dev.get_modClk, Dev.get_put_apart _ _ (by decide), Dev.get_happen_ne _ _ _ (by decide), Dev.inc, Dev.addSat,
      d.get_put_same _ _ ⟨by decide, by decide⟩]
    exact Nat.mod_eq_of_lt (Nat.lt_of_le_of_lt (Nat.min_le_right _ _) (by decide))
  · rw [Dev.get_modClk, Dev.get_put_apart _ _ (by decide), Dev.happen_sets _ _ (by decide) rfl]

theorem State.fallbackExit_get (s : State) (h : s.dev.clk.stage = AcqStage.locked) (hc : s.dev.boot.commit ≠ 1) :
    s.fallbackExit.dev.get Fld.clkStatusLocked = 1 ∧ s.fallbackExit.dev.clk.fallback = false ∧
      s.fallbackExit.dev.clk.stage = AcqStage.none := by
  have hk := s.dev.switchBack_keepsClk
  have hc' : (s.on Dev.switchBack).dev.boot.commit ≠ 1 := by
    rw [State.on, hk.boot]
    simpa [Dev.modClk] using hc
  have e : s.fallbackExit = s.on Dev.switchBack := by
    rw [State.fallbackExit, if_neg (not_not.mpr h)]
    exact if_neg hc'
  rw [e, State.on, hk.get (by decide), hk.clk]
  exact ⟨s.dev.get_put_same _ _ ⟨by decide, by decide⟩, rfl, rfl⟩

theorem Dev.phaseFreeze_frozen (d : Dev) (h : d.get Fld.clkStatusLocked ≠ 0) : d.phaseFreeze.clk.frozen = true := by
  have hl : d.is Fld.clkStatusLocked = true := bne_iff_ne.mpr h
  rw [Dev.phaseFreeze, if_pos hl]
  rfl

/-- The phase is back below 5 ns on a valid reference: a slip (R85). -/
theorem Dev.freezeDecision_slip (d : Dev) {near : Bool} (h : d.clk.frozen = true)
    (hv : d.refValid (d.get Fld.clkStatusRefUsed) = true) :
    (d.freezeDecision true near).get Fld.clkEventsSlip = 1 ∧ (d.freezeDecision true near).clk.frozen = false := by
  have e : d.freezeDecision true near = (d.modClk (fun c => { c with frozen := false })).happen Fld.clkEventsSlip := by
    have hv' : (d.modClk (fun c => { c with frozen := false })).refValid
        ((d.modClk (fun c => { c with frozen := false })).get Fld.clkStatusRefUsed) = true := hv
    rw [Dev.freezeDecision, if_neg (by simp [h])]
    simp only [hv', Bool.and_self, if_true]
  rw [e]
  exact ⟨Dev.happen_sets _ _ (by decide) rfl, by simp [Dev.modClk]⟩

/-- The reference in use is lost and the other is usable: the switch (R85, R88). -/
theorem Dev.freezeDecision_switch (d : Dev) {phaseOk near : Bool} (h : d.clk.frozen = true)
    (hv : d.refValid (d.get Fld.clkStatusRefUsed) = false) (hu : d.otherUsable near = true) :
    (d.freezeDecision phaseOk near).get Fld.clkStatusRefUsed = d.otherRef ∧
      (d.freezeDecision phaseOk near).get Fld.clkEventsRefSwitch = 1 ∧
      (d.freezeDecision phaseOk near).clk.frozen = false := by
  have e : d.freezeDecision phaseOk near = (d.modClk (fun c => { c with frozen := false })).switchRef := by
    have hv' : (d.modClk (fun c => { c with frozen := false })).refValid
        ((d.modClk (fun c => { c with frozen := false })).get Fld.clkStatusRefUsed) = false := hv
    have hu' : (d.modClk (fun c => { c with frozen := false })).otherUsable near = true := hu
    rw [Dev.freezeDecision, if_neg (by simp [h])]
    simp only [hv', hu', Bool.false_and, Bool.not_false, Bool.and_self, if_true, Bool.false_eq_true, if_false]
  rw [e]
  refine ⟨(Dev.switchRef_get _).1, (Dev.switchRef_get _).2, ?_⟩
  rw [Dev.switchRef_clk]
  rfl

theorem bitOf_clrBit (n i : Nat) : bitOf (clrBit n i) i = false := by
  unfold clrBit
  cases h : bitOf n i with
  | false => simpa using h
  | true =>
    have hodd : n / 2 ^ i % 2 = 1 := beq_iff_eq.mp h
    have hle : 2 ^ i ≤ n := Nat.le_of_not_lt fun hlt => by simp [Nat.div_eq_of_lt hlt] at hodd
    have hsub : n / 2 ^ i = (n - 2 ^ i) / 2 ^ i + 1 := Nat.div_eq_sub_div (Nat.pow_pos (by decide)) hle
    simp only [if_true, bitOf, beq_eq_false_iff_ne]
    omega

theorem Dev.refLost_get (d : Dev) {r : Nat} (h : d.refValid r = true) :
    (d.refLost r).refValid r = false ∧ (d.refLost r).get Fld.clkEventsRefLost = 1 := by
  rw [Dev.refLost, if_pos h]
  refine ⟨?_, Dev.happen_sets _ _ (by decide) rfl⟩
  simp [Dev.refValid, Dev.modClk, bitOf_clrBit]

theorem Dev.refReturned_get (d : Dev) {r : Nat} {near : Bool} (h : d.refValid r = false)
    (hh : d.get Fld.clkStatusHoldover = 0) :
    (d.refReturned r near).refValid r = true ∧ (d.refReturned r near).get Fld.clkEventsRefReturned = 1 := by
  have hold (t : Dev) (ht : t.get Fld.clkStatusHoldover = 0) : t.is Fld.clkStatusHoldover = false := by
    simp [Dev.is, ht]
  have e : d.refReturned r near =
      (d.modClk (fun c => { c with valid := orBit c.valid r })).happen Fld.clkEventsRefReturned := by
    unfold Dev.refReturned
    extract_lets t pri
    rw [if_neg (by simp [h]), hold t (by rw [Dev.get_happen_ne _ _ _ (by decide)]; exact hh), Bool.false_and]
    rfl
  rw [e]
  refine ⟨?_, Dev.happen_sets _ _ (by decide) rfl⟩
  simp [Dev.refValid, Dev.modClk, orBit_testBit]

theorem Dev.refmonRefresh_get (d : Dev) (count : Nat) :
    (d.refmonRefresh count).get Fld.clkRefmonPriCount = count % 2 ^ 20 ∧
      (d.refmonRefresh count).get Fld.clkRefmonPriValid = (if d.refValid (d.get Fld.clkRefselPrimary) then 1 else 0) ∧
      (d.refmonRefresh count).get Fld.clkRefmonAltValid = (if d.refValid (d.get Fld.clkRefselAlt) then 1 else 0) := by
  unfold Dev.refmonRefresh
  refine ⟨?_, ?_, ?_⟩
  · rw [Dev.get_flag_apart _ _ (by decide), Dev.get_flag_apart _ _ (by decide), d.get_put_same _ _ ⟨by decide, by decide⟩]
    rfl
  · rw [Dev.get_flag_apart _ _ (by decide), Dev.get_flag_same _ _ ⟨by decide, by decide⟩ rfl]
  · rw [Dev.get_flag_same _ _ ⟨by decide, by decide⟩ rfl]

/-- Settles O9: each clause is what the command's operation leaves, read back; the writes of the host end with the restart that
they ask for. -/
theorem clockCommandsComplete : Obligations.ClockCommandsComplete := by
  unfold Obligations.ClockCommandsComplete
  refine ⟨fun s v h => ⟨_, rfl, s.hostReg_pllcfg v h⟩, fun s v h => ⟨_, rfl, s.hostReg_pllfrac v h⟩, fun s v h => ⟨_, rfl, ?_⟩,
    fun s h => ⟨_, rfl, ?_⟩, fun s near ⟨h, hl, hu⟩ => ⟨_, rfl, ?_⟩, fun s band h => ⟨_, rfl, s.dev.bandDone_get band h⟩,
    fun s fref ⟨h, hr⟩ => ⟨_, rfl, s.dev.pllLock_get h hr⟩, fun s h => ⟨_, rfl, s.dev.acqTimeout_get h⟩,
    fun s ⟨h, hc⟩ => ⟨_, rfl, s.fallbackExit_get h hc⟩, fun s h => ⟨_, rfl, s.dev.phaseFreeze_frozen h⟩,
    fun s near ⟨h, hv⟩ => ⟨_, rfl, s.dev.freezeDecision_slip h hv⟩,
    fun s phaseOk near ⟨h, hv, hu⟩ => ⟨_, rfl, s.dev.freezeDecision_switch h hv hu⟩,
    fun s ref h => ⟨_, rfl, s.dev.refLost_get h⟩, fun s ref near ⟨h, hh⟩ => ⟨_, rfl, s.dev.refReturned_get h hh⟩,
    fun s count => ⟨_, rfl, s.dev.refmonRefresh_get count⟩⟩
  case refine_1 =>
    rw [s.hostReg_refsel v h rfl, s.hostReg_refsel v h rfl, s.hostReg_refsel v h rfl, s.hostReg_refsel v h rfl]
    exact s.dev.refselWrite_get .host v
  case refine_2 =>
    rw [s.hostReg_reacquire h]
    exact ⟨Dev.acquire_locked _ _, Dev.acquire_acquiring _ _, Dev.acquire_fallback _ _⟩
  case refine_3 =>
    rw [s.hostWord_swap h hl hu]
    exact s.dev.switchRef_get

end Sys2Proof.Machine

/-! The keyway and the tumbler over a host's commands (chapter 04): where a staged word goes (R119), the tumbler's own commands
(R122 to R125), and the ends of crosspoint motions (R112 to R115). -/
namespace Sys2Proof.Machine

/-! ### Register writes of a ready host that make nothing wait -/

/-- A write that a ready host's register takes, and after which nothing waits for the end of its access, is its register's own. -/
theorem State.hostWord_regWrite (s : State) {env : Env} {a : Nat} {v : Word} (h : s.dev.hostReady = true)
    (ha : s.dev.regUp a = true) (h1 : a ≠ Reg.sysRstctrl) (h2 : a ≠ Reg.bootCtrl) (h3 : a ≠ Reg.bootHostdata)
    (hq : (s.dev.regWrite env .host a v).Awaits .none) :
    s.hostWord env a v = s.on (·.regWrite env .host a v) := by
  have hreg : isRegAddr a = true := by
    simp only [Dev.regUp, Bool.and_eq_true] at ha
    exact ha.1.1
  have happly : s.applyWord env .host a v = s.on (·.regWrite env .host a v) := by
    simp only [State.applyWord, s.dev.region_reg a hreg, h1, h2, h3, if_false]
  rw [s.hostWord_ready env a v h ha, happly]
  exact State.endAccess_of_ended _ ((State.ended_iff _).mp hq)

/-! ### The entry of a staged word (R119) -/

theorem putEntry_of_mem {es : List TumbEntry} {key : Nat} (v : Word) (h : ∃ e ∈ es, e.key = key) :
    putEntry es key v = es.map (fun e => if e.key = key then ⟨key, v⟩ else e) := by
  have hany : es.any (fun e => e.key == key) = true := by simpa using h
  simp only [putEntry, hany, if_true, beq_iff_eq]

theorem putEntry_of_not_mem {es : List TumbEntry} {key : Nat} (v : Word) (h : ∀ e ∈ es, e.key ≠ key) :
    putEntry es key v = es ++ [⟨key, v⟩] := by
  have hany : es.any (fun e => e.key == key) = false := by simpa using h
  simp only [putEntry, hany, Bool.false_eq_true, if_false]

theorem Dev.staged_eq_none_iff (d : Dev) (key : Nat) : d.staged key = none ↔ ∀ e ∈ d.key.entries, e.key ≠ key := by
  simp [Dev.staged, List.find?_eq_none]

/-- The tumbler has no room for a word exactly at 256 entries of which none is the word's. -/
theorem Dev.stageFull_iff (d : Dev) (key : Nat) :
    d.stageFull key = true ↔ 256 ≤ d.key.entries.length ∧ ∀ e ∈ d.key.entries, e.key ≠ key := by
  unfold Dev.stageFull
  rw [Bool.and_eq_true, decide_eq_true_iff, Option.isNone_iff_eq_none, d.staged_eq_none_iff]

/-! ### A staging write (R118 to R121) -/

theorem Dev.get_refuseRec_ne (d : Dev) (r : Nat × Nat × Nat) {f : Fld} (h : f.addr ≠ Reg.keyRefuse) :
    (d.refuseRec r).get f = d.get f := by
  rw [Dev.refuseRec, Dev.get_put_ne _ Fld.keyRefuseIndex f _ h, Dev.get_put_ne _ Fld.keyRefuseId f _ h,
    Dev.get_put_ne _ Fld.keyRefuseReason f _ h]

theorem Dev.get_viol_tumbStatus (d : Dev) (g : Agent) (a : Nat) {f : Fld} (h : f.addr = Reg.tumbStatus) :
    (d.viol 3 g a).get f = d.get f := by
  simp only [Dev.get, h, d.rd_viol_ne 3 g a Reg.tumbStatus (by decide) (by decide) (by decide)]

/-- The device once a word has its entry, with the record that its clamps make (R119, R120, R134). -/
def Dev.enter (d : Dev) (ag : Agent) (key : Nat) (p : Word × Option (Nat × Nat × Nat)) : Dev :=
  let t := ({ d with key := { d.key with entries := putEntry d.key.entries key p.1 } }).put Fld.tumbStatusAgent ag.code
  p.2.elim t t.refuseRec

/-- A word that is entered stands in the tumbler, and its agent in TUMB_STATUS. -/
theorem Dev.enter_spec (d : Dev) (ag : Agent) (key : Nat) (p : Word × Option (Nat × Nat × Nat)) :
    (d.enter ag key p).key.entries = putEntry d.key.entries key p.1 ∧
      (d.enter ag key p).get Fld.tumbStatusAgent = ag.code % 2 ^ 5 := by
  obtain ⟨w, sub⟩ := p
  have hagent (t : Dev) : (t.put Fld.tumbStatusAgent ag.code).get Fld.tumbStatusAgent = ag.code % 2 ^ 5 :=
    t.get_put_same _ _ ⟨by decide, by decide⟩
  cases sub with
  | none => exact ⟨rfl, hagent _⟩
  | some r => exact ⟨rfl, (Dev.get_refuseRec_ne _ r (by decide)).trans (hagent _)⟩

theorem Dev.Awaits.enter {d : Dev} {W : Waiting} {ag : Agent} {key : Nat} {p : Word × Option (Nat × Nat × Nat)}
    (hq : d.Awaits W) : (d.enter ag key p).Awaits W := by
  obtain ⟨w, sub⟩ := p
  cases sub with
  | none => exact put (parts hq)
  | some r => exact (put (parts hq)).refuseRec

/-- What a staging write can do: it counts a refusal, or it enters its word, and counts a clamp that changed it. -/
theorem Dev.stage_cases (d : Dev) (ag : Agent) (a : Nat) (v : Word) :
    (d.stageRefused ag a v = true ∧ (d.stage ag a v = d.viol 6 ag a ∨ ∃ r, d.stage ag a v = (d.refuseRec r).viol 5 ag a)) ∨
      (d.stageRefused ag a v = false ∧ (d.stage ag a v = d.enter ag (d.stageKey a) (d.stageWord a v) ∨
        d.stage ag a v = (d.enter ag (d.stageKey a) (d.stageWord a v)).viol 3 ag a)) := by
  unfold Dev.stageRefused Dev.stage
  obtain ⟨w, sub⟩ := d.stageWord a v
  cases hclosed : d.stageClosed ag with
  | true => exact .inl ⟨rfl, .inl rfl⟩
  | false =>
    cases hwriter : d.secondWriter (d.stageKey a) w with
    | some r => exact .inl ⟨by simp, .inr ⟨r, by simp [hwriter]⟩⟩
    | none =>
      cases hfull : d.stageFull (d.stageKey a) with
      | true => exact .inl ⟨by simp, .inl (by simp [hwriter, hfull])⟩
      | false =>
        by_cases hclamp : w = v &&& BitVec.ofNat 32 (rwtMask (d.stageKey a))
        · exact .inr ⟨by simp, .inl (by cases sub <;> simp [hwriter, hfull, ← hclamp, Dev.enter])⟩
        · exact .inr ⟨by simp, .inr (by cases sub <;> simp [hwriter, hfull, hclamp, Dev.enter])⟩

/-- A staging write that is not refused puts its word into the tumbler and names its agent. -/
theorem Dev.stage_of_not_refused (d : Dev) {ag : Agent} {a : Nat} {v : Word} (h : d.stageRefused ag a v = false) :
    (d.stage ag a v).key.entries = putEntry d.key.entries (d.stageKey a) (d.stageWord a v).1 ∧
      (d.stage ag a v).get Fld.tumbStatusAgent = ag.code % 2 ^ 5 := by
  have henter := d.enter_spec ag (d.stageKey a) (d.stageWord a v)
  obtain ⟨hr, -⟩ | ⟨-, e | e⟩ := d.stage_cases ag a v
  · exact absurd (h.symm.trans hr) (by decide)
  · rw [e]
    exact henter
  · obtain ⟨-, -, -, hkey, -⟩ := Dev.viol_keeps (d.enter ag (d.stageKey a) (d.stageWord a v)) 3 ag a
    rw [e, hkey, Dev.get_viol_tumbStatus _ ag a rfl]
    exact henter

theorem Dev.Awaits.stage {d : Dev} {W : Waiting} {ag : Agent} {a : Nat} {v : Word} (hq : d.Awaits W) :
    (d.stage ag a v).Awaits W := by
  obtain ⟨-, e | ⟨r, e⟩⟩ | ⟨-, e | e⟩ := d.stage_cases ag a v
  · exact e ▸ hq.viol
  · exact e ▸ hq.refuseRec.viol
  · exact e ▸ hq.enter
  · exact e ▸ hq.enter.viol

/-- A word that would need a 257th entry is refused in category 6. -/
theorem Dev.stage_of_full (d : Dev) {ag : Agent} {a : Nat} {v : Word} (hclosed : d.stageClosed ag = false)
    (hwriter : d.secondWriter (d.stageKey a) (d.stageWord a v).1 = none) (hfull : d.stageFull (d.stageKey a) = true) :
    d.stage ag a v = d.viol 6 ag a := by
  unfold Dev.stage
  generalize d.stageWord a v = p at hwriter ⊢
  obtain ⟨w, sub⟩ := p
  simp only [hclosed, hwriter, hfull, Bool.false_eq_true, if_false, if_true]

/-- A ready host's write to an RWT register in reach is a staging write (R118). -/
theorem State.hostReg_rwt (s : State) {a : Nat} {v : Word} (h : s.dev.hostReady = true) (ha : s.dev.regUp a = true)
    (hm : rwtMask a ≠ 0) : s.hostReg a v = s.on (·.stage .host a v) := by
  have e : s.dev.regWrite Env.quiet .host a v = s.dev.stage .host a v := if_pos hm
  have hne {b : Nat} (hb : rwtMask b = 0) : a ≠ b := fun heq => hm (heq ▸ hb)
  rw [State.hostReg, s.hostWord_regWrite h ha (hne (by decide)) (hne (by decide)) (hne (by decide))
    (e ▸ (Dev.hostReady_awaits h).stage)]
  simp only [State.on, e]

/-- Settles O58: the tumbler's room decides whether the word is refused, and its entries where it goes. -/
theorem tumblerStaging : Obligations.TumblerStaging := by
  intro s a v h ha hm hclosed hwriter key w
  have he : exec (.tumblerStage a v) s = .next (s.on (·.stage .host a v)) :=
    congrArg Host.Outcome.next (s.hostReg_rwt h ha hm)
  have haccept (hroom : s.dev.stageFull key = false) : (s.dev.stage .host a v).key.entries =
      putEntry s.dev.key.entries key w :=
    (s.dev.stage_of_not_refused (by simp [Dev.stageRefused, hclosed, hwriter, hroom, key])).1
  refine ⟨fun hmem => ⟨_, he, ?_⟩, fun hnew hlen => ⟨_, he, ?_⟩, fun hnew hlen => ?_⟩
  · have hroom : s.dev.stageFull key = false := by
      obtain ⟨e, hin, hkey⟩ := hmem
      exact Bool.eq_false_iff.mpr fun hf => ((s.dev.stageFull_iff key).mp hf).2 e hin hkey
    exact (haccept hroom).trans (putEntry_of_mem w hmem)
  · have hroom : s.dev.stageFull key = false :=
      Bool.eq_false_iff.mpr fun hf => absurd ((s.dev.stageFull_iff key).mp hf).1 (by omega)
    exact (haccept hroom).trans (putEntry_of_not_mem w hnew)
  · have hfull : s.dev.stageFull key = true := (s.dev.stageFull_iff key).mpr ⟨hlen, hnew⟩
    rw [he, State.on, s.dev.stage_of_full hclosed hwriter hfull]
    rfl

/-! ### The tumbler's commands (R122 to R125) -/

/-- A ready host's write to TUMB_CTRL in reach is the command that it holds (R139). -/
theorem State.hostWord_tumbCtrl (s : State) {env : Env} {v : Word} (h : s.dev.hostReady = true)
    (ha : s.dev.regUp Reg.tumbCtrl = true) : s.hostWord env Reg.tumbCtrl v = s.on (·.tumbCtrl .host env.late v) := by
  have e : s.dev.regWrite env .host Reg.tumbCtrl v = s.dev.tumbCtrl .host env.late v := by
    have hm : rwtMask Reg.tumbCtrl = 0 := by decide
    rw [Dev.regWrite, if_neg (not_not.mpr hm)]
    simp [Reg.tumbCtrl]
  rw [s.hostWord_regWrite h ha (by decide) (by decide) (by decide) (Dev.hostReady_awaits h).regWrite_tumbCtrl]
  simp only [State.on, e]

/-- ARM of a tumbler that holds words and is free (R122). -/
theorem Dev.arm_of_free (d : Dev) (ag : Agent) (late : Bool) (hlive : d.liveHeld = false) (harmed : d.key.armed = none)
    (hwords : d.key.entries ≠ []) : d.arm ag late =
      { d with key := { d.key with armed := some (d.earliest late), lateAt := false } }.put Fld.tumbStatusLate 0 := by
  simp [Dev.arm, hlive, harmed, hwords]

/-- ARM_AT of a tumbler that holds words and is free: the frame asked for, or the earliest where that has passed (R123). -/
theorem Dev.armAt_of_free (d : Dev) (ag : Agent) (late : Bool) (hlive : d.liveHeld = false) (harmed : d.key.armed = none)
    (hwords : d.key.entries ≠ []) : d.armAt ag late =
      { d with key := { d.key with
        armed := some (if notBefore (d.get Fld.tumbAtframeFrame) (d.earliest late) then d.get Fld.tumbAtframeFrame
          else d.earliest late)
        lateAt := !notBefore (d.get Fld.tumbAtframeFrame) (d.earliest late) } }.put Fld.tumbStatusLate 0 := by
  simp [Dev.armAt, hlive, harmed, hwords]

/-- DISARM before the commit phase that commits the tumbler (R125). -/
theorem Dev.disarm_of_armed (d : Dev) (ag : Agent) {late : Bool} {n : Nat} (hlive : d.liveHeld = false)
    (harmed : d.key.armed = some n) (htime : (late && notBefore (d.frame + 1) n) = false) :
    d.disarm ag late = { d with key := { d.key with armed := none, lateAt := false } } := by
  simp [Dev.disarm, hlive, harmed, htime]

/-- DISCARD of a tumbler that is free (R125). -/
theorem Dev.discard_of_free (d : Dev) (ag : Agent) (hlive : d.liveHeld = false) (harmed : d.key.armed = none) :
    d.discard ag = { d with key := { d.key with entries := [] } } := by
  simp [Dev.discard, hlive, harmed]

theorem Dev.get_put_tumbLate (d : Dev) : (d.put Fld.tumbStatusLate 0).get Fld.tumbStatusLate = 0 :=
  d.get_put_same _ _ ⟨by decide, by decide⟩

/-! ### Crosspoints in motion (R112 to R115) -/

theorem SMap.find?_ins {α : Type} {m : SMap α} {k : Nat} (v : α) (h : ∀ e ∈ m, e.1 ≠ k) :
    (SMap.ins m k v).find? (fun e => e.1 == k) = some (k, v) := by
  induction m with
  | nil => simp [SMap.ins]
  | cons e m ih =>
    obtain ⟨k', v'⟩ := e
    have hk : k' ≠ k := h (k', v') (by simp)
    by_cases hlt : k < k'
    · simp [SMap.ins, hlt]
    · simp [SMap.ins, hlt, hk, ih (fun e he => h e (by simp [he]))]

@[simp] theorem Dev.xp_setXp_same (d : Dev) (c : Nat) (x : Xp) : (d.setXp c x).xp c = some x := by
  simp [Dev.xp, Dev.setXp, SMap.find?_ins x (SMap.not_mem_del d.key.xps c)]

@[simp] theorem Dev.xp_restXp_same (d : Dev) (c : Nat) : (d.restXp c).xp c = none := by
  simpa [Dev.xp, Dev.restXp, List.find?_eq_none] using SMap.not_mem_del d.key.xps c

theorem Dev.xpRampEnd_of_due (d : Dev) {c : Nat} {x : Xp} (hx : d.xp c = some x) (hdue : x.main.due = true)
    (hserial : x.serial = none) (hshadow : x.shadow = none) : d.xpRampEnd c = d.restXp c := by
  simp [Dev.xpRampEnd, hx, hdue, hserial, hshadow]

theorem Dev.shadowEnd_of_due (d : Dev) {c : Nat} {x : Xp} {r : Ramp} (hx : d.xp c = some x) (hshadow : x.shadow = some r)
    (hdue : r.due = true) (hmain : x.main.due = false) : d.shadowEnd c = d.setXp c { x with shadow := none } := by
  simp [Dev.shadowEnd, hx, hshadow, hdue, hmain]

theorem Dev.serialHalf_of_due (d : Dev) {c src gt n : Nat} {x : Xp} (hx : d.xp c = some x)
    (hserial : x.serial = some (src, gt, n)) (hdue : x.main.due = true) :
    d.serialHalf c = d.setXp c ⟨⟨src, 0, gt, n, 0⟩, false, x.shadow, none⟩ := by
  simp [Dev.serialHalf, hx, hserial, hdue]

/-! ### The frame boundary (R105) -/

theorem State.frameBoundary_of_strobes (s : State) (f : FrameIn) (h : s.dev.strobes = true) :
    s.frameBoundary f =
      let u := (s.on (·.observe f)).on (fun d => d.each (List.range 7) Dev.portBoundary)
      let n := u.dev.nextFrame
      (if u.dev.passOn then (u.on (fun d => (d.tumbCommit n).liveCommit n)).runPass f n else u).on Dev.boundaryEnd := by
  simp only [State.frameBoundary, h, Bool.not_true, Bool.false_eq_true, if_false]

end Sys2Proof.Machine

/-! The statement of the keyway's and the tumbler's commands. -/
namespace Sys2Proof.Machine

/-- Settles O10: each command is its operation on the device, and the operation's equation gives the fields named. -/
theorem keywayCommandsComplete : Obligations.KeywayCommandsComplete := by
  unfold Obligations.KeywayCommandsComplete
  refine ⟨fun s f h => ⟨_, rfl, s.frameBoundary_of_strobes f h⟩, fun s a v ⟨h, ha, hm, hok⟩ => ⟨_, rfl, ?_⟩,
    fun s late ⟨h, ha, hlive, harmed, hwords⟩ => ⟨_, rfl, ?_⟩,
    fun s late ⟨h, ha, hlive, harmed, hwords, hf⟩ => ⟨_, rfl, ?_⟩,
    fun s late ⟨h, ha, hlive, harmed, hwords, hf⟩ => ⟨_, rfl, ?_⟩,
    fun s late n ⟨h, ha, hlive, harmed, htime⟩ => ⟨_, rfl, ?_⟩, fun s ⟨h, ha, hlive, harmed⟩ => ⟨_, rfl, ?_⟩,
    fun s c x ⟨hx, hdue, hserial, hshadow⟩ => ⟨_, rfl, ?_⟩, fun s c x r ⟨hx, hshadow, hdue, hmain⟩ => ⟨_, rfl, ?_⟩,
    fun s c x src gt n ⟨hx, hserial, hdue⟩ => ⟨_, rfl, ?_⟩⟩
  case refine_1 =>
    rw [s.hostReg_rwt h ha hm]
    exact s.dev.stage_of_not_refused hok
  case refine_2 =>
    have e : s.dev.tumbCtrl .host late 1 = _ := s.dev.arm_of_free .host late hlive harmed hwords
    rw [s.hostWord_tumbCtrl h ha, State.on_dev, e]
    exact ⟨rfl, rfl, Dev.get_put_tumbLate _, rfl⟩
  case refine_3 =>
    have e : s.dev.tumbCtrl .host late 2 = _ := s.dev.armAt_of_free .host late hlive harmed hwords
    rw [s.hostWord_tumbCtrl h ha, State.on_dev, e, hf]
    exact ⟨rfl, rfl, Dev.get_put_tumbLate _⟩
  case refine_4 =>
    have e : s.dev.tumbCtrl .host late 2 = _ := s.dev.armAt_of_free .host late hlive harmed hwords
    rw [s.hostWord_tumbCtrl h ha, State.on_dev, e, hf]
    exact ⟨rfl, rfl⟩
  case refine_5 =>
    have e : s.dev.tumbCtrl .host late 3 = _ := s.dev.disarm_of_armed .host hlive harmed htime
    rw [s.hostWord_tumbCtrl h ha, State.on_dev, e]
    exact ⟨rfl, rfl⟩
  case refine_6 =>
    have e : s.dev.tumbCtrl .host Env.quiet.late 4 = _ := s.dev.discard_of_free .host hlive harmed
    rw [State.hostReg, s.hostWord_tumbCtrl h ha, State.on_dev, e]
  case refine_7 =>
    rw [State.on_dev, s.dev.xpRampEnd_of_due hx hdue hserial hshadow, Dev.xp_restXp_same]
  case refine_8 =>
    rw [State.on_dev, s.dev.shadowEnd_of_due hx hshadow hdue hmain, Dev.xp_setXp_same]
  case refine_9 =>
    rw [State.on_dev, s.dev.serialHalf_of_due hx hserial hdue, Dev.xp_setXp_same]

end Sys2Proof.Machine

/-! The routes of a pass (R108, R109): what a sink presents once the pass is over. -/
namespace Sys2Proof.Machine

/-- The map that writes `f r.1` at `r.2` for each pair, later pairs over earlier ones. -/
def SMap.writes (f : Nat → Int) (m : SMap Int) (rs : List (Nat × Nat)) : SMap Int :=
  rs.foldl (fun m r => SMap.set 0 m r.2 (f r.1)) m

/-- A key that no pair names reads as before. -/
theorem SMap.get_writes_of_not_mem (f : Nat → Int) (k : Nat) (rs : List (Nat × Nat)) :
    ∀ m : SMap Int, (∀ r ∈ rs, r.2 ≠ k) → SMap.get 0 (SMap.writes f m rs) k = SMap.get 0 m k := by
  induction rs with
  | nil => exact fun _ _ => rfl
  | cons r rs ih =>
    intro m h
    have hr : k ≠ r.2 := (h r (by simp)).symm
    exact (ih _ (fun p hp => h p (by simp [hp]))).trans (SMap.get_set_ne 0 0 m r.2 k _ hr)

/-- A key that pairs of one source alone name reads what that source gives. -/
theorem SMap.get_writes_of_mem (f : Nat → Int) (src k : Nat) (rs : List (Nat × Nat)) :
    ∀ m : SMap Int, (src, k) ∈ rs → (∀ r ∈ rs, r.2 = k → r.1 = src) → SMap.get 0 (SMap.writes f m rs) k = f src := by
  induction rs with
  | nil => exact fun _ h _ => absurd h (by simp)
  | cons r rs ih =>
    intro m hmem hone
    have honeRest : ∀ p ∈ rs, p.2 = k → p.1 = src := fun p hp => hone p (by simp [hp])
    by_cases hrest : (src, k) ∈ rs
    · exact ih _ hrest honeRest
    · have hr : r = (src, k) := by simpa [hrest, eq_comm] using hmem
      have hnone : ∀ p ∈ rs, p.2 ≠ k := fun p hp hk => hrest (by
        have hsrc := honeRest p hp hk
        rwa [← hsrc, ← hk])
      subst hr
      exact (SMap.get_writes_of_not_mem f k rs _ hnone).trans (SMap.get_set_same 0 m k _)

/-- What a route copies in a pass over the source samples `x`: a bus's saturated sum of this pass, or the sample latched. -/
def Dev.routed (d : Dev) (x : SMap Int) (i : Nat) : Int :=
  let get (i : Nat) : Int := if i = 1023 then 0 else SMap.get 0 x i
  if 768 ≤ i ∧ i ≤ 895 then SMap.get 0 ((busSums d.evals get).map (fun e => (768 + e.1, satS 32 e.2))) i else get i

theorem Dev.routed_of_not_bus (d : Dev) (x : SMap Int) {i : Nat} (hbus : i < 768 ∨ 895 < i) (h : i ≠ 1023) :
    d.routed x i = SMap.get 0 x i := by
  have hout : ¬ (768 ≤ i ∧ i ≤ 895) := by omega
  simp only [Dev.routed, hout, h, if_false]

/-- The sinks of a pass are what the enabled routes write. -/
theorem Dev.mixPass_sink (d : Dev) (x : SMap Int) :
    (d.mixPass x).key.sink = SMap.writes (d.tickXps.routed x) [] d.tickXps.enabledRoutes := rfl

/-- Settles O59: the routes write the sinks one by one, and those to one sink agree on its source. -/
theorem routesCopySamples : Obligations.RoutesCopySamples := by
  intro d x rs
  rw [d.mixPass_sink x]
  refine ⟨fun src sink hmem hone hbus hnone => ?_, fun sink hnone => ?_⟩
  · rw [SMap.get_writes_of_mem _ src sink rs _ hmem hone, d.tickXps.routed_of_not_bus x hbus hnone]
  · exact SMap.get_writes_of_not_mem _ sink rs _ hnone

end Sys2Proof.Machine

/-! A bit of a field is a field of its own (R2): the operations on bits are the field's, and so are their laws. -/
namespace Sys2Proof.Machine

theorem testBit_setBits_in {n lo w v i : Nat} (hlo : lo ≤ i) (hi : i < lo + w) :
    (setBits n lo w v).testBit i = v.testBit (i - lo) := by
  have h := congrArg (fun m => m.testBit (i - lo)) (bitsOf_setBits_same n lo w v)
  have hw : i - lo < w := by omega
  simpa [testBit_bitsOf, Nat.testBit_mod_two_pow, hw, Nat.add_sub_cancel' hlo] using h

theorem clrBit_eq_setBits (n k : Nat) : clrBit n k = setBits n k 1 0 := by
  have hb : bitsOf n k 1 = n / 2 ^ k % 2 := rfl
  unfold clrBit setBits bitOf
  rw [hb]
  obtain h | h := Nat.mod_two_eq_zero_or_one (n / 2 ^ k) <;> simp [h]

/-- To set bits of a field and write the field back is to set those bits of the word. -/
theorem setBits_bitsOf {n lo w i k : Nat} (v : Nat) (h : i + k ≤ w) :
    setBits n lo w (setBits (bitsOf n lo w) i k v) = setBits n (lo + i) k v := by
  refine Nat.eq_of_testBit_eq fun j => ?_
  by_cases hj : j < lo ∨ lo + w ≤ j
  · rw [testBit_setBits _ _ _ _ _ hj, testBit_setBits _ _ _ _ _ (by omega)]
  · rw [testBit_setBits_in (by omega) (by omega)]
    by_cases hin : j < lo + i ∨ lo + i + k ≤ j
    · have hw : j - lo < w := by omega
      rw [testBit_setBits _ _ _ _ _ (by omega), testBit_setBits _ _ _ _ _ hin, testBit_bitsOf,
        Nat.add_sub_cancel' (by omega)]
      simp [hw]
    · rw [testBit_setBits_in (by omega) (by omega), testBit_setBits_in (by omega) (by omega), Nat.sub_sub]

theorem Fld.width_at (f : Fld) (i : Nat) : (f.at i).width = 1 := by simp [Fld.width, Fld.at]

theorem Fld.fits_at {f : Fld} {i : Nat} (h : f.lo + i < 32) : (f.at i).fits := ⟨Nat.le_refl _, h⟩

theorem bitOf_eq_testBit (n i : Nat) : bitOf n i = n.testBit i := by
  rw [Nat.testBit_eq_decide_div_mod_eq]
  rfl

/-- A bit of a field reads as the field that it is. -/
theorem Dev.bit_eq_is (d : Dev) {f : Fld} {i : Nat} (h : f.lo + i ≤ f.hi) : d.bit f i = d.is (f.at i) := by
  have hi : i < f.width := by unfold Fld.width; omega
  have hbit : d.bit f i = bitOf (d.rd f.addr).toNat (f.lo + i) := by
    simp [Dev.bit, Dev.get, Fld.of, bitOf_eq_testBit, testBit_bitsOf, hi]
  have hval : d.get (f.at i) = (d.rd f.addr).toNat / 2 ^ (f.lo + i) % 2 := by
    rw [Dev.get, Fld.of, f.width_at]
    rfl
  rw [hbit, bitOf, Dev.is, hval]
  obtain h0 | h1 := Nat.mod_two_eq_zero_or_one ((d.rd f.addr).toNat / 2 ^ (f.lo + i))
  · rw [h0]
    rfl
  · rw [h1]
    rfl

/-- To set or clear a bit of a field is to write the field that the bit is. -/
theorem Dev.putBit_eq_flag (d : Dev) {f : Fld} {i : Nat} (b : Bool) (h : f.lo + i ≤ f.hi) :
    d.putBit f i b = d.flag (f.at i) b := by
  have hinto (v : Nat) : f.into (d.rd f.addr) (setBits (f.of (d.rd f.addr)) i 1 v) = (f.at i).into (d.rd f.addr) v := by
    simp only [Fld.into, Fld.of, f.width_at]
    rw [setBits_bitsOf v (by unfold Fld.width; omega)]
    rfl
  cases b with
  | true => exact congrArg (d.wr f.addr) ((congrArg _ (orBit_eq_setBits _ _)).trans (hinto 1))
  | false => exact congrArg (d.wr f.addr) ((congrArg _ (clrBit_eq_setBits _ _)).trans (hinto 0))

theorem Dev.is_flag_same (d : Dev) {f : Fld} (b : Bool) (hf : f.fits) (hw : f.width = 1) : (d.flag f b).is f = b := by
  rw [Dev.is, d.get_flag_same b hf hw]
  cases b <;> rfl

theorem Dev.bit_putBit_same (d : Dev) {f : Fld} {i : Nat} (b : Bool) (h : f.lo + i ≤ f.hi) (hf : f.hi < 32) :
    (d.putBit f i b).bit f i = b := by
  rw [Dev.bit_eq_is _ h, d.putBit_eq_flag b h, Dev.is_flag_same _ _ (Fld.fits_at (by omega)) (f.width_at i)]

theorem Dev.get_putBit_apart (d : Dev) {f g : Fld} {i : Nat} (b : Bool) (h : f.apart g = true) :
    (d.putBit f i b).get g = d.get g := by
  cases b with
  | true => exact d.get_put_apart _ h
  | false => exact d.get_put_apart _ h

theorem Dev.bit_putBit_apart (d : Dev) {f g : Fld} {i j : Nat} (b : Bool) (h : f.apart g = true) :
    (d.putBit f i b).bit g j = d.bit g j := by
  rw [Dev.bit, d.get_putBit_apart b h, Dev.bit]

theorem Dev.bit_putBit_ne (d : Dev) {f : Fld} {i j : Nat} (b : Bool) (hi : f.lo + i ≤ f.hi) (hj : f.lo + j ≤ f.hi)
    (hf : f.hi < 32) (hne : j ≠ i) : (d.putBit f i b).bit f j = d.bit f j := by
  have hapart : (f.at i).apart (f.at j) = true := by simp [Fld.apart, Fld.at]; omega
  rw [Dev.bit_eq_is _ hj, Dev.bit_eq_is _ hj, d.putBit_eq_flag b hi, Dev.is, Dev.get_flag_apart _ b hapart, Dev.is]

theorem Dev.bit_happenAt_same (d : Dev) {f : Fld} {i : Nat} (h : f.lo + i ≤ f.hi) (hf : f.hi < 32) :
    (d.happenAt f i).bit f i = true := by
  have hset : (d.happenAt f i).get (f.at i) = 1 := d.happen_sets (f.at i) (show f.lo + i < 32 by omega) (f.width_at i)
  rw [Dev.bit_eq_is _ h, Dev.is, hset]
  rfl

theorem Dev.bit_happenAt_ne (d : Dev) {f g : Fld} {i j : Nat} (h : g.addr ≠ f.addr) :
    (d.happenAt f i).bit g j = d.bit g j := by
  rw [Dev.bit, d.get_happenAt_ne f g i h, Dev.bit]

end Sys2Proof.Machine

/-! More laws of frames: writes to bits of fields, to parts, and what a frame says of reads. -/
namespace Sys2Proof.Machine

variable {ps : List Part} {fs : List Fld} {d t : Dev}

theorem Dev.changes_putBit {f : Fld} {i : Nat} {b : Bool} (hf : f ∈ fs) (hw : f.lo ≤ f.hi) :
    d.Changes ps fs (d.putBit f i b) := by
  cases b with
  | true => exact Dev.changes_put hf hw
  | false => exact Dev.changes_put hf hw

/-- A write to a bit of a field changes that bit alone. -/
theorem Dev.changes_putBit_at {f : Fld} {i : Nat} {b : Bool} (hf : f.at i ∈ fs) (hi : f.lo + i ≤ f.hi) :
    d.Changes ps fs (d.putBit f i b) := by
  rw [d.putBit_eq_flag b hi]
  exact Dev.changes_put hf (Nat.le_refl _)

theorem Dev.changes_happenAt_at {f : Fld} {i : Nat} (hp : .intc ∈ ps) (hf : f.at i ∈ fs) :
    d.Changes ps fs (d.happenAt f i) :=
  Dev.changes_happen hp hf (Nat.le_refl (f.lo + i))

theorem Dev.changes_inp {x : Inp} (hp : .inp ∈ ps) : d.Changes ps fs { d with inp := x } :=
  ⟨{ Dev.PartsBut.refl ps d with inp := .inl hp }, fun _ _ _ => rfl⟩

theorem Dev.changes_kt {x : Kt} (hp : .kt ∈ ps) : d.Changes ps fs { d with kt := x } :=
  ⟨{ Dev.PartsBut.refl ps d with kt := .inl hp }, fun _ _ _ => rfl⟩

theorem Dev.Changes.of_ite {c : Prop} [Decidable c] {a b : Dev} (ha : d.Changes ps fs a) (hb : d.Changes ps fs b) :
    d.Changes ps fs (if c then a else b) := by
  split
  · exact ha
  · exact hb

/-- A field of a register that no field of a frame is in reads as before. -/
theorem Dev.Changes.get_eq (h : d.Changes ps fs t) {g : Fld} (hg : ∀ f ∈ fs, f.addr ≠ g.addr) : t.get g = d.get g := by
  have hrd : t.rd g.addr = d.rd g.addr :=
    BitVec.eq_of_getLsbD_eq fun b _ => h.bits g.addr b fun f hf hc => hg f hf hc.1
  rw [Dev.get, hrd, Dev.get]

theorem Dev.Changes.inp_eq (h : d.Changes ps fs t) (hp : .inp ∉ ps) : t.inp = d.inp := h.parts.inp.resolve_left hp

/-- A command that acts on the device alone changes what its operation changes. -/
theorem State.Changes.of_next {s u : State} {f : Dev → Dev}
    (e : (Host.Outcome.next (s.on f) : Host.Outcome State Fault Refusal) = .next u) (h : s.dev.Changes ps fs (f s.dev)) :
    s.Changes ps fs u := by
  obtain rfl : s.on f = u := Host.Outcome.next.inj e
  exact .on h

end Sys2Proof.Machine

/-! The frames of the input commands (chapter 05). -/
namespace Sys2Proof.Machine

variable {ps : List Part} {fs : List Fld} {d : Dev}

/-- The fields that the record of a soft repair writes (R520, R524). -/
def softRepairFields : List Fld :=
  [Fld.repEventsFull, Fld.repEventsSoft, Fld.repLastLoc, Fld.repLastinfoInfo, Fld.repStatusFull, Fld.repStatusSoft]

/-- The device once a soft repair stands in REP_LAST and REP_LASTINFO, counted, and among the soft ones (R520). -/
def Dev.noteRepair (d : Dev) (r : Repair) : Dev :=
  let t := d.put Fld.repLastLoc r.loc
  let t := t.put Fld.repLastinfoInfo (r.info + t.get Fld.ktBootcntCount)
  let t := (t.inc Fld.repStatusSoft).happen Fld.repEventsSoft
  { t with kt := { t.kt with soft := t.kt.soft ++ [r] } }

/-- A soft repair that is noted waits to be burned, or finds every entry of the pool used (R524). -/
theorem Dev.softRepair_cases (d : Dev) (loc kind spare : Nat) (boot : Bool) : ∃ r,
    d.softRepair loc kind spare boot = ((d.noteRepair r).put Fld.repStatusFull 1).happen Fld.repEventsFull ∨
      d.softRepair loc kind spare boot = (d.noteRepair r).queueBurn r := by
  refine ⟨⟨loc, kind * 2 ^ 29 + spare * 2 ^ 24, boot⟩, ?_⟩
  by_cases hused : (d.noteRepair ⟨loc, kind * 2 ^ 29 + spare * 2 ^ 24, boot⟩).get Fld.repStatusUsed = 512
  · exact .inl (if_pos hused)
  · exact .inr (if_neg hused)

theorem Dev.changes_softRepair {loc kind spare : Nat} {boot : Bool} (hi : .intc ∈ ps) (hk : .kt ∈ ps)
    (hf : ∀ f ∈ softRepairFields, f ∈ fs) : d.Changes ps fs (d.softRepair loc kind spare boot) := by
  simp only [softRepairFields, List.forall_mem_cons] at hf
  obtain ⟨hfull, hsoft, hloc, hinfo, hstFull, hstSoft, -⟩ := hf
  have hnote (r : Repair) : d.Changes ps fs (d.noteRepair r) :=
    ((((Dev.changes_put hloc (by decide)).trans (Dev.changes_put hinfo (by decide))).trans
      (Dev.changes_put hstSoft (by decide))).trans (Dev.changes_happen hi hsoft (by decide))).trans (Dev.changes_kt hk)
  obtain ⟨r, e | e⟩ := d.softRepair_cases loc kind spare boot
  · rw [e]
    exact ((hnote r).trans (Dev.changes_put hstFull (by decide))).trans (Dev.changes_happen hi hfull (by decide))
  · rw [e]
    exact (hnote r).trans (Dev.changes_kt hk)

/-- The fields that the retirement of a converter slice of channel `n` writes (R149). -/
def retireAinFields (n : Nat) : List Fld :=
  [Fld.anainChEventsRetired n, Fld.anainChStatusOutSlice n, Fld.anainChStatusRetired n, Fld.anainChStatusRotating n] ++
    softRepairFields

theorem Dev.changes_retireAin {n k : Nat} (hi : .intc ∈ ps) (hk : .kt ∈ ps) (hf : ∀ f ∈ retireAinFields n, f ∈ fs) :
    d.Changes ps fs (d.retireAin n k) := by
  simp only [retireAinFields, List.forall_mem_append, List.forall_mem_cons] at hf
  obtain ⟨⟨hevent, hout, hretired, hrotating, -⟩, hrep⟩ := hf
  have h1 : d.Changes ps fs (d.retireAdc n k) := Dev.changes_put hretired (show 4 ≤ 7 by decide)
  have h2 : (d.retireAdc n k).Changes ps fs _ := Dev.changes_put (v := 15) hout (show 8 ≤ 11 by decide)
  exact (((h1.trans h2).trans (Dev.changes_put hrotating (Nat.le_refl 29))).trans
    (Dev.changes_happen hi hevent (Nat.le_refl 2))).trans (Dev.changes_softRepair hi hk hrep)

theorem Dev.changes_setAin {n : Nat} {x : Ain} (hp : .inp ∈ ps) : d.Changes ps fs (d.setAin n x) := Dev.changes_inp hp

theorem Dev.changes_adcSwap (n : Nat) :
    d.Changes [.inp] [Fld.anainChStatusOutSlice n, Fld.anainChStatusRotating n] (d.adcSwap n) := by
  unfold Dev.adcSwap
  dsimp only
  split
  · refine .of_ite ?_ (.refl ..)
    exact ((Dev.changes_setAin (by simp)).trans (Dev.changes_put (by simp) (show 8 ≤ 11 by decide))).trans
      (Dev.changes_put (by simp) (Nat.le_refl 29))
  · exact .refl ..

theorem Dev.changes_adcCalDone (n : Nat) (beyond : Bool) :
    d.Changes [.inp, .intc, .kt] (retireAinFields n) (d.adcCalDone n beyond) := by
  refine .of_ite (.refl ..) (.of_ite (Dev.changes_retireAin (by simp) (by simp) fun _ => id) ?_)
  exact (Dev.changes_setAin (by simp)).trans (Dev.changes_put (by simp [retireAinFields]) (Nat.le_refl 29))

theorem Dev.changes_adcFail (n k : Nat) :
    d.Changes [.inp, .intc, .kt] ([Fld.anainChEventsFailed n, Fld.anainChStatusFailed n] ++ retireAinFields n)
      (d.adcFail n k) := by
  refine .of_ite (.refl ..) (.of_ite ?_ ?_)
  · exact (Dev.changes_setAin (by simp)).trans
      (Dev.changes_retireAin (by simp) (by simp) fun _ => List.mem_append_right _)
  · exact (Dev.changes_put (by simp) (Nat.le_refl 31)).trans (Dev.changes_happen (by simp) (by simp) (Nat.le_refl 3))

theorem Dev.changes_showMicb (hf : Fld.micbStatusDriving ∈ fs) : d.Changes ps fs d.showMicb :=
  .each fun _ _ _ => Dev.changes_putBit hf (by decide)

theorem Dev.changes_micbTrip {n : Nat} (hn : n < 4) :
    d.Changes [.intc] [Fld.micbEventsTripped.at n, Fld.micbStatusDriving, Fld.micbStatusLimit.at n,
      Fld.micbStatusTripped.at n] (d.micbTrip n) := by
  refine .of_ite (.refl ..) ?_
  have htripped : d.Changes [.intc] [Fld.micbEventsTripped.at n, Fld.micbStatusDriving, Fld.micbStatusLimit.at n,
      Fld.micbStatusTripped.at n] (d.setBit Fld.micbStatusTripped n) :=
    Dev.changes_putBit_at (b := true) (by simp) (show 4 + n ≤ 7 by omega)
  refine ((htripped.trans ?_).trans (Dev.changes_happenAt_at (by simp) (by simp))).trans (Dev.changes_showMicb (by simp))
  exact Dev.changes_putBit_at (b := false) (by simp) (show 0 + n ≤ 3 by omega)

theorem Dev.changes_pdmLost {k : Nat} (hk : k < 8) :
    d.Changes [.intc] [Fld.pdmEventsClkLost.at k, Fld.pdmStatusClkPresent.at k] (d.pdmLost k) := by
  refine .of_ite ?_ (.refl ..)
  have hlost : d.Changes [.intc] [Fld.pdmEventsClkLost.at k, Fld.pdmStatusClkPresent.at k]
      (d.dropBit Fld.pdmStatusClkPresent k) :=
    Dev.changes_putBit_at (b := false) (by simp) (show 0 + k ≤ 7 by omega)
  exact hlost.trans (Dev.changes_happenAt_at (by simp) (by simp))

theorem Dev.changes_pdmReturn {k : Nat} (hk : k < 8) :
    d.Changes [] [Fld.pdmStatusClkPresent.at k] (d.pdmReturn k) :=
  .of_ite (Dev.changes_putBit_at (b := true) (by simp) (show 0 + k ≤ 7 by omega)) (.refl ..)

/-- Settles O30: each command acts on the device alone, and its operation's frame is the one stated. -/
theorem inputCommandsFrame : Obligations.InputCommandsFrame := by
  unfold Obligations.InputCommandsFrame
  refine ⟨fun s t n e => .of_next e ?_, fun s t n e => .of_next e (Dev.changes_adcSwap n),
    fun s t n beyond e => .of_next e (Dev.changes_adcCalDone n beyond), fun s t n k e => .of_next e ?_,
    fun s t n e => .of_next e (Dev.changes_micbTrip n.isLt), fun s t k e => .of_next e (Dev.changes_pdmLost k.isLt),
    fun s t k e => .of_next e (Dev.changes_pdmReturn k.isLt), fun s t ch k e => .of_next e ?_⟩
  case refine_1 => exact Dev.changes_put (by simp) (Nat.le_refl 30)
  case refine_2 =>
    refine (Dev.changes_adcFail n k).mono (fun _ => id) ?_
    simp [retireAinFields, softRepairFields]
  case refine_3 => exact .of_ite (Dev.changes_inp (by simp)) (Dev.changes_inp (by simp))

end Sys2Proof.Machine

/-! The commands of the inputs (chapter 05): the fields and the channel that they leave. -/
namespace Sys2Proof.Machine

variable {d t : Dev}

/-! ### Analogue channels (R146 to R150) -/

@[simp] theorem Dev.ain_setAin_same (d : Dev) (n : Nat) (x : Ain) : (d.setAin n x).ain n = x := SMap.get_set_same ..

theorem Dev.ain_of_inp (h : t.inp = d.inp) (n : Nat) : t.ain n = d.ain n := by rw [Dev.ain, h, Dev.ain]

@[simp] theorem Dev.ain_put (d : Dev) (f : Fld) (v n : Nat) : (d.put f v).ain n = d.ain n := Dev.ain_of_inp (by simp) n

@[simp] theorem Dev.ain_flag (d : Dev) (f : Fld) (b : Bool) (n : Nat) : (d.flag f b).ain n = d.ain n := d.ain_put f _ n

theorem Dev.get_put_outSlice (d : Dev) (n v : Nat) :
    (d.put (Fld.anainChStatusOutSlice n) v).get (Fld.anainChStatusOutSlice n) = v % 16 :=
  d.get_put_same _ v ⟨show 8 ≤ 11 by decide, show 11 < 32 by decide⟩

theorem Dev.get_put_rotating_outSlice (d : Dev) (n v : Nat) :
    (d.put (Fld.anainChStatusRotating n) v).get (Fld.anainChStatusOutSlice n) = d.get (Fld.anainChStatusOutSlice n) :=
  d.get_put_apart v (by simp [Fld.apart, Fld.anainChStatusRotating, Fld.anainChStatusOutSlice])

theorem Dev.ainSettleEnd_get (d : Dev) (n : Nat) : (d.ainSettleEnd n).get (Fld.anainChStatusSettling n) = 0 :=
  d.get_put_same _ 0 ⟨Nat.le_refl 30, show 30 < 32 by decide⟩

/-- The longest-serving slice leaves for the calibrated one that is out (R148). -/
theorem Dev.adcSwap_spec (d : Dev) {n a : Nat} {rest : List Nat} (hsvc : (d.ain n).svc = a :: rest)
    (hrot : d.bit Fld.anainCalctrlRotEn n = true) (hout : d.get (Fld.anainChStatusOutSlice n) ≠ 15)
    (hready : (d.ain n).ready = true) :
    ((d.adcSwap n).ain n).svc = rest ++ [d.get (Fld.anainChStatusOutSlice n)] ∧ ((d.adcSwap n).ain n).ready = false ∧
      (d.adcSwap n).get (Fld.anainChStatusOutSlice n) = a % 16 := by
  have e : d.adcSwap n = ((d.setAin n ⟨rest ++ [d.get (Fld.anainChStatusOutSlice n)], false⟩).put
      (Fld.anainChStatusOutSlice n) a).put (Fld.anainChStatusRotating n) 1 := by
    simp [Dev.adcSwap, hsvc, hrot, hout, hready]
  have hain : (d.adcSwap n).ain n = ⟨rest ++ [d.get (Fld.anainChStatusOutSlice n)], false⟩ := by
    rw [e, Dev.ain_put, Dev.ain_put, Dev.ain_setAin_same]
  refine ⟨by rw [hain], by rw [hain], ?_⟩
  rw [e, Dev.get_put_rotating_outSlice, Dev.get_put_outSlice]

/-- A trim within range makes the slice that is out ready (R149). -/
theorem Dev.adcCalDone_ready (d : Dev) {n : Nat} (hout : d.get (Fld.anainChStatusOutSlice n) ≠ 15)
    (hready : (d.ain n).ready = false) : ((d.adcCalDone n false).ain n).ready = true := by
  have e : d.adcCalDone n false = (d.setAin n { d.ain n with ready := true }).flag (Fld.anainChStatusRotating n)
      (d.bit Fld.anainCalctrlRotEn n) := by
    simp [Dev.adcCalDone, hout, hready]
  rw [e, Dev.ain_flag, Dev.ain_setAin_same]

/-- The retirement of a slice leaves the channel's slices, no slice out and the event (R149). -/
theorem Dev.retireAin_spec (d : Dev) {n : Nat} (k : Nat) (hn : n < 8) : (d.retireAin n k).ain n = d.ain n ∧
    (d.retireAin n k).get (Fld.anainChStatusOutSlice n) = 15 ∧ (d.retireAin n k).get (Fld.anainChEventsRetired n) = 1 := by
  have hinp : (d.retireAin n k).inp = d.inp :=
    (Dev.changes_retireAin (ps := [.intc, .kt]) (by simp) (by simp) fun _ => id).inp_eq (by simp)
  have hget (t : Dev) (loc spare : Nat) {g : Fld} (hg : g.addr < Reg.repCfg) :
      (t.softRepair loc 5 spare false).get g = t.get g := by
    refine (Dev.changes_softRepair (ps := [.intc, .kt]) (by simp) (by simp) fun _ => id).get_eq fun f hf => ?_
    have hrep : ∀ f ∈ softRepairFields, Reg.repCfg ≤ f.addr := by decide
    exact (Nat.lt_of_lt_of_le hg (hrep f hf)).ne'
  have hstatus : Reg.anainChStatus n < Reg.repCfg := by unfold Reg.anainChStatus Reg.repCfg; omega
  have hevents : Reg.anainChEvents n < Reg.repCfg := by unfold Reg.anainChEvents Reg.repCfg; omega
  have hne : Reg.anainChStatus n ≠ Reg.anainChEvents n := by unfold Reg.anainChStatus Reg.anainChEvents; omega
  refine ⟨Dev.ain_of_inp hinp n, ?_, ?_⟩
  · rw [Dev.retireAin, hget _ _ _ hstatus, Dev.get_happen_ne _ _ _ hne, Dev.get_put_rotating_outSlice,
      Dev.get_put_outSlice]
  · rw [Dev.retireAin, hget _ _ _ hevents, Dev.happen_sets _ _ (show 2 < 32 by decide) rfl]

/-- A trim beyond range retires the slice that is out (R149). -/
theorem Dev.adcCalDone_beyond (d : Dev) {n : Nat} (hout : d.get (Fld.anainChStatusOutSlice n) ≠ 15)
    (hready : (d.ain n).ready = false) : d.adcCalDone n true = d.retireAin n (d.get (Fld.anainChStatusOutSlice n)) := by
  simp [Dev.adcCalDone, hout, hready]

/-- A failing slice is exchanged with the calibrated one that is out, and retired (R150). -/
theorem Dev.adcFail_exchange (d : Dev) {n k : Nat} (hk : (d.ain n).svc.contains k = true)
    (hout : d.get (Fld.anainChStatusOutSlice n) ≠ 15) (hready : (d.ain n).ready = true) :
    d.adcFail n k = (d.setAin n
      ⟨(d.ain n).svc.filter (· != k) ++ [d.get (Fld.anainChStatusOutSlice n)], false⟩).retireAin n k := by
  simp only [Dev.adcFail, hk, hout, hready, Bool.not_true, Bool.false_eq_true, if_false, ne_eq, not_false_eq_true,
    and_self, if_true]

/-- With no slice out the channel fails (R150). -/
theorem Dev.adcFail_failed (d : Dev) {n k : Nat} (hk : (d.ain n).svc.contains k = true)
    (hout : d.get (Fld.anainChStatusOutSlice n) = 15) : (d.adcFail n k).get (Fld.anainChStatusFailed n) = 1 ∧
      (d.adcFail n k).get (Fld.anainChEventsFailed n) = 1 := by
  have e : d.adcFail n k = (d.put (Fld.anainChStatusFailed n) 1).happen (Fld.anainChEventsFailed n) := by
    simp only [Dev.adcFail, hk, hout, Bool.not_true, Bool.false_eq_true, if_false, ne_eq, not_true_eq_false, false_and]
  have hne : Reg.anainChStatus n ≠ Reg.anainChEvents n := by unfold Reg.anainChStatus Reg.anainChEvents; omega
  rw [e]
  refine ⟨?_, Dev.happen_sets _ _ (show 3 < 32 by decide) rfl⟩
  rw [Dev.get_happen_ne _ _ _ hne, d.get_put_same _ _ ⟨Nat.le_refl 31, show 31 < 32 by decide⟩]
  rfl

/-! ### Bias outputs (R155, R156) -/

/-- Bias output `n` is tripped, and measures for no headset detector: it does not drive (R156, R252). -/
def Dev.micbHeldOff (d : Dev) (n : Nat) : Prop :=
  d.bit Fld.micbStatusTripped n = true ∧ bitOf d.inp.micbBusy n = false

theorem Dev.micbHeldOff.micbDrives {n : Nat} (h : d.micbHeldOff n) : d.micbDrives n = false := by
  obtain ⟨htripped, hbusy⟩ := h
  simp [Dev.micbDrives, htripped, hbusy]

theorem Dev.micbHeldOff.putBit_driving {n i : Nat} {b : Bool} (h : d.micbHeldOff n) :
    (d.putBit Fld.micbStatusDriving i b).micbHeldOff n := by
  obtain ⟨htripped, hbusy⟩ := h
  have hinp : (d.putBit Fld.micbStatusDriving i b).inp = d.inp := by simp
  exact ⟨(d.bit_putBit_apart b (by decide)).trans htripped, hinp ▸ hbusy⟩

/-- Showing the outputs of a list leaves `n` not driving where it is held off, and is in the list or did not drive before. -/
theorem Dev.micbHeldOff.each_driving {n : Nat} (hn : n < 4) (l : List Nat) : ∀ d : Dev, d.micbHeldOff n → (∀ i ∈ l, i < 4) →
    n ∈ l ∨ d.bit Fld.micbStatusDriving n = false →
      (d.each l (fun d i => d.putBit Fld.micbStatusDriving i (d.micbDrives i))).bit Fld.micbStatusDriving n = false := by
  have hfits {i : Nat} (hi : i < 4) : Fld.micbStatusDriving.lo + i ≤ Fld.micbStatusDriving.hi := show 8 + i ≤ 11 by omega
  induction l with
  | nil => exact fun d _ _ hor => hor.resolve_left (by simp)
  | cons i l ih =>
    intro d hd hl hor
    have hi : i < 4 := hl i (by simp)
    refine ih _ hd.putBit_driving (fun j hj => hl j (by simp [hj])) ?_
    by_cases hin : n = i
    · subst hin
      exact .inr ((d.bit_putBit_same _ (hfits hn) (by decide)).trans hd.micbDrives)
    · refine hor.imp (fun hmem => by simpa [hin] using hmem) fun hdriving => ?_
      exact (d.bit_putBit_ne _ (hfits hi) (hfits hn) (by decide) hin).trans hdriving

theorem Dev.micbHeldOff.showMicb {n : Nat} (h : d.micbHeldOff n) (hn : n < 4) :
    d.showMicb.bit Fld.micbStatusDriving n = false :=
  Dev.micbHeldOff.each_driving hn _ d h (by simp) (.inl (by simpa using hn))

/-- To show which bias outputs drive leaves every other field. -/
theorem Dev.bit_showMicb (d : Dev) {g : Fld} (i : Nat) (h : Fld.micbStatusDriving.apart g = true) :
    d.showMicb.bit g i = d.bit g i :=
  Dev.each_keeps (fun t => t.bit g i) _ (fun t _ => t.bit_putBit_apart _ h) _ d

/-- A trip switches the bias output off and sets its event (R156). -/
theorem Dev.micbTrip_spec (d : Dev) {n : Nat} (hn : n < 4) (hdriving : d.bit Fld.micbStatusDriving n = true)
    (hbusy : bitOf d.inp.micbBusy n = false) :
    (d.micbTrip n).bit Fld.micbStatusTripped n = true ∧ (d.micbTrip n).bit Fld.micbStatusLimit n = false ∧
      (d.micbTrip n).bit Fld.micbEventsTripped n = true ∧ (d.micbTrip n).bit Fld.micbStatusDriving n = false := by
  have e : d.micbTrip n = (((d.putBit Fld.micbStatusTripped n true).putBit Fld.micbStatusLimit n false).happenAt
      Fld.micbEventsTripped n).showMicb := by
    simp only [Dev.micbTrip, hdriving, hbusy, Bool.not_true, Bool.or_self, Bool.false_eq_true, if_false]
    rfl
  generalize ht : ((d.putBit Fld.micbStatusTripped n true).putBit Fld.micbStatusLimit n false).happenAt
    Fld.micbEventsTripped n = t at e
  have htripped : t.bit Fld.micbStatusTripped n = true := by
    rw [← ht, Dev.bit_happenAt_ne _ (by decide), Dev.bit_putBit_apart _ _ (by decide),
      d.bit_putBit_same _ (show 4 + n ≤ 7 by omega) (by decide)]
  have hlimit : t.bit Fld.micbStatusLimit n = false := by
    rw [← ht, Dev.bit_happenAt_ne _ (by decide), Dev.bit_putBit_same _ _ (show 0 + n ≤ 3 by omega) (by decide)]
  have hevent : t.bit Fld.micbEventsTripped n = true :=
    ht ▸ Dev.bit_happenAt_same _ (show 0 + n ≤ 3 by omega) (by decide)
  have hinp : t.inp = d.inp := by simp [← ht]
  have hoff : t.micbHeldOff n := ⟨htripped, hinp ▸ hbusy⟩
  rw [e, t.bit_showMicb n (by decide), t.bit_showMicb n (by decide), t.bit_showMicb n (by decide)]
  exact ⟨htripped, hlimit, hevent, hoff.showMicb hn⟩

/-! ### PDM clock pins (R161, R162) -/

theorem Dev.pdmLost_spec (d : Dev) {k : Nat} (hk : k < 8) (hreceiving : d.bit Fld.pdmStatusReceiving k = true)
    (hpresent : d.bit Fld.pdmStatusClkPresent k = true) :
    (d.pdmLost k).bit Fld.pdmStatusClkPresent k = false ∧ (d.pdmLost k).bit Fld.pdmEventsClkLost k = true := by
  have e : d.pdmLost k = (d.putBit Fld.pdmStatusClkPresent k false).happenAt Fld.pdmEventsClkLost k := by
    simp only [Dev.pdmLost, hreceiving, hpresent, Bool.and_self, if_true]
    rfl
  have hfits : 0 + k ≤ 7 := by omega
  rw [e]
  refine ⟨?_, Dev.bit_happenAt_same _ hfits (by decide)⟩
  rw [Dev.bit_happenAt_ne _ (by decide), d.bit_putBit_same _ hfits (by decide)]

theorem Dev.pdmReturn_spec (d : Dev) {k : Nat} (hk : k < 8) (hreceiving : d.bit Fld.pdmStatusReceiving k = true) :
    (d.pdmReturn k).bit Fld.pdmStatusClkPresent k = true := by
  rw [Dev.pdmReturn, if_pos hreceiving]
  exact d.bit_putBit_same true (show 0 + k ≤ 7 by omega) (by decide)

/-- Settles O11: each clause is what the command's operation on the device leaves, read back. -/
theorem inputCommandsComplete : Obligations.InputCommandsComplete := by
  unfold Obligations.InputCommandsComplete
  refine ⟨fun s n => ⟨_, rfl, s.dev.ainSettleEnd_get n⟩,
    fun s n a rest ⟨hsvc, hrot, hout, hready⟩ => ⟨_, rfl, s.dev.adcSwap_spec hsvc hrot hout hready⟩,
    fun s n ⟨hout, hready⟩ => ⟨_, rfl, s.dev.adcCalDone_ready hout hready⟩, fun s n ⟨hout, hready⟩ => ⟨_, rfl, ?_⟩,
    fun s n k ⟨hk, hout, hready⟩ => ⟨_, rfl, ?_⟩, fun s n k ⟨hk, hout⟩ => ⟨_, rfl, s.dev.adcFail_failed hk hout⟩,
    fun s n ⟨hdriving, hbusy⟩ => ⟨_, rfl, s.dev.micbTrip_spec n.isLt hdriving hbusy⟩,
    fun s k ⟨hreceiving, hpresent⟩ => ⟨_, rfl, s.dev.pdmLost_spec k.isLt hreceiving hpresent⟩,
    fun s k hreceiving => ⟨_, rfl, s.dev.pdmReturn_spec k.isLt hreceiving⟩,
    fun s k => ⟨_, rfl, bitOf_clrBit _ _⟩, fun s k hk => ⟨_, rfl, ?_⟩⟩
  case refine_1 =>
    rw [State.on_dev, s.dev.adcCalDone_beyond hout hready]
    obtain ⟨-, hslice, hevent⟩ := s.dev.retireAin_spec (s.dev.get (Fld.anainChStatusOutSlice n)) n.isLt
    exact ⟨hslice, hevent⟩
  case refine_2 =>
    rw [State.on_dev, s.dev.adcFail_exchange hk hout hready]
    obtain ⟨hain, hslice, hevent⟩ := Dev.retireAin_spec (s.dev.setAin n
      ⟨(s.dev.ain n).svc.filter (· != (k : Nat)) ++ [s.dev.get (Fld.anainChStatusOutSlice n)], false⟩) k n.isLt
    rw [hain, Dev.ain_setAin_same]
    exact ⟨rfl, hslice, hevent⟩
  case refine_3 =>
    rw [State.on_dev, if_neg Bool.false_ne_true, Nat.mod_eq_of_lt hk]
    exact bitOf_clrBit _ _

end Sys2Proof.Machine

/-! Frames as chains of operations: each operation extends the frame of what came before it. And what a frame says of the fields,
the outputs and the accesses that it leaves. -/
namespace Sys2Proof.Machine

/-- A field that shares no bit with those of a frame reads as before. -/
theorem Dev.Changes.get_apart {ps : List Part} {fs : List Fld} {d t : Dev} (h : d.Changes ps fs t) {g : Fld}
    (hg : ∀ f ∈ fs, f.apart g = true) : t.get g = d.get g := by
  refine Nat.eq_of_testBit_eq fun i => ?_
  simp only [Dev.get, Fld.of, testBit_bitsOf]
  by_cases hi : i < g.width
  · have hbit := h.bits g.addr (g.lo + i) fun f hf ⟨ha, hlo, hhi⟩ => by
      have hap := hg f hf
      simp only [Fld.apart, ha, bne_self_eq_false, Bool.false_or, decide_eq_true_eq] at hap
      unfold Fld.width at hi
      omega
    exact congrArg _ hbit
  · simp [hi]

/-- Output `o` is one of the parts `ps`, or they hold every output. -/
def mayChange (o : Nat) (ps : List Part) : Prop := .outs ∈ ps ∨ .out o ∈ ps

theorem mayChange_of_out {o : Nat} {ps : List Part} (h : .out o ∈ ps) : mayChange o ps := .inr h

theorem mayChange_of_outs {o : Nat} {ps : List Part} (h : .outs ∈ ps) : mayChange o ps := .inl h

namespace Dev.Changes

variable {ps : List Part} {fs : List Fld} {d t : Dev}

theorem rd_eq (h : d.Changes ps fs t) {a : Nat} (ha : ∀ f ∈ fs, f.addr ≠ a) : t.rd a = d.rd a :=
  BitVec.eq_of_getLsbD_eq fun b _ => h.bits a b fun f hf hc => ha f hf hc.1

theorem out_eq (h : d.Changes ps fs t) {o : Nat} (hs : .outs ∉ ps) (ho : .out o ∉ ps) : t.out o = d.out o :=
  ((h.parts.outs o).resolve_left hs).resolve_left ho

theorem pins_eq (h : d.Changes ps fs t) (hp : .pins ∉ ps) : t.pins = d.pins := h.parts.pins.resolve_left hp

/-- Where neither the clock root nor the power sequencer changes, nothing new waits for the end of an access. -/
theorem awaits {W : Waiting} (h : d.Changes ps fs t) (hc : .clk ∉ ps) (hp : .pwr ∉ ps) (hq : d.Awaits W) : t.Awaits W :=
  hq.of (congrArg _ (h.parts.clk.resolve_left hc)) (congrArg _ (h.parts.pwr.resolve_left hp))

/-! ### Registers, events and repairs -/

/-- Where the field has no bits, none is written. -/
theorem put {f : Fld} {v : Nat} (h : d.Changes ps fs t) (hf : f ∈ fs) : d.Changes ps fs (t.put f v) := by
  obtain hw | hw := Nat.lt_or_ge f.hi f.lo
  · refine h.trans (.of_regs rfl fun a b _ => ?_)
    by_cases ha : a = f.addr
    · have hbits (i : Nat) : i < f.lo ∨ f.lo + f.width ≤ i := by unfold Fld.width; omega
      have hreg : f.into (t.rd f.addr) v = t.rd f.addr := by
        rw [Fld.into, Nat.eq_of_testBit_eq fun i => testBit_setBits _ _ _ _ i (hbits i), BitVec.ofNat_toNat,
          BitVec.setWidth_eq]
      rw [ha, Dev.put, Dev.rd_wr_same, hreg]
    · rw [Dev.rd_put_ne _ _ _ _ ha]
  · exact h.trans (Dev.changes_put hf hw)

theorem flag {f : Fld} {b : Bool} (h : d.Changes ps fs t) (hf : f ∈ fs) : d.Changes ps fs (t.flag f b) := put h hf

theorem inc {f : Fld} (h : d.Changes ps fs t) (hf : f ∈ fs) : d.Changes ps fs (t.inc f) := put h hf

theorem putBit {f : Fld} {i : Nat} {b : Bool} (h : d.Changes ps fs t) (hf : f ∈ fs) : d.Changes ps fs (t.putBit f i b) := by
  cases b with
  | true => exact put h hf
  | false => exact put h hf

theorem happen {f : Fld} (h : d.Changes ps fs t) (hi : .intc ∈ ps) (hf : f ∈ fs) (hw : f.lo ≤ f.hi) :
    d.Changes ps fs (t.happen f) := h.trans (Dev.changes_happen hi hf hw)

theorem softRepair {loc kind spare : Nat} {boot : Bool} (h : d.Changes ps fs t) (hi : .intc ∈ ps) (hk : .kt ∈ ps)
    (hf : softRepairFields ⊆ fs) : d.Changes ps fs (t.softRepair loc kind spare boot) :=
  h.trans (Dev.changes_softRepair hi hk fun _ m => hf m)

theorem setOut {o : Nat} {x : Out} (h : d.Changes ps fs t) (hp : mayChange o ps) : d.Changes ps fs (t.setOut o x) := by
  refine h.trans ⟨{ Dev.PartsBut.refl ps t with outs := fun p => ?_ }, fun _ _ _ => rfl⟩
  by_cases hpo : p = o
  · subst hpo
    exact Or.imp_right .inl hp
  · exact .inr (.inr (SMap.get_set_ne _ _ _ _ _ _ hpo))

theorem modOut {o : Nat} {f : Out → Out} (h : d.Changes ps fs t) (hp : mayChange o ps) : d.Changes ps fs (t.modOut o f) :=
  setOut h hp

theorem modPins {x : Pins} (h : d.Changes ps fs t) (hp : .pins ∈ ps) : d.Changes ps fs { t with pins := x } :=
  h.trans ⟨{ Dev.PartsBut.refl ps t with pins := .inl hp }, fun _ _ _ => rfl⟩

end Dev.Changes

end Sys2Proof.Machine

/-! What the outputs' operations change (chapters 06 to 08): holds, sequences, clear codes and high impedance of output `o` write
fields of its STATUS and of its sequencer's, and nothing else. -/
namespace Sys2Proof.Machine

/-- The fields that a hold writes (R195). -/
def holdFields (o : Nat) : List Fld := [Fld.outStatusHolding o, Fld.seqStatusStep o]

/-- The fields that a sequence writes, the switch of persona at its end included (R242, R245). -/
def seqFields (o : Nat) : List Fld :=
  [Fld.outStatusHolding o, Fld.outStatusPersona o, Fld.outStatusState o, Fld.seqStatusServo o, Fld.seqStatusStep o]

/-- The fields that the entry to the clear code or to high impedance writes (R190, R196). -/
def clearFields (o : Nat) : List Fld :=
  [Fld.outStatusHolding o, Fld.outStatusState o, Fld.seqStatusGain o, Fld.seqStatusStep o]

/-- The fields that any of these writes. -/
def driveFields (o : Nat) : List Fld :=
  [Fld.outStatusHolding o, Fld.outStatusPersona o, Fld.outStatusState o, Fld.seqStatusGain o, Fld.seqStatusServo o,
    Fld.seqStatusStep o]

/-- The fields that the swap of a segment of speaker `n` writes (R216). -/
def swapFields (n : Nat) : List Fld :=
  [Fld.spkEventsSegRetired n, Fld.spkSegnInService n, Fld.spkSegnRetired n, Fld.spkSegpInService n, Fld.spkSegpRetired n] ++
    softRepairFields

/-- The fields that the retirement of a slice of output `o` writes (R180). -/
def retireFields (o : Nat) : List Fld :=
  [Fld.outEventsRetired o, Fld.outStatusRetired o, Fld.outStatusRetiredMask o] ++ softRepairFields

section
variable {fs : List Fld} {o : Nat}

theorem holdFields_of_seqFields (h : seqFields o ⊆ fs) : holdFields o ⊆ fs :=
  List.Subset.trans (by simp [holdFields, seqFields]) h

theorem holdFields_of_clearFields (h : clearFields o ⊆ fs) : holdFields o ⊆ fs :=
  List.Subset.trans (by simp [holdFields, clearFields]) h

theorem seqFields_of_driveFields (h : driveFields o ⊆ fs) : seqFields o ⊆ fs :=
  List.Subset.trans (by simp [seqFields, driveFields]) h

theorem clearFields_of_driveFields (h : driveFields o ⊆ fs) : clearFields o ⊆ fs :=
  List.Subset.trans (by simp [clearFields, driveFields]) h

end

namespace Dev.Changes

variable {ps : List Part} {fs : List Fld} {d t : Dev} {o : Nat}

theorem setOutSt {st : Nat} (h : d.Changes ps fs t) (hf : Fld.outStatusState o ∈ fs) :
    d.Changes ps fs (t.setOutSt o st) := put h hf

theorem setGain {g : Nat} (h : d.Changes ps fs t) (hf : Fld.seqStatusGain o ∈ fs) : d.Changes ps fs (t.setGain o g) :=
  put h hf

theorem setCause {c : Nat} {b : Bool} (h : d.Changes ps fs t) (hf : Fld.outStatusClrCause o ∈ fs) :
    d.Changes ps fs (t.setCause o c b) := putBit h hf

theorem showOutSlice (h : d.Changes ps fs t) (hf : Fld.outStatusOutSlice o ∈ fs) :
    d.Changes ps fs (t.showOutSlice o) := put h hf

/-! ### Holds -/

theorem startHold {k : HoldK} (h : d.Changes ps fs t) (hp : mayChange o ps) (hf : holdFields o ⊆ fs) :
    d.Changes ps fs (t.startHold o k) :=
  put (put (modOut h hp) (hf (by simp [holdFields]))) (hf (by simp [holdFields]))

theorem dropHold (h : d.Changes ps fs t) (hp : mayChange o ps) (hf : holdFields o ⊆ fs) : d.Changes ps fs (t.dropHold o) :=
  put (put (modOut h hp) (hf (by simp [holdFields]))) (hf (by simp [holdFields]))

theorem tryExit (h : d.Changes ps fs t) (hp : mayChange o ps) (hf : holdFields o ⊆ fs) : d.Changes ps fs (t.tryExit o) :=
  of_ite (startHold h hp hf) h

/-! ### Sequences -/

theorem switchPersona (h : d.Changes ps fs t) (hp : mayChange o ps) (hf : seqFields o ⊆ fs) :
    d.Changes ps fs (t.switchPersona o) :=
  put (modOut (put h (hf (by simp [seqFields]))) hp) (hf (by simp [seqFields]))

theorem beginBlk {b : Blk} (h : d.Changes ps fs t) (hp : mayChange o ps) (hf : seqFields o ⊆ fs) :
    d.Changes ps fs (t.beginBlk o b) := by
  unfold Dev.beginBlk
  extract_lets t1 t2
  have h2 : d.Changes ps fs t2 := put (modOut h hp) (hf (by simp [seqFields]))
  exact of_ite (put h2 (hf (by simp [seqFields]))) h2

theorem finish (h : d.Changes ps fs t) (hp : mayChange o ps) (hf : seqFields o ⊆ fs) : d.Changes ps fs (t.finish o) := by
  have hstep : d.Changes ps fs (t.put (Fld.seqStatusStep o) 0) := put h (hf (by simp [seqFields]))
  unfold Dev.finish
  dsimp only
  split
  · exact setOutSt hstep (hf (by simp [seqFields]))
  · exact startHold (switchPersona hstep hp hf) hp (holdFields_of_seqFields hf)
  · exact hstep

theorem advance {bs : List Blk} (h : d.Changes ps fs t) (hp : mayChange o ps) (hf : seqFields o ⊆ fs) :
    d.Changes ps fs (t.advance o bs) := by
  induction bs with
  | nil => exact finish (modOut h hp) hp hf
  | cons b bs ih => exact of_ite ih (beginBlk (modOut h hp) hp hf)

theorem startSeq {bs : List Blk} {st : Nat} {fin : SeqEnd} (h : d.Changes ps fs t) (hp : mayChange o ps)
    (hf : seqFields o ⊆ fs) : d.Changes ps fs (t.startSeq o bs st fin) :=
  advance (setOutSt (modOut h hp) (hf (by simp [seqFields]))) hp hf

theorem unmuteClear (h : d.Changes ps fs t) (hp : mayChange o ps) (hf : seqFields o ⊆ fs) :
    d.Changes ps fs (t.unmuteClear o) := of_ite (startSeq h hp hf) (startSeq h hp hf)

theorem afterSeq (h : d.Changes ps fs t) (hp : mayChange o ps) (hf : seqFields o ⊆ fs) : d.Changes ps fs (t.afterSeq o) :=
  of_ite (unmuteClear h hp hf) h

theorem personaSeq (h : d.Changes ps fs t) (hp : mayChange o ps) (hf : seqFields o ⊆ fs) :
    d.Changes ps fs (t.personaSeq o) :=
  of_ite h (of_ite (switchPersona h hp hf) (of_ite
    (startHold (switchPersona h hp hf) hp (holdFields_of_seqFields hf)) (startSeq h hp hf)))

theorem setMute {f : Nat → Fld} {b : Bool} (h : d.Changes ps fs t) (hp : mayChange o ps) (hf : seqFields o ⊆ fs)
    (hm : f o ∈ fs) : d.Changes ps fs (t.setMute o f b) := by
  have hflag : d.Changes ps fs (t.flag (f o) b) := flag h hm
  exact of_ite hflag (of_ite (startSeq hflag hp hf) (of_ite (startSeq hflag hp hf) hflag))

theorem seqMute {b : Bool} (h : d.Changes ps fs t) (hp : mayChange o ps)
    (hf : [Fld.seqCtrlMute o, Fld.seqStatusMuteSoftware o] ++ seqFields o ⊆ fs) : d.Changes ps fs (t.seqMute o b) :=
  setMute (flag h (hf (by simp))) hp (List.append_subset.mp hf).2 (hf (by simp))

/-! ### Clear codes, high impedance and readiness -/

theorem abandon (h : d.Changes ps fs t) (hp : mayChange o ps) (hf : clearFields o ⊆ fs) : d.Changes ps fs (t.abandon o) :=
  put (setGain (modOut h hp) (hf (by simp [clearFields]))) (hf (by simp [clearFields]))

theorem atClear (h : d.Changes ps fs t) (hp : mayChange o ps) : d.Changes ps fs (t.atClear o) := by
  unfold Dev.atClear
  exact modOut h hp

theorem atPowerup (h : d.Changes ps fs t) (hp : mayChange o ps) : d.Changes ps fs (t.atPowerup o) := by
  unfold Dev.atPowerup
  exact modOut h hp

theorem enterClear {fallback : Bool} (h : d.Changes ps fs t) (hp : mayChange o ps) (hf : clearFields o ⊆ fs) :
    d.Changes ps fs (t.enterClear o fallback) := by
  have hst : Fld.outStatusState o ∈ fs := hf (by simp [clearFields])
  have hhold : holdFields o ⊆ fs := holdFields_of_clearFields hf
  unfold Dev.enterClear
  extract_lets t1
  have h1 : d.Changes ps fs t1 := atClear (setOutSt (abandon h hp hf) hst) hp
  exact of_ite h (of_ite (setOutSt h hst) (of_ite (dropHold h1 hp hhold) (startHold h1 hp hhold)))

theorem enterHiz (h : d.Changes ps fs t) (hp : mayChange o ps) (hf : clearFields o ⊆ fs) : d.Changes ps fs (t.enterHiz o) :=
  setOutSt (put (modOut (abandon h hp hf) hp) (hf (by simp [clearFields]))) (hf (by simp [clearFields]))

theorem settleOut (h : d.Changes ps fs t) (hp : mayChange o ps) (hf : driveFields o ⊆ fs) :
    d.Changes ps fs (t.settleOut o) := by
  have hst : Fld.outStatusState o ∈ fs := hf (by simp [driveFields])
  have hclear : clearFields o ⊆ fs := clearFields_of_driveFields hf
  have hhold : holdFields o ⊆ fs := holdFields_of_clearFields hclear
  have hcode (st : Nat) : d.Changes ps fs ((t.abandon o).setOutSt o st) := setOutSt (abandon h hp hclear) hst
  have hpowerup := dropHold (atPowerup (hcode OutSt.powerup) hp) hp hhold
  exact of_ite (setOutSt h hst) (of_ite (enterHiz h hp hclear) (of_ite (dropHold (atClear (hcode _) hp) hp hhold)
    (of_ite (startSeq hpowerup hp (seqFields_of_driveFields hf)) hpowerup)))

theorem chainReady (h : d.Changes ps fs t) (hp : mayChange o ps) (hf : driveFields o ⊆ fs) :
    d.Changes ps fs (t.chainReady o) := of_ite h (settleOut (modOut h hp) hp hf)

theorem chainReadyEvent (h : d.Changes ps fs t) (hp : mayChange o ps) (hf : driveFields o ⊆ fs) :
    d.Changes ps fs (t.chainReadyEvent o) := of_ite (chainReady h hp hf) h

theorem pumpReady (h : d.Changes ps fs t) (hp4 : mayChange 4 ps) (hp5 : mayChange 5 ps)
    (hf : [Fld.hpPumpReady] ++ [4, 5].flatMap driveFields ⊆ fs) : d.Changes ps fs t.pumpReady := by
  simp only [List.append_subset, List.flatMap_cons, List.flatMap_nil, List.cons_subset] at hf
  obtain ⟨⟨hready, -⟩, h4, h5, -⟩ := hf
  exact of_ite (chainReady (chainReady (put h hready) hp4 h4) hp5 h5) h

/-! ### Blocks and the ends of holds -/

theorem blkEffect {b : Blk} {trim : Int} {limit : Bool} (h : d.Changes ps fs t) (hp : mayChange o ps) (hi : .intc ∈ ps)
    (hf : [(Fld.seqEventsServoLimit).at o, Fld.seqTrimTrim o] ++ driveFields o ⊆ fs) :
    d.Changes ps fs (t.blkEffect o b trim limit) := by
  have hgain (g : Nat) : d.Changes ps fs (t.setGain o g) := setGain h (hf (by simp [driveFields]))
  cases b
  case servo =>
    have hservo : d.Changes ps fs _ := put (v := if limit then 3 else 2)
      (put (v := unsg 16 trim) (modOut (f := fun x => { x with acquired := true }) h hp)
        (hf (show Fld.seqTrimTrim o ∈ _ by simp))) (hf (show Fld.seqStatusServo o ∈ _ by simp [driveFields]))
    exact of_ite (hservo.trans (Dev.changes_happenAt_at hi (hf (by simp)))) hservo
  case rampUp => exact hgain _
  case takeRamp => exact hgain _
  case rampDown => exact hgain _
  case dwell => exact h
  all_goals
    unfold Dev.blkEffect
    exact modOut h hp

theorem blkDone {trim : Int} {limit : Bool} (h : d.Changes ps fs t) (hp : mayChange o ps) (hi : .intc ∈ ps)
    (hf : [(Fld.seqEventsServoLimit).at o, Fld.seqTrimTrim o] ++ driveFields o ⊆ fs) :
    d.Changes ps fs (t.blkDone o trim limit) := by
  have hseq : seqFields o ⊆ fs := seqFields_of_driveFields (List.append_subset.mp hf).2
  unfold Dev.blkDone
  split
  · exact h
  · exact afterSeq (advance (blkEffect h hp hi hf) hp hseq) hp hseq

theorem endSwap (h : d.Changes ps fs t) (hp : mayChange o ps) (hi : .intc ∈ ps) (hk : .kt ∈ ps)
    (hf : swapFields (o - 6) ⊆ fs) : d.Changes ps fs (t.endSwap o) := by
  have hrep : softRepairFields ⊆ fs := (List.append_subset.mp hf).2
  unfold Dev.endSwap
  dsimp only
  split
  · exact h
  · have hout := modOut (f := fun x => { x with swap := none }) h hp
    refine softRepair (happen ?_ hi (hf (by simp [swapFields])) (Nat.le_refl _)) hi hk hrep
    split
    · exact inc (put (put hout (hf (by simp [swapFields]))) (hf (by simp [swapFields]))) (hf (by simp [swapFields]))
    · exact inc (put (put hout (hf (by simp [swapFields]))) (hf (by simp [swapFields]))) (hf (by simp [swapFields]))

theorem holdEnd (h : d.Changes ps fs t) (hp : mayChange o ps) (hi : .intc ∈ ps) (hk : .kt ∈ ps)
    (hf : seqFields o ++ swapFields (o - 6) ⊆ fs) : d.Changes ps fs (t.holdEnd o) := by
  obtain ⟨hseq, hswap⟩ := List.append_subset.mp hf
  have hhold : holdFields o ⊆ fs := holdFields_of_seqFields hseq
  unfold Dev.holdEnd
  extract_lets k d1
  have h1 : d.Changes ps fs d1 := of_ite h (endSwap (dropHold h hp hhold) hp hi hk hswap)
  cases k
  case entry => exact tryExit h1 hp hhold
  case restart => exact tryExit h1 hp hhold
  case exit => exact afterSeq (unmuteClear h1 hp hseq) hp hseq
  case persona => exact startSeq h1 hp hseq
  all_goals exact h1

/-! ### Slices -/

theorem retireSlice {k : Nat} (h : d.Changes ps fs t) (hi : .intc ∈ ps) (hk : .kt ∈ ps) (hf : retireFields o ⊆ fs) :
    d.Changes ps fs (t.retireSlice o k) :=
  softRepair (happen (put (inc h (hf (by simp [retireFields]))) (hf (by simp [retireFields]))) hi
    (hf (by simp [retireFields])) (Nat.le_refl _)) hi hk (List.append_subset.mp hf).2

theorem dacSwap (h : d.Changes ps fs t) (hp : mayChange o ps) (hf : Fld.outStatusOutSlice o ∈ fs) :
    d.Changes ps fs (t.dacSwap o) := by
  unfold Dev.dacSwap
  dsimp only
  split
  · exact of_ite (showOutSlice (setOut h hp) hf) h
  · exact h

theorem dacCalDone {beyond : Bool} (h : d.Changes ps fs t) (hp : mayChange o ps) (hi : .intc ∈ ps) (hk : .kt ∈ ps)
    (hf : Fld.outStatusOutSlice o :: retireFields o ⊆ fs) : d.Changes ps fs (t.dacCalDone o beyond) := by
  obtain ⟨hslice, hretire⟩ := List.cons_subset.mp hf
  unfold Dev.dacCalDone
  dsimp only
  split
  · exact h
  · exact of_ite (showOutSlice (retireSlice (setOut h hp) hi hk hretire) hslice)
      (of_ite (showOutSlice (setOut h hp) hslice) h)

theorem dacFail {k : Nat} (h : d.Changes ps fs t) (hp : mayChange o ps) (hi : .intc ∈ ps) (hk : .kt ∈ ps)
    (hf : [Fld.outEventsFailed o, Fld.outStatusClrCause o] ++ (clearFields o ++ retireFields o) ⊆ fs) :
    d.Changes ps fs (t.dacFail o k) := by
  obtain ⟨hfail, hf⟩ := List.append_subset.mp hf
  obtain ⟨hclear, hretire⟩ := List.append_subset.mp hf
  have hhold : holdFields o ⊆ fs := holdFields_of_clearFields hclear
  unfold Dev.dacFail
  dsimp only
  split
  · exact h
  · split
    · next w _ =>
      have hout := modOut (f := fun y => { y with svc := y.svc.filter (· != k) ++ [w], wait := none })
        (retireSlice (k := k) h hi hk hretire) hp
      exact of_ite hout (startHold hout hp hhold)
    · exact enterClear (happen (setCause h (hfail (by simp))) hi (hfail (by simp)) (Nat.le_refl _)) hp hclear

/-! ### Protection -/

theorem complianceTrip (h : d.Changes ps fs t) (hp : mayChange o ps) (hi : .intc ∈ ps)
    (hf : [Fld.outEventsProtect o, Fld.outStatusClrCause o] ++ clearFields o ⊆ fs) :
    d.Changes ps fs (t.complianceTrip o) := by
  obtain ⟨htrip, hclear⟩ := List.append_subset.mp hf
  exact of_ite h (enterClear (modOut (setCause (happen h hi (htrip (by simp)) (Nat.le_refl _)) (htrip (by simp))) hp)
    hp hclear)

theorem complianceHiz (h : d.Changes ps fs t) (hp : mayChange o ps) (hi : .intc ∈ ps)
    (hf : Fld.outEventsHiz o :: clearFields o ⊆ fs) : d.Changes ps fs (t.complianceHiz o) := by
  obtain ⟨hhiz, hclear⟩ := List.cons_subset.mp hf
  exact of_ite (happen (enterHiz (modOut h hp) hp hclear) hi hhiz (Nat.le_refl _)) h

theorem complianceRecover (h : d.Changes ps fs t) (hp : mayChange o ps) (hf : Fld.outStatusClrCause o :: holdFields o ⊆ fs) :
    d.Changes ps fs (t.complianceRecover o) := by
  obtain ⟨hcause, hhold⟩ := List.cons_subset.mp hf
  exact of_ite (tryExit (modOut (setCause h hcause) hp) hp hhold) h

theorem complianceCleared (h : d.Changes ps fs t) (hp : mayChange o ps) (hf : Fld.outStatusState o :: holdFields o ⊆ fs) :
    d.Changes ps fs (t.complianceCleared o) := by
  obtain ⟨hst, hhold⟩ := List.cons_subset.mp hf
  exact of_ite h (of_ite (of_ite (modOut h hp) (startHold (atClear (setOutSt (modOut h hp) hst) hp) hp hhold)) (modOut h hp))

theorem hpLimit (h : d.Changes ps fs t) (hp : mayChange o ps) (hi : .intc ∈ ps)
    (hf : [Fld.hpPumpLimit, Fld.outEventsProtect o, Fld.outStatusClrCause o] ++ clearFields o ⊆ fs) :
    d.Changes ps fs (t.hpLimit o) := by
  obtain ⟨hlimit, hclear⟩ := List.append_subset.mp hf
  have hevent := happen (put (v := 1) h (hlimit (show Fld.hpPumpLimit ∈ _ by simp))) hi
    (hlimit (show Fld.outEventsProtect o ∈ _ by simp)) (Nat.le_refl _)
  exact of_ite h (enterClear (setCause hevent (hlimit (by simp))) hp hclear)

theorem hpCleared (h : d.Changes ps fs t) (hp : mayChange o ps)
    (hf : [Fld.hpPumpLimit, Fld.outStatusClrCause o] ++ holdFields o ⊆ fs) : d.Changes ps fs (t.hpCleared o) := by
  obtain ⟨hlimit, hhold⟩ := List.append_subset.mp hf
  exact of_ite h (tryExit (flag (setCause h (hlimit (by simp))) (hlimit (by simp))) hp hhold)

end Dev.Changes
end Sys2Proof.Machine

/-! A host's writes to the registers of outputs and sequencers (R205, R206, R260): each is its register's own operation. -/
namespace Sys2Proof.Machine

/-- The registers of blocks ANAIN, OUT and JACK are in no power domain (R27). -/
theorem Dev.regUp_of_analogue (d : Dev) {a : Nat} (hlo : 0x880000 ≤ a) (hhi : a < 0x8B0000) (h4 : a % 4 = 0)
    (hm : rwtMask a = 0) : d.regUp a = true := by
  have hdom : regDom a = none := by
    have hblock {lo hi : Nat} (hb : hi ≤ 0x880000 ∨ 0x8B0000 ≤ lo) : ¬ (lo ≤ a ∧ a < hi) := by omega
    simp (disch := decide) only [regDom, hblock, if_false]
  have hreg : isRegAddr a = true := by
    simp only [isRegAddr, Bool.or_eq_true, decide_eq_true_eq]
    omega
  have heng : ¬ (0xA00000 ≤ a ∧ a < 0xA10000) := by omega
  simp [Dev.regUp, Dev.downHere, Dev.tileGone, hdom, hreg, h4, hm, heng]

/-- A ready host's write to a register of an analogue block is the register's own, where that leaves the clock root and the
power sequencer alone. -/
theorem State.hostReg_analogue (s : State) {ps : List Part} {fs : List Fld} {a : Nat} {v : Word} {f : Dev → Dev}
    (h : s.dev.hostReady = true) (hlo : 0x880000 ≤ a) (hhi : a < 0x8B0000) (h4 : a % 4 = 0) (hm : rwtMask a = 0)
    (e : s.dev.regWrite Env.quiet .host a v = f s.dev) (hf : s.dev.Changes ps fs (f s.dev)) (hc : .clk ∉ ps)
    (hp : .pwr ∉ ps) : s.hostReg a v = s.on f := by
  have hne {b : Nat} (hb : b < 0x880000 ∨ 0x8B0000 ≤ b) : a ≠ b := by omega
  rw [State.hostReg, s.hostWord_regWrite h (s.dev.regUp_of_analogue hlo hhi h4 hm) (hne (by decide)) (hne (by decide))
    (hne (by decide)) (e ▸ hf.awaits hc hp (Dev.hostReady_awaits h))]
  simp only [State.on, e]

theorem outBase_bounds {o : Nat} (ho : o < 10) : 0x890000 ≤ outBase o ∧ outBase o + 64 ≤ 0x892100 ∧ outBase o % 64 = 0 := by
  unfold outBase
  split_ifs <;> omega

/-- The registers that a host writes to run, mute or acknowledge an output take no staged words (R118). -/
theorem rwtMask_output : ∀ o < 10,
    rwtMask (Reg.outCtrl o) = 0 ∧ rwtMask (Reg.outEvents o) = 0 ∧ rwtMask (Reg.seqCtrl o) = 0 := by
  decide +kernel

/-- The register blocks of R27 tell outputs and registers apart. -/
theorem outOf_output : ∀ o < 10, outOf (Reg.outCtrl o) = some (o, 8) ∧ outOf (Reg.outEvents o) = some (o, 16) := by decide

/-- A write to block OUT that is not staged is the block's own (R7). -/
theorem Dev.regWrite_out (d : Dev) {env : Env} {ag : Agent} {a : Nat} {v : Word} (ha : a / 0x10000 = 0x89)
    (hm : rwtMask a = 0) : d.regWrite env ag a v = d.outWrite ag a v := by
  have htumb : a ≠ Reg.tumbCtrl := fun h => absurd (h ▸ ha) (by decide)
  simp [Dev.regWrite, hm, ha, htumb]

theorem Dev.regWrite_outEvents (d : Dev) {env : Env} {ag : Agent} {o : Nat} {v : Word} (ho : o < 10) :
    d.regWrite env ag (Reg.outEvents o) v = d.outEventsWrite o v := by
  obtain ⟨hlo, hhi, h64⟩ := outBase_bounds ho
  have hne : Reg.outEvents o ≠ Reg.outCalctrl := by unfold Reg.outEvents Reg.outCalctrl; omega
  rw [d.regWrite_out (by unfold Reg.outEvents; omega) (rwtMask_output o ho).2.1, Dev.outWrite, if_neg hne,
    (outOf_output o ho).2]
  rfl

theorem Dev.regWrite_outCtrl (d : Dev) {env : Env} {ag : Agent} {o : Nat} {v : Word} (ho : o < 10) :
    d.regWrite env ag (Reg.outCtrl o) v = d.outCtrlWrite ag o v := by
  obtain ⟨hlo, hhi, h64⟩ := outBase_bounds ho
  have hne : Reg.outCtrl o ≠ Reg.outCalctrl := by unfold Reg.outCtrl Reg.outCalctrl; omega
  rw [d.regWrite_out (by unfold Reg.outCtrl; omega) (rwtMask_output o ho).1, Dev.outWrite, if_neg hne,
    (outOf_output o ho).1]
  rfl

theorem Dev.regWrite_seqCtrl (d : Dev) {env : Env} {ag : Agent} {o : Nat} {v : Word} (ho : o < 10) :
    d.regWrite env ag (Reg.seqCtrl o) v = d.seqMute o (bitOf v.toNat 0) := by
  have ha : Reg.seqCtrl o = 0x8A0104 + 0x10 * o := rfl
  have hm : rwtMask (Reg.seqCtrl o) = 0 := (rwtMask_output o ho).2.2
  generalize Reg.seqCtrl o = a at ha hm
  have hblock : a / 0x10000 = 0x8A := by omega
  have hne {b : Nat} (hb : b < 0x8A0104 ∨ 0x8A01A0 ≤ b) : a ≠ b := by omega
  have hpdm : ¬ (0x870000 ≤ a ∧ a < 0x870020) := by omega
  have hjack : ¬ (0x8A0000 ≤ a ∧ a < 0x8A0020) := by omega
  have hseq : 0x8A0100 ≤ a ∧ a < 0x8A01A0 ∧ a % 16 = 4 := by omega
  have hindex : (a - 0x8A0100) / 16 = o := by omega
  simp (disch := decide) only [Dev.regWrite, Dev.miscWrite, hm, hblock, hpdm, hjack, hseq, hindex, hne, ne_eq,
    not_true_eq_false, if_false, if_true, or_self, and_self, Nat.reduceEqDiff]

/-! ### The three writes -/

/-- A word whose bit 0 is the condition `b` (R205, R260). -/
theorem bitOf_ite_word (b : Bool) : bitOf ((if b then 1 else 0 : Word)).toNat 0 = b := by cases b <;> rfl

/-- What follows the clear of an output's events, on a line output. -/
theorem Dev.outEventsWrite_line (d : Dev) {o : Nat} {v : Word} (ho : o < 4) :
    d.outEventsWrite o v = (d.plain (Reg.outEvents o) v).complianceCleared o := if_pos ho

/-- And on a headphone output. -/
theorem Dev.outEventsWrite_headphone (d : Dev) {o : Nat} {v : Word} (hlo : 4 ≤ o) (hhi : o < 6) :
    d.outEventsWrite o v = (d.plain (Reg.outEvents o) v).hpCleared o := (if_neg (by omega)).trans (if_pos hhi)

/-- A write of CTRL.run alone starts no diagnostic (R233). -/
theorem Dev.outCtrlWrite_run (d : Dev) (ag : Agent) (o : Nat) (run : Bool) :
    d.outCtrlWrite ag o (if run then 1 else 0) = d.outputRun ag o run := by
  have hdiag : bitOf ((if run then 1 else 0 : Word)).toNat 4 = false := by cases run <;> rfl
  simp only [Dev.outCtrlWrite, bitOf_ite_word, hdiag, Bool.and_false, Bool.false_eq_true, if_false]

/-- What a change of CTRL.run sets going (R193, R242, R244). -/
def Dev.runTurned (d : Dev) (o : Nat) (run : Bool) : Dev :=
  if run then
    if d.outSt o = OutSt.diag then
      if d.hizCauses o = 0 then ((d.put (Fld.spkDiagResult (o - 6)) 5).setOutSt o OutSt.powerup).startOut o else d
    else if d.outSt o = OutSt.powerup ∨ d.outSt o = OutSt.stopping then d.startOut o else d
  else if d.outSt o = OutSt.starting ∨ d.outSt o = OutSt.running then d.stopOut o else d

theorem Dev.outputRun_eq (d : Dev) (ag : Agent) (o : Nat) (run : Bool) : d.outputRun ag o run =
    if d.upper o then d.viol 0 ag (Reg.outCtrl o)
    else if d.is (Fld.outCtrlRun o) == run then d
    else (d.flag (Fld.outCtrlRun o) run).runTurned o run := rfl

namespace Dev.Changes

variable {ps : List Part} {fs : List Fld} {d t : Dev} {o : Nat}

theorem runTurned {run : Bool} (h : d.Changes ps fs t) (hp : mayChange o ps)
    (hf : Fld.spkDiagResult (o - 6) :: seqFields o ⊆ fs) : d.Changes ps fs (t.runTurned o run) := by
  obtain ⟨hdiag, hseq⟩ := List.cons_subset.mp hf
  have hst : Fld.outStatusState o ∈ fs := hseq (by simp [seqFields])
  exact of_ite (of_ite (of_ite (startSeq (setOutSt (put h hdiag) hst) hp hseq) h) (of_ite (startSeq h hp hseq) h))
    (of_ite (startSeq h hp hseq) h)

theorem outputRun {ag : Agent} {run : Bool} (h : d.Changes ps fs t) (hp : mayChange o ps)
    (hf : [Fld.outCtrlRun o] ++ (Fld.spkDiagResult (o - 6) :: seqFields o) ++ violFields [0] ⊆ fs) :
    d.Changes ps fs (t.outputRun ag o run) := by
  obtain ⟨hf, hviol⟩ := List.append_subset.mp hf
  obtain ⟨hrun, hseq⟩ := List.append_subset.mp hf
  rw [Dev.outputRun_eq]
  exact of_ite (h.trans (Dev.changes_viol fun _ m => hviol m))
    (of_ite h (runTurned (flag h (hrun (by simp))) hp hseq))

theorem plain {a : Nat} {v : Word} (h : d.Changes ps fs t) (hi : .intc ∈ ps) (hf : Fld.whole a ∈ fs) :
    d.Changes ps fs (t.plain a v) := h.trans (Dev.changes_plain hi hf)

end Dev.Changes

/-- COMPLIANCE_CLEARED is the clear of the events and what waits for it (R186). -/
theorem State.hostReg_complianceCleared (s : State) {o : Nat} {v : Word} (ho : o < 4) (h : s.dev.hostReady = true) :
    s.hostReg (Reg.outEvents o) v = s.on (fun d => (d.plain (Reg.outEvents o) v).complianceCleared o) := by
  have ho' : o < 10 := by omega
  obtain ⟨hlo, hhi, h64⟩ := outBase_bounds ho'
  have hch : s.dev.Changes [.out o, .intc] (Fld.whole (Reg.outEvents o) :: Fld.outStatusState o :: holdFields o)
      ((s.dev.plain (Reg.outEvents o) v).complianceCleared o) :=
    .complianceCleared (.plain (.refl ..) (by simp) (by simp)) (mayChange_of_out (by simp)) (by simp)
  exact s.hostReg_analogue h (by unfold Reg.outEvents; omega) (by unfold Reg.outEvents; omega)
    (by unfold Reg.outEvents; omega) (rwtMask_output o ho').2.1
    ((s.dev.regWrite_outEvents ho').trans (s.dev.outEventsWrite_line ho)) hch (by simp) (by simp)

/-- HP_PROTECT_CLEARED is the clear of the events and what waits for it (R189). -/
theorem State.hostReg_hpCleared (s : State) {o : Nat} {v : Word} (h4 : 4 ≤ o) (h6 : o < 6) (h : s.dev.hostReady = true) :
    s.hostReg (Reg.outEvents o) v = s.on (fun d => (d.plain (Reg.outEvents o) v).hpCleared o) := by
  have ho : o < 10 := by omega
  obtain ⟨hlo, hhi, h64⟩ := outBase_bounds ho
  have hch : s.dev.Changes [.out o, .intc]
      (Fld.whole (Reg.outEvents o) :: ([Fld.hpPumpLimit, Fld.outStatusClrCause o] ++ holdFields o))
      ((s.dev.plain (Reg.outEvents o) v).hpCleared o) :=
    .hpCleared (.plain (.refl ..) (by simp) (by simp)) (mayChange_of_out (by simp)) (by simp)
  exact s.hostReg_analogue h (by unfold Reg.outEvents; omega) (by unfold Reg.outEvents; omega)
    (by unfold Reg.outEvents; omega) (rwtMask_output o ho).2.1
    ((s.dev.regWrite_outEvents ho).trans (s.dev.outEventsWrite_headphone h4 h6)) hch (by simp) (by simp)

/-- OUTPUT_RUN is the write of CTRL.run (R193). -/
theorem State.hostReg_outputRun (s : State) {o : Nat} {run : Bool} (ho : o < 10) (h : s.dev.hostReady = true) :
    s.hostReg (Reg.outCtrl o) (if run then 1 else 0) = s.on (·.outputRun .host o run) := by
  obtain ⟨hlo, hhi, h64⟩ := outBase_bounds ho
  have hch : s.dev.Changes [.out o] ([Fld.outCtrlRun o] ++ (Fld.spkDiagResult (o - 6) :: seqFields o) ++ violFields [0])
      (s.dev.outputRun .host o run) := .outputRun (.refl ..) (mayChange_of_out (by simp)) (List.Subset.refl _)
  exact s.hostReg_analogue h (by unfold Reg.outCtrl; omega) (by unfold Reg.outCtrl; omega)
    (by unfold Reg.outCtrl; omega) (rwtMask_output o ho).1
    ((s.dev.regWrite_outCtrl ho).trans (s.dev.outCtrlWrite_run ..)) hch (by simp) (by simp)

/-- SEQ_MUTE_WRITE is the write of the software mute (R243). -/
theorem State.hostReg_seqMute (s : State) {o : Nat} {mute : Bool} (ho : o < 10) (h : s.dev.hostReady = true) :
    s.hostReg (Reg.seqCtrl o) (if mute then 1 else 0) = s.on (·.seqMute o mute) := by
  have hch : s.dev.Changes [.out o] ([Fld.seqCtrlMute o, Fld.seqStatusMuteSoftware o] ++ seqFields o) (s.dev.seqMute o mute) :=
    .seqMute (.refl ..) (mayChange_of_out (by simp)) (List.Subset.refl _)
  have hbit : s.dev.regWrite Env.quiet .host (Reg.seqCtrl o) (if mute then 1 else 0) = s.dev.seqMute o mute := by
    rw [s.dev.regWrite_seqCtrl ho, bitOf_ite_word]
  exact s.hostReg_analogue h (by unfold Reg.seqCtrl; omega) (by unfold Reg.seqCtrl; omega)
    (by unfold Reg.seqCtrl; omega) (rwtMask_output o ho).2.2 hbit hch (by simp) (by simp)

end Sys2Proof.Machine

/-! The frames of the commands of the outputs and the sequencer. -/
namespace Sys2Proof.Machine

/-- The frame of a command that is a host's write of one register, where the write is the operation `f`. -/
theorem State.Changes.of_next_hostReg {ps : List Part} {fs : List Fld} {s u : State} {a : Nat} {v : Word} {f : Dev → Dev}
    (e : (Host.Outcome.next (s.hostReg a v) : Host.Outcome State Fault Refusal) = .next u) (ha : s.hostReg a v = s.on f)
    (h : s.dev.Changes ps fs (f s.dev)) : s.Changes ps fs u := .of_next (ha ▸ e) h

/-- Each output takes the cause of OUT_CLR_N and enters its clear code (R194). -/
theorem Dev.Changes.outClrAssert {ps : List Part} {fs : List Fld} {d t : Dev} (h : d.Changes ps fs t) (hs : .outs ∈ ps)
    (hp : .pins ∈ ps) (hstat : [Fld.outClrstatAsserts, Fld.outClrstatPinLow] ⊆ fs)
    (hf : ∀ o ∈ List.range 10, ∀ f ∈ Fld.outStatusClrCause o :: clearFields o, f ∈ fs) :
    d.Changes ps fs t.outClrAssert := by
  refine .of_ite h ((((h.modPins hp).put (hstat (by simp))).inc (hstat (by simp))).trans (.each fun u o ho => ?_))
  obtain ⟨hcause, hclear⟩ := List.forall_mem_cons.mp (hf o ho)
  exact .enterClear (.setCause (.refl ..) hcause) (mayChange_of_outs hs) hclear

/-- Each output loses the cause of OUT_CLR_N and leaves its clear code where no other cause holds (R194). -/
theorem Dev.Changes.outClrRelease {ps : List Part} {fs : List Fld} {d t : Dev} (h : d.Changes ps fs t) (hs : .outs ∈ ps)
    (hp : .pins ∈ ps) (hstat : Fld.outClrstatPinLow ∈ fs)
    (hf : ∀ o ∈ List.range 10, ∀ f ∈ Fld.outStatusClrCause o :: holdFields o, f ∈ fs) :
    d.Changes ps fs t.outClrRelease := by
  refine .of_ite h (((h.modPins hp).put hstat).trans (.each fun u o ho => ?_))
  obtain ⟨hcause, hhold⟩ := List.forall_mem_cons.mp (hf o ho)
  exact .tryExit (.setCause (.refl ..) hcause) (mayChange_of_outs hs) hhold

/-- Settles O31: each command acts on the device alone, and its operation's frame lies within the one stated; the four writes of
a host are their registers' own operations. -/
theorem outputCommandsFrame : Obligations.OutputCommandsFrame := by
  have hp {o : Nat} {ps : List Part} : mayChange o (.out o :: ps) := mayChange_of_out (List.mem_cons_self ..)
  unfold Obligations.OutputCommandsFrame
  refine ⟨fun s t o e => .of_next e (.dacSwap (.refl ..) hp ?_),
    fun s t o beyond e => .of_next e (.dacCalDone (.refl ..) hp (by simp) (by simp) ?_),
    fun s t o k e => .of_next e (.dacFail (.refl ..) hp (by simp) (by simp) ?_),
    fun s t o e => .of_next e (.complianceTrip (.refl ..) hp (by simp) ?_),
    fun s t o e => .of_next e (.complianceHiz (.refl ..) hp (by simp) ?_),
    fun s t o e => .of_next e (.complianceRecover (.refl ..) hp ?_),
    fun s t o e ⟨h, _⟩ => .of_next_hostReg e (s.hostReg_complianceCleared o.isLt h)
      (.complianceCleared (.plain (.refl ..) (by simp) (by simp)) hp ?_),
    fun s t k e => .of_next e (.hpLimit (.refl ..) hp (by simp) ?_),
    fun s t k e ⟨h, _⟩ => .of_next_hostReg e (s.hostReg_hpCleared (by omega) (by omega) h)
      (.hpCleared (.plain (.refl ..) (by simp) (by simp)) hp ?_),
    fun s t e => .of_next e (.pumpReady (.refl ..) hp (mayChange_of_out (by simp)) (List.Subset.refl _)),
    fun s t o e => .of_next e (.chainReadyEvent (.refl ..) hp ?_),
    fun s t o run e ⟨h, _⟩ => .of_next_hostReg e (s.hostReg_outputRun o.isLt h) (.outputRun (.refl ..) hp ?_),
    fun s t e => .of_next e (.outClrAssert (.refl ..) (by simp) (by simp) (by simp) (by decide)),
    fun s t e => .of_next e (.outClrRelease (.refl ..) (by simp) (by simp) (by simp) (by decide)),
    fun s t o e => .of_next e (.holdEnd (.refl ..) hp (by simp) (by simp) ?_),
    fun s t o trim limit e => .of_next e (.blkDone (.refl ..) hp (by simp) ?_),
    fun s t o mute e ⟨h, _⟩ => .of_next_hostReg e (s.hostReg_seqMute o.isLt h) (.seqMute (.refl ..) hp ?_),
    fun s t o e => .of_next e (.personaSeq (.refl ..) hp ?_)⟩
  all_goals
    simp [holdFields, seqFields, clearFields, driveFields, swapFields, retireFields, softRepairFields, violFields]

end Sys2Proof.Machine

/-! Outputs read back (chapters 06 to 08): the parts and the fields of an output after the operations on it. -/
namespace Sys2Proof.Machine

/-! ### The part behind the registers -/

@[simp] theorem Dev.out_setOut_same (d : Dev) (o : Nat) (x : Out) : (d.setOut o x).out o = x := SMap.get_set_same ..

@[simp] theorem Dev.out_modOut_same (d : Dev) (o : Nat) (f : Out → Out) : (d.modOut o f).out o = f (d.out o) :=
  SMap.get_set_same ..

theorem Dev.out_of_outs {d t : Dev} (h : t.outs = d.outs) (o : Nat) : t.out o = d.out o := by rw [Dev.out, h, Dev.out]

section
variable (d : Dev) (o : Nat)

@[simp] theorem Dev.out_put (f : Fld) (v : Nat) : (d.put f v).out o = d.out o := Dev.out_of_outs (by simp) o

@[simp] theorem Dev.out_setOutSt (p st : Nat) : (d.setOutSt p st).out o = d.out o := d.out_put o _ st

@[simp] theorem Dev.out_setGain (p g : Nat) : (d.setGain p g).out o = d.out o := d.out_put o _ g

@[simp] theorem Dev.out_setCause (p c : Nat) (b : Bool) : (d.setCause p c b).out o = d.out o :=
  Dev.out_of_outs (by simp [Dev.setCause]) o

@[simp] theorem Dev.out_happen (f : Fld) : (d.happen f).out o = d.out o := Dev.out_of_outs (by simp) o

@[simp] theorem Dev.out_softRepair (loc kind spare : Nat) (boot : Bool) :
    (d.softRepair loc kind spare boot).out o = d.out o :=
  (Dev.changes_softRepair (ps := [.intc, .kt]) (by simp) (by simp) fun _ => id).out_eq (by simp) (by simp)

@[simp] theorem Dev.out_startHold (k : HoldK) : (d.startHold o k).out o = { d.out o with hold := k } := by
  simp [Dev.startHold]

@[simp] theorem Dev.out_dropHold : (d.dropHold o).out o = { d.out o with hold := .none } := by simp [Dev.dropHold]

@[simp] theorem Dev.out_switchPersona : (d.switchPersona o).out o = { d.out o with acquired := false } := by
  simp [Dev.switchPersona]

@[simp] theorem Dev.out_abandon : (d.abandon o).out o = { d.out o with blocks := [], prog := 0 } := by
  simp [Dev.abandon]

@[simp] theorem Dev.out_enterHiz : (d.enterHiz o).out o =
    { d.out o with blocks := [], prog := 0, hold := .none, spk := .hiz, cm := 0, level := 0, swap := none } := by
  simp [Dev.enterHiz]

@[simp] theorem Dev.out_beginBlk (b : Blk) :
    (d.beginBlk o b).out o = { d.out o with prog := 0, lvl0 := (d.out o).level } := by
  unfold Dev.beginBlk
  split <;> simp

end

/-- What an output stands at: its chain, its protection and its slices, the rest as after a reset. -/
def Out.setup (x : Out) : Out :=
  { Out.init with ready := x.ready, esc := x.esc, recovering := x.recovering, svc := x.svc, wait := x.wait, cal := x.cal }

section
variable (d : Dev) (o : Nat)

theorem Dev.setup_atClear : ((d.atClear o).out o).setup = (d.out o).setup := by
  unfold Dev.atClear
  rw [Dev.out_modOut_same]
  split <;> rfl

theorem Dev.setup_atPowerup : ((d.atPowerup o).out o).setup = (d.out o).setup := by
  unfold Dev.atPowerup
  rw [Dev.out_modOut_same]
  split <;> rfl

theorem Dev.setup_tryExit : ((d.tryExit o).out o).setup = (d.out o).setup := by
  unfold Dev.tryExit
  split
  · rw [Dev.out_startHold]
    rfl
  · rfl

theorem Dev.setup_finish : ((d.finish o).out o).setup = (d.out o).setup := by
  unfold Dev.finish
  dsimp only
  split
  · rw [Dev.out_setOutSt, Dev.out_put]
  · rw [Dev.out_startHold, Dev.out_switchPersona, Dev.out_put]
    rfl
  · rw [Dev.out_put]

theorem Dev.setup_advance (bs : List Blk) : ((d.advance o bs).out o).setup = (d.out o).setup := by
  induction bs with
  | nil =>
    rw [Dev.advance, Dev.setup_finish, Dev.out_modOut_same]
    rfl
  | cons b bs ih =>
    rw [Dev.advance]
    split
    · exact ih
    · rw [Dev.out_beginBlk, Dev.out_modOut_same]
      rfl

theorem Dev.setup_startSeq (bs : List Blk) (st : Nat) (fin : SeqEnd) :
    ((d.startSeq o bs st fin).out o).setup = (d.out o).setup := by
  rw [Dev.startSeq, Dev.setup_advance, Dev.out_setOutSt, Dev.out_modOut_same]
  rfl

/-- However an output settles, what it stands at stays (R196). -/
theorem Dev.setup_settleOut : ((d.settleOut o).out o).setup = (d.out o).setup := by
  have hstill (st : Nat) : (((d.abandon o).setOutSt o st).out o).setup = (d.out o).setup := by
    rw [Dev.out_setOutSt, Dev.out_abandon]
    rfl
  have hdrop (t : Dev) : ((t.dropHold o).out o).setup = (t.out o).setup := by
    rw [Dev.out_dropHold]
    rfl
  have hpowerup : (((((d.abandon o).setOutSt o OutSt.powerup).atPowerup o).dropHold o).out o).setup =
      (d.out o).setup := by rw [hdrop, Dev.setup_atPowerup, hstill]
  unfold Dev.settleOut
  split
  · rw [Dev.out_setOutSt]
  · split
    · rw [Dev.out_enterHiz]
      rfl
    · split
      · rw [hdrop, Dev.setup_atClear, hstill]
      · dsimp only
        split
        · rw [Dev.startOut, Dev.setup_startSeq, hpowerup]
        · exact hpowerup

end

/-! ### Fields that the operations leave -/

theorem outStatus_ne_seqStatus {o : Nat} (ho : o < 10) (p : Nat) : Reg.outStatus o ≠ Reg.seqStatus p := by
  obtain ⟨-, hhi, -⟩ := outBase_bounds ho
  unfold Reg.outStatus Reg.seqStatus
  omega

theorem outStatus_ne_outEvents (o : Nat) : Reg.outStatus o ≠ Reg.outEvents o := by
  unfold Reg.outStatus Reg.outEvents
  omega

/-- The causes of high impedance of an output, as one field (R228). -/
def hizFld (o : Nat) : Fld := ⟨Reg.outStatus o, 9, 5⟩

/-- Fields that no hold, sequence, clear code or high impedance of any output writes, nor the swap of a segment. -/
def settledFields (o : Nat) : List Fld :=
  [Fld.outStatusClrCause o, hizFld o, Fld.outEventsFailed o, Fld.outEventsRetired o, Fld.outEventsHiz o,
    Fld.outEventsProtect o, Fld.outCtrlRun o, Fld.seqCtrlMute o, Fld.seqStatusMuteSoftware o, Fld.hpPumpLimit,
    Fld.hpPumpReady, Fld.outClrstatPinLow, Fld.bootStatusState, Fld.hingeStatusRole, Fld.spkPairPar01, Fld.spkPairPar23]

theorem driveFields_apart : ∀ o < 10, ∀ p < 10, ∀ f ∈ driveFields o, ∀ g ∈ settledFields p, f.apart g = true := by
  decide +kernel

theorem swapFields_apart : ∀ n < 4, ∀ p < 10, ∀ f ∈ swapFields n,
    ∀ g ∈ Fld.outStatusState p :: Fld.outStatusHolding p :: settledFields p, f.apart g = true := by
  decide +kernel

section
variable {ps : List Part} {d t : Dev} {o p : Nat} {g : Fld}

theorem Dev.Changes.get_settled (h : d.Changes ps (driveFields o) t) (ho : o < 10) (hp : p < 10)
    (hg : g ∈ settledFields p) : t.get g = d.get g :=
  h.get_apart fun f hf => driveFields_apart o ho p hp f hf g hg

/-- The record of a repair writes none of an output's fields (R520). -/
theorem Dev.get_softRepair_settled {loc kind spare : Nat} {boot : Bool} (hp : p < 10) (hg : g ∈ settledFields p) :
    (d.softRepair loc kind spare boot).get g = d.get g :=
  (Dev.changes_softRepair (ps := [.intc, .kt]) (by simp) (by simp) fun _ => id).get_apart fun f hf =>
    swapFields_apart 0 (by omega) p hp f (List.mem_append_right _ hf) g (by simp [hg])

variable (d) (o)

theorem Dev.tryExit_changes : d.Changes [.out o] (driveFields o) (d.tryExit o) :=
  .tryExit (.refl ..) (mayChange_of_out (by simp))
    (holdFields_of_clearFields (clearFields_of_driveFields (List.Subset.refl _)))

theorem Dev.startHold_changes (k : HoldK) : d.Changes [.out o] (driveFields o) (d.startHold o k) :=
  .startHold (.refl ..) (mayChange_of_out (by simp))
    (holdFields_of_clearFields (clearFields_of_driveFields (List.Subset.refl _)))

theorem Dev.enterClear_changes (fallback : Bool) : d.Changes [.out o] (driveFields o) (d.enterClear o fallback) :=
  .enterClear (.refl ..) (mayChange_of_out (by simp)) (clearFields_of_driveFields (List.Subset.refl _))

theorem Dev.chainReady_changes : d.Changes [.out o] (driveFields o) (d.chainReady o) :=
  .chainReady (.refl ..) (mayChange_of_out (by simp)) (List.Subset.refl _)

theorem Dev.startSeq_changes (bs : List Blk) (st : Nat) (fin : SeqEnd) :
    d.Changes [.out o] (driveFields o) (d.startSeq o bs st fin) :=
  .startSeq (.refl ..) (mayChange_of_out (by simp)) (seqFields_of_driveFields (List.Subset.refl _))

theorem Dev.complianceCleared_changes : d.Changes [.out o] (driveFields o) (d.complianceCleared o) :=
  .complianceCleared (.refl ..) (mayChange_of_out (by simp)) (by simp [holdFields, driveFields])

end

/-- The causes that keep a pin in high impedance rest on the chain, the escalation and the settled fields alone (R196). -/
theorem Dev.pinHiz_congr {d t : Dev} {o : Nat} (ho : o < 10) (hready : (t.out o).ready = (d.out o).ready)
    (hesc : (t.out o).esc = (d.out o).esc) (hget : ∀ p < 10, ∀ g ∈ settledFields p, t.get g = d.get g) :
    t.pinHiz o = d.pinHiz o := by
  have hfld {g : Fld} (hg : g ∈ settledFields 0) : t.get g = d.get g := hget 0 (by omega) g hg
  have hrole : t.released = d.released := by
    simp only [Dev.released, hfld (g := Fld.hingeStatusRole) (by simp [settledFields])]
  have hpair : t.pairOf o = d.pairOf o := by
    unfold Dev.pairOf Dev.is
    rw [hfld (g := Fld.spkPairPar01) (by simp [settledFields]), hfld (g := Fld.spkPairPar23) (by simp [settledFields])]
  have hmem : ∀ p ∈ d.pairOf o, p < 10 := by
    unfold Dev.pairOf
    split_ifs <;> simp [ho]
  have hcauses : t.hizCauses o = d.hizCauses o := by
    have hmap : (d.pairOf o).map (fun p => t.get (hizFld p)) = (d.pairOf o).map (fun p => d.get (hizFld p)) :=
      List.map_congr_left fun p hp => hget p (hmem p hp) _ (by simp [settledFields])
    rw [Dev.hizCauses, hpair]
    exact congrArg (List.foldl (· ||| ·) 0) hmap
  simp only [Dev.pinHiz, hready, hesc, hrole, hcauses]

/-! ### Causes and events -/

theorem Dev.bit_setCause_same (d : Dev) (o : Nat) {c : Nat} (b : Bool) (hc : c < 4) :
    (d.setCause o c b).bit (Fld.outStatusClrCause o) c = b :=
  d.bit_putBit_same b (show 22 + c ≤ 25 by omega) (show 25 < 32 by decide)

theorem Dev.get_setCause_ne (d : Dev) {o c : Nat} {b : Bool} {g : Fld} (h : g.addr ≠ Reg.outStatus o) :
    (d.setCause o c b).get g = d.get g :=
  d.get_putBit_apart b (by simpa [Fld.apart] using .inl h)

/-- The events that a line or headphone output's register holds are cleared by the ones written (R7, R206). -/
theorem outEvents_masks : ∀ o < 6, maskOf (·.rw) (Reg.outEvents o) = 0 ∧ maskOf (·.w1c) (Reg.outEvents o) = 0x1F := by
  decide +kernel

theorem Dev.rd_plain_outEvents (d : Dev) {o : Nat} (v : Word) (ho : o < 6) :
    (d.plain (Reg.outEvents o) v).rd (Reg.outEvents o) = BitVec.ofNat 32 ((d.rd (Reg.outEvents o)).toNat -
      ((d.rd (Reg.outEvents o)).toNat &&& (v.toNat &&& 0x1F))) := by
  obtain ⟨hrw, hw1c⟩ := outEvents_masks o ho
  have hregs (t : Dev) (ids : List Nat) : (t.settle ids).rd (Reg.outEvents o) = t.rd (Reg.outEvents o) :=
    Dev.rd_of_regs (by simp) _
  have hzero : BitVec.ofNat 32 0 = (0 : Word) := rfl
  simp only [Dev.plain, hrw, hzero, hw1c, if_true, Nat.reduceEqDiff, if_false, Dev.w1c, hregs, Dev.rd_wr_same]

/-- Writing 1 to the lowest `k` events leaves them clear. -/
theorem bitsOf_sub_low {n k lo : Nat} (h : lo < k) : bitsOf (n - (n &&& (2 ^ k - 1))) lo 1 = 0 := by
  have hdiv : n - n % 2 ^ k = 2 ^ lo * (2 * (2 ^ (k - lo - 1) * (n / 2 ^ k))) := by
    have hpow : 2 ^ lo * (2 * 2 ^ (k - lo - 1)) = 2 ^ k := by
      rw [← Nat.pow_succ', ← Nat.pow_add]
      congr 1
      omega
    calc n - n % 2 ^ k = 2 ^ k * (n / 2 ^ k) := by have := Nat.div_add_mod n (2 ^ k); omega
      _ = 2 ^ lo * (2 * (2 ^ (k - lo - 1) * (n / 2 ^ k))) := by rw [← hpow]; ring
  rw [Nat.and_two_pow_sub_one_eq_mod, hdiv, bitsOf, Nat.mul_div_cancel_left _ (Nat.pow_pos (by decide)), Nat.pow_one,
    Nat.mul_mod_right]

/-- An event below `k` is clear once the lowest `k` events have been written with 1. -/
theorem Dev.get_plain_outEvents (d : Dev) {o k lo : Nat} {v : Word} (ho : o < 6) (hv : v.toNat &&& 0x1F = 2 ^ k - 1)
    (h : lo < k) : (d.plain (Reg.outEvents o) v).get ⟨Reg.outEvents o, lo, lo⟩ = 0 := by
  have hlt : (d.rd (Reg.outEvents o)).toNat - ((d.rd (Reg.outEvents o)).toNat &&& (2 ^ k - 1)) < 2 ^ 32 :=
    Nat.lt_of_le_of_lt (Nat.sub_le ..) (BitVec.isLt _)
  simp only [Dev.get, Fld.of, Fld.width, d.rd_plain_outEvents v ho, hv, BitVec.toNat_ofNat, Nat.mod_eq_of_lt hlt,
    Nat.add_sub_cancel_left, bitsOf_sub_low h]

/-- The clear of events leaves every output and the fields of other registers. -/
theorem Dev.plain_outEvents_keeps (d : Dev) (o : Nat) (v : Word) : (∀ p, (d.plain (Reg.outEvents o) v).out p = d.out p) ∧
    ∀ g : Fld, g.addr ≠ Reg.outEvents o → (d.plain (Reg.outEvents o) v).get g = d.get g := by
  have h : d.Changes [.intc] [Fld.whole (Reg.outEvents o)] (d.plain (Reg.outEvents o) v) :=
    Dev.changes_plain (by simp) (by simp)
  refine ⟨fun p => h.out_eq (by simp) (by simp), fun g hg => h.get_eq fun f hf => ?_⟩
  rw [List.mem_singleton.mp hf]
  exact hg.symm

end Sys2Proof.Machine

/-! The commands of the outputs and the sequencer (chapters 06 and 08): what each leaves. -/
namespace Sys2Proof.Machine

variable {d : Dev} {o : Nat}

/-! ### What an output stands at, field by field -/

section
variable {x y : Out}

theorem Out.ready_of_setup (h : x.setup = y.setup) : x.ready = y.ready :=
  show x.setup.ready = y.setup.ready by rw [h]

theorem Out.esc_of_setup (h : x.setup = y.setup) : x.esc = y.esc :=
  show x.setup.esc = y.setup.esc by rw [h]

theorem Out.recovering_of_setup (h : x.setup = y.setup) : x.recovering = y.recovering :=
  show x.setup.recovering = y.setup.recovering by rw [h]

end

@[simp] theorem Dev.get_modOut (d : Dev) (o : Nat) (f : Out → Out) (g : Fld) : (d.modOut o f).get g = d.get g := rfl

/-! ### Slices (R179 to R181) -/

/-- The longest-serving slice leaves for calibration, and the calibrated one joins (R179). -/
theorem Dev.dacSwap_spec (d : Dev) {w a : Nat} {rest : List Nat} (hwait : (d.out o).wait = some w)
    (hsvc : (d.out o).svc = a :: rest) (hrot : d.bit Fld.outCalctrlRotEn o = true) :
    ((d.dacSwap o).out o).svc = rest ++ [w] ∧ ((d.dacSwap o).out o).cal = some a ∧
      ((d.dacSwap o).out o).wait = (d.out o).cal ∧ (d.dacSwap o).get (Fld.outStatusOutSlice o) = a % 16 := by
  have e : d.dacSwap o =
      (d.setOut o { d.out o with svc := rest ++ [w], wait := (d.out o).cal, cal := some a }).showOutSlice o := by
    simp [Dev.dacSwap, hwait, hsvc, hrot]
  rw [e, Dev.showOutSlice, Dev.out_put, Dev.out_setOut_same]
  exact ⟨rfl, rfl, rfl, Dev.get_put_same _ _ _ ⟨show 0 ≤ 3 by decide, show 3 < 32 by decide⟩⟩

/-- A slice within its trim range waits where none does (R179). -/
theorem Dev.dacCalDone_waits (d : Dev) {k : Nat} (hcal : (d.out o).cal = some k) (hwait : (d.out o).wait = none) :
    ((d.dacCalDone o false).out o).wait = some k ∧ ((d.dacCalDone o false).out o).cal = none := by
  have e : d.dacCalDone o false = (d.setOut o { d.out o with wait := some k, cal := none }).showOutSlice o := by
    simp [Dev.dacCalDone, hcal, hwait]
  rw [e, Dev.showOutSlice, Dev.out_put, Dev.out_setOut_same]
  exact ⟨rfl, rfl⟩

/-- The retirement of a slice leaves what the output holds, and sets the event (R180). -/
theorem Dev.retireSlice_spec (d : Dev) (k : Nat) (ho : o < 10) :
    (d.retireSlice o k).out o = d.out o ∧ (d.retireSlice o k).get (Fld.outEventsRetired o) = 1 := by
  refine ⟨Dev.Changes.out_eq (ps := [.intc, .kt]) (.retireSlice (.refl ..) (by simp) (by simp) (List.Subset.refl _))
    (by simp) (by simp), ?_⟩
  rw [Dev.retireSlice, Dev.get_softRepair_settled ho (by simp [settledFields])]
  exact Dev.happen_sets _ _ (show 2 < 32 by decide) rfl

/-- A slice beyond its trim range is retired (R180). -/
theorem Dev.dacCalDone_beyond (d : Dev) {k : Nat} (ho : o < 10) (hcal : (d.out o).cal = some k) :
    ((d.dacCalDone o true).out o).cal = none ∧ (d.dacCalDone o true).get (Fld.outEventsRetired o) = 1 := by
  have e : d.dacCalDone o true = ((d.setOut o { d.out o with cal := none }).retireSlice o k).showOutSlice o := by
    simp [Dev.dacCalDone, hcal]
  obtain ⟨hout, hevent⟩ := Dev.retireSlice_spec (d.setOut o { d.out o with cal := none }) k ho
  rw [e, Dev.showOutSlice, Dev.out_put, hout, Dev.out_setOut_same]
  exact ⟨rfl, (Dev.get_put_ne _ _ _ _ (outStatus_ne_outEvents o).symm).trans hevent⟩

/-- Slice `k` retired, and `w` in service in its place (R181). -/
def Dev.exchangeSlice (d : Dev) (o k w : Nat) : Dev :=
  (d.retireSlice o k).modOut o (fun y => { y with svc := y.svc.filter (· != k) ++ [w], wait := none })

theorem Dev.exchangeSlice_spec (d : Dev) (k w : Nat) (ho : o < 10) :
    (d.exchangeSlice o k w).out o = { d.out o with svc := (d.out o).svc.filter (· != k) ++ [w], wait := none } ∧
      (d.exchangeSlice o k w).get (Fld.outEventsRetired o) = 1 := by
  obtain ⟨hout, hevent⟩ := d.retireSlice_spec k ho
  rw [Dev.exchangeSlice, Dev.out_modOut_same, hout, Dev.get_modOut]
  exact ⟨rfl, hevent⟩

/-- A failing slice is exchanged with the calibrated one that waits, under a hold where the output drives (R181). -/
theorem Dev.dacFail_of_waiting (d : Dev) {k w : Nat} (hk : (d.out o).svc.contains k = true)
    (hwait : (d.out o).wait = some w) : d.dacFail o k =
      if (d.exchangeSlice o k w).undriven o then d.exchangeSlice o k w
      else (d.exchangeSlice o k w).startHold o (if (d.out o).hold = .none then .slice else (d.out o).hold) := by
  unfold Dev.exchangeSlice
  simp only [Dev.dacFail, hk, hwait, Bool.not_true, Bool.false_eq_true, if_false]

theorem Dev.dacFail_exchange (d : Dev) {k w : Nat} (ho : o < 10) (hk : (d.out o).svc.contains k = true)
    (hwait : (d.out o).wait = some w) :
    ((d.dacFail o k).out o).svc = (d.out o).svc.filter (· != k) ++ [w] ∧ ((d.dacFail o k).out o).wait = none ∧
      (d.dacFail o k).get (Fld.outEventsRetired o) = 1 := by
  obtain ⟨hout, hevent⟩ := d.exchangeSlice_spec k w ho
  rw [d.dacFail_of_waiting hk hwait]
  split
  · rw [hout]
    exact ⟨rfl, rfl, hevent⟩
  · rw [Dev.out_startHold, hout, (Dev.startHold_changes _ o _).get_settled ho ho (by simp [settledFields])]
    exact ⟨rfl, rfl, hevent⟩

/-- With no slice waiting the output fails (R181). -/
theorem Dev.dacFail_failed (d : Dev) {k : Nat} (ho : o < 10) (hk : (d.out o).svc.contains k = true)
    (hwait : (d.out o).wait = none) :
    (d.dacFail o k).get (Fld.outEventsFailed o) = 1 ∧ (d.dacFail o k).bit (Fld.outStatusClrCause o) Cause.failed = true := by
  have e : d.dacFail o k =
      ((d.setCause o Cause.failed true).happen (Fld.outEventsFailed o)).enterClear o false := by
    simp only [Dev.dacFail, hk, hwait, Bool.not_true, Bool.false_eq_true, if_false]
  have h := ((d.setCause o Cause.failed true).happen (Fld.outEventsFailed o)).enterClear_changes o false
  rw [e, Dev.bit, h.get_settled ho ho (by simp [settledFields]), h.get_settled ho ho (by simp [settledFields])]
  refine ⟨Dev.happen_sets _ _ (show 3 < 32 by decide) rfl, ?_⟩
  rw [Dev.get_happen_ne _ _ _ (outStatus_ne_outEvents o)]
  exact d.bit_setCause_same o true (by decide)

/-! ### Protection (R185, R186, R189) -/

/-- An output that enters its clear code for the cause `protect` shows the cause and the event (R185, R189). -/
theorem Dev.enterClear_protect (ho : o < 10) (hcause : d.bit (Fld.outStatusClrCause o) Cause.protect = true)
    (hevent : d.get (Fld.outEventsProtect o) = 1) :
    (d.enterClear o false).get (Fld.outEventsProtect o) = 1 ∧
      (d.enterClear o false).bit (Fld.outStatusClrCause o) Cause.protect = true := by
  have h := d.enterClear_changes o false
  rw [Dev.bit, h.get_settled ho ho (by simp [settledFields]), h.get_settled ho ho (by simp [settledFields])]
  exact ⟨hevent, hcause⟩

/-- What a trip sets: the event, and the cause (R185, R189). -/
theorem Dev.protect_set (d : Dev) (o : Nat) :
    ((d.happen (Fld.outEventsProtect o)).setCause o Cause.protect true).bit (Fld.outStatusClrCause o) Cause.protect = true ∧
      ((d.happen (Fld.outEventsProtect o)).setCause o Cause.protect true).get (Fld.outEventsProtect o) = 1 := by
  refine ⟨Dev.bit_setCause_same _ o true (by decide), ?_⟩
  rw [Dev.get_setCause_ne _ (outStatus_ne_outEvents o).symm]
  exact Dev.happen_sets _ _ (show 0 < 32 by decide) rfl

theorem Dev.complianceTrip_spec (d : Dev) (ho : o < 10) (hpersona : d.get (Fld.outStatusPersona o) ≠ 0)
    (hdriven : d.undriven o = false) : (d.complianceTrip o).get (Fld.outEventsProtect o) = 1 ∧
      (d.complianceTrip o).bit (Fld.outStatusClrCause o) Cause.protect = true := by
  obtain ⟨hcause, hevent⟩ := d.protect_set o
  have e : d.complianceTrip o = (((d.happen (Fld.outEventsProtect o)).setCause o Cause.protect true).modOut o
      (fun x => { x with recovering := false })).enterClear o false := by
    simp [Dev.complianceTrip, Dev.is, hpersona, hdriven]
  rw [e]
  refine Dev.enterClear_protect ho ?_ ?_
  · rw [Dev.bit, Dev.get_modOut]
    exact hcause
  · rw [Dev.get_modOut, hevent]

theorem Dev.hpLimit_spec (d : Dev) (ho : o < 10) (hdriven : d.undriven o = false) :
    (d.hpLimit o).get Fld.hpPumpLimit = 1 ∧ (d.hpLimit o).get (Fld.outEventsProtect o) = 1 ∧
      (d.hpLimit o).bit (Fld.outStatusClrCause o) Cause.protect = true := by
  obtain ⟨hcause, hevent⟩ := (d.put Fld.hpPumpLimit 1).protect_set o
  have e : d.hpLimit o = (((d.put Fld.hpPumpLimit 1).happen (Fld.outEventsProtect o)).setCause o Cause.protect
      true).enterClear o false := by simp [Dev.hpLimit, hdriven]
  obtain ⟨-, -, h64⟩ := outBase_bounds ho
  rw [e]
  refine ⟨?_, Dev.enterClear_protect ho hcause hevent⟩
  rw [(Dev.enterClear_changes _ o false).get_settled ho ho (by simp [settledFields]),
    Dev.get_setCause_ne _ (show Reg.hpPump ≠ _ by unfold Reg.hpPump Reg.outStatus; omega),
    Dev.get_happen_ne _ _ _ (show Reg.hpPump ≠ Reg.outEvents o by unfold Reg.hpPump Reg.outEvents; omega)]
  exact d.get_put_same _ _ ⟨by decide, by decide⟩

theorem Dev.complianceHiz_spec (d : Dev) (hcause : bitOf (d.clrCauses o) Cause.protect = true)
    (hpersona : d.get (Fld.outStatusPersona o) ≠ 0) (hdriven : d.undriven o = false) (hhold : (d.out o).hold = .none)
    (hrec : (d.out o).recovering = false) :
    ((d.complianceHiz o).out o).esc = true ∧ ((d.complianceHiz o).out o).spk = .hiz ∧
      (d.complianceHiz o).get (Fld.outEventsHiz o) = 1 := by
  have e : d.complianceHiz o = ((d.modOut o (fun x => { x with esc := true })).enterHiz o).happen (Fld.outEventsHiz o) := by
    simp [Dev.complianceHiz, Dev.is, hcause, hpersona, hdriven, hhold, hrec]
  rw [e, Dev.out_happen, Dev.out_enterHiz, Dev.out_modOut_same]
  exact ⟨rfl, rfl, Dev.happen_sets _ _ (show 1 < 32 by decide) rfl⟩

/-- With both events clear an output under protection no longer escalates, and recovers (R186). -/
theorem Dev.complianceCleared_out (d : Dev) (hprotect : d.get (Fld.outEventsProtect o) = 0)
    (hhiz : d.get (Fld.outEventsHiz o) = 0) (hcause : bitOf (d.clrCauses o) Cause.protect = true) :
    ((d.complianceCleared o).out o).esc = false ∧ ((d.complianceCleared o).out o).recovering = true := by
  have e : d.complianceCleared o = if (d.out o).esc then
      (let t := d.modOut o (fun x => { x with esc := false, recovering := true })
       if t.pinHiz o then t else ((t.setOutSt o (t.clearSt o)).atClear o).startHold o .restart)
      else d.modOut o (fun x => { x with recovering := true }) := by
    simp only [Dev.complianceCleared, Dev.is, hprotect, hhiz, hcause, bne_self_eq_false, Bool.not_true, Bool.or_self,
      Bool.false_eq_true, if_false]
  rw [e]
  split
  · generalize ht : d.modOut o (fun x => { x with esc := false, recovering := true }) = t
    have hrec : (t.out o).esc = false ∧ (t.out o).recovering = true := by
      rw [← ht, Dev.out_modOut_same]
      exact ⟨rfl, rfl⟩
    dsimp only
    split
    · exact hrec
    · have hset : (((t.setOutSt o (t.clearSt o)).atClear o).out o).setup = (t.out o).setup := by
        rw [Dev.setup_atClear, Dev.out_setOutSt]
      rw [Dev.out_startHold]
      exact ⟨(Out.esc_of_setup hset).trans hrec.1, (Out.recovering_of_setup hset).trans hrec.2⟩
  · next hesc =>
    rw [Dev.out_modOut_same]
    exact ⟨Bool.eq_false_iff.mpr hesc, rfl⟩

/-- A host's clear of both events of a line output under protection (R186). -/
theorem Dev.complianceCleared_spec (d : Dev) (ho : o < 4) (hcause : bitOf (d.clrCauses o) Cause.protect = true) :
    let t := (d.plain (Reg.outEvents o) 3).complianceCleared o
    t.get (Fld.outEventsProtect o) = 0 ∧ t.get (Fld.outEventsHiz o) = 0 ∧ (t.out o).esc = false ∧
      (t.out o).recovering = true := by
  have ho' : o < 10 := by omega
  have hclear {lo : Nat} (h : lo < 2) : (d.plain (Reg.outEvents o) 3).get ⟨Reg.outEvents o, lo, lo⟩ = 0 :=
    d.get_plain_outEvents (by omega) (by decide) h
  obtain ⟨-, hkept⟩ := d.plain_outEvents_keeps o 3
  have hch := (d.plain (Reg.outEvents o) 3).complianceCleared_changes o
  have hcause' : bitOf ((d.plain (Reg.outEvents o) 3).clrCauses o) Cause.protect = true := by
    rw [Dev.clrCauses, hkept _ (outStatus_ne_outEvents o)]
    exact hcause
  obtain ⟨hesc, hrec⟩ := Dev.complianceCleared_out _ (hclear (lo := 0) (by decide)) (hclear (lo := 1) (by decide)) hcause'
  refine ⟨?_, ?_, hesc, hrec⟩
  · exact (hch.get_settled ho' ho' (by simp [settledFields])).trans (hclear (by decide))
  · exact (hch.get_settled ho' ho' (by simp [settledFields])).trans (hclear (by decide))

theorem Dev.complianceRecover_spec (d : Dev) (ho : o < 10) (hrec : (d.out o).recovering = true)
    (hhold : (d.out o).hold = .none) : ((d.complianceRecover o).out o).recovering = false ∧
      (d.complianceRecover o).bit (Fld.outStatusClrCause o) Cause.protect = false := by
  have e : d.complianceRecover o =
      ((d.setCause o Cause.protect false).modOut o (fun x => { x with recovering := false })).tryExit o := by
    simp [Dev.complianceRecover, hrec, hhold]
  have hset := Dev.setup_tryExit ((d.setCause o Cause.protect false).modOut o (fun x => { x with recovering := false })) o
  rw [Dev.out_modOut_same] at hset
  rw [e, Dev.bit, (Dev.tryExit_changes _ o).get_settled ho ho (by simp [settledFields]), Dev.get_modOut]
  exact ⟨Out.recovering_of_setup hset, d.bit_setCause_same o false (by decide)⟩

/-- A host's clear of a headphone output's protection (R189). -/
theorem Dev.hpCleared_spec (d : Dev) (ho : o < 6) :
    ((d.plain (Reg.outEvents o) 1).hpCleared o).get (Fld.outEventsProtect o) = 0 ∧
      ((d.plain (Reg.outEvents o) 1).hpCleared o).bit (Fld.outStatusClrCause o) Cause.protect = false := by
  have ho' : o < 10 := by omega
  obtain ⟨-, -, h64⟩ := outBase_bounds ho'
  have hclear : (d.plain (Reg.outEvents o) 1).get (Fld.outEventsProtect o) = 0 :=
    d.get_plain_outEvents (k := 1) ho (by decide) (by decide)
  generalize d.plain (Reg.outEvents o) 1 = t at hclear
  cases hcause : bitOf (t.clrCauses o) Cause.protect with
  | false =>
    have e : t.hpCleared o = t := by simp [Dev.hpCleared, hcause]
    rw [e]
    exact ⟨hclear, hcause⟩
  | true =>
    generalize hu : (t.setCause o Cause.protect false).flag Fld.hpPumpLimit
      (bitOf ((t.setCause o Cause.protect false).clrCauses 4) Cause.protect ||
        bitOf ((t.setCause o Cause.protect false).clrCauses 5) Cause.protect) = u
    have e : t.hpCleared o = u.tryExit o := by
      rw [← hu]
      simp [Dev.hpCleared, Dev.is, hclear, hcause]
    have hget {g : Fld} (hg : g.addr ≠ Reg.hpPump) : u.get g = (t.setCause o Cause.protect false).get g :=
      hu ▸ Dev.get_put_ne _ _ _ _ hg
    have h := u.tryExit_changes o
    rw [e, Dev.bit, h.get_settled ho' ho' (by simp [settledFields]), h.get_settled ho' ho' (by simp [settledFields]),
      hget (show Reg.outEvents o ≠ Reg.hpPump by unfold Reg.outEvents Reg.hpPump; omega),
      hget (show Reg.outStatus o ≠ Reg.hpPump by unfold Reg.outStatus Reg.hpPump; omega),
      Dev.get_setCause_ne _ (outStatus_ne_outEvents o).symm]
    exact ⟨hclear, t.bit_setCause_same o false (by decide)⟩

/-! ### Readiness (R188, R193) -/

/-- A chain in a domain that is on is ready once it reports so outside the boot tests (R193, R517). -/
theorem Dev.chainReady_ready (d : Dev) (o : Nat) (hon : d.on (outDom o) = true) (hboot : d.bootSt ≠ BootSt.selftest) :
    ((d.chainReady o).out o).ready = true := by
  cases hready : (d.out o).ready with
  | true =>
    have e : d.chainReady o = d := by simp [Dev.chainReady, hready]
    rw [e, hready]
  | false =>
    have e : d.chainReady o = (d.modOut o (fun x => { x with ready := true })).settleOut o := by
      simp [Dev.chainReady, hready, hon, hboot]
    have hset := (d.modOut o (fun x => { x with ready := true })).setup_settleOut o
    rw [Dev.out_modOut_same] at hset
    rw [e]
    exact Out.ready_of_setup hset

theorem Dev.chainReadyEvent_ready (d : Dev) (o : Nat) (hon : d.on (outDom o) = true) (hboot : d.bootSt ≠ BootSt.selftest)
    (hsupply : o < 4 ∨ (o < 6 ∧ d.get Fld.hpPumpReady ≠ 0) ∨
      (6 ≤ o ∧ d.get Fld.spkPvddReady ≠ 0 ∧ d.get Fld.repStatusSpkDeferred = 0)) :
    ((d.chainReadyEvent o).out o).ready = true := by
  have e : d.chainReadyEvent o = d.chainReady o := by
    refine if_pos ?_
    simp only [isSpk, Dev.is, Bool.or_eq_true, Bool.and_eq_true, decide_eq_true_eq, bne_iff_ne, Bool.not_eq_true',
      bne_eq_false_iff_eq, or_assoc, and_assoc]
    exact hsupply
  rw [e]
  exact d.chainReady_ready o hon hboot

/-- The pump's readiness is the chains' (R188). -/
theorem Dev.pumpReady_spec (d : Dev) (hon : d.on Dom.hp = true) (hboot : d.bootSt ≠ BootSt.selftest) :
    d.pumpReady.get Fld.hpPumpReady = 1 ∧ (d.pumpReady.out 4).ready = true ∧ (d.pumpReady.out 5).ready = true := by
  have e : d.pumpReady = ((d.put Fld.hpPumpReady 1).chainReady 4).chainReady 5 := by simp [Dev.pumpReady, hon, hboot]
  have hon1 : (d.put Fld.hpPumpReady 1).on Dom.hp = true := by
    rw [Dev.on, Dev.dom, Dev.rd_put_ne _ _ _ _ (by decide)]
    exact hon
  have hboot1 : (d.put Fld.hpPumpReady 1).bootSt ≠ BootSt.selftest := by
    rw [Dev.bootSt, Dev.get_put_ne _ _ _ _ (by decide)]
    exact hboot
  have hpump : (d.put Fld.hpPumpReady 1).get Fld.hpPumpReady = 1 := d.get_put_same _ _ ⟨by decide, by decide⟩
  generalize d.put Fld.hpPumpReady 1 = t at e hon1 hboot1 hpump
  have h4 := t.chainReady_changes 4
  have h5 := (t.chainReady 4).chainReady_changes 5
  have hon2 : (t.chainReady 4).on Dom.hp = true := by
    rw [Dev.on, Dev.dom, h4.rd_eq (by decide)]
    exact hon1
  have hboot2 : (t.chainReady 4).bootSt ≠ BootSt.selftest := by
    rw [Dev.bootSt, h4.get_settled (by decide) (p := 4) (by decide) (by simp [settledFields])]
    exact hboot1
  rw [e]
  refine ⟨?_, ?_, (t.chainReady 4).chainReady_ready 5 hon2 hboot2⟩
  · rw [h5.get_settled (by decide) (p := 4) (by decide) (by simp [settledFields]),
      h4.get_settled (by decide) (p := 4) (by decide) (by simp [settledFields]), hpump]
  · rw [h5.out_eq (by simp) (by simp)]
    exact t.chainReady_ready 4 hon1 hboot1

end Sys2Proof.Machine

/-! Sequences, holds and OUT_CLR_N (chapters 06 and 08): what starts, what ends, and what each output is left with. -/
namespace Sys2Proof.Machine

variable {d t : Dev} {o : Nat}

/-! ### The state shown -/

theorem Dev.outSt_setOutSt (d : Dev) (o st : Nat) : (d.setOutSt o st).outSt o = st % 16 :=
  d.get_put_same _ _ ⟨show 28 ≤ 31 by decide, show 31 < 32 by decide⟩

theorem Dev.outSt_put_seqStatus (d : Dev) {f : Fld} (v : Nat) (ho : o < 10) (hf : f.addr = Reg.seqStatus o) :
    (d.put f v).outSt o = d.outSt o :=
  d.get_put_ne _ _ _ (hf ▸ outStatus_ne_seqStatus ho o)

theorem Dev.outSt_modOut (d : Dev) (o p : Nat) (f : Out → Out) : (d.modOut o f).outSt p = d.outSt p := d.get_modOut o f _

theorem Dev.outSt_beginBlk (d : Dev) (b : Blk) (ho : o < 10) : (d.beginBlk o b).outSt o = d.outSt o := by
  have hstep (t : Dev) : (t.put (Fld.seqStatusStep o) b.step).outSt o = t.outSt o := t.outSt_put_seqStatus _ ho rfl
  have hservo (t : Dev) : (t.put (Fld.seqStatusServo o) 1).outSt o = t.outSt o := t.outSt_put_seqStatus _ ho rfl
  unfold Dev.beginBlk
  dsimp only
  split
  · rw [hservo, hstep, Dev.outSt_modOut]
  · rw [hstep, Dev.outSt_modOut]

/-! ### Sequences that end in a state (R242) -/

theorem Dev.finish_of_state (d : Dev) {st : Nat} (hfin : (d.out o).fin = .state st) :
    d.finish o = (d.put (Fld.seqStatusStep o) 0).setOutSt o st := by
  simp [Dev.finish, hfin]

/-- A sequence that ends in a state shows its own or that one, and begins no hold. -/
theorem Dev.advance_of_state (d : Dev) {st : Nat} (bs : List Blk) (ho : o < 10) (hfin : (d.out o).fin = .state st) :
    ((d.advance o bs).outSt o = d.outSt o ∨ (d.advance o bs).outSt o = st % 16) ∧
      ((d.advance o bs).out o).hold = (d.out o).hold ∧ ((d.advance o bs).out o).fin = .state st := by
  induction bs with
  | nil =>
    have hfin' : ((d.modOut o (fun x => { x with blocks := [] })).out o).fin = .state st := by
      rw [Dev.out_modOut_same]
      exact hfin
    rw [Dev.advance, Dev.finish_of_state _ hfin', Dev.outSt_setOutSt, Dev.out_setOutSt, Dev.out_put, Dev.out_modOut_same]
    exact ⟨.inr rfl, rfl, hfin⟩
  | cons b bs ih =>
    rw [Dev.advance]
    split
    · exact ih
    · rw [Dev.outSt_beginBlk _ b ho, Dev.outSt_modOut, Dev.out_beginBlk, Dev.out_modOut_same]
      exact ⟨.inl rfl, rfl, hfin⟩

theorem Dev.startSeq_of_state (d : Dev) (bs : List Blk) (st fin : Nat) (ho : o < 10) :
    ((d.startSeq o bs st (.state fin)).outSt o = st % 16 ∨ (d.startSeq o bs st (.state fin)).outSt o = fin % 16) ∧
      ((d.startSeq o bs st (.state fin)).out o).hold = (d.out o).hold ∧
      ((d.startSeq o bs st (.state fin)).out o).fin = .state fin := by
  generalize ht : (d.modOut o (fun x => { x with fin := .state fin })).setOutSt o st = t
  have hout : t.out o = { d.out o with fin := .state fin } := by rw [← ht, Dev.out_setOutSt, Dev.out_modOut_same]
  have hst : t.outSt o = st % 16 := by rw [← ht, Dev.outSt_setOutSt]
  have h := t.advance_of_state bs ho (st := fin) (by rw [hout])
  rw [hst, hout] at h
  rw [Dev.startSeq, ht]
  exact h

theorem Dev.startOut_state (d : Dev) (ho : o < 10) :
    (d.startOut o).outSt o = OutSt.starting ∨ (d.startOut o).outSt o = OutSt.running :=
  (d.startSeq_of_state (startBlks o) OutSt.starting OutSt.running ho).1

/-! ### CTRL.run (R193) -/

theorem Dev.get_runTurned_run (d : Dev) (run : Bool) (ho : o < 10) :
    (d.runTurned o run).get (Fld.outCtrlRun o) = d.get (Fld.outCtrlRun o) := by
  have h : d.Changes [.out o] (Fld.spkDiagResult (o - 6) :: seqFields o) (d.runTurned o run) :=
    .runTurned (.refl ..) (mayChange_of_out (by simp)) (List.Subset.refl _)
  have hdiag : ∀ o < 10, (Fld.spkDiagResult (o - 6)).apart (Fld.outCtrlRun o) = true := by decide
  refine h.get_apart (List.forall_mem_cons.mpr ⟨hdiag o ho, fun f hf => ?_⟩)
  exact driveFields_apart o ho o ho f (seqFields_of_driveFields (List.Subset.refl _) hf) _ (by simp [settledFields])

theorem Dev.get_flag_run (d : Dev) (o : Nat) (run : Bool) :
    (d.flag (Fld.outCtrlRun o) run).get (Fld.outCtrlRun o) = if run then 1 else 0 :=
  d.get_flag_same run ⟨Nat.le_refl 0, show 0 < 32 by decide⟩ rfl

theorem Dev.outputRun_run (d : Dev) (run : Bool) (ho : o < 10) (hup : d.upper o = false) :
    (d.outputRun .host o run).get (Fld.outCtrlRun o) = if run then 1 else 0 := by
  rw [Dev.outputRun_eq, hup, if_neg Bool.false_ne_true]
  split
  · next hsame => rw [← d.is_toNat (f := Fld.outCtrlRun o) rfl, beq_iff_eq.mp hsame]
  · rw [Dev.get_runTurned_run _ run ho, Dev.get_flag_run]

/-- An output at its power-up code starts when run is set (R193). -/
theorem Dev.outputRun_starts (d : Dev) (ho : o < 10) (hup : d.upper o = false) (hrun : d.get (Fld.outCtrlRun o) = 0)
    (hst : d.outSt o = OutSt.powerup) : (d.outputRun .host o true).outSt o = OutSt.starting ∨
      (d.outputRun .host o true).outSt o = OutSt.running := by
  have hst' : (d.flag (Fld.outCtrlRun o) true).outSt o = OutSt.powerup :=
    (d.get_put_ne _ _ _ (show Reg.outStatus o ≠ Reg.outCtrl o by unfold Reg.outStatus Reg.outCtrl; omega)).trans hst
  have e : d.outputRun .host o true = (d.flag (Fld.outCtrlRun o) true).startOut o := by
    simp [Dev.outputRun_eq, Dev.runTurned, Dev.is, hup, hrun, hst']
  rw [e]
  exact Dev.startOut_state _ ho

/-! ### OUT_CLR_N (R194) -/

/-- What every round of a loop keeps and the round of `y` brings about holds after the loop. -/
theorem Dev.each_reaches {α : Type} {P : Dev → Prop} {f : Dev → α → Dev} {y : α} (hset : ∀ d, P (f d y)) :
    ∀ {l : List α}, (∀ d, ∀ x ∈ l, P d → P (f d x)) → y ∈ l → ∀ d : Dev, P (d.each l f)
  | x :: l, hkeep, hy, d => by
    have hkeep' : ∀ d, ∀ z ∈ l, P d → P (f d z) := fun d z hz => hkeep d z (List.mem_cons_of_mem _ hz)
    obtain rfl | hy := List.mem_cons.mp hy
    · exact List.foldlRecOn l f (hset d) (fun t ht z hz => hkeep' t z hz ht)
    · exact Dev.each_reaches hset hkeep' hy (f d x)

theorem outStatus_injective {o p : Nat} (h : Reg.outStatus o = Reg.outStatus p) : o = p := by
  unfold Reg.outStatus outBase at h
  split_ifs at h <;> omega

/-- The cause of OUT_CLR_N that a loop over the outputs gives each, where the rest of a round leaves the causes alone. -/
theorem Dev.each_setCause (d : Dev) {b : Bool} {f : Dev → Nat → Dev}
    (hf : ∀ (t : Dev) (p : Nat), t.Changes [.out p] (driveFields p) (f t p))
    (ho : o < 10) : (d.each (List.range 10) (fun d p => f (d.setCause p Cause.outClr b) p)).bit (Fld.outStatusClrCause o)
      Cause.outClr = b := by
  have hround (t : Dev) {p : Nat} (hp : p < 10) : (f (t.setCause p Cause.outClr b) p).bit (Fld.outStatusClrCause o)
      Cause.outClr = (t.setCause p Cause.outClr b).bit (Fld.outStatusClrCause o) Cause.outClr := by
    rw [Dev.bit, (hf _ p).get_settled hp ho (by simp [settledFields]), Dev.bit]
  have hset (t : Dev) : (f (t.setCause o Cause.outClr b) o).bit (Fld.outStatusClrCause o) Cause.outClr = b := by
    rw [hround t ho, t.bit_setCause_same o b (by decide)]
  refine Dev.each_reaches (P := fun t => t.bit (Fld.outStatusClrCause o) Cause.outClr = b)
    (f := fun t p => f (t.setCause p Cause.outClr b) p) hset (fun t p hp ht => ?_) (List.mem_range.mpr ho) d
  by_cases hpo : p = o
  · exact hpo ▸ hset t
  · have hne : Reg.outStatus o ≠ Reg.outStatus p := fun h => hpo (outStatus_injective h).symm
    rw [hround t (List.mem_range.mp hp), Dev.bit, t.get_setCause_ne hne]
    exact ht

/-- Such a loop leaves the pin and its record. -/
theorem Dev.each_setCause_pin (d : Dev) {b : Bool} {f : Dev → Nat → Dev}
    (hf : ∀ (t : Dev) (p : Nat), t.Changes [.out p] (driveFields p) (f t p)) :
    (d.each (List.range 10) (fun d p => f (d.setCause p Cause.outClr b) p)).pins = d.pins ∧
      (d.each (List.range 10) (fun d p => f (d.setCause p Cause.outClr b) p)).get Fld.outClrstatPinLow =
        d.get Fld.outClrstatPinLow := by
  refine List.foldlRecOn (motive := fun t : Dev => t.pins = d.pins ∧
    t.get Fld.outClrstatPinLow = d.get Fld.outClrstatPinLow) _ _ ⟨rfl, rfl⟩ (fun t ⟨hpins, hpin⟩ p hp => ?_)
  have hp10 : p < 10 := List.mem_range.mp hp
  obtain ⟨-, -, h64⟩ := outBase_bounds hp10
  have hne : Fld.outClrstatPinLow.addr ≠ Reg.outStatus p :=
    show Reg.outClrstat ≠ _ by unfold Reg.outClrstat Reg.outStatus; omega
  rw [(hf _ p).pins_eq (by simp), (hf _ p).get_settled hp10 hp10 (by simp [settledFields]), t.get_setCause_ne hne]
  exact ⟨by simpa [Dev.setCause] using hpins, hpin⟩

theorem Dev.outClrAssert_spec (d : Dev) (h : d.pins.outClr = false) : d.outClrAssert.pins.outClr = true ∧
    d.outClrAssert.get Fld.outClrstatPinLow = 1 ∧
      ∀ o : Fin 10, d.outClrAssert.bit (Fld.outStatusClrCause o) Cause.outClr = true := by
  generalize hu : ({ d with pins := { d.pins with outClr := true } } : Dev) = u
  generalize ht : (u.put Fld.outClrstatPinLow 1).inc Fld.outClrstatAsserts = t
  have e : d.outClrAssert = t.each (List.range 10) (fun d p => (d.setCause p Cause.outClr true).enterClear p false) := by
    rw [← ht, ← hu, Dev.outClrAssert, h, if_neg Bool.false_ne_true]
  have hpin : t.pins.outClr = true := by
    have hpins : t.pins = u.pins := by simp [← ht]
    rw [hpins, ← hu]
  have hrec : t.get Fld.outClrstatPinLow = 1 := by
    rw [← ht, Dev.inc, Dev.addSat, Dev.get_put_apart (f := Fld.outClrstatAsserts) (g := Fld.outClrstatPinLow) _ _ (by decide)]
    exact u.get_put_same _ _ ⟨by decide, by decide⟩
  obtain ⟨hpins, hlow⟩ := t.each_setCause_pin (b := true) (f := fun t p => t.enterClear p false)
    (fun t p => t.enterClear_changes p false)
  rw [e, hpins, hlow]
  exact ⟨hpin, hrec, fun o => t.each_setCause (f := fun t p => t.enterClear p false)
    (fun t p => t.enterClear_changes p false) o.isLt⟩

theorem Dev.outClrRelease_spec (d : Dev) (h : d.pins.outClr = true) : d.outClrRelease.pins.outClr = false ∧
    d.outClrRelease.get Fld.outClrstatPinLow = 0 ∧
      ∀ o : Fin 10, d.outClrRelease.bit (Fld.outStatusClrCause o) Cause.outClr = false := by
  generalize hu : ({ d with pins := { d.pins with outClr := false } } : Dev) = u
  generalize ht : u.put Fld.outClrstatPinLow 0 = t
  have e : d.outClrRelease = t.each (List.range 10) (fun d p => (d.setCause p Cause.outClr false).tryExit p) := by
    rw [← ht, ← hu, Dev.outClrRelease, h, Bool.not_true, if_neg Bool.false_ne_true]
  have hpin : t.pins.outClr = false := by
    have hpins : t.pins = u.pins := by simp [← ht]
    rw [hpins, ← hu]
  have hrec : t.get Fld.outClrstatPinLow = 0 := ht ▸ u.get_put_same _ _ ⟨by decide, by decide⟩
  obtain ⟨hpins, hlow⟩ := t.each_setCause_pin (b := false) (f := fun t p => t.tryExit p)
    (fun t p => t.tryExit_changes p)
  rw [e, hpins, hlow]
  exact ⟨hpin, hrec, fun o => t.each_setCause (f := fun t p => t.tryExit p)
    (fun t p => t.tryExit_changes p) o.isLt⟩

/-! ### The ends of holds (R195, R213, R216) -/

/-- The hold of output `o` is over, and the swap that it covered made. -/
def Dev.holdOver (d : Dev) (o : Nat) : Dev := (d.dropHold o).endSwap o

theorem Dev.out_endSwap (d : Dev) (o : Nat) : (d.endSwap o).out o = { d.out o with swap := none } := by
  unfold Dev.endSwap
  dsimp only
  split
  · next hswap =>
    conv_lhs => rw [show d.out o = { d.out o with swap := (d.out o).swap } from rfl, hswap]
  · rw [Dev.out_softRepair, Dev.out_happen]
    split <;> simp [Dev.inc, Dev.addSat, Dev.setBit, Dev.dropBit]

theorem Dev.out_holdOver (d : Dev) (o : Nat) : (d.holdOver o).out o = { d.out o with hold := .none, swap := none } := by
  rw [Dev.holdOver, Dev.out_endSwap, Dev.out_dropHold]

/-- The swap of a segment leaves the settled fields, and the state and the hold shown. -/
theorem Dev.get_endSwap (d : Dev) {p : Nat} {g : Fld} (ho : o < 10) (hp : p < 10)
    (hg : g ∈ Fld.outStatusState p :: Fld.outStatusHolding p :: settledFields p) : (d.endSwap o).get g = d.get g := by
  have h : d.Changes [.out o, .intc, .kt] (swapFields (o - 6)) (d.endSwap o) :=
    .endSwap (.refl ..) (mayChange_of_out (by simp)) (by simp) (by simp) (List.Subset.refl _)
  exact h.get_apart fun f hf => swapFields_apart (o - 6) (by omega) p hp f hf g hg

theorem Dev.get_holdOver_settled (d : Dev) {p : Nat} {g : Fld} (ho : o < 10) (hp : p < 10) (hg : g ∈ settledFields p) :
    (d.holdOver o).get g = d.get g := by
  have hdrop : d.Changes [.out o] (driveFields o) (d.dropHold o) :=
    .dropHold (.refl ..) (mayChange_of_out (by simp)) (by simp [holdFields, driveFields])
  rw [Dev.holdOver, Dev.get_endSwap _ ho hp (by simp [hg]), hdrop.get_settled ho hp hg]

theorem Dev.holdOver_spec (d : Dev) (ho : o < 10) : ((d.holdOver o).out o).hold = .none ∧
    (d.holdOver o).get (Fld.outStatusHolding o) = 0 ∧ (d.holdOver o).outSt o = d.outSt o := by
  have hstate : (Fld.outStatusHolding o).apart (Fld.outStatusState o) = true := by
    simp [Fld.apart, Fld.outStatusHolding, Fld.outStatusState]
  have hstep {g : Fld} (hg : g.addr = Reg.outStatus o) (t : Dev) : (t.put (Fld.seqStatusStep o) 0).get g = t.get g :=
    t.get_put_ne _ _ _ (hg ▸ outStatus_ne_seqStatus ho o)
  refine ⟨by rw [Dev.out_holdOver], ?_, ?_⟩
  · rw [Dev.holdOver, Dev.get_endSwap _ ho ho (by simp), Dev.dropHold, hstep rfl,
      Dev.get_put_same _ _ _ ⟨Nat.le_refl 26, show 26 < 32 by decide⟩, Nat.zero_mod]
  · rw [Dev.outSt, Dev.holdOver, Dev.get_endSwap _ ho ho (by simp), Dev.dropHold, hstep rfl, Dev.get_put_apart _ _ hstate,
      Dev.get_modOut, Dev.outSt]

/-- Holds that cover a change of gain, slice or segment just end (R195). -/
theorem Dev.holdEnd_of_change (d : Dev) (h : (d.out o).hold = .refgain ∨ (d.out o).hold = .slice ∨
    (d.out o).hold = .segment ∨ (d.out o).hold = .fsp) : d.holdEnd o = d.holdOver o := by
  obtain h | h | h | h := h <;> simp [Dev.holdEnd, h, Dev.holdOver]

/-- Holds at the entry to the clear code end with a look for the exit (R195, R196). -/
theorem Dev.holdEnd_of_entry (d : Dev) (h : (d.out o).hold = .entry ∨ (d.out o).hold = .restart) :
    d.holdEnd o = (d.holdOver o).tryExit o := by
  obtain h | h := h <;> simp [Dev.holdEnd, h, Dev.holdOver]

/-- An output that another clear cause holds stays at its clear code. -/
theorem Dev.holdEnd_stays (d : Dev) (ho : o < 10) (h : (d.out o).hold = .entry ∨ (d.out o).hold = .restart)
    (hcause : d.clrCauses o ≠ 0) : d.holdEnd o = d.holdOver o := by
  have hcause' : (d.holdOver o).clrCauses o ≠ 0 := by
    rw [Dev.clrCauses, d.get_holdOver_settled ho ho (by simp [settledFields])]
    exact hcause
  rw [d.holdEnd_of_entry h, Dev.tryExit, if_neg (by simp [hcause'])]

/-- An output that nothing holds at its clear code leaves it under an exit hold. -/
theorem Dev.holdEnd_exits (d : Dev) (ho : o < 10) (h : (d.out o).hold = .entry ∨ (d.out o).hold = .restart)
    (hst : d.outSt o = OutSt.clear) (hcause : d.clrCauses o = 0) (hrec : (d.out o).recovering = false)
    (hpin : d.pinHiz o = false) : d.holdEnd o = (d.holdOver o).startHold o .exit := by
  obtain ⟨hhold, -, hst'⟩ := d.holdOver_spec ho
  have hcause' : (d.holdOver o).clrCauses o = 0 := by
    rw [Dev.clrCauses, d.get_holdOver_settled ho ho (by simp [settledFields])]
    exact hcause
  have hrec' : ((d.holdOver o).out o).recovering = false := by rw [Dev.out_holdOver, hrec]
  have hpin' : (d.holdOver o).pinHiz o = false := by
    rw [Dev.pinHiz_congr ho (by rw [Dev.out_holdOver]) (by rw [Dev.out_holdOver])
      (fun p hp g hg => d.get_holdOver_settled ho hp hg), hpin]
  rw [d.holdEnd_of_entry h, Dev.tryExit, if_pos (by simp [hhold, hst', hst, hcause', hrec', hpin'])]

theorem Dev.get_startHold_holding (d : Dev) (k : HoldK) (ho : o < 10) :
    (d.startHold o k).get (Fld.outStatusHolding o) = 1 :=
  (Dev.get_put_ne _ _ _ _ (outStatus_ne_seqStatus ho o)).trans
    (Dev.get_put_same _ _ _ ⟨Nat.le_refl 26, show 26 < 32 by decide⟩)

/-- At the end of an exit hold an output that is to run starts (R195, R242). -/
theorem Dev.holdEnd_starts (d : Dev) (ho : o < 10) (h : (d.out o).hold = .exit) (hrun : d.get (Fld.outCtrlRun o) ≠ 0) :
    ((d.holdEnd o).out o).hold = .none ∧
      ((d.holdEnd o).outSt o = OutSt.starting ∨ (d.holdEnd o).outSt o = OutSt.running) := by
  have hrun' : (d.holdOver o).is (Fld.outCtrlRun o) = true := by
    rw [Dev.is, d.get_holdOver_settled ho ho (by simp [settledFields])]
    simpa using hrun
  have hunmute : (d.holdOver o).unmuteClear o = (d.holdOver o).startOut o := by simp [Dev.unmuteClear, hrun', Dev.startOut]
  obtain ⟨hst, hhold, hfin⟩ := (d.holdOver o).startSeq_of_state (startBlks o) OutSt.starting OutSt.running ho
  have hafter : ((d.holdOver o).startOut o).afterSeq o = (d.holdOver o).startOut o := by
    rw [Dev.startOut, Dev.afterSeq, hfin]
    simp
  have e : d.holdEnd o = (d.holdOver o).startOut o := by
    rw [← hafter, ← hunmute]
    simp [Dev.holdEnd, h, Dev.holdOver]
  rw [e]
  exact ⟨hhold.trans (d.holdOver_spec ho).1, hst⟩

/-! ### The last block of a sequence (R242) -/

/-- The last block of a sequence that ends in a state ends, and the output is in that state. -/
theorem Dev.blkDone_last (d : Dev) {b : Blk} {st g : Nat} (trim : Int) (limit : Bool) (ho : o < 10)
    (hblocks : (d.out o).blocks = [b]) (hfin : (d.out o).fin = .state st) (hg : g < 2 ^ 16)
    (heffect : d.blkEffect o b trim limit = d.setGain o g) :
    (d.blkDone o trim limit).gain o = g ∧ ((d.blkDone o trim limit).out o).blocks = [] ∧
      (d.blkDone o trim limit).outSt o = st % 16 := by
  generalize ht : ((d.setGain o g).modOut o (fun x => { x with blocks := [] })) = t
  have hout : t.out o = { d.out o with blocks := [] } := by rw [← ht, Dev.out_modOut_same, Dev.out_setGain]
  have hgain : t.get (Fld.seqStatusGain o) = g := by
    rw [← ht, Dev.get_modOut, Dev.setGain, d.get_put_same _ _ ⟨show 16 ≤ 31 by decide, show 31 < 32 by decide⟩]
    exact Nat.mod_eq_of_lt hg
  have hadvance : (d.setGain o g).advance o [] = (t.put (Fld.seqStatusStep o) 0).setOutSt o st := by
    rw [Dev.advance, ht, t.finish_of_state (by rw [hout]; exact hfin)]
  have hafter (u : Dev) (hu : (u.out o).fin = .state st) : u.afterSeq o = u := by simp [Dev.afterSeq, hu]
  have e : d.blkDone o trim limit = (t.put (Fld.seqStatusStep o) 0).setOutSt o st := by
    rw [← hafter ((t.put (Fld.seqStatusStep o) 0).setOutSt o st) (by simp [hout, hfin]), ← hadvance, ← heffect]
    simp [Dev.blkDone, hblocks]
  have hstep : (Fld.seqStatusStep o).apart (Fld.seqStatusGain o) = true := by
    simp [Fld.apart, Fld.seqStatusStep, Fld.seqStatusGain]
  rw [e, Dev.outSt_setOutSt, Dev.out_setOutSt, Dev.out_put, hout, Dev.gain, Dev.setOutSt,
    Dev.get_put_ne _ _ _ _ (outStatus_ne_seqStatus ho o).symm, Dev.get_put_apart _ _ hstep, hgain]
  exact ⟨rfl, rfl, rfl⟩

/-! ### Mute and persona (R182, R243, R245) -/

theorem Dev.seqMute_spec (d : Dev) (mute : Bool) (ho : o < 10) :
    (d.seqMute o mute).get (Fld.seqCtrlMute o) = (if mute then 1 else 0) ∧
      (d.seqMute o mute).get (Fld.seqStatusMuteSoftware o) = (if mute then 1 else 0) := by
  generalize ht : (d.flag (Fld.seqCtrlMute o) mute).flag (Fld.seqStatusMuteSoftware o) mute = t
  have hch : t.Changes [.out o] (driveFields o) (d.seqMute o mute) := by
    have hseq (bs : List Blk) (st : Nat) (fin : SeqEnd) := t.startSeq_changes o bs st fin
    rw [Dev.seqMute, Dev.setMute, ht]
    exact .of_ite (.refl ..) (.of_ite (hseq ..) (.of_ite (hseq ..) (.refl ..)))
  have hne : Reg.seqCtrl o ≠ Reg.seqStatus o := by unfold Reg.seqCtrl Reg.seqStatus; omega
  rw [hch.get_settled ho ho (by simp [settledFields]), hch.get_settled ho ho (by simp [settledFields]), ← ht]
  refine ⟨(Dev.get_put_ne _ _ _ _ hne).trans ?_, Dev.get_flag_same _ mute ⟨Nat.le_refl 11, show 11 < 32 by decide⟩ rfl⟩
  exact d.get_flag_same mute ⟨Nat.le_refl 0, show 0 < 32 by decide⟩ rfl

/-- An output that does not play takes its new persona at once (R182). -/
theorem Dev.personaSeq_switches (d : Dev) (ho : o < 10) (hnew : d.kt! (5 + o) ≠ d.get (Fld.outStatusPersona o))
    (hst : d.outSt o ≠ OutSt.persona)
    (hstill : d.undriven o = true ∨ d.outSt o = OutSt.clear ∨ d.outSt o = OutSt.failed) :
    (d.personaSeq o).get (Fld.outStatusPersona o) = d.kt! (5 + o) % 2 := by
  have hswitch : (d.switchPersona o).get (Fld.outStatusPersona o) = d.kt! (5 + o) % 2 := by
    rw [Dev.switchPersona, Dev.get_put_ne _ _ _ _ (outStatus_ne_seqStatus ho o), Dev.get_modOut]
    exact d.get_put_same _ _ ⟨Nat.le_refl 27, show 27 < 32 by decide⟩
  have hholding : (Fld.outStatusHolding o).apart (Fld.outStatusPersona o) = true := by
    simp [Fld.apart, Fld.outStatusHolding, Fld.outStatusPersona]
  have hhold (t : Dev) : (t.startHold o .entry).get (Fld.outStatusPersona o) = t.get (Fld.outStatusPersona o) := by
    rw [Dev.startHold, Dev.get_put_ne _ _ _ _ (outStatus_ne_seqStatus ho o), Dev.get_put_apart _ _ hholding,
      Dev.get_modOut]
  rw [Dev.personaSeq, if_neg (by simp [hnew, hst])]
  split
  · exact hswitch
  · next hdriven => rw [if_pos (hstill.resolve_left hdriven), hhold, hswitch]

/-- An output that plays first ramps its gain down (R245). -/
theorem Dev.personaSeq_ramps (d : Dev) (ho : o < 10) (hnew : d.kt! (5 + o) ≠ d.get (Fld.outStatusPersona o))
    (hst : d.outSt o ≠ OutSt.persona) (hgain : d.gain o ≠ 0) (hdriven : d.undriven o = false)
    (hclear : d.outSt o ≠ OutSt.clear) (hfailed : d.outSt o ≠ OutSt.failed) :
    (d.personaSeq o).outSt o = OutSt.persona ∧ ((d.personaSeq o).out o).fin = .persona ∧
      ((d.personaSeq o).out o).blocks.head? = some .rampDown := by
  generalize hbs : [Blk.glide (sgn 16 (d.clrCode o))] = bs
  generalize ht : (d.modOut o (fun x => { x with fin := .persona })).setOutSt o OutSt.persona = t
  have hout : t.out o = { d.out o with fin := .persona } := by rw [← ht, Dev.out_setOutSt, Dev.out_modOut_same]
  have hst' : t.outSt o = OutSt.persona := (ht ▸ Dev.outSt_setOutSt _ o OutSt.persona)
  have hskip : t.skips o .rampDown = false := by
    have hkeep : t.gain o = d.gain o := by
      rw [← ht, Dev.gain, Dev.setOutSt, Dev.get_put_ne _ _ _ _ (outStatus_ne_seqStatus ho o).symm, Dev.get_modOut,
        Dev.gain]
    simpa [Dev.skips, hkeep] using hgain
  have e : d.personaSeq o = (t.modOut o (fun x => { x with blocks := .rampDown :: bs })).beginBlk o .rampDown := by
    have hseq : d.personaSeq o = d.startSeq o (.rampDown :: bs) OutSt.persona .persona := by
      simp [Dev.personaSeq, hnew, hst, hdriven, hclear, hfailed, ← hbs]
    rw [hseq, Dev.startSeq, ht, Dev.advance, hskip, if_neg Bool.false_ne_true]
  rw [e, Dev.outSt_beginBlk _ _ ho, Dev.outSt_modOut, Dev.out_beginBlk, Dev.out_modOut_same, hout]
  exact ⟨hst', rfl, rfl⟩

end Sys2Proof.Machine

/-! The statement of the commands of the outputs and the sequencer. -/
namespace Sys2Proof.Machine

/-- Settles O12: each clause is what the command's operation on the device leaves, read back; the host's writes are their
registers' own operations. -/
theorem outputCommandsComplete : Obligations.OutputCommandsComplete := by
  unfold Obligations.OutputCommandsComplete
  refine ⟨fun s o w a rest ⟨hwait, hsvc, hrot⟩ => ⟨_, rfl, s.dev.dacSwap_spec hwait hsvc hrot⟩,
    fun s o k ⟨hcal, hwait⟩ => ⟨_, rfl, s.dev.dacCalDone_waits hcal hwait⟩,
    fun s o k hcal => ⟨_, rfl, s.dev.dacCalDone_beyond o.isLt hcal⟩,
    fun s o k w ⟨hk, hwait⟩ => ⟨_, rfl, s.dev.dacFail_exchange o.isLt hk hwait⟩,
    fun s o k ⟨hk, hwait⟩ => ⟨_, rfl, s.dev.dacFail_failed o.isLt hk hwait⟩,
    fun s o ⟨hpersona, hdriven⟩ => ⟨_, rfl, s.dev.complianceTrip_spec (by omega) hpersona hdriven⟩,
    fun s o ⟨hcause, hpersona, hdriven, hhold, hrec⟩ =>
      ⟨_, rfl, s.dev.complianceHiz_spec hcause hpersona hdriven hhold hrec⟩,
    fun s o ⟨h, hcause⟩ => ⟨_, rfl, ?_⟩,
    fun s o ⟨hrec, hhold⟩ => ⟨_, rfl, s.dev.complianceRecover_spec (by omega) hrec hhold⟩,
    fun s k hdriven => ⟨_, rfl, s.dev.hpLimit_spec (by omega) hdriven⟩,
    fun s k h => ⟨_, rfl, ?_⟩,
    fun s ⟨hon, hboot⟩ => ⟨_, rfl, s.dev.pumpReady_spec hon hboot⟩,
    fun s o ⟨hon, hboot, hsupply⟩ => ⟨_, rfl, s.dev.chainReadyEvent_ready o hon hboot hsupply⟩,
    fun s o run ⟨h, hup⟩ => ⟨_, rfl, ?_⟩,
    fun s o ⟨h, hup, hrun, hst⟩ => ⟨_, rfl, ?_⟩,
    fun s h => ⟨_, rfl, s.dev.outClrAssert_spec h⟩,
    fun s h => ⟨_, rfl, s.dev.outClrRelease_spec h⟩,
    fun s o h => ⟨_, rfl, ?_⟩,
    fun s o ⟨h, hcause⟩ => ⟨_, rfl, ?_⟩,
    fun s o ⟨h, hst, hcause, hrec, hpin⟩ => ⟨_, rfl, ?_⟩,
    fun s o ⟨h, hrun⟩ => ⟨_, rfl, s.dev.holdEnd_starts o.isLt h hrun⟩,
    fun s o trim limit st ⟨hblocks, hfin⟩ => ⟨_, rfl, s.dev.blkDone_last trim limit o.isLt hblocks hfin (by decide) rfl⟩,
    fun s o trim limit st ⟨hblocks, hfin⟩ => ⟨_, rfl, s.dev.blkDone_last trim limit o.isLt hblocks hfin (by decide) rfl⟩,
    fun s o mute h => ⟨_, rfl, ?_⟩,
    fun s o ⟨hnew, hst, hstill⟩ => ⟨_, rfl, s.dev.personaSeq_switches (by omega) hnew hst hstill⟩,
    fun s o ⟨hnew, hst, hgain, hdriven, hclear, hfailed⟩ =>
      ⟨_, rfl, s.dev.personaSeq_ramps (by omega) hnew hst hgain hdriven hclear hfailed⟩⟩
  case refine_1 =>
    rw [s.hostReg_complianceCleared o.isLt h, State.on_dev]
    exact s.dev.complianceCleared_spec o.isLt hcause
  case refine_2 =>
    rw [s.hostReg_hpCleared (by omega) (by omega) h, State.on_dev]
    exact s.dev.hpCleared_spec (by omega)
  case refine_3 =>
    rw [s.hostReg_outputRun o.isLt h, State.on_dev]
    exact s.dev.outputRun_run run o.isLt hup
  case refine_4 =>
    have e : s.hostReg (Reg.outCtrl o) (if true then 1 else 0) = _ := s.hostReg_outputRun (run := true) o.isLt h
    rw [e, State.on_dev]
    exact ⟨s.dev.outputRun_run true o.isLt hup, s.dev.outputRun_starts o.isLt hup hrun hst⟩
  case refine_5 =>
    obtain ⟨hhold, hholding, -⟩ := s.dev.holdOver_spec o.isLt
    rw [State.on_dev, s.dev.holdEnd_of_change h]
    exact ⟨hhold, hholding⟩
  case refine_6 =>
    obtain ⟨hhold, hholding, -⟩ := s.dev.holdOver_spec o.isLt
    rw [State.on_dev, s.dev.holdEnd_stays o.isLt h hcause]
    exact ⟨hhold, hholding⟩
  case refine_7 =>
    rw [State.on_dev, s.dev.holdEnd_exits o.isLt h hst hcause hrec hpin, Dev.out_startHold]
    exact ⟨rfl, Dev.get_startHold_holding _ .exit o.isLt⟩
  case refine_8 =>
    rw [s.hostReg_seqMute o.isLt h, State.on_dev]
    exact s.dev.seqMute_spec mute o.isLt

end Sys2Proof.Machine

/-! What the operations of the speaker stages change (chapter 07). Channel `n` is output `6 + n`, and the four stop together or
as pairs (R214), so that the frames range over the outputs `[6, 7, 8, 9]`. -/
namespace Sys2Proof.Machine

/-- The fields of one member of a family lie among the family's. -/
theorem subset_of_flatMap {α β : Type} {l : List α} {f : α → List β} {fs : List β} (h : l.flatMap f ⊆ fs) {a : α}
    (ha : a ∈ l) : f a ⊆ fs :=
  fun _ hx => h (List.mem_flatMap.mpr ⟨a, ha, hx⟩)

theorem speaker_mem {n : Nat} (hn : n < 4) : 6 + n ∈ [6, 7, 8, 9] := by
  simp only [List.mem_cons, List.not_mem_nil, or_false]
  omega

/-- The outputs that stop with a channel are speaker outputs (R214). -/
theorem Dev.mem_pairOf_speaker (d : Dev) {n p : Nat} (hn : n < 4) (h : p ∈ d.pairOf (6 + n)) : p ∈ [6, 7, 8, 9] := by
  unfold Dev.pairOf at h
  split_ifs at h <;> simp only [List.mem_cons, List.not_mem_nil, or_false] at h ⊢ <;> omega

theorem Dev.lowerOf_mem_pairOf (d : Dev) (n : Nat) : d.lowerOf n ∈ d.pairOf (6 + n) := by
  unfold Dev.lowerOf Dev.pairOf
  split_ifs <;> simp

theorem Dev.lowerOf_speaker (d : Dev) {n : Nat} (hn : n < 4) : d.lowerOf n ∈ [6, 7, 8, 9] :=
  d.mem_pairOf_speaker hn (d.lowerOf_mem_pairOf n)

/-- What the end of a diagnostic leaves to see: its result, the resistance where one was measured, and the event (R220). -/
def Dev.diagNoted (d : Dev) (n : Nat) (pin : Option Bool) (r : Nat) : Dev :=
  let t := d.put (Fld.spkDiagResult n) (d.diagResult n pin r)
  (if pin.isNone then t.put (Fld.spkDiagRMeas n) (min r 0xFFFF) else t).happen (Fld.spkEventsDiagDone n)

/-- The channels whose short latch a diagnostic of channel `n` decides (R219). -/
def Dev.latched (d : Dev) (n : Nat) : List Nat := (d.pairOf (6 + n)).filter (fun p => d.is (Fld.spkStatusHizCauseShort (p - 6)))

/-- What the result `res` means for the output: a short after a trip latches again, else the latch ends (R219). -/
def Dev.diagEnds (d : Dev) (n res : Nat) : Dev :=
  if (d.latched n).isEmpty then d.settleOut (6 + n)
  else if res = 2 ∨ res = 3 ∨ res = 4 then
    (d.each (d.latched n) (fun d p => d.happen (Fld.spkEventsShort (p - 6)))).setOutSt (6 + n) OutSt.hiz
  else (d.each (d.latched n) (fun d p => d.put (Fld.spkStatusHizCauseShort (p - 6)) 0)).settleOut (6 + n)

theorem Dev.diagDone_eq (d : Dev) (n : Nat) (pin : Option Bool) (r : Nat) : d.diagDone n pin r =
    if d.outSt (6 + n) != OutSt.diag then d else (d.diagNoted n pin r).diagEnds n (d.diagResult n pin r) := rfl

theorem Dev.mem_latched_speaker (d : Dev) {n p : Nat} (hn : n < 4) (h : p ∈ d.latched n) : p - 6 ∈ List.range 4 := by
  have hp := d.mem_pairOf_speaker hn (List.mem_filter.mp h).1
  simp only [List.mem_cons, List.not_mem_nil, or_false] at hp
  exact List.mem_range.mpr (by omega)

/-- What a pilot measurement of result `res` shows beside the result, and its count towards the event (R222, R223). -/
def Dev.pilotCounted (d : Dev) (n : Nat) (amps : Bool) (z res : Nat) : Dev :=
  let t := if amps then d.put (Fld.spkPilotstatZ n) (min z 0xFFFF) else d
  let bad := if res = 1 then 0 else (t.out (6 + n)).bad + 1
  if res ≠ 1 ∧ t.get (Fld.spkPilotCount n) ≤ bad then
    (t.modOut (6 + n) (fun x => { x with bad := 0 })).happen (Fld.spkEventsLine n)
  else t.modOut (6 + n) (fun x => { x with bad := bad })

/-- The result of a pilot measurement whose generator runs in range (R222, R237). -/
def Dev.pilotResult (d : Dev) (n : Nat) (amps : Bool) (z : Nat) : Nat :=
  if !amps then 4 else if z < 8 * d.get (Fld.spkPilotZlo n) then 2 else if 8 * d.get (Fld.spkPilotZhi n) < z then 3 else 1

theorem Dev.pilotMeasure_eq (d : Dev) (n : Nat) (amps : Bool) (z : Nat) : d.pilotMeasure n amps z =
    if !d.is (Fld.spkPilotEn n) || d.outSt (6 + n) != OutSt.running || d.upper (6 + n) then d
    else if !d.pilotFreqOk (d.get (Fld.spkPilotGen n)) then
      (d.put (Fld.spkPilotstatResult n) 5).modOut (6 + n) (fun x => { x with bad := 0 })
    else (d.put (Fld.spkPilotstatResult n) (d.pilotResult n amps z)).pilotCounted n amps z (d.pilotResult n amps z) := rfl

/-- The attenuation a millisecond after `a` on its way to `tgt` (R226). -/
def derateNext (a tgt : Nat) : Nat := if a < tgt then min tgt (a + 5) else max tgt (a - 1)

/-- The temperature, the attenuation `b` and what the channels show of it (R226). -/
def Dev.derateShown (d : Dev) (temp : Int) (b : Nat) : Dev :=
  let t := d.put Fld.spkThermTemp (unsg 12 temp)
  { t with pins := { t.pins with derate := b } }.each (List.range 4) (fun d n => d.put (Fld.spkLimitsDerate n) (b / 5))

theorem Dev.derateStep_eq (d : Dev) (temp : Int) : d.derateStep temp =
    let b := derateNext d.pins.derate (derateTarget temp)
    if d.pins.derate = 0 ∧ b ≠ 0 then
      (d.derateShown temp b).each (List.range 4) (fun d n => d.happen (Fld.spkEventsDerate n))
    else d.derateShown temp b := rfl

namespace Dev.Changes

variable {ps : List Part} {fs : List Fld} {d t : Dev} {n o : Nat}

theorem modPwr {x : Pwr} (h : d.Changes ps fs t) (hp : .pwr ∈ ps) : d.Changes ps fs { t with pwr := x } :=
  h.trans ⟨{ Dev.PartsBut.refl ps t with pwr := .inl hp }, fun _ _ _ => rfl⟩

/-! ### Segments and shorts (R215 to R219) -/

theorem stopStages (h : d.Changes ps fs t) (hn : n < 4) (hp : ∀ o ∈ [6, 7, 8, 9], mayChange o ps)
    (hf : [6, 7, 8, 9].flatMap clearFields ⊆ fs) : d.Changes ps fs (t.stopStages n) :=
  h.trans (.each fun _ o ho =>
    have ho := t.mem_pairOf_speaker hn ho
    .enterHiz (.refl ..) (hp o ho) (subset_of_flatMap hf ho))

theorem segFailing {half seg cell : Nat} (h : d.Changes ps fs t) (hn : n < 4) (hp : ∀ o ∈ [6, 7, 8, 9], mayChange o ps)
    (hi : .intc ∈ ps)
    (hf : [Fld.spkEventsFailed n, Fld.spkStatusHizCauseStage n] ++ [6, 7, 8, 9].flatMap clearFields ⊆ fs) :
    d.Changes ps fs (t.segFailing n half seg cell) := by
  obtain ⟨hstage, hclear⟩ := List.append_subset.mp hf
  have ho := speaker_mem hn
  unfold Dev.segFailing
  dsimp only
  split
  · exact h
  · split
    · exact startHold (modOut h (hp _ ho)) (hp _ ho) (holdFields_of_clearFields (subset_of_flatMap hclear ho))
    · exact stopStages (happen (put h (hstage (by simp))) hi (hstage (by simp)) (Nat.le_refl _)) hn hp hclear

theorem shortTrip (h : d.Changes ps fs t) (hn : n < 4) (hp : ∀ o ∈ [6, 7, 8, 9], mayChange o ps) (hi : .intc ∈ ps)
    (hf : [Fld.spkEventsShort n, Fld.spkStatusHizCauseShort n] ++ [6, 7, 8, 9].flatMap clearFields ⊆ fs) :
    d.Changes ps fs (t.shortTrip n) := by
  obtain ⟨hshort, hclear⟩ := List.append_subset.mp hf
  exact stopStages (happen (put h (hshort (by simp))) hi (hshort (by simp)) (Nat.le_refl _)) hn hp hclear

theorem startDiag (h : d.Changes ps fs t) (hp : mayChange o ps) (hf : Fld.outStatusState o ∈ fs) :
    d.Changes ps fs (t.startDiag o) :=
  setOutSt (modOut h hp) hf

theorem shortCleared (h : d.Changes ps fs t) (hn : n < 4) (hp : ∀ o ∈ [6, 7, 8, 9], mayChange o ps)
    (hf : ∀ o ∈ [6, 7, 8, 9], Fld.outStatusState o ∈ fs) : d.Changes ps fs (t.shortCleared n) :=
  have ho := t.lowerOf_speaker hn
  of_ite h (of_ite (startDiag h (hp _ ho) (hf _ ho)) h)

theorem leaveHiz (h : d.Changes ps fs t) (hp : mayChange o ps) (hf : driveFields o ⊆ fs) : d.Changes ps fs (t.leaveHiz o) :=
  of_ite h (of_ite (startDiag h hp (hf (by simp [driveFields]))) (settleOut h hp hf))

/-! ### Diagnostics and the pilot (R220 to R223) -/

theorem viol {cat : Nat} {ag : Agent} {a : Nat} (h : d.Changes ps fs t) (hf : violFields [cat] ⊆ fs) :
    d.Changes ps fs (t.viol cat ag a) :=
  h.trans (Dev.changes_viol fun _ m => hf m)

theorem spkDiag {ag : Agent} (h : d.Changes ps fs t) (hp : mayChange (6 + n) ps)
    (hf : [Fld.outStatusState (6 + n)] ++ violFields [0] ⊆ fs) : d.Changes ps fs (t.spkDiag ag n) := by
  obtain ⟨hst, hviol⟩ := List.append_subset.mp hf
  exact of_ite (viol h hviol) (startDiag h hp (hst (by simp)))

theorem diagNoted {pin : Option Bool} {r : Nat} (h : d.Changes ps fs t) (hi : .intc ∈ ps)
    (hf : [Fld.spkDiagRMeas n, Fld.spkDiagResult n, Fld.spkEventsDiagDone n] ⊆ fs) :
    d.Changes ps fs (t.diagNoted n pin r) := by
  have hres : d.Changes ps fs (t.put (Fld.spkDiagResult n) (t.diagResult n pin r)) := put h (hf (by simp))
  exact happen (of_ite (put hres (hf (by simp))) hres) hi (hf (by simp)) (Nat.le_refl _)

theorem diagEnds {res : Nat} (h : d.Changes ps fs t) (hn : n < 4) (hp : mayChange (6 + n) ps) (hi : .intc ∈ ps)
    (hf : driveFields (6 + n) ++
      (List.range 4).flatMap (fun n => [Fld.spkEventsShort n, Fld.spkStatusHizCauseShort n]) ⊆ fs) :
    d.Changes ps fs (t.diagEnds n res) := by
  obtain ⟨hdrive, hshort⟩ := List.append_subset.mp hf
  have hlatch {p : Nat} (hm : p ∈ t.latched n) := subset_of_flatMap hshort (t.mem_latched_speaker hn hm)
  refine of_ite (settleOut h hp hdrive) (of_ite (setOutSt (h.trans (.each fun _ p hm => ?_)) (hdrive (by simp [driveFields])))
    (settleOut (h.trans (.each fun _ p hm => ?_)) hp hdrive))
  · exact happen (.refl ..) hi (hlatch hm (by simp)) (Nat.le_refl _)
  · exact put (.refl ..) (hlatch hm (by simp))

theorem diagDone {pin : Option Bool} {r : Nat} (h : d.Changes ps fs t) (hn : n < 4) (hp : mayChange (6 + n) ps)
    (hi : .intc ∈ ps) (hf : driveFields (6 + n) ++ [Fld.spkDiagRMeas n, Fld.spkDiagResult n, Fld.spkEventsDiagDone n] ++
      (List.range 4).flatMap (fun n => [Fld.spkEventsShort n, Fld.spkStatusHizCauseShort n]) ⊆ fs) :
    d.Changes ps fs (t.diagDone n pin r) := by
  obtain ⟨hf, hshort⟩ := List.append_subset.mp hf
  obtain ⟨hdrive, hnoted⟩ := List.append_subset.mp hf
  exact of_ite h (diagEnds (diagNoted h hi hnoted) hn hp hi (List.append_subset.mpr ⟨hdrive, hshort⟩))

theorem pilotCounted {amps : Bool} {z res : Nat} (h : d.Changes ps fs t) (hp : mayChange (6 + n) ps) (hi : .intc ∈ ps)
    (hf : [Fld.spkEventsLine n, Fld.spkPilotstatZ n] ⊆ fs) : d.Changes ps fs (t.pilotCounted n amps z res) := by
  unfold Dev.pilotCounted
  extract_lets u bad
  have hu : d.Changes ps fs u := of_ite (put h (hf (by simp))) h
  exact of_ite (happen (modOut hu hp) hi (hf (by simp)) (Nat.le_refl _)) (modOut hu hp)

theorem pilotMeasure {amps : Bool} {z : Nat} (h : d.Changes ps fs t) (hp : mayChange (6 + n) ps) (hi : .intc ∈ ps)
    (hf : [Fld.spkEventsLine n, Fld.spkPilotstatResult n, Fld.spkPilotstatZ n] ⊆ fs) :
    d.Changes ps fs (t.pilotMeasure n amps z) := by
  have hres (v : Nat) : d.Changes ps fs (t.put (Fld.spkPilotstatResult n) v) := put h (hf (by simp))
  exact of_ite h (of_ite (modOut (hres 5) hp)
    (pilotCounted (hres _) hp hi (List.Subset.trans (by simp) hf)))

/-! ### PVDD (R225) -/

theorem pvddReady (h : d.Changes ps fs t) (hp : ∀ o ∈ [6, 7, 8, 9], mayChange o ps) (hpins : .pins ∈ ps)
    (hf : [Fld.spkPvddHigh, Fld.spkPvddLow, Fld.spkPvddReady] ++ [6, 7, 8, 9].flatMap driveFields ++
      (List.range 4).flatMap (fun n => [Fld.spkStatusHizCausePvddHigh n, Fld.spkStatusHizCausePvddLow n]) ⊆ fs) :
    d.Changes ps fs t.pvddReady := by
  obtain ⟨hf, hcause⟩ := List.append_subset.mp hf
  obtain ⟨hpvdd, hdrive⟩ := List.append_subset.mp hf
  have hbits : d.Changes ps fs (((t.put Fld.spkPvddReady 1).put Fld.spkPvddLow 0).put Fld.spkPvddHigh 0) :=
    put (put (put h (hpvdd (by simp))) (hpvdd (by simp))) (hpvdd (by simp))
  refine ((modPins hbits hpins).trans (.each fun u n hn => ?_)).trans (.each fun u o ho => ?_)
  · have hc := subset_of_flatMap hcause hn
    exact put (put (.refl ..) (hc (by simp))) (hc (by simp))
  · have hd := subset_of_flatMap hdrive ho
    exact leaveHiz (chainReadyEvent (.refl ..) (hp o ho) hd) (hp o ho) hd

theorem pvddFault {bit : Fld} {cause : Nat → Fld} (h : d.Changes ps fs t) (hp : ∀ o ∈ [6, 7, 8, 9], mayChange o ps)
    (hi : .intc ∈ ps) (hpins : .pins ∈ ps) (hf : [bit, Fld.spkPvddReady] ++ [6, 7, 8, 9].flatMap clearFields ++
      (List.range 4).flatMap (fun n => [Fld.spkEventsPvdd n, cause n]) ⊆ fs) : d.Changes ps fs (t.pvddFault bit cause) := by
  obtain ⟨hf, hcause⟩ := List.append_subset.mp hf
  obtain ⟨hpvdd, hclear⟩ := List.append_subset.mp hf
  have hbit := modPins (x := { t.pins with pvdd := false }) (put (v := 1) h (hpvdd (show bit ∈ _ by simp))) hpins
  refine of_ite hbit (((put hbit (hpvdd (by simp))).trans (.each fun u n hn => ?_)).trans (.each fun u o ho => ?_))
  · have hc := subset_of_flatMap hcause hn
    exact happen (put (.refl ..) (hc (by simp))) hi (hc (by simp)) (Nat.le_refl _)
  · exact enterHiz (modOut (.refl ..) (hp o ho)) (hp o ho) (subset_of_flatMap hclear ho)

theorem pvddCutoff (h : d.Changes ps fs t) (hp : ∀ o ∈ [6, 7, 8, 9], mayChange o ps) (hi : .intc ∈ ps)
    (hpins : .pins ∈ ps) (hpwr : .pwr ∈ ps) (hf : [Fld.spkPvddLow, Fld.spkPvddReady] ++ [6, 7, 8, 9].flatMap clearFields ++
      (List.range 4).flatMap (fun n => [Fld.spkEventsPvdd n, Fld.spkStatusHizCausePvddLow n]) ⊆ fs) :
    d.Changes ps fs t.pvddCutoff :=
  pvddFault (of_ite (modPwr h hpwr) h) hp hi hpins hf

/-! ### Temperature (R226, R227) -/

theorem derateShown {temp : Int} {b : Nat} (h : d.Changes ps fs t) (hpins : .pins ∈ ps)
    (hf : [Fld.spkThermTemp] ++ (List.range 4).map Fld.spkLimitsDerate ⊆ fs) : d.Changes ps fs (t.derateShown temp b) := by
  obtain ⟨htemp, hlimit⟩ := List.append_subset.mp hf
  exact (modPins (put h (htemp (by simp))) hpins).trans (.each fun u n hn => put (.refl ..) (hlimit (List.mem_map_of_mem hn)))

theorem derateStep {temp : Int} (h : d.Changes ps fs t) (hi : .intc ∈ ps) (hpins : .pins ∈ ps)
    (hf : [Fld.spkThermTemp] ++ (List.range 4).flatMap (fun n => [Fld.spkEventsDerate n, Fld.spkLimitsDerate n]) ⊆ fs) :
    d.Changes ps fs (t.derateStep temp) := by
  have hshown (b : Nat) : d.Changes ps fs (t.derateShown temp b) :=
    derateShown h hpins (List.Subset.trans (by decide) hf)
  rw [Dev.derateStep_eq]
  exact of_ite ((hshown _).trans (.each fun u n hn =>
    happen (.refl ..) hi (subset_of_flatMap (List.append_subset.mp hf).2 hn (by simp)) (Nat.le_refl _))) (hshown _)

theorem spkHot {temp : Int} (h : d.Changes ps fs t) (hp : ∀ o ∈ [6, 7, 8, 9], mayChange o ps) (hi : .intc ∈ ps)
    (hf : [Fld.spkThermTemp] ++ [6, 7, 8, 9].flatMap clearFields ++
      (List.range 4).flatMap (fun n => [Fld.spkEventsThermal n, Fld.spkStatusHizCauseThermal n]) ⊆ fs) :
    d.Changes ps fs (t.spkHot temp) := by
  obtain ⟨hf, hcause⟩ := List.append_subset.mp hf
  obtain ⟨htemp, hclear⟩ := List.append_subset.mp hf
  refine ((put h (htemp (by simp))).trans (.each fun u n hn => ?_)).trans (.each fun u o ho => ?_)
  · have hc := subset_of_flatMap hcause hn
    exact happen (put (.refl ..) (hc (by simp))) hi (hc (by simp)) (Nat.le_refl _)
  · exact enterHiz (.refl ..) (hp o ho) (subset_of_flatMap hclear ho)

theorem spkCooled {temp : Int} (h : d.Changes ps fs t) (hn : n < 4) (hp : ∀ o ∈ [6, 7, 8, 9], mayChange o ps)
    (hf : [Fld.spkStatusHizCauseThermal n, Fld.spkThermTemp] ++ [6, 7, 8, 9].flatMap driveFields ⊆ fs) :
    d.Changes ps fs (t.spkCooled n temp) := by
  obtain ⟨htherm, hdrive⟩ := List.append_subset.mp hf
  have htemp : d.Changes ps fs (t.put Fld.spkThermTemp (unsg 12 temp)) := put h (htherm (by simp))
  have ho := (t.put Fld.spkThermTemp (unsg 12 temp)).lowerOf_speaker hn
  exact of_ite htemp (leaveHiz (put htemp (htherm (by simp))) (hp _ ho) (subset_of_flatMap hdrive ho))

end Dev.Changes
end Sys2Proof.Machine

/-! A host's writes to the registers of the speaker stages (R219, R220): each is its register's own operation. -/
namespace Sys2Proof.Machine

/-- What follows the clear of a speaker output's events. -/
theorem Dev.outEventsWrite_speaker (d : Dev) {n : Nat} {v : Word} :
    d.outEventsWrite (6 + n) v = (d.plain (Reg.outEvents (6 + n)) v).shortCleared n := by
  rw [Dev.outEventsWrite, if_neg (by omega), if_neg (by omega), Nat.add_sub_cancel_left]

theorem outEvents_speaker (n : Nat) : Reg.outEvents (6 + n) = Reg.spkEvents n := by
  unfold Reg.outEvents Reg.spkEvents outBase
  split_ifs <;> omega

theorem outCtrl_speaker (n : Nat) : Reg.outCtrl (6 + n) = Reg.spkCtrl n := by
  unfold Reg.outCtrl Reg.spkCtrl outBase
  split_ifs <;> omega

/-- SPK_SHORT_CLEARED is the clear of the events and what waits for it (R219). -/
theorem State.hostReg_shortCleared (s : State) {n : Nat} {v : Word} (hn : n < 4) (h : s.dev.hostReady = true) :
    s.hostReg (Reg.spkEvents n) v = s.on (fun d => (d.plain (Reg.spkEvents n) v).shortCleared n) := by
  have ho : 6 + n < 10 := by omega
  obtain ⟨hlo, hhi, h64⟩ := outBase_bounds ho
  have hch : s.dev.Changes [.outs, .intc] (Fld.whole (Reg.spkEvents n) :: [6, 7, 8, 9].map Fld.outStatusState)
      ((s.dev.plain (Reg.spkEvents n) v).shortCleared n) :=
    .shortCleared (.plain (.refl ..) (by simp) (by simp)) hn (fun _ _ => mayChange_of_outs (by simp))
      fun _ ho => List.mem_cons_of_mem _ (List.mem_map_of_mem ho)
  have hw : s.dev.regWrite Env.quiet .host (Reg.spkEvents n) v = (s.dev.plain (Reg.spkEvents n) v).shortCleared n := by
    rw [← outEvents_speaker, s.dev.regWrite_outEvents ho, Dev.outEventsWrite_speaker]
  refine s.hostReg_analogue h ?_ ?_ ?_ (outEvents_speaker n ▸ (rwtMask_output _ ho).2.1) hw hch (by simp) (by simp)
  all_goals
    rw [← outEvents_speaker]
    unfold Reg.outEvents
    omega

/-- A write of CTRL that keeps run: the upper channel of a pair counts it all the same (R193, R214). -/
def Dev.runKept (d : Dev) (ag : Agent) (o : Nat) : Dev := if d.upper o then d.viol 0 ag (Reg.outCtrl o) else d

theorem Dev.outputRun_same (d : Dev) (ag : Agent) (o : Nat) : d.outputRun ag o (d.is (Fld.outCtrlRun o)) = d.runKept ag o := by
  simp [Dev.outputRun, Dev.runKept]

/-- The word of SPK_DIAG: the present run, and diag (R233). -/
theorem diagWord_bits : ∀ run < 2, bitOf (BitVec.ofNat 32 (16 + run)).toNat 0 = (run != 0) ∧
    bitOf (BitVec.ofNat 32 (16 + run)).toNat 4 = true := by decide

/-- It asks for a diagnostic and changes no run (R220, R233). -/
theorem Dev.outCtrlWrite_diag (d : Dev) (ag : Agent) (n : Nat) :
    d.outCtrlWrite ag (6 + n) (BitVec.ofNat 32 (16 + d.get (Fld.outCtrlRun (6 + n)))) =
      (d.runKept ag (6 + n)).spkDiag ag n := by
  have hlt : d.get (Fld.outCtrlRun (6 + n)) < 2 := d.get_lt _
  obtain ⟨hrun, hdiag⟩ := diagWord_bits _ hlt
  have hspk : isSpk (6 + n) = true := by simp [isSpk]
  rw [← d.outputRun_same, Dev.is, Dev.outCtrlWrite, hrun, hdiag, hspk, Bool.and_self, if_pos rfl, Nat.add_sub_cancel_left]

theorem Dev.Changes.runKept {ps : List Part} {fs : List Fld} {d t : Dev} {ag : Agent} {o : Nat} (h : d.Changes ps fs t)
    (hf : violFields [0] ⊆ fs) : d.Changes ps fs (t.runKept ag o) :=
  of_ite (viol h hf) h

/-- SPK_DIAG is the write of CTRL.diag (R220). -/
theorem State.hostReg_spkDiag (s : State) {n : Nat} (hn : n < 4) (h : s.dev.hostReady = true) :
    s.hostReg (Reg.spkCtrl n) (BitVec.ofNat 32 (16 + s.dev.get (Fld.outCtrlRun (6 + n)))) =
      s.on (fun d => (d.runKept .host (6 + n)).spkDiag .host n) := by
  have ho : 6 + n < 10 := by omega
  obtain ⟨hlo, hhi, h64⟩ := outBase_bounds ho
  have hch : s.dev.Changes [.out (6 + n)] ([Fld.outStatusState (6 + n)] ++ violFields [0])
      ((s.dev.runKept .host (6 + n)).spkDiag .host n) :=
    .spkDiag (.runKept (.refl ..) (by simp)) (mayChange_of_out (by simp)) (List.Subset.refl _)
  rw [← outCtrl_speaker]
  exact s.hostReg_analogue h (by unfold Reg.outCtrl; omega) (by unfold Reg.outCtrl; omega) (by unfold Reg.outCtrl; omega)
    (rwtMask_output _ ho).1 ((s.dev.regWrite_outCtrl ho).trans (s.dev.outCtrlWrite_diag ..)) hch (by simp) (by simp)

end Sys2Proof.Machine

/-! The frames of the commands of the speaker stages. -/
namespace Sys2Proof.Machine

/-- Settles O32: each command acts on the device alone, and its operation's frame is the one stated; the two writes of a host
are their registers' own operations. -/
theorem speakerCommandsFrame : Obligations.SpeakerCommandsFrame := by
  have hp (ps : List Part) : ∀ o ∈ [6, 7, 8, 9], mayChange o (.out 6 :: .out 7 :: .out 8 :: .out 9 :: ps) := by
    simp [mayChange]
  have ho {n : Nat} {ps : List Part} : mayChange (6 + n) (.out (6 + n) :: ps) := mayChange_of_out (List.mem_cons_self ..)
  unfold Obligations.SpeakerCommandsFrame
  refine ⟨fun s t n h seg cell e => .of_next e (.segFailing (.refl ..) n.isLt (hp _) (by simp) (List.Subset.refl _)),
    fun s t n e => .of_next e (.shortTrip (.refl ..) n.isLt (hp _) (by simp) (List.Subset.refl _)),
    fun s t n e ⟨h, _⟩ => .of_next_hostReg e (s.hostReg_shortCleared n.isLt h)
      (.shortCleared (.plain (.refl ..) (by simp) (by simp)) n.isLt (hp _) (by simp)),
    fun s t n e ⟨h, _⟩ => .of_next_hostReg e (s.hostReg_spkDiag n.isLt h)
      (.spkDiag (.runKept (.refl ..) (by simp)) ho (List.Subset.refl _)),
    fun s t n pin r e => .of_next e (.diagDone (.refl ..) n.isLt ho (by simp) (List.Subset.refl _)),
    fun s t n amps z e => .of_next e (.pilotMeasure (.refl ..) ho (by simp) (List.Subset.refl _)),
    fun s t e => .of_next e (.pvddReady (.refl ..) (hp _) (by simp) (List.Subset.refl _)),
    fun s t e => .of_next e (.pvddCutoff (.refl ..) (hp _) (by simp) (by simp) (by simp) (List.Subset.refl _)),
    fun s t e => .of_next e (.pvddFault (.refl ..) (hp _) (by simp) (by simp) (List.Subset.refl _)),
    fun s t temp e => .of_next e (.spkHot (.refl ..) (hp _) (by simp) (List.Subset.refl _)),
    fun s t temp e => .of_next e (.derateStep (.refl ..) (by simp) (by simp) (List.Subset.refl _)),
    fun s t n temp e => .of_next e (.spkCooled (.refl ..) n.isLt (hp _) (List.Subset.refl _))⟩

end Sys2Proof.Machine

/-! The causes of high impedance of the speaker channels, and what the stop of their stages leaves (R214, R219, R225, R227). -/
namespace Sys2Proof.Machine

variable {d t : Dev} {n : Nat} {cause event : Nat → Fld}

/-! ### Causes and their events -/

/-- `cause` is a cause of high impedance of each channel, and `event` one of its events (R234, R235). -/
structure IsCause (cause event : Nat → Fld) : Prop where
  cause : ∃ c, 5 ≤ c ∧ c < 10 ∧ cause = fun n => ⟨Reg.spkStatus n, c, c⟩
  event : ∃ e < 10, event = fun n => ⟨Reg.spkEvents n, e, e⟩

theorem isCause_stage : IsCause Fld.spkStatusHizCauseStage Fld.spkEventsFailed :=
  ⟨⟨5, by decide, by decide, rfl⟩, ⟨3, by decide, rfl⟩⟩

theorem isCause_short : IsCause Fld.spkStatusHizCauseShort Fld.spkEventsShort :=
  ⟨⟨9, by decide, by decide, rfl⟩, ⟨0, by decide, rfl⟩⟩

theorem isCause_pvddLow : IsCause Fld.spkStatusHizCausePvddLow Fld.spkEventsPvdd :=
  ⟨⟨8, by decide, by decide, rfl⟩, ⟨1, by decide, rfl⟩⟩

theorem isCause_pvddHigh : IsCause Fld.spkStatusHizCausePvddHigh Fld.spkEventsPvdd :=
  ⟨⟨7, by decide, by decide, rfl⟩, ⟨1, by decide, rfl⟩⟩

theorem isCause_thermal : IsCause Fld.spkStatusHizCauseThermal Fld.spkEventsThermal :=
  ⟨⟨6, by decide, by decide, rfl⟩, ⟨6, by decide, rfl⟩⟩

/-- The cause of channel `n` holds, and its event has happened. -/
def Dev.ShowsCause (d : Dev) (cause event : Nat → Fld) (n : Nat) : Prop := d.get (cause n) = 1 ∧ d.get (event n) = 1

/-- A cause of channel `n` begins. -/
def Dev.beginCause (d : Dev) (cause event : Nat → Fld) (n : Nat) : Dev := (d.put (cause n) 1).happen (event n)

theorem spkStatus_ne_spkEvents (n m : Nat) : Reg.spkStatus n ≠ Reg.spkEvents m := by
  unfold Reg.spkStatus Reg.spkEvents
  omega

theorem Dev.beginCause_shows (d : Dev) (n : Nat) (h : IsCause cause event) :
    (d.beginCause cause event n).ShowsCause cause event n := by
  obtain ⟨⟨c, -, hc, rfl⟩, ⟨e, he, rfl⟩⟩ := h
  refine ⟨?_, Dev.happen_sets _ _ (show e < 32 by omega) (Nat.add_sub_cancel_left ..)⟩
  rw [Dev.beginCause, Dev.get_happen_ne _ _ _ (spkStatus_ne_spkEvents n n),
    Dev.get_put_same _ _ _ ⟨Nat.le_refl c, show c < 32 by omega⟩]
  simp [Fld.width]

/-- A cause that begins leaves the registers of other addresses. -/
theorem Dev.get_beginCause_ne (d : Dev) {m : Nat} {g : Fld} (h : IsCause cause event) (hs : g.addr ≠ Reg.spkStatus m)
    (he : g.addr ≠ Reg.spkEvents m) : (d.beginCause cause event m).get g = d.get g := by
  obtain ⟨⟨c, -, hc, rfl⟩, ⟨e, -, rfl⟩⟩ := h
  rw [Dev.beginCause, Dev.get_happen_ne _ _ _ he, Dev.get_put_ne _ _ _ _ hs]

theorem Dev.ShowsCause.beginCause (hd : d.ShowsCause cause event n) (h : IsCause cause event) (m : Nat) :
    (d.beginCause cause event m).ShowsCause cause event n := by
  by_cases hmn : m = n
  · exact hmn ▸ d.beginCause_shows m h
  · have hcause : (cause n).addr = Reg.spkStatus n := by
      obtain ⟨⟨c, -, -, rfl⟩, -⟩ := h
      rfl
    have hevent : (event n).addr = Reg.spkEvents n := by
      obtain ⟨-, ⟨e, -, rfl⟩⟩ := h
      rfl
    unfold Dev.ShowsCause
    rw [d.get_beginCause_ne h, d.get_beginCause_ne h]
    · exact hd
    all_goals
      simp only [hcause, hevent, Reg.spkStatus, Reg.spkEvents]
      omega

/-- A cause that begins on every channel (R225, R227). -/
def Dev.beginCauses (d : Dev) (cause event : Nat → Fld) : Dev := d.each (List.range 4) (fun d n => d.beginCause cause event n)

theorem Dev.beginCauses_shows (d : Dev) (h : IsCause cause event) (hn : n < 4) :
    (d.beginCauses cause event).ShowsCause cause event n :=
  Dev.each_reaches (P := fun t => t.ShowsCause cause event n) (f := fun d n => d.beginCause cause event n)
    (fun t => t.beginCause_shows n h) (fun _ m _ ht => ht.beginCause h m) (List.mem_range.mpr hn) d

/-- SPK_PVDD lies beside the channels' registers (R238). -/
theorem spkPvdd_ne_channel (m : Nat) : Reg.spkPvdd ≠ Reg.spkStatus m ∧ Reg.spkPvdd ≠ Reg.spkEvents m := by
  unfold Reg.spkPvdd Reg.spkStatus Reg.spkEvents
  omega

theorem Dev.get_beginCauses_pvdd (d : Dev) {g : Fld} (h : IsCause cause event) (hg : g.addr = Reg.spkPvdd) :
    (d.beginCauses cause event).get g = d.get g :=
  Dev.each_keeps (fun t => t.get g) _ (fun t m =>
    t.get_beginCause_ne h (hg ▸ (spkPvdd_ne_channel m).1) (hg ▸ (spkPvdd_ne_channel m).2)) _ d

/-! ### Stages that stop -/

/-- The fields that holds, sequences, clear codes and high impedance of the speaker outputs write. -/
def spkDriveFields : List Fld := [6, 7, 8, 9].flatMap driveFields

theorem driveFields_speaker {o : Nat} (h : o ∈ [6, 7, 8, 9]) : driveFields o ⊆ spkDriveFields :=
  subset_of_flatMap (List.Subset.refl _) h

theorem clearFields_speaker : [6, 7, 8, 9].flatMap clearFields ⊆ spkDriveFields := by decide

theorem spkDriveFields_apart_cause : ∀ n < 4, ∀ k < 10, ∀ f ∈ spkDriveFields,
    f.apart ⟨Reg.spkStatus n, k, k⟩ = true ∧ f.apart ⟨Reg.spkEvents n, k, k⟩ = true := by
  decide +kernel

section
variable {ps : List Part}

/-- Operations on the outputs keep the causes of high impedance and the events. -/
theorem Dev.Changes.showsCause (h : d.Changes ps spkDriveFields t) (hl : IsCause cause event) (hn : n < 4)
    (hd : d.ShowsCause cause event n) : t.ShowsCause cause event n := by
  obtain ⟨⟨c, -, hc, rfl⟩, ⟨e, he, rfl⟩⟩ := hl
  exact ⟨(h.get_apart fun f hf => (spkDriveFields_apart_cause n hn c hc f hf).1).trans hd.1,
    (h.get_apart fun f hf => (spkDriveFields_apart_cause n hn e he f hf).2).trans hd.2⟩

theorem Dev.Changes.get_pvdd (h : d.Changes ps spkDriveFields t) {g : Fld} (hg : g.addr = Reg.spkPvdd) : t.get g = d.get g :=
  h.get_eq (hg ▸ by decide)

end

/-- What `f` does to an output stops its stage, and reaches no other output (R228). -/
structure IsStop (f : Dev → Nat → Dev) : Prop where
  hiz : ∀ (t : Dev) (o : Nat), ((f t o).out o).spk = .hiz
  frame : ∀ (t : Dev) (o : Nat), t.Changes [.out o] (clearFields o) (f t o)

theorem isStop_enterHiz : IsStop Dev.enterHiz :=
  ⟨fun t o => by rw [Dev.out_enterHiz], fun t o => .enterHiz (.refl ..) (mayChange_of_out (by simp)) (List.Subset.refl _)⟩

/-- The stage stops, and its chain is no longer ready (R225). -/
def Dev.unready (d : Dev) (o : Nat) : Dev := (d.modOut o (fun x => { x with ready := false })).enterHiz o

theorem isStop_unready : IsStop Dev.unready :=
  ⟨fun t o => by rw [Dev.unready, Dev.out_enterHiz], fun t o =>
    .enterHiz (.modOut (.refl ..) (mayChange_of_out (by simp))) (mayChange_of_out (by simp)) (List.Subset.refl _)⟩

/-- Stages that stop one after the other are all stopped. -/
theorem IsStop.each_hiz {f : Dev → Nat → Dev} (hf : IsStop f) {l : List Nat} {o : Nat} (ho : o ∈ l) (d : Dev) :
    ((d.each l f).out o).spk = .hiz := by
  refine Dev.each_reaches (P := fun t => (t.out o).spk = .hiz) (fun t => hf.hiz t o) (fun t p _ ht => ?_) ho d
  by_cases hpo : p = o
  · exact hpo ▸ hf.hiz t p
  · rw [(hf.frame t p).out_eq (by simp) (by simpa using Ne.symm hpo)]
    exact ht

/-- All stages stop (R225, R227). -/
def Dev.stopAll (d : Dev) (f : Dev → Nat → Dev) : Dev := d.each [6, 7, 8, 9] f

theorem IsStop.stopAll_changes {f : Dev → Nat → Dev} (hf : IsStop f) (d : Dev) :
    d.Changes [.out 6, .out 7, .out 8, .out 9] spkDriveFields (d.stopAll f) :=
  .each fun t o ho => (hf.frame t o).mono (by simpa using ho)
    fun _ hg => clearFields_speaker (List.mem_flatMap.mpr ⟨o, ho, hg⟩)

theorem IsStop.stopAll_hiz {f : Dev → Nat → Dev} (hf : IsStop f) (d : Dev) (hn : n < 4) :
    ((d.stopAll f).out (6 + n)).spk = .hiz :=
  hf.each_hiz (speaker_mem hn) d

theorem Dev.mem_pairOf_self (d : Dev) (o : Nat) : o ∈ d.pairOf o := by
  unfold Dev.pairOf
  split_ifs with h01 h23
  · simpa using (Bool.and_eq_true_iff.mp h01).1
  · simpa using (Bool.and_eq_true_iff.mp h23).1
  · exact List.mem_singleton_self o

theorem Dev.stopStages_hiz (d : Dev) (n : Nat) : ((d.stopStages n).out (6 + n)).spk = .hiz :=
  isStop_enterHiz.each_hiz (d.mem_pairOf_self _) d

/-- A channel that a cause of its own stops shows the cause and the event, in high impedance (R217, R219). -/
theorem Dev.beginCause_stopStages (d : Dev) (h : IsCause cause event) (hn : n < 4) :
    ((d.beginCause cause event n).stopStages n).get (cause n) = 1 ∧
      ((d.beginCause cause event n).stopStages n).get (event n) = 1 ∧
      (((d.beginCause cause event n).stopStages n).out (6 + n)).spk = .hiz := by
  have hch : (d.beginCause cause event n).Changes [.outs] spkDriveFields ((d.beginCause cause event n).stopStages n) :=
    .stopStages (.refl ..) hn (fun _ _ => mayChange_of_outs (by simp)) clearFields_speaker
  obtain ⟨hcause, hevent⟩ := hch.showsCause h hn (d.beginCause_shows n h)
  exact ⟨hcause, hevent, Dev.stopStages_hiz _ n⟩

end Sys2Proof.Machine

/-! The commands of the speaker stages (chapter 07): what each leaves. -/
namespace Sys2Proof.Machine

variable {n : Nat}

/-! ### Segments and shorts (R216 to R219) -/

/-- A failing segment that a spare can replace waits for the swap under a hold (R216). -/
theorem Dev.segFailing_swaps (d : Dev) {half seg cell spare : Nat} (hn : n < 4) (hserves : d.bit (segFld n half) seg = true)
    (hswap : (d.out (6 + n)).swap = none) (hret : d.get (segRetFld n half) < 2)
    (hspare : [16, 17].find? (fun k => !d.bit (segFld n half) k) = some spare) :
    ((d.segFailing n half seg cell).out (6 + n)).swap = some (half, seg, cell, spare) ∧
      (d.segFailing n half seg cell).get (Fld.outStatusHolding (6 + n)) = 1 := by
  generalize ht : d.modOut (6 + n) (fun x => { x with swap := some (half, seg, cell, spare) }) = t
  have e : d.segFailing n half seg cell =
      t.startHold (6 + n) (if (t.out (6 + n)).hold = .none then .segment else (t.out (6 + n)).hold) := by
    have hlt : ¬ 2 ≤ d.get (segRetFld n half) := Nat.not_le.mpr hret
    rw [← ht]
    simp only [Dev.segFailing, hserves, hswap, hlt, hspare, Bool.not_true, Option.isSome_none, Bool.or_self,
      Bool.false_eq_true, if_false]
  rw [e, Dev.out_startHold, ← ht, Dev.out_modOut_same]
  exact ⟨rfl, Dev.get_startHold_holding _ _ (by omega)⟩

/-- With two segments retired the channel fails (R217). -/
theorem Dev.segFailing_fails (d : Dev) {half seg : Nat} (cell : Nat) (hserves : d.bit (segFld n half) seg = true)
    (hswap : (d.out (6 + n)).swap = none) (hret : 2 ≤ d.get (segRetFld n half)) : d.segFailing n half seg cell =
      (d.beginCause Fld.spkStatusHizCauseStage Fld.spkEventsFailed n).stopStages n := by
  simp only [Dev.segFailing, hserves, hswap, hret, Bool.not_true, Option.isSome_none, Bool.or_self, Bool.false_eq_true,
    if_false, if_true, Dev.beginCause]

/-- SPKn_EVENTS holds ten events, and nothing else that a write changes (R235). -/
theorem spkEvents_masks : ∀ n < 4, maskOf (·.rw) (Reg.spkEvents n) = 0 ∧ maskOf (·.w1c) (Reg.spkEvents n) = 0x3FF := by
  decide +kernel

/-- A write of 1 to a register of events clears those written (R7). -/
theorem Dev.rd_plain_events (d : Dev) {a m : Nat} (v : Word) (hrw : maskOf (·.rw) a = 0) (hw1c : maskOf (·.w1c) a = m)
    (hm : m ≠ 0) : (d.plain a v).rd a = BitVec.ofNat 32 ((d.rd a).toNat - ((d.rd a).toNat &&& (v.toNat &&& m))) := by
  have hregs (t : Dev) (ids : List Nat) : (t.settle ids).rd a = t.rd a := Dev.rd_of_regs (by simp) _
  have hzero : BitVec.ofNat 32 0 = (0 : Word) := rfl
  simp only [Dev.plain, hrw, hzero, hw1c, hm, if_true, if_false, Dev.w1c, hregs, Dev.rd_wr_same]

theorem Dev.get_plain_short (d : Dev) (hn : n < 4) : (d.plain (Reg.spkEvents n) 1).get (Fld.spkEventsShort n) = 0 := by
  obtain ⟨hrw, hw1c⟩ := spkEvents_masks n hn
  have hlt : (d.rd (Reg.spkEvents n)).toNat - ((d.rd (Reg.spkEvents n)).toNat &&& (2 ^ 1 - 1)) < 2 ^ 32 :=
    Nat.lt_of_le_of_lt (Nat.sub_le ..) (BitVec.isLt _)
  have hv : (1 : Word).toNat &&& 0x3FF = 2 ^ 1 - 1 := by decide
  have hrd := d.rd_plain_events 1 hrw hw1c (by decide)
  rw [hv] at hrd
  rw [Dev.get, show (Fld.spkEventsShort n).addr = Reg.spkEvents n from rfl, hrd, Fld.of, BitVec.toNat_ofNat,
    Nat.mod_eq_of_lt hlt]
  exact bitsOf_sub_low Nat.zero_lt_one

section
variable {d t : Dev}

theorem Dev.pairOf_congr (h : t.rd Reg.spkPair = d.rd Reg.spkPair) (o : Nat) : t.pairOf o = d.pairOf o := by
  have h01 : t.is Fld.spkPairPar01 = d.is Fld.spkPairPar01 := congrArg (Fld.spkPairPar01.of · != 0) h
  have h23 : t.is Fld.spkPairPar23 = d.is Fld.spkPairPar23 := congrArg (Fld.spkPairPar23.of · != 0) h
  rw [Dev.pairOf, h01, h23, Dev.pairOf]

/-- The causes of a channel are those that its STATUS shows, and its pair's (R228). -/
theorem Dev.hizCauses_congr (h : t.rd Reg.spkPair = d.rd Reg.spkPair)
    (hst : ∀ o, t.rd (Reg.outStatus o) = d.rd (Reg.outStatus o)) (o : Nat) : t.hizCauses o = d.hizCauses o := by
  simp only [Dev.hizCauses, Dev.pairOf_congr h, hst]

end

/-- With the event clear a channel that the short latch alone holds runs its diagnostic (R219). -/
theorem Dev.shortCleared_diag (d : Dev) (hevent : d.get (Fld.spkEventsShort n) = 0)
    (hlatch : d.get (Fld.spkStatusHizCauseShort n) ≠ 0) (hst : d.outSt (d.lowerOf n) = OutSt.hiz)
    (hcauses : d.hizCauses (d.lowerOf n) = 16) (hready : (d.out (d.lowerOf n)).ready = true) (hrel : d.released = false) :
    d.shortCleared n = d.startDiag (d.lowerOf n) := by
  simp [Dev.shortCleared, Dev.is, hevent, hlatch, hst, hcauses, hready, hrel]

theorem Dev.startDiag_spec (d : Dev) (o : Nat) :
    (d.startDiag o).outSt o = OutSt.diag ∧ ((d.startDiag o).out o).spk = .hiz := by
  rw [Dev.startDiag, Dev.outSt_setOutSt, Dev.out_setOutSt, Dev.out_modOut_same]
  exact ⟨rfl, rfl⟩

theorem outStatus_ne_spkEvents (o n : Nat) : Reg.outStatus o ≠ Reg.spkEvents n := by
  unfold Reg.outStatus Reg.spkEvents outBase
  split_ifs <;> omega

/-- A host's clear of a short's event (R219). -/
theorem Dev.shortCleared_spec (d : Dev) (hn : n < 4) (hlatch : d.get (Fld.spkStatusHizCauseShort n) ≠ 0)
    (hst : d.outSt (d.lowerOf n) = OutSt.hiz) (hcauses : d.hizCauses (d.lowerOf n) = 16)
    (hready : (d.out (d.lowerOf n)).ready = true) (hrel : d.released = false) :
    ((d.plain (Reg.spkEvents n) 1).shortCleared n).get (Fld.spkEventsShort n) = 0 ∧
      ((d.plain (Reg.spkEvents n) 1).shortCleared n).outSt (d.lowerOf n) = OutSt.diag := by
  have hch : d.Changes [.intc] [Fld.whole (Reg.spkEvents n)] (d.plain (Reg.spkEvents n) 1) :=
    .plain (.refl ..) (by simp) (by simp)
  have hevent := d.get_plain_short hn
  generalize d.plain (Reg.spkEvents n) 1 = t at hch hevent
  have hrd {a : Nat} (ha : a ≠ Reg.spkEvents n) : t.rd a = d.rd a := hch.rd_eq (by simpa [Fld.whole] using ha.symm)
  have hpair : t.rd Reg.spkPair = d.rd Reg.spkPair := hrd (by simp only [Reg.spkPair, Reg.spkEvents]; omega)
  have hstatus (o : Nat) : t.rd (Reg.outStatus o) = d.rd (Reg.outStatus o) := hrd (outStatus_ne_spkEvents o n)
  have hlower : t.lowerOf n = d.lowerOf n := by rw [Dev.lowerOf, Dev.pairOf_congr hpair, Dev.lowerOf]
  have hrole : t.released = d.released := by
    have hget : t.get Fld.hingeStatusRole = d.get Fld.hingeStatusRole :=
      congrArg Fld.hingeStatusRole.of (hrd (show Reg.hingeStatus ≠ _ by unfold Reg.hingeStatus Reg.spkEvents; omega))
    rw [Dev.released, hget, Dev.released]
  have e : t.shortCleared n = t.startDiag (d.lowerOf n) := by
    have hlatch' : t.get (Fld.spkStatusHizCauseShort n) = d.get (Fld.spkStatusHizCauseShort n) :=
      congrArg (Fld.spkStatusHizCauseShort n).of (hrd (spkStatus_ne_spkEvents n n))
    have hst' : t.outSt (d.lowerOf n) = d.outSt (d.lowerOf n) := congrArg (Fld.outStatusState _).of (hstatus _)
    rw [← hlower] at hst hcauses hready hst' ⊢
    exact t.shortCleared_diag hevent (hlatch'.trans_ne hlatch) (hst'.trans hst)
      ((Dev.hizCauses_congr hpair hstatus _).trans hcauses)
      ((congrArg Out.ready (hch.out_eq (by simp) (by simp))).trans hready) (hrole.trans hrel)
  rw [e]
  refine ⟨?_, (t.startDiag_spec _).1⟩
  rw [Dev.startDiag, Dev.setOutSt, Dev.get_put_ne _ _ _ _ (outStatus_ne_spkEvents _ n).symm, Dev.get_modOut, hevent]

/-! ### Diagnostics and the pilot (R220 to R223) -/

/-- A write of diag to a channel at its power-up code starts the diagnostic (R220). -/
theorem Dev.spkDiag_starts (d : Dev) (ag : Agent) (hup : d.upper (6 + n) = false) (hst : d.outSt (6 + n) = OutSt.powerup) :
    (d.runKept ag (6 + n)).spkDiag ag n = d.startDiag (6 + n) := by
  simp [Dev.runKept, Dev.spkDiag, hup, hst]

theorem Dev.diagResult_lt (d : Dev) (pin : Option Bool) (r : Nat) : d.diagResult n pin r < 16 := by
  unfold Dev.diagResult
  split
  · decide
  · decide
  · split_ifs <;> decide

theorem Dev.diagNoted_spec (d : Dev) (pin : Option Bool) (r : Nat) :
    (d.diagNoted n pin r).get (Fld.spkDiagResult n) = d.diagResult n pin r ∧
      (d.diagNoted n pin r).get (Fld.spkEventsDiagDone n) = 1 := by
  have hres : (d.put (Fld.spkDiagResult n) (d.diagResult n pin r)).get (Fld.spkDiagResult n) = d.diagResult n pin r := by
    rw [Dev.get_put_same _ _ _ ⟨show 0 ≤ 3 by decide, show 3 < 32 by decide⟩]
    exact Nat.mod_eq_of_lt (d.diagResult_lt pin r)
  have hapart : (Fld.spkDiagRMeas n).apart (Fld.spkDiagResult n) = true := by
    simp [Fld.apart, Fld.spkDiagRMeas, Fld.spkDiagResult]
  have hne : Reg.spkDiag n ≠ Reg.spkEvents n := by
    unfold Reg.spkDiag Reg.spkEvents
    omega
  refine ⟨?_, Dev.happen_sets _ _ (show 8 < 32 by decide) rfl⟩
  rw [Dev.diagNoted, Dev.get_happen_ne _ _ _ hne]
  split
  · rw [Dev.get_put_apart _ _ hapart, hres]
  · exact hres

/-- What the end of a diagnostic makes of a channel is apart from what it shows of it. -/
theorem diagFields_apart : ∀ n < 4, ∀ f ∈ driveFields (6 + n) ++
      (List.range 4).flatMap (fun n => [Fld.spkEventsShort n, Fld.spkStatusHizCauseShort n]),
    f.apart (Fld.spkDiagResult n) = true ∧ f.apart (Fld.spkEventsDiagDone n) = true := by
  decide +kernel

theorem Dev.diagDone_spec (d : Dev) (pin : Option Bool) (r : Nat) (hn : n < 4) (hst : d.outSt (6 + n) = OutSt.diag) :
    (d.diagDone n pin r).get (Fld.spkDiagResult n) = d.diagResult n pin r ∧
      (d.diagDone n pin r).get (Fld.spkEventsDiagDone n) = 1 := by
  have hch := Dev.Changes.diagEnds (res := d.diagResult n pin r) (.refl [.out (6 + n), .intc] _ (d.diagNoted n pin r)) hn
    (mayChange_of_out (by simp)) (by simp) (List.Subset.refl _)
  rw [Dev.diagDone_eq, hst, if_neg (by simp), hch.get_apart fun f hf => (diagFields_apart n hn f hf).1,
    hch.get_apart fun f hf => (diagFields_apart n hn f hf).2]
  exact d.diagNoted_spec pin r

theorem Dev.pilotResult_lt (d : Dev) (amps : Bool) (z : Nat) : d.pilotResult n amps z < 16 := by
  unfold Dev.pilotResult
  split_ifs <;> decide

theorem Dev.get_pilotCounted (d : Dev) (amps : Bool) (z res : Nat) :
    (d.pilotCounted n amps z res).get (Fld.spkPilotstatResult n) = d.get (Fld.spkPilotstatResult n) := by
  have hch : d.Changes [.out (6 + n), .intc] [Fld.spkEventsLine n, Fld.spkPilotstatZ n] (d.pilotCounted n amps z res) :=
    .pilotCounted (.refl ..) (mayChange_of_out (by simp)) (by simp) (List.Subset.refl _)
  have hline : Reg.spkPilotstat n ≠ Reg.spkEvents n := by unfold Reg.spkPilotstat Reg.spkEvents; omega
  refine hch.get_apart ?_
  simp [Fld.apart, Fld.spkEventsLine, Fld.spkPilotstatZ, Fld.spkPilotstatResult, hline]

/-- A measurement writes its result: 5 where the generator is off or out of range (R222, R237). -/
theorem Dev.pilotMeasure_result (d : Dev) (amps : Bool) (z : Nat) (hen : d.get (Fld.spkPilotEn n) ≠ 0)
    (hst : d.outSt (6 + n) = OutSt.running) (hup : d.upper (6 + n) = false) :
    (d.pilotMeasure n amps z).get (Fld.spkPilotstatResult n) =
      if d.pilotFreqOk (d.get (Fld.spkPilotGen n)) = false then 5 else d.pilotResult n amps z := by
  have hres {v : Nat} (hv : v < 16) : (d.put (Fld.spkPilotstatResult n) v).get (Fld.spkPilotstatResult n) = v :=
    (d.get_put_same _ _ ⟨show 28 ≤ 31 by decide, show 31 < 32 by decide⟩).trans (Nat.mod_eq_of_lt hv)
  rw [Dev.pilotMeasure_eq, if_neg (by simp [Dev.is, hen, hst, hup])]
  cases d.pilotFreqOk (d.get (Fld.spkPilotGen n)) with
  | false =>
    rw [if_pos Bool.not_false, Dev.get_modOut]
    exact hres (by decide)
  | true =>
    rw [if_neg (by decide), if_neg (by decide), Dev.get_pilotCounted]
    exact hres (d.pilotResult_lt amps z)

/-! ### PVDD (R225) -/

@[simp] theorem Dev.get_withPins (d : Dev) (x : Pins) (g : Fld) : ({ d with pins := x } : Dev).get g = d.get g := rfl

/-- PVDD is in range: the bits of SPK_PVDD (R238). -/
def Dev.pvddBits (d : Dev) : Dev := ((d.put Fld.spkPvddReady 1).put Fld.spkPvddLow 0).put Fld.spkPvddHigh 0

/-- No channel has a cause of PVDD any longer (R225). -/
def Dev.pvddCausesEnd (d : Dev) : Dev :=
  d.each (List.range 4) (fun d n => (d.put (Fld.spkStatusHizCausePvddLow n) 0).put (Fld.spkStatusHizCausePvddHigh n) 0)

/-- What PVDD in range makes of the outputs: chains that become ready, and causes that end. -/
def Dev.speakersReady (d : Dev) : Dev := d.each [6, 7, 8, 9] (fun d o => (d.chainReadyEvent o).leaveHiz o)

theorem Dev.pvddReady_eq (d : Dev) : d.pvddReady =
    ({ d.pvddBits with pins := { d.pvddBits.pins with pvdd := true } } : Dev).pvddCausesEnd.speakersReady := rfl

theorem Dev.speakersReady_changes (d : Dev) : d.Changes [.outs] spkDriveFields d.speakersReady :=
  .each fun _ _ ho => .leaveHiz (.chainReadyEvent (.refl ..) (mayChange_of_outs (by simp)) (driveFields_speaker ho))
    (mayChange_of_outs (by simp)) (driveFields_speaker ho)

theorem Dev.pvddBits_spec (d : Dev) : d.pvddBits.get Fld.spkPvddReady = 1 ∧ d.pvddBits.get Fld.spkPvddLow = 0 ∧
    d.pvddBits.get Fld.spkPvddHigh = 0 := by
  unfold Dev.pvddBits
  refine ⟨?_, ?_, Dev.get_put_same _ _ _ ⟨by decide, by decide⟩⟩
  · rw [Dev.get_put_apart _ _ (by decide), Dev.get_put_apart _ _ (by decide)]
    exact d.get_put_same _ _ ⟨by decide, by decide⟩
  · rw [Dev.get_put_apart _ _ (by decide)]
    exact Dev.get_put_same _ _ _ ⟨by decide, by decide⟩

theorem Dev.pvddCausesEnd_pins (d : Dev) : d.pvddCausesEnd.pins = d.pins :=
  Dev.each_keeps (fun t => t.pins) _ (fun t m => by simp) _ _

theorem Dev.get_pvddCausesEnd (d : Dev) {g : Fld} (hg : g.addr = Reg.spkPvdd) : d.pvddCausesEnd.get g = d.get g := by
  have hne (m : Nat) : g.addr ≠ Reg.spkStatus m := hg ▸ (spkPvdd_ne_channel m).1
  exact Dev.each_keeps (fun t => t.get g) _
    (fun t m => (Dev.get_put_ne _ _ _ _ (hne m)).trans (t.get_put_ne _ _ _ (hne m))) _ d

theorem Dev.pvddReady_spec (d : Dev) : d.pvddReady.get Fld.spkPvddReady = 1 ∧ d.pvddReady.get Fld.spkPvddLow = 0 ∧
    d.pvddReady.get Fld.spkPvddHigh = 0 ∧ d.pvddReady.pins.pvdd = true := by
  obtain ⟨hready, hlow, hhigh⟩ := d.pvddBits_spec
  generalize hu : ({ d.pvddBits with pins := { d.pvddBits.pins with pvdd := true } } : Dev) = u
  have hget (g : Fld) : u.get g = d.pvddBits.get g := by rw [← hu, Dev.get_withPins]
  have hkeep {g : Fld} (hg : g.addr = Reg.spkPvdd) : d.pvddReady.get g = d.pvddBits.get g := by
    rw [Dev.pvddReady_eq, hu, (Dev.speakersReady_changes _).get_pvdd hg, u.get_pvddCausesEnd hg, hget]
  rw [hkeep (g := Fld.spkPvddReady) rfl, hkeep (g := Fld.spkPvddLow) rfl, hkeep (g := Fld.spkPvddHigh) rfl]
  refine ⟨hready, hlow, hhigh, ?_⟩
  rw [Dev.pvddReady_eq, hu, (Dev.speakersReady_changes _).pins_eq (by simp), Dev.pvddCausesEnd_pins, ← hu]

/-- PVDD out of range stops every channel where the chains were ready (R225). -/
theorem Dev.pvddFault_spec (d : Dev) {bit : Fld} {cause : Nat → Fld} (hready : d.get Fld.spkPvddReady ≠ 0)
    (hbit : bit = Fld.spkPvddLow ∨ bit = Fld.spkPvddHigh) (hl : IsCause cause Fld.spkEventsPvdd) :
    (d.pvddFault bit cause).get Fld.spkPvddReady = 0 ∧ (d.pvddFault bit cause).get bit = 1 ∧
      ∀ n : Fin 4, (d.pvddFault bit cause).get (cause n) = 1 ∧ (d.pvddFault bit cause).get (Fld.spkEventsPvdd n) = 1 ∧
        ((d.pvddFault bit cause).out (6 + n)).spk = .hiz := by
  obtain ⟨haddr, hfits, hwidth, hapart, hapart'⟩ : bit.addr = Reg.spkPvdd ∧ bit.fits ∧ bit.width = 1 ∧
      bit.apart Fld.spkPvddReady = true ∧ Fld.spkPvddReady.apart bit = true := by
    obtain rfl | rfl := hbit
    · exact ⟨rfl, ⟨by decide, by decide⟩, rfl, by decide, by decide⟩
    · exact ⟨rfl, ⟨by decide, by decide⟩, rfl, by decide, by decide⟩
  generalize hu : ({ d.put bit 1 with pins := { (d.put bit 1).pins with pvdd := false } } : Dev) = u
  have hget (g : Fld) : u.get g = (d.put bit 1).get g := by rw [← hu, Dev.get_withPins]
  have e : d.pvddFault bit cause = ((u.put Fld.spkPvddReady 0).beginCauses cause Fld.spkEventsPvdd).stopAll Dev.unready := by
    have hset : u.is Fld.spkPvddReady = true := by
      rw [Dev.is, hget, Dev.get_put_apart _ _ hapart]
      exact bne_iff_ne.mpr hready
    simp only [Dev.pvddFault, hu, hset, Bool.not_true, Bool.false_eq_true, if_false]
    rfl
  have hch := isStop_unready.stopAll_changes ((u.put Fld.spkPvddReady 0).beginCauses cause Fld.spkEventsPvdd)
  rw [e, hch.get_pvdd rfl, hch.get_pvdd haddr, Dev.get_beginCauses_pvdd _ hl rfl, Dev.get_beginCauses_pvdd _ hl haddr,
    Dev.get_put_apart _ _ hapart', hget, d.get_put_same _ _ hfits, hwidth]
  refine ⟨u.get_put_same _ _ ⟨by decide, by decide⟩, rfl, fun n => ?_⟩
  obtain ⟨hcause, hevent⟩ := hch.showsCause hl n.isLt (Dev.beginCauses_shows _ hl n.isLt)
  exact ⟨hcause, hevent, isStop_unready.stopAll_hiz _ n.isLt⟩

/-! ### Temperature (R226, R227) -/

theorem Dev.derateShown_spec (d : Dev) (temp : Int) (b : Nat) (hn : n < 4) : (d.derateShown temp b).pins.derate = b ∧
    (d.derateShown temp b).get (Fld.spkLimitsDerate n) = b / 5 % 2 ^ (Fld.spkLimitsDerate n).width := by
  have hset (t : Dev) : (t.put (Fld.spkLimitsDerate n) (b / 5)).get (Fld.spkLimitsDerate n) =
      b / 5 % 2 ^ (Fld.spkLimitsDerate n).width :=
    t.get_put_same _ _ ⟨show 8 ≤ 15 by decide, show 15 < 32 by decide⟩
  refine ⟨?_, ?_⟩
  · exact Dev.each_keeps (fun t => t.pins.derate) _ (fun t m => by simp) _ _
  · refine Dev.each_reaches (P := fun t => t.get (Fld.spkLimitsDerate n) = _)
      (f := fun t m => t.put (Fld.spkLimitsDerate m) (b / 5)) hset (fun t m _ ht => ?_) (List.mem_range.mpr hn) _
    by_cases hmn : m = n
    · exact hmn ▸ hset t
    · have hne : (Fld.spkLimitsDerate n).addr ≠ (Fld.spkLimitsDerate m).addr :=
        show Reg.spkLimits n ≠ Reg.spkLimits m by unfold Reg.spkLimits; omega
      rw [t.get_put_ne _ _ _ hne, ht]

/-- The event of derating leaves the attenuation and what the channels show of it. -/
theorem Dev.derateStep_spec (d : Dev) (temp : Int) :
    (d.derateStep temp).pins.derate = derateNext d.pins.derate (derateTarget temp) ∧
      ∀ n < 4, (d.derateStep temp).get (Fld.spkLimitsDerate n) =
        (d.derateStep temp).pins.derate / 5 % 2 ^ (Fld.spkLimitsDerate n).width := by
  generalize hb : derateNext d.pins.derate (derateTarget temp) = b
  have hpins : (d.derateStep temp).pins = (d.derateShown temp b).pins := by
    rw [Dev.derateStep_eq, hb]
    dsimp only
    split
    · exact Dev.each_keeps (fun t => t.pins) _ (fun t m => by simp) _ _
    · rfl
  have hlimit (n : Nat) : (d.derateStep temp).get (Fld.spkLimitsDerate n) =
      (d.derateShown temp b).get (Fld.spkLimitsDerate n) := by
    have hne (m : Nat) : Reg.spkLimits n ≠ Reg.spkEvents m := by
      unfold Reg.spkLimits Reg.spkEvents
      omega
    rw [Dev.derateStep_eq, hb]
    dsimp only
    split
    · exact Dev.each_keeps (fun t => t.get (Fld.spkLimitsDerate n)) _
        (fun t m => t.get_happen_ne (Fld.spkEventsDerate m) _ (hne m)) _ _
    · rfl
  rw [hpins, (d.derateShown_spec temp b (n := 0) (by decide)).1]
  exact ⟨rfl, fun n hn => (hlimit n).trans (d.derateShown_spec temp b hn).2⟩

theorem Dev.spkHot_eq (d : Dev) (temp : Int) : d.spkHot temp =
    ((d.put Fld.spkThermTemp (unsg 12 temp)).beginCauses Fld.spkStatusHizCauseThermal Fld.spkEventsThermal).stopAll
      Dev.enterHiz := rfl

theorem Dev.spkHot_spec (d : Dev) (temp : Int) (hn : n < 4) : (d.spkHot temp).get (Fld.spkStatusHizCauseThermal n) = 1 ∧
    (d.spkHot temp).get (Fld.spkEventsThermal n) = 1 ∧ ((d.spkHot temp).out (6 + n)).spk = .hiz := by
  obtain ⟨hcause, hevent⟩ := (isStop_enterHiz.stopAll_changes _).showsCause isCause_thermal hn
    ((d.put Fld.spkThermTemp (unsg 12 temp)).beginCauses_shows isCause_thermal hn)
  rw [Dev.spkHot_eq]
  exact ⟨hcause, hevent, isStop_enterHiz.stopAll_hiz _ hn⟩

/-- Once die 2 is cool and the event clear, the thermal cause is over (R227). -/
theorem Dev.spkCooled_cause (d : Dev) {temp : Int} (hn : n < 4) (hevent : d.get (Fld.spkEventsThermal n) = 0)
    (htemp : temp < 1000) : (d.spkCooled n temp).get (Fld.spkStatusHizCauseThermal n) = 0 := by
  generalize ht : d.put Fld.spkThermTemp (unsg 12 temp) = t
  have hevent' : t.is (Fld.spkEventsThermal n) = false := by
    have hne : Reg.spkEvents n ≠ Reg.spkTherm := by
      unfold Reg.spkEvents Reg.spkTherm
      omega
    rw [Dev.is, ← ht, d.get_put_ne _ _ _ hne, hevent]
    rfl
  cases hcause : t.is (Fld.spkStatusHizCauseThermal n) with
  | false =>
    have e : d.spkCooled n temp = t := by simp [Dev.spkCooled, ht, hcause]
    rw [e]
    exact bne_eq_false_iff_eq.mp hcause
  | true =>
    have e : d.spkCooled n temp = (t.put (Fld.spkStatusHizCauseThermal n) 0).leaveHiz (t.lowerOf n) := by
      simp [Dev.spkCooled, ht, hcause, hevent', htemp]
    have hch : (t.put (Fld.spkStatusHizCauseThermal n) 0).Changes [.outs] spkDriveFields
        ((t.put (Fld.spkStatusHizCauseThermal n) 0).leaveHiz (t.lowerOf n)) :=
      .leaveHiz (.refl ..) (mayChange_of_outs (by simp)) (driveFields_speaker (t.lowerOf_speaker hn))
    rw [e]
    exact (hch.get_apart fun f hf => (spkDriveFields_apart_cause n hn 6 (by decide) f hf).1).trans
      (t.get_put_same _ _ ⟨Nat.le_refl 6, show 6 < 32 by decide⟩)

end Sys2Proof.Machine

/-! The statement of the commands of the speaker stages. -/
namespace Sys2Proof.Machine

/-- Settles O13: each clause is what the command's operation on the device leaves, read back; the two writes of a host are their
registers' own operations. -/
theorem speakerCommandsComplete : Obligations.SpeakerCommandsComplete := by
  unfold Obligations.SpeakerCommandsComplete
  refine ⟨fun s n h seg cell spare ⟨hserves, hswap, hret, hspare⟩ =>
      ⟨_, rfl, s.dev.segFailing_swaps n.isLt hserves hswap hret hspare⟩,
    fun s n h seg cell ⟨hserves, hswap, hret⟩ => ⟨_, rfl, ?_⟩,
    fun s n => ⟨_, rfl, s.dev.beginCause_stopStages isCause_short n.isLt⟩,
    fun s n ⟨h, hlatch, hst, hcauses, hready⟩ => ⟨_, rfl, ?_⟩,
    fun s n ⟨h, hup, hst⟩ => ⟨_, rfl, ?_⟩,
    fun s n pin r hst => ⟨_, rfl, s.dev.diagDone_spec pin r n.isLt hst⟩,
    fun s n amps z ⟨hen, hst, hup⟩ => ⟨_, rfl, ?_⟩,
    fun s => ⟨_, rfl, s.dev.pvddReady_spec⟩,
    fun s hready => ⟨_, rfl, ?_⟩,
    fun s hready => ⟨_, rfl, s.dev.pvddFault_spec hready (.inr rfl) isCause_pvddHigh⟩,
    fun s temp => ⟨_, rfl, (s.dev.derateStep_spec temp).1, fun n => (s.dev.derateStep_spec temp).2 n n.isLt⟩,
    fun s temp => ⟨_, rfl, fun n => s.dev.spkHot_spec temp n.isLt⟩,
    fun s n temp ⟨hevent, htemp⟩ => ⟨_, rfl, s.dev.spkCooled_cause n.isLt hevent htemp⟩⟩
  case refine_1 =>
    rw [State.on_dev, s.dev.segFailing_fails cell hserves hswap hret]
    exact s.dev.beginCause_stopStages isCause_stage n.isLt
  case refine_2 =>
    obtain ⟨-, hrel, -⟩ := s.dev.hostReady_iff.mp h
    rw [s.hostReg_shortCleared n.isLt h, State.on_dev]
    exact s.dev.shortCleared_spec n.isLt hlatch hst hcauses hready hrel
  case refine_3 =>
    rw [s.hostReg_spkDiag n.isLt h, State.on_dev, s.dev.spkDiag_starts .host hup hst]
    exact s.dev.startDiag_spec _
  case refine_4 =>
    rw [State.on_dev, s.dev.pilotMeasure_result amps z hen hst hup]
    cases amps <;> rfl
  case refine_5 =>
    rw [State.on_dev, Dev.pvddCutoff]
    refine Dev.pvddFault_spec _ ?_ (.inl rfl) isCause_pvddLow
    split
    · exact hready
    · exact hready

end Sys2Proof.Machine

/-! What the operations of the jacks, the headset detectors and the buttons change (chapter 08), with the wake that a jack's
change causes (R249, R549). -/
namespace Sys2Proof.Machine

/-- Detector `h` is one of the parts `ps`, or they hold every detector. -/
def mayChangeHs (h : Nat) (ps : List Part) : Prop := .hsets ∈ ps ∨ .hset h ∈ ps

/-- Every bit of `f` lies in `g`. -/
def Fld.within (f g : Fld) : Bool := f.addr == g.addr && decide (g.lo ≤ f.lo ∧ f.hi ≤ g.hi)

/-- The fields that a headset detection of detector `h` writes (R250, R251). -/
def detectFields (h : Nat) : List Fld :=
  [Fld.hsResRunning h, Fld.hsResType h, Fld.jackEventsHsDone.at h, Fld.micbStatusDriving]

/-- The fields that the report of a button of detector `h` writes (R253). -/
def buttonFields (h : Nat) : List Fld :=
  [Fld.hsBtnstatButton h, Fld.hsBtnstatPressed h, Fld.jackEventsBtnPress.at h, Fld.jackEventsBtnRelease.at h]

/-- The fields that either detector writes, an event of both as one field. -/
def hsFields : List Fld :=
  [Fld.jackEventsBtnPress, Fld.jackEventsBtnRelease, Fld.jackEventsHsDone, Fld.micbStatusDriving] ++
    (List.range 2).flatMap (fun h => [Fld.hsBtnstatButton h, Fld.hsBtnstatPressed h, Fld.hsResRunning h, Fld.hsResType h])

theorem hsFields_within : ∀ h < 2, ∀ f ∈ detectFields h ++ buttonFields h, ∃ g ∈ hsFields, f.within g = true := by
  decide

/-- The fields that the jack mute causes write (R243, R249). -/
def jackMuteFields : List Fld := (List.range 10).flatMap (fun o => Fld.seqStatusMuteJack o :: seqFields o)

/-- The fields that a wake event writes (R548, R549). -/
def wakeFields : List Fld :=
  [Fld.pwrEventsDone, Fld.pwrEventsWake, Fld.pwrTxnBusy, Fld.pwrTxnPhase, Fld.pwrTxnResult, Fld.pwrWakesrcSrc] ++
    (List.range 2).map Fld.pwrClkselPll ++
    (List.range 3).flatMap (fun w => [Fld.whole (Reg.pwrState w), Fld.whole (Reg.pwrTarget w)])

/-- The fields that what follows a debounced change of a jack writes. -/
def jackFollowFields : List Fld := jackMuteFields ++ hsFields ++ wakeFields

/-- A debounced change of jack `k` is shown, and sets its event (R249). -/
def Dev.jackNoted (d : Dev) (k : Nat) : Dev :=
  let t := d.putBit Fld.jackStatusInserted k (d.rawIn k)
  if d.rawIn k then t.happenAt Fld.jackEventsInsert k else t.happenAt Fld.jackEventsRemove k

/-- What follows a debounced change of jack `k`: the mutes, its detector and the wake (R249, R251, R253, R549). -/
def Dev.jackFollowed (d : Dev) (k : Nat) (ins : Bool) : Dev :=
  let t := d.jackMutes
  let t := if ins then (if t.is (Fld.jdCfgHsAuto k) then t.hsStart (t.get (Fld.jdCfgHs k)) else t) else t.hsRemoved k
  (t.wakeEvent 3).usbWakeUp Fld.usbCtrlWakeJack

theorem Dev.jackChange_eq (d : Dev) (k : Nat) : d.jackChange k =
    if !d.is (Fld.jdCfgEn k) || d.rawIn k == d.bit Fld.jackStatusInserted k then d
    else (d.jackNoted k).jackFollowed k (d.rawIn k) := by
  unfold Dev.jackChange Dev.jackDebounced
  by_cases hstill : (!d.is (Fld.jdCfgEn k) || d.rawIn k == d.bit Fld.jackStatusInserted k) = true
  · simp only [hstill, if_true, Bool.false_eq_true, if_false]
  · rw [if_neg hstill, if_neg hstill]
    rfl

namespace Dev.Changes

variable {ps : List Part} {fs gs : List Fld} {d t : Dev} {h k : Nat}

/-- A frame whose fields lie within those of another. -/
theorem widen (hch : d.Changes ps fs t) (hw : ∀ f ∈ fs, ∃ g ∈ gs, f.within g = true) : d.Changes ps gs t := by
  refine ⟨hch.parts, fun a b hb => hch.bits a b fun f hf ⟨ha, hlo, hhi⟩ => ?_⟩
  obtain ⟨g, hg, hin⟩ := hw f hf
  simp only [Fld.within, Bool.and_eq_true, beq_iff_eq, decide_eq_true_eq] at hin
  obtain ⟨haddr, hglo, hghi⟩ := hin
  exact hb g hg ⟨haddr.symm.trans ha, hglo.trans hlo, hhi.trans hghi⟩

theorem hsd_eq (hch : d.Changes ps fs t) (hs : .hsets ∉ ps) (hh : .hset h ∉ ps) : t.hsd h = d.hsd h :=
  ((hch.parts.hsets h).resolve_left hs).resolve_left hh

/-! ### Parts and bits of fields -/

theorem modClk {f : Clk → Clk} (hch : d.Changes ps fs t) (hp : .clk ∈ ps) : d.Changes ps fs (t.modClk f) :=
  hch.trans ⟨{ Dev.PartsBut.refl ps t with clk := .inl hp }, fun _ _ _ => rfl⟩

theorem modHs {f : Hs → Hs} (hch : d.Changes ps fs t) (hp : mayChangeHs h ps) : d.Changes ps fs (t.modHs h f) := by
  refine hch.trans ⟨{ Dev.PartsBut.refl ps t with hsets := fun p => ?_ }, fun _ _ _ => rfl⟩
  by_cases hph : p = h
  · subst hph
    exact Or.imp_right .inl hp
  · exact .inr (.inr (SMap.get_set_ne _ _ _ _ _ _ hph))

theorem putBit_at {f : Fld} {i : Nat} {b : Bool} (hch : d.Changes ps fs t) (hf : f.at i ∈ fs) (hi : f.lo + i ≤ f.hi) :
    d.Changes ps fs (t.putBit f i b) := hch.trans (Dev.changes_putBit_at hf hi)

theorem happenAt_at {f : Fld} {i : Nat} (hch : d.Changes ps fs t) (hp : .intc ∈ ps) (hf : f.at i ∈ fs) :
    d.Changes ps fs (t.happenAt f i) := hch.trans (Dev.changes_happenAt_at hp hf)

theorem wr {a : Nat} {w : Word} (hch : d.Changes ps fs t) (hf : Fld.whole a ∈ fs) : d.Changes ps fs (t.wr a w) :=
  hch.trans (Dev.changes_wr hf)

/-! ### Headset detection (R250 to R252) -/

theorem hsBias {b : Bool} (hch : d.Changes ps fs t) (hp : .inp ∈ ps) (hf : Fld.micbStatusDriving ∈ fs) :
    d.Changes ps fs (t.hsBias h b) :=
  (hch.trans (Dev.changes_inp hp)).trans (Dev.changes_showMicb hf)

theorem dropDecode (hch : d.Changes ps fs t) (hp : mayChangeHs h ps) : d.Changes ps fs (t.dropDecode h) := modHs hch hp

theorem hsStart (hch : d.Changes ps fs t) (hp : mayChangeHs h ps) (hinp : .inp ∈ ps) (hf : detectFields h ⊆ fs) :
    d.Changes ps fs (t.hsStart h) := by
  have htype (v : Nat) : d.Changes ps fs (t.put (Fld.hsResType h) v) := put hch (hf (by simp [detectFields]))
  have hrun : d.Changes ps fs (t.put (Fld.hsResRunning h) 1) := put hch (hf (by simp [detectFields]))
  exact of_ite hch (of_ite (htype _) (of_ite (htype _)
    (hsBias (dropDecode (modHs hrun hp) hp) hinp (hf (by simp [detectFields])))))

theorem hsEnd {ty : Nat} (hch : d.Changes ps fs t) (hp : mayChangeHs h ps) (hinp : .inp ∈ ps) (hi : .intc ∈ ps)
    (hf : detectFields h ⊆ fs) : d.Changes ps fs (t.hsEnd h ty) := by
  have hres : d.Changes ps fs ((t.put (Fld.hsResRunning h) 0).put (Fld.hsResType h) ty) :=
    put (put hch (hf (by simp [detectFields]))) (hf (by simp [detectFields]))
  exact happenAt_at (hsBias (modHs hres hp) hinp (hf (by simp [detectFields]))) hi (hf (by simp [detectFields]))

theorem hsAbort (hch : d.Changes ps fs t) (hp : mayChangeHs h ps) (hinp : .inp ∈ ps) (hi : .intc ∈ ps)
    (hf : detectFields h ⊆ fs) : d.Changes ps fs (t.hsAbort h) := of_ite (hsEnd hch hp hinp hi hf) hch

theorem hsSettleEnd (hch : d.Changes ps fs t) (hp : mayChangeHs h ps) : d.Changes ps fs (t.hsSettleEnd h) :=
  of_ite (modHs hch hp) hch

theorem hsDetectDone {z : Nat} (hch : d.Changes ps fs t) (hp : mayChangeHs h ps) (hinp : .inp ∈ ps) (hi : .intc ∈ ps)
    (hf : Fld.hsResZ h :: detectFields h ⊆ fs) : d.Changes ps fs (t.hsDetectDone h z) := by
  obtain ⟨hz, hdetect⟩ := List.cons_subset.mp hf
  exact of_ite (hsEnd (put hch hz) hp hinp hi hdetect) hch

/-! ### Buttons (R253, R254) -/

theorem hsReport {b : Nat} (hch : d.Changes ps fs t) (hi : .intc ∈ ps) (hf : buttonFields h ⊆ fs) :
    d.Changes ps fs (t.hsReport h b) := by
  have hpressed : Fld.hsBtnstatPressed h ∈ fs := hf (by simp [buttonFields])
  have hrelease {u : Dev} (hu : d.Changes ps fs u) : d.Changes ps fs (u.happenAt Fld.jackEventsBtnRelease h) :=
    happenAt_at hu hi (hf (by simp [buttonFields]))
  exact of_ite (of_ite (hrelease (put hch hpressed)) hch)
    (of_ite hch (happenAt_at (put (put (of_ite (hrelease hch) hch) hpressed) (hf (by simp [buttonFields]))) hi
      (hf (by simp [buttonFields]))))

theorem buttonSample {level : Nat} {reached : Bool} (hch : d.Changes ps fs t) (hp : mayChangeHs h ps) (hi : .intc ∈ ps)
    (hf : Fld.hsBtnstatLevel h :: buttonFields h ⊆ fs) : d.Changes ps fs (t.buttonSample h level reached) := by
  obtain ⟨hlevel, hbutton⟩ := List.cons_subset.mp hf
  have hsampled {f : Hs → Hs} : d.Changes ps fs ((t.put (Fld.hsBtnstatLevel h) (min level 255)).modHs h f) :=
    modHs (put hch hlevel) hp
  exact of_ite (dropDecode hch hp) (of_ite (hsReport hsampled hi hbutton) hsampled)

theorem btnCfg {ag : Agent} {v : Word} (hch : d.Changes ps fs t)
    (hf : [Fld.whole (Reg.hsBtncfg h)] ++ violFields [3] ⊆ fs) : d.Changes ps fs (t.btnCfg ag h v) := by
  obtain ⟨hreg, hviol⟩ := List.append_subset.mp hf
  have hstored (w : Word) : d.Changes ps fs (t.wr (Reg.hsBtncfg h) w) := wr hch (hreg (by simp))
  exact of_ite (hstored _) (viol (hstored _) hviol)

/-! ### Jacks (R248, R249) -/

theorem jackMutes (hch : d.Changes ps fs t) (hp : .outs ∈ ps) (hf : jackMuteFields ⊆ fs) : d.Changes ps fs t.jackMutes :=
  hch.trans (.each fun _ _ ho =>
    have ⟨hmute, hseq⟩ := List.cons_subset.mp (subset_of_flatMap hf ho)
    setMute (.refl ..) (mayChange_of_outs hp) hseq hmute)

theorem jackRaw {high : Bool} (hch : d.Changes ps fs t) (hk : k < 4) (hp : mayChangeHs (t.get (Fld.jdCfgHs k)) ps)
    (hf : Fld.jackStatusRaw.at k ∈ fs) : d.Changes ps fs (t.jackRaw k high) := by
  have hraw : d.Changes ps fs (t.putBit Fld.jackStatusRaw k high) := putBit_at hch hf (show 4 + k ≤ 7 by omega)
  have hne : Reg.jackStatus ≠ Reg.jdCfg k := by unfold Reg.jackStatus Reg.jdCfg; omega
  have hmap : (t.putBit Fld.jackStatusRaw k high).get (Fld.jdCfgHs k) = t.get (Fld.jdCfgHs k) :=
    t.get_putBit_apart high (by simpa [Fld.apart] using .inl hne.symm)
  exact of_ite hraw (dropDecode hraw (hmap ▸ hp))

theorem jdWrite {ag : Agent} {v : Word} (hch : d.Changes ps fs t) (hk : k < 4) (hp : .outs ∈ ps)
    (hf : [Fld.jackStatusInserted.at k, Fld.whole (Reg.jdCfg k)] ++ jackMuteFields ++ violFields [3] ⊆ fs) :
    d.Changes ps fs (t.jdWrite ag k v) := by
  obtain ⟨hf, hviol⟩ := List.append_subset.mp hf
  obtain ⟨hjack, hmute⟩ := List.append_subset.mp hf
  unfold Dev.jdWrite
  extract_lets n hi lo bad hi' lo' db t1 t2
  have h1 : d.Changes ps fs t1 := wr hch (hjack (by simp))
  have h2 : d.Changes ps fs t2 := of_ite (viol h1 hviol) h1
  exact jackMutes (of_ite h2 (putBit_at (b := false) h2 (hjack (by simp)) (show 0 + k ≤ 3 by omega))) hp hmute

/-! ### The wake (R549) -/

theorem setTarget {v : Nat} (hch : d.Changes ps fs t) (hk : k < 46) (hf : wakeFields ⊆ fs) :
    d.Changes ps fs (t.setTarget k v) := by
  have hw : ∀ w < 3, Fld.whole (Reg.pwrTarget w) ∈ wakeFields := by decide
  exact wr hch (hf (hw _ (by omega)))

theorem startRise {v : Nat} (hch : d.Changes ps fs t) (hk : k < 46) (hp : .pwr ∈ ps) (hf : wakeFields ⊆ fs) :
    d.Changes ps fs (t.startRise k v) := by
  have hstate : ∀ w < 3, Fld.whole (Reg.pwrState w) ∈ wakeFields := by decide
  have hpll : ∀ w < 2, Fld.pwrClkselPll w ∈ wakeFields := by decide
  exact modPwr (putBit (wr hch (hf (hstate _ (by omega)))) (hf (hpll _ (by omega)))) hp

theorem runWake {src : Nat} (hch : d.Changes ps fs t) (hp : .pwr ∈ ps) (hi : .intc ∈ ps) (hf : wakeFields ⊆ fs) :
    d.Changes ps fs (t.runWake src) := by
  unfold Dev.runWake
  extract_lets up t1 t2
  have h1 : d.Changes ps fs t1 := modPwr (happen (put hch (hf (by simp [wakeFields]))) hi (hf (by simp [wakeFields]))
    (by decide)) hp
  have hup : ∀ e ∈ up, e.1 < 46 := by
    intro e he
    obtain ⟨k, hk, hek⟩ := List.mem_filterMap.mp he
    dsimp only at hek
    split at hek
    · exact (Option.some.inj hek) ▸ List.mem_range.mp hk
    · exact absurd hek (by simp)
  have h2 : d.Changes ps fs t2 := (h1.trans (.each fun _ k hk => setTarget (.refl ..) (List.mem_range.mp hk) hf)).trans
    (.each fun _ e he => startRise (setTarget (.refl ..) (hup e he) hf) (hup e he) hp hf)
  exact of_ite (modPwr (happen (put (put h2 (hf (by simp [wakeFields]))) (hf (by simp [wakeFields]))) hi
    (hf (by simp [wakeFields])) (by decide)) hp) (put (put h2 (hf (by simp [wakeFields]))) (hf (by simp [wakeFields])))

theorem wakeEvent {src : Nat} (hch : d.Changes ps fs t) (hc : .clk ∈ ps) (hp : .pwr ∈ ps) (hi : .intc ∈ ps)
    (hf : wakeFields ⊆ fs) : d.Changes ps fs (t.wakeEvent src) := by
  have hfast : d.Changes ps fs t.fastOn := modClk hch hc
  exact of_ite hch (of_ite (putBit (b := true) (modPwr hfast hp) (hf (by simp [wakeFields]))) (runWake hfast hp hi hf))

theorem usbWakeUp {f : Fld} (hch : d.Changes ps fs t) (hp : .usb ∈ ps) : d.Changes ps fs (t.usbWakeUp f) :=
  of_ite (hch.trans ⟨{ Dev.PartsBut.refl ps t with usb := .inl hp }, fun _ _ _ => rfl⟩) hch

end Dev.Changes

/-! ### A debounced change of a jack -/

theorem Dev.jdCfgHs_lt (d : Dev) (k : Nat) : d.get (Fld.jdCfgHs k) < 2 := d.get_lt _

/-- What a jack starts or ends at its detector stays within the fields of both. -/
theorem Dev.Changes.within_hsFields {ps : List Part} {d t : Dev} {h : Nat} (hh : h < 2)
    (hch : d.Changes ps (detectFields h ++ buttonFields h) t) : d.Changes ps hsFields t := hch.widen (hsFields_within h hh)

theorem Dev.hsStart_changes (d : Dev) {h : Nat} (hh : h < 2) : d.Changes [.hsets, .inp, .intc] hsFields (d.hsStart h) :=
  .within_hsFields hh (.hsStart (.refl ..) (.inl (by simp)) (by simp) (List.subset_append_left ..))

theorem Dev.hsRemoved_changes (d : Dev) (k : Nat) : d.Changes [.hsets, .inp, .intc] hsFields (d.hsRemoved k) := by
  have hhs {h : Nat} : mayChangeHs h [.hsets, .inp, .intc] := .inl (by simp)
  exact .within_hsFields (d.jdCfgHs_lt k) (.dropDecode (.hsReport (.hsAbort (.refl ..) hhs (by simp) (by simp)
    (List.subset_append_left ..)) (by simp) (List.subset_append_right ..)) hhs)

theorem Dev.jackFollowed_changes (d : Dev) (k : Nat) (ins : Bool) :
    d.Changes [.clk, .hsets, .inp, .intc, .outs, .pwr, .usb] jackFollowFields (d.jackFollowed k ins) := by
  have hmute : jackMuteFields ⊆ jackFollowFields := by simp [jackFollowFields]
  have hhs : hsFields ⊆ jackFollowFields := by simp [jackFollowFields]
  have hwake : wakeFields ⊆ jackFollowFields := by simp [jackFollowFields]
  unfold Dev.jackFollowed
  extract_lets t1 t2
  have h1 : d.Changes [.clk, .hsets, .inp, .intc, .outs, .pwr, .usb] jackFollowFields t1 :=
    .jackMutes (.refl ..) (by simp) hmute
  have h2 : t1.Changes [.hsets, .inp, .intc] hsFields t2 :=
    .of_ite (.of_ite (t1.hsStart_changes (t1.jdCfgHs_lt k)) (.refl ..)) (t1.hsRemoved_changes k)
  exact .usbWakeUp (.wakeEvent (h1.trans (h2.mono (by simp) fun _ m => hhs m)) (by simp) (by simp) (by simp) hwake)
    (by simp)

theorem Dev.jackNoted_changes (d : Dev) {k : Nat} (hk : k < 4) : d.Changes [.intc]
    [Fld.jackEventsInsert.at k, Fld.jackEventsRemove.at k, Fld.jackStatusInserted.at k] (d.jackNoted k) := by
  unfold Dev.jackNoted
  extract_lets t
  have ht : d.Changes [.intc] [Fld.jackEventsInsert.at k, Fld.jackEventsRemove.at k, Fld.jackStatusInserted.at k] t :=
    .putBit_at (.refl ..) (by simp) (show 0 + k ≤ 3 by omega)
  exact .of_ite (.happenAt_at ht (by simp) (by simp)) (.happenAt_at ht (by simp) (by simp))

theorem Dev.jackChange_changes (d : Dev) {k : Nat} (hk : k < 4) :
    d.Changes [.clk, .hsets, .inp, .intc, .outs, .pwr, .usb]
      ([Fld.jackEventsInsert.at k, Fld.jackEventsRemove.at k, Fld.jackStatusInserted.at k] ++ jackFollowFields)
      (d.jackChange k) := by
  rw [d.jackChange_eq]
  refine .of_ite (.refl ..) (((d.jackNoted_changes hk).mono (by simp) fun _ m => List.mem_append_left _ m).trans ?_)
  exact (Dev.jackFollowed_changes _ k _).mono (fun _ => id) fun _ m => List.mem_append_right _ m

end Sys2Proof.Machine

/-! A host's writes to the registers of jacks and detectors (R248, R250, R251, R254): each is its register's own operation. -/
namespace Sys2Proof.Machine

/-- The registers that a host writes to set a jack or a detector take no staged words (R118). -/
theorem rwtMask_jack : (∀ k < 4, rwtMask (Reg.jdCfg k) = 0) ∧
    ∀ h < 2, rwtMask (Reg.hsCtrl h) = 0 ∧ rwtMask (Reg.hsBtncfg h) = 0 := by
  decide +kernel

/-- A write to block JACK that is not staged falls to the blocks told apart last (R7, R27). -/
theorem Dev.regWrite_jack (d : Dev) {env : Env} {ag : Agent} {a : Nat} {v : Word} (ha : a / 0x10000 = 0x8A)
    (hm : rwtMask a = 0) : d.regWrite env ag a v = d.miscWrite env ag a v := by
  have htumb : a ≠ Reg.tumbCtrl := fun e => absurd (e ▸ ha) (by decide)
  have hhinge : a ≠ Reg.hingeCtrl := fun e => absurd (e ▸ ha) (by decide)
  simp [Dev.regWrite, hm, ha, htumb, hhinge]

theorem Dev.miscWrite_jdCfg (d : Dev) {env : Env} {ag : Agent} {k : Nat} {v : Word} (hk : k < 4) :
    d.miscWrite env ag (Reg.jdCfg k) v = d.jdWrite ag k v := by
  interval_cases k
  all_goals rfl

theorem Dev.miscWrite_hsCtrl (d : Dev) {env : Env} {ag : Agent} {h : Nat} {v : Word} (hh : h < 2) :
    d.miscWrite env ag (Reg.hsCtrl h) v = d.hsCtrl h v := by
  interval_cases h
  all_goals rfl

theorem Dev.miscWrite_hsBtncfg (d : Dev) {env : Env} {ag : Agent} {h : Nat} {v : Word} (hh : h < 2) :
    d.miscWrite env ag (Reg.hsBtncfg h) v = d.btnCfg ag h v := by
  interval_cases h
  all_goals simp (disch := decide) only [Dev.miscWrite, if_neg, if_pos]

/-- JD_CFG_WRITE is the write of JDk_CFG (R248, R249). -/
theorem State.hostReg_jdCfg (s : State) {k : Nat} {v : Word} (hk : k < 4) (h : s.dev.hostReady = true) :
    s.hostReg (Reg.jdCfg k) v = s.on (·.jdWrite .host k v) := by
  have hm : rwtMask (Reg.jdCfg k) = 0 := rwtMask_jack.1 k hk
  have hch : s.dev.Changes [.outs] _ (s.dev.jdWrite .host k v) := .jdWrite (.refl ..) hk (by simp) (List.Subset.refl _)
  have e : s.dev.regWrite Env.quiet .host (Reg.jdCfg k) v = s.dev.jdWrite .host k v :=
    (s.dev.regWrite_jack (by unfold Reg.jdCfg; omega) hm).trans (s.dev.miscWrite_jdCfg hk)
  exact s.hostReg_analogue h (by unfold Reg.jdCfg; omega) (by unfold Reg.jdCfg; omega) (by unfold Reg.jdCfg; omega) hm e
    hch (by simp) (by simp)

/-- A write of HSh_CTRL whose operation is a detection's start or end (R250, R251). -/
theorem State.hostReg_hsCtrl (s : State) {h : Nat} {v : Word} {f : Dev → Dev} (hh : h < 2) (hready : s.dev.hostReady = true)
    (hv : s.dev.hsCtrl h v = f s.dev) (hf : s.dev.Changes [.hset h, .inp, .intc] (detectFields h) (f s.dev)) :
    s.hostReg (Reg.hsCtrl h) v = s.on f := by
  have hm : rwtMask (Reg.hsCtrl h) = 0 := (rwtMask_jack.2 h hh).1
  have e : s.dev.regWrite Env.quiet .host (Reg.hsCtrl h) v = f s.dev :=
    ((s.dev.regWrite_jack (by unfold Reg.hsCtrl; omega) hm).trans (s.dev.miscWrite_hsCtrl hh)).trans hv
  exact s.hostReg_analogue hready (by unfold Reg.hsCtrl; omega) (by unfold Reg.hsCtrl; omega) (by unfold Reg.hsCtrl; omega)
    hm e hf (by simp) (by simp)

/-- HS_START is the write of HSh_CTRL.start (R250). -/
theorem State.hostReg_hsStart (s : State) {h : Nat} (hh : h < 2) (hready : s.dev.hostReady = true) :
    s.hostReg (Reg.hsCtrl h) 1 = s.on (·.hsStart h) :=
  s.hostReg_hsCtrl hh hready rfl (.hsStart (.refl ..) (.inr (by simp)) (by simp) (List.Subset.refl _))

/-- HS_ABORT is the write of HSh_CTRL.abort (R251). -/
theorem State.hostReg_hsAbort (s : State) {h : Nat} (hh : h < 2) (hready : s.dev.hostReady = true) :
    s.hostReg (Reg.hsCtrl h) 2 = s.on (·.hsAbort h) :=
  s.hostReg_hsCtrl hh hready rfl (.hsAbort (.refl ..) (.inr (by simp)) (by simp) (by simp) (List.Subset.refl _))

/-- BTNCFG_WRITE is the write of HSh_BTNCFG (R254). -/
theorem State.hostReg_btnCfg (s : State) {h : Nat} {v : Word} (hh : h < 2) (hready : s.dev.hostReady = true) :
    s.hostReg (Reg.hsBtncfg h) v = s.on (·.btnCfg .host h v) := by
  have hm : rwtMask (Reg.hsBtncfg h) = 0 := (rwtMask_jack.2 h hh).2
  have hch : s.dev.Changes [] _ (s.dev.btnCfg .host h v) := .btnCfg (.refl ..) (List.Subset.refl _)
  have e : s.dev.regWrite Env.quiet .host (Reg.hsBtncfg h) v = s.dev.btnCfg .host h v :=
    (s.dev.regWrite_jack (by unfold Reg.hsBtncfg; omega) hm).trans (s.dev.miscWrite_hsBtncfg hh)
  exact s.hostReg_analogue hready (by unfold Reg.hsBtncfg; omega) (by unfold Reg.hsBtncfg; omega)
    (by unfold Reg.hsBtncfg; omega) hm e hch (by simp) (by simp)

end Sys2Proof.Machine

/-! The frames of the commands of the jacks, headset detectors and buttons. -/
namespace Sys2Proof.Machine

/-- Settles O33: each command acts on the device alone, and its operation's frame lies within the one stated; the writes of a
host are their registers' own operations. -/
theorem jackCommandsFrame : Obligations.JackCommandsFrame := by
  have hhs {h : Nat} {ps : List Part} : mayChangeHs h (.hset h :: ps) := .inr (List.mem_cons_self ..)
  unfold Obligations.JackCommandsFrame
  refine ⟨fun s t k high e => .of_next e (.jackRaw (.refl ..) k.isLt hhs (by simp)),
    fun s t k e => .of_next e ((s.dev.jackChange_changes k.isLt).mono (fun _ => id) ?_),
    fun s t k v e ⟨h, _⟩ => .of_next_hostReg e (s.hostReg_jdCfg k.isLt h) (.jdWrite (.refl ..) k.isLt (by simp) ?_),
    fun s t h e ⟨hready, _⟩ => .of_next_hostReg e (s.hostReg_hsStart h.isLt hready)
      (.hsStart (.refl ..) hhs (by simp) (List.Subset.refl _)),
    fun s t h e ⟨hready, _⟩ => .of_next_hostReg e (s.hostReg_hsAbort h.isLt hready)
      (.hsAbort (.refl ..) hhs (by simp) (by simp) (List.Subset.refl _)),
    fun s t h e => .of_next e (.hsSettleEnd (.refl ..) hhs),
    fun s t h z e => .of_next e (.hsDetectDone (.refl ..) hhs (by simp) (by simp) (by simp [detectFields])),
    fun s t h level reached e => .of_next e (.buttonSample (.refl ..) hhs (by simp) (by simp [buttonFields])),
    fun s t h v e ⟨hready, _⟩ => .of_next_hostReg e (s.hostReg_btnCfg h.isLt hready)
      (.btnCfg (.refl ..) (List.Subset.refl _))⟩
  case refine_1 =>
    clear * -
    revert k
    decide +kernel
  case refine_2 =>
    clear * -
    revert k
    decide +kernel

end Sys2Proof.Machine

/-! The commands of the jacks, headset detectors and buttons (chapter 08): what each leaves. -/
namespace Sys2Proof.Machine

variable {h k : Nat}

@[simp] theorem Dev.get_modHs (d : Dev) (h : Nat) (f : Hs → Hs) (g : Fld) : (d.modHs h f).get g = d.get g := rfl

@[simp] theorem Dev.get_dropDecode (d : Dev) (h : Nat) (g : Fld) : (d.dropDecode h).get g = d.get g := rfl

@[simp] theorem Dev.hsd_modHs_same (d : Dev) (h : Nat) (f : Hs → Hs) : (d.modHs h f).hsd h = f (d.hsd h) :=
  SMap.get_set_same ..

@[simp] theorem Dev.hsd_dropDecode_same (d : Dev) (h : Nat) :
    (d.dropDecode h).hsd h = { d.hsd h with dec := 4, run := 0 } := SMap.get_set_same ..

@[simp] theorem Dev.hsd_put (d : Dev) (f : Fld) (v h : Nat) : (d.put f v).hsd h = d.hsd h := by
  rw [Dev.hsd, Dev.hsd, show (d.put f v).hs = d.hs by simp]

/-! ### Jacks (R248, R249, R255) -/

theorem Dev.jackRaw_bit (d : Dev) (high : Bool) (hk : k < 4) : (d.jackRaw k high).bit Fld.jackStatusRaw k = high := by
  have hraw := d.bit_putBit_same (f := Fld.jackStatusRaw) high (show 4 + k ≤ 7 by omega) (by decide)
  unfold Dev.jackRaw
  dsimp only
  split
  · exact hraw
  · exact hraw

theorem jackFollowFields_apart : ∀ f ∈ jackFollowFields,
    ∀ g ∈ [Fld.jackStatusInserted, Fld.jackEventsInsert, Fld.jackEventsRemove], f.apart g = true := by
  decide +kernel

/-- A debounced change shows in JACK_STATUS and sets its event, whatever follows (R249). -/
theorem Dev.jackChange_spec (d : Dev) (hk : k < 4) (hen : d.get (Fld.jdCfgEn k) ≠ 0)
    (hraw : d.rawIn k ≠ d.bit Fld.jackStatusInserted k) :
    (d.jackChange k).bit Fld.jackStatusInserted k = d.rawIn k ∧
      (d.jackChange k).bit (if d.rawIn k then Fld.jackEventsInsert else Fld.jackEventsRemove) k = true := by
  have e : d.jackChange k = (d.jackNoted k).jackFollowed k (d.rawIn k) := by
    rw [d.jackChange_eq, if_neg (by simp [Dev.is, hen, hraw])]
  have hkeep {g : Fld} (hg : g ∈ [Fld.jackStatusInserted, Fld.jackEventsInsert, Fld.jackEventsRemove]) :
      (d.jackChange k).bit g k = (d.jackNoted k).bit g k := by
    rw [e, Dev.bit, (Dev.jackFollowed_changes _ k _).get_apart fun f hf => jackFollowFields_apart f hf g hg, Dev.bit]
  have hins := d.bit_putBit_same (f := Fld.jackStatusInserted) (d.rawIn k) (show 0 + k ≤ 3 by omega) (by decide)
  rw [hkeep (by simp), hkeep (by split <;> simp), Dev.jackNoted]
  split
  · exact ⟨(Dev.bit_happenAt_ne _ (by decide)).trans hins,
      Dev.bit_happenAt_same _ (show 0 + k ≤ 3 by omega) (by decide)⟩
  · exact ⟨(Dev.bit_happenAt_ne _ (by decide)).trans hins,
      Dev.bit_happenAt_same _ (show 4 + k ≤ 7 by omega) (by decide)⟩

/-- The word of JDk_CFG with these parts: the five bits from 27 up, the thresholds and the debounce (R255). -/
def jdWord (top hi lo db : Nat) : Word := BitVec.ofNat 32 (top * 2 ^ 27 + hi * 2 ^ 20 + lo * 2 ^ 16 + db)

theorem jdWord_fields {top hi lo db : Nat} (htop : top < 2 ^ 5) (hhi : hi < 2 ^ 4) (hlo : lo < 2 ^ 4) (hdb : db < 2 ^ 9)
    (k : Nat) :
    (Fld.jdCfgHiTh k).of (jdWord top hi lo db) = hi ∧ (Fld.jdCfgLoTh k).of (jdWord top hi lo db) = lo ∧
      (Fld.jdCfgDebounce k).of (jdWord top hi lo db) = db ∧ (Fld.jdCfgEn k).of (jdWord top hi lo db) = top / 2 ^ 4 := by
  simp only [jdWord, Fld.of, Fld.width, Fld.jdCfgHiTh, Fld.jdCfgLoTh, Fld.jdCfgDebounce, Fld.jdCfgEn, bitsOf,
    BitVec.toNat_ofNat]
  omega

/-- The high threshold that JDk_CFG stores, and the low one below it (R248). -/
def jdThresholds (hi lo : Nat) : Nat × Nat := if hi ≤ lo then (max hi 1, max hi 1 - 1) else (hi, lo)

/-- What a write of JDk_CFG stores (R248, R249, R255). -/
def jdStored (k : Nat) (v : Word) : Word :=
  let th := jdThresholds ((Fld.jdCfgHiTh k).of v) ((Fld.jdCfgLoTh k).of v)
  jdWord (bitsOf v.toNat 27 5) th.1 th.2 (min ((Fld.jdCfgDebounce k).of v) 500)

/-- What a write of JDk_CFG does beside storing its word writes no JDk_CFG. -/
theorem jdWrite_apart : ∀ k < 4, ∀ f ∈ Fld.jackStatusInserted.at k :: (jackMuteFields ++ violFields [3]),
    f.addr ≠ Reg.jdCfg k := by
  decide +kernel

theorem Dev.get_jdWrite (d : Dev) (ag : Agent) (v : Word) {f : Fld} (hk : k < 4) (hf : f.addr = Reg.jdCfg k) :
    (d.jdWrite ag k v).get f = f.of (jdStored k v) := by
  unfold Dev.jdWrite
  extract_lets n hi lo bad hi' lo' db t1 t2
  have hword : t1.get f = f.of (jdStored k v) := by
    have hth : (hi', lo') = jdThresholds hi lo := by
      simp only [hi', lo', bad, jdThresholds, decide_eq_true_eq]
      split
      · rfl
      · rfl
    obtain ⟨hhi, hlo⟩ := Prod.ext_iff.mp hth
    have hstored : jdStored k v = jdWord (bitsOf n 27 5) hi' lo' db := by
      rw [show hi' = _ from hhi, show lo' = _ from hlo]
      rfl
    rw [hstored]
    exact d.get_wr_of_addr _ hf
  have hrest : t1.Changes [.outs] (Fld.jackStatusInserted.at k :: (jackMuteFields ++ violFields [3]))
      (if t2.is (Fld.jdCfgEn k) then t2 else t2.dropBit Fld.jackStatusInserted k).jackMutes := by
    have h2 : t1.Changes [.outs] (Fld.jackStatusInserted.at k :: (jackMuteFields ++ violFields [3])) t2 :=
      .of_ite (.viol (.refl ..) (by simp)) (.refl ..)
    exact .jackMutes (.of_ite h2 (.putBit_at (b := false) h2 (by simp) (show 0 + k ≤ 3 by omega))) (by simp) (by simp)
  rw [hrest.get_eq fun g hg => hf ▸ jdWrite_apart k hk g hg, hword]

/-- A write of JDk_CFG stores its fields, the thresholds and the debounce within their ranges (R248, R249). -/
theorem Dev.jdWrite_spec (d : Dev) (ag : Agent) (v : Word) (hk : k < 4) :
    (d.jdWrite ag k v).get (Fld.jdCfgHiTh k) = (jdThresholds ((Fld.jdCfgHiTh k).of v) ((Fld.jdCfgLoTh k).of v)).1 ∧
      (d.jdWrite ag k v).get (Fld.jdCfgLoTh k) = (jdThresholds ((Fld.jdCfgHiTh k).of v) ((Fld.jdCfgLoTh k).of v)).2 ∧
      (d.jdWrite ag k v).get (Fld.jdCfgDebounce k) = min ((Fld.jdCfgDebounce k).of v) 500 ∧
      (d.jdWrite ag k v).get (Fld.jdCfgEn k) = (Fld.jdCfgEn k).of v := by
  have hhi : (Fld.jdCfgHiTh k).of v < 2 ^ 4 := Fld.of_lt _ v
  have hlo : (Fld.jdCfgLoTh k).of v < 2 ^ 4 := Fld.of_lt _ v
  have htop : bitsOf v.toNat 27 5 / 2 ^ 4 = (Fld.jdCfgEn k).of v := by
    simp only [Fld.of, Fld.width, Fld.jdCfgEn, bitsOf]
    omega
  generalize hth : jdThresholds ((Fld.jdCfgHiTh k).of v) ((Fld.jdCfgLoTh k).of v) = th
  have hlt : th.1 < 2 ^ 4 ∧ th.2 < 2 ^ 4 := by
    rw [← hth, jdThresholds]
    split
    · exact ⟨show max _ 1 < 2 ^ 4 by omega, show max _ 1 - 1 < 2 ^ 4 by omega⟩
    · exact ⟨hhi, hlo⟩
  have hget {f : Fld} (hf : f.addr = Reg.jdCfg k) := d.get_jdWrite ag v hk hf
  rw [hget rfl, hget rfl, hget rfl, hget rfl, jdStored, hth, ← htop]
  exact jdWord_fields (bitsOf_lt _ _ _) hlt.1 hlt.2 (by omega) k

/-! ### Headset detection (R250, R251) -/

theorem Dev.hsBias_changes (d : Dev) (h : Nat) (b : Bool) : d.Changes [.inp] [Fld.micbStatusDriving] (d.hsBias h b) :=
  .hsBias (.refl ..) (by simp) (by simp)

/-- The bias output's part is what the detection makes of it; what it shows of that is a field (R252). -/
theorem Dev.hsBias_busy (d : Dev) (h : Nat) :
    (d.hsBias h true).inp.micbBusy = orBit d.inp.micbBusy (d.get (Fld.hsCfgMicb h)) :=
  Dev.each_keeps (fun t => t.inp.micbBusy) _ (fun t n => by simp) _ _

theorem hsRes_ne_micb (h : Nat) : Reg.hsRes h ≠ Reg.micbStatus := by
  unfold Reg.hsRes Reg.micbStatus
  omega

theorem Dev.get_hsBias (d : Dev) (h : Nat) (b : Bool) {g : Fld} (hg : g.addr ≠ Reg.micbStatus) :
    (d.hsBias h b).get g = d.get g :=
  (d.hsBias_changes h b).get_eq fun f hf => by
    rw [List.mem_singleton.mp hf]
    exact hg.symm

/-- A detection that nothing stands against runs, and its bias output measures (R250, R252). -/
theorem Dev.hsStart_runs (d : Dev) (hrel : d.released = false) (hrun : d.get (Fld.hsResRunning h) = 0)
    (hon : d.on (micbDom (d.get (Fld.hsCfgMicb h))) = true) (hl : d.pinHiz 4 = false) (hr : d.pinHiz 5 = false) :
    (d.hsStart h).get (Fld.hsResRunning h) = 1 ∧ ((d.hsStart h).hsd h).avg = false ∧
      bitOf (d.hsStart h).inp.micbBusy (d.get (Fld.hsCfgMicb h)) = true := by
  generalize ht : ((d.put (Fld.hsResRunning h) 1).modHs h (fun x => { x with avg := false })).dropDecode h = t
  have e : d.hsStart h = t.hsBias h true := by
    rw [← ht]
    simp [Dev.hsStart, Dev.is, hrel, hrun, hon, hl, hr]
  have hmicb : t.get (Fld.hsCfgMicb h) = d.get (Fld.hsCfgMicb h) := by
    rw [← ht, Dev.get_dropDecode, Dev.get_modHs]
    exact d.get_put_ne _ _ _ (show Reg.hsCfg h ≠ Reg.hsRes h by unfold Reg.hsCfg Reg.hsRes; omega)
  rw [e, t.get_hsBias h true (hsRes_ne_micb h), (t.hsBias_changes h true).hsd_eq (by simp) (by simp), t.hsBias_busy, hmicb]
  refine ⟨?_, ?_, orBit_testBit ..⟩
  · rw [← ht, Dev.get_dropDecode, Dev.get_modHs]
    exact d.get_put_same _ _ ⟨Nat.le_refl 27, show 27 < 32 by decide⟩
  · rw [← ht, Dev.hsd_dropDecode_same, Dev.hsd_modHs_same]

/-- Without its bias output's domain a detection gives NO_BIAS (R250). -/
theorem Dev.hsStart_noBias (d : Dev) (hrel : d.released = false) (hrun : d.get (Fld.hsResRunning h) = 0)
    (hoff : d.on (micbDom (d.get (Fld.hsCfgMicb h))) = false) : (d.hsStart h).get (Fld.hsResType h) = HsType.noBias := by
  have e : d.hsStart h = d.put (Fld.hsResType h) HsType.noBias := by simp [Dev.hsStart, Dev.is, hrel, hrun, hoff]
  rw [e]
  exact d.get_put_same _ _ ⟨show 28 ≤ 31 by decide, show 31 < 32 by decide⟩

/-- The end of a detection leaves its result and the event (R251). -/
theorem Dev.hsEnd_spec (d : Dev) {ty : Nat} (hh : h < 2) (hty : ty < 16) : (d.hsEnd h ty).get (Fld.hsResRunning h) = 0 ∧
    (d.hsEnd h ty).get (Fld.hsResType h) = ty ∧ (d.hsEnd h ty).bit Fld.jackEventsHsDone h = true := by
  have hapart : (Fld.hsResType h).apart (Fld.hsResRunning h) = true := by
    simp [Fld.apart, Fld.hsResType, Fld.hsResRunning]
  have hres {g : Fld} (hg : g.addr = Reg.hsRes h) : (d.hsEnd h ty).get g =
      ((d.put (Fld.hsResRunning h) 0).put (Fld.hsResType h) ty).get g := by
    have hevents : g.addr ≠ Reg.jackEvents := by
      rw [hg]
      unfold Reg.hsRes Reg.jackEvents
      omega
    rw [Dev.hsEnd, Dev.get_happenAt_ne _ _ _ _ hevents, Dev.get_hsBias _ h false (hg ▸ hsRes_ne_micb h), Dev.get_modHs]
  rw [hres rfl, hres rfl, Dev.get_put_apart _ _ hapart]
  refine ⟨d.get_put_same _ _ ⟨Nat.le_refl 27, show 27 < 32 by decide⟩, ?_,
    Dev.bit_happenAt_same _ (show 8 + h ≤ 9 by omega) (by decide)⟩
  exact (Dev.get_put_same _ _ _ ⟨show 28 ≤ 31 by decide, show 31 < 32 by decide⟩).trans (Nat.mod_eq_of_lt hty)

theorem Dev.hsAbort_running (d : Dev) (hrun : d.get (Fld.hsResRunning h) ≠ 0) : d.hsAbort h = d.hsEnd h HsType.aborted :=
  if_pos (bne_iff_ne.mpr hrun)

theorem Dev.hsSettleEnd_averages (d : Dev) (hrun : d.get (Fld.hsResRunning h) ≠ 0) :
    ((d.hsSettleEnd h).hsd h).avg = true := by
  have e : d.hsSettleEnd h = d.modHs h (fun x => { x with avg := true }) := if_pos (bne_iff_ne.mpr hrun)
  rw [e, Dev.hsd_modHs_same]

theorem Dev.hsType_lt (d : Dev) (h z : Nat) : d.hsType h z < 16 := by
  unfold Dev.hsType
  split_ifs <;> decide

/-- A detection that averages ends with the type of |Z| and |Z| itself (R251). -/
theorem Dev.hsDetectDone_spec (d : Dev) (z : Nat) (hh : h < 2) (hrun : d.get (Fld.hsResRunning h) ≠ 0)
    (havg : (d.hsd h).avg = true) : (d.hsDetectDone h z).get (Fld.hsResRunning h) = 0 ∧
      (d.hsDetectDone h z).get (Fld.hsResType h) = d.hsType h z ∧ (d.hsDetectDone h z).get (Fld.hsResZ h) = min z 4095 ∧
      (d.hsDetectDone h z).bit Fld.jackEventsHsDone h = true := by
  have e : d.hsDetectDone h z = (d.put (Fld.hsResZ h) (min z 4095)).hsEnd h (d.hsType h z) := by
    simp [Dev.hsDetectDone, Dev.is, hrun, havg]
  have hz : ∀ h < 2, ∀ f ∈ detectFields h, f.apart (Fld.hsResZ h) = true := by decide
  have hend (t : Dev) (ty : Nat) : t.Changes [.hset h, .inp, .intc] (detectFields h) (t.hsEnd h ty) :=
    .hsEnd (.refl ..) (.inr (by simp)) (by simp) (by simp) (List.Subset.refl _)
  obtain ⟨hrunning, htype, hdone⟩ := (d.put (Fld.hsResZ h) (min z 4095)).hsEnd_spec hh (d.hsType_lt h z)
  rw [e]
  refine ⟨hrunning, htype, ?_, hdone⟩
  rw [(hend _ _).get_apart (hz h hh), d.get_put_same _ _ ⟨show 0 ≤ 11 by decide, show 11 < 32 by decide⟩]
  exact Nat.mod_eq_of_lt (show min z 4095 < 2 ^ 12 by omega)

/-! ### Buttons (R253, R254) -/

theorem Dev.hsButton_putLevel (d : Dev) (h v level : Nat) :
    (d.put (Fld.hsBtnstatLevel h) v).hsButton h level = d.hsButton h level := by
  have hne : Reg.hsBtncfg h ≠ Reg.hsBtnstat h := by
    unfold Reg.hsBtncfg Reg.hsBtnstat
    omega
  have hget {g : Fld} (hg : g.addr = Reg.hsBtncfg h) : (d.put (Fld.hsBtnstatLevel h) v).get g = d.get g :=
    d.get_put_ne _ _ _ (hg.trans_ne hne)
  simp only [Dev.hsButton, hget (g := Fld.hsBtncfgTh0 h) rfl, hget (g := Fld.hsBtncfgTh1 h) rfl,
    hget (g := Fld.hsBtncfgTh2 h) rfl, hget (g := Fld.hsBtncfgTh3 h) rfl]

/-- The device once a sample of level `level` is decoded, for the `run`th time in a row (R253). -/
def Dev.sampled (d : Dev) (h level run : Nat) : Dev :=
  (d.put (Fld.hsBtnstatLevel h) level).modHs h (fun x => { x with dec := d.hsButton h level, run := run })

/-- A sample that the detector decodes is noted, and reported once it has held (R253). -/
theorem Dev.buttonSample_decoded (d : Dev) (level : Nat) {reached : Bool} (hdec : d.hsDecodes h reached = true) :
    ∃ run, d.buttonSample h level reached = d.sampled h (min level 255) run ∨ d.buttonSample h level reached =
      (d.sampled h (min level 255) run).hsReport h (d.hsButton h (min level 255)) := by
  generalize hrun : (if (d.hsd h).dec = d.hsButton h (min level 255) ∧ 0 < (d.hsd h).run then min 64 ((d.hsd h).run + 1)
    else 1) = run
  have e : d.buttonSample h level reached = if (d.sampled h (min level 255) run).get (Fld.hsCfgBtnDb h) ≤ run then
      (d.sampled h (min level 255) run).hsReport h (d.hsButton h (min level 255)) else d.sampled h (min level 255) run := by
    simp only [Dev.buttonSample, hdec, Bool.not_true, Bool.false_eq_true, if_false, Dev.hsButton_putLevel, Dev.hsd_put, hrun]
    rfl
  refine ⟨run, ?_⟩
  rw [e]
  split
  · exact .inr rfl
  · exact .inl rfl

theorem Dev.sampled_spec (d : Dev) (run : Nat) {level : Nat} (hlevel : level < 256) :
    (d.sampled h level run).get (Fld.hsBtnstatLevel h) = level ∧ ((d.sampled h level run).hsd h).dec = d.hsButton h level := by
  rw [Dev.sampled, Dev.get_modHs, Dev.hsd_modHs_same]
  refine ⟨?_, rfl⟩
  exact (d.get_put_same _ _ ⟨show 0 ≤ 7 by decide, show 7 < 32 by decide⟩).trans (Nat.mod_eq_of_lt hlevel)

theorem Dev.buttonSample_spec (d : Dev) (level : Nat) {reached : Bool} (hh : h < 2) (hdec : d.hsDecodes h reached = true) :
    (d.buttonSample h level reached).get (Fld.hsBtnstatLevel h) = min level 255 ∧
      ((d.buttonSample h level reached).hsd h).dec = d.hsButton h (min level 255) := by
  obtain ⟨run, e | e⟩ := d.buttonSample_decoded level hdec
  · rw [e]
    exact d.sampled_spec run (by omega)
  · have hapart : ∀ h < 2, ∀ f ∈ buttonFields h, f.apart (Fld.hsBtnstatLevel h) = true := by decide
    have hch (t : Dev) (b : Nat) : t.Changes [.intc] (buttonFields h) (t.hsReport h b) :=
      .hsReport (.refl ..) (by simp) (List.Subset.refl _)
    rw [e, (hch _ _).get_apart (hapart h hh), (hch _ _).hsd_eq (by simp) (by simp)]
    exact d.sampled_spec run (by omega)

/-- Where the detector does not decode, a value not yet reported is discarded (R253). -/
theorem Dev.buttonSample_suspended (d : Dev) (level : Nat) {reached : Bool} (hdec : d.hsDecodes h reached = false) :
    ((d.buttonSample h level reached).hsd h).dec = 4 ∧ ((d.buttonSample h level reached).hsd h).run = 0 := by
  have e : d.buttonSample h level reached = d.dropDecode h := by simp [Dev.buttonSample, hdec]
  rw [e, Dev.hsd_dropDecode_same]
  exact ⟨rfl, rfl⟩

/-- The word of HSh_BTNCFG with these thresholds (R258). -/
def btnWord (t0 t1 t2 t3 : Nat) : Word := BitVec.ofNat 32 (t3 * 2 ^ 24 + t2 * 2 ^ 16 + t1 * 2 ^ 8 + t0)

theorem btnWord_fields {t0 t1 t2 t3 : Nat} (h0 : t0 < 2 ^ 8) (h1 : t1 < 2 ^ 8) (h2 : t2 < 2 ^ 8) (h3 : t3 < 2 ^ 8) (h : Nat) :
    (Fld.hsBtncfgTh0 h).of (btnWord t0 t1 t2 t3) = t0 ∧ (Fld.hsBtncfgTh1 h).of (btnWord t0 t1 t2 t3) = t1 ∧
      (Fld.hsBtncfgTh2 h).of (btnWord t0 t1 t2 t3) = t2 ∧ (Fld.hsBtncfgTh3 h).of (btnWord t0 t1 t2 t3) = t3 := by
  simp only [btnWord, Fld.of, Fld.width, Fld.hsBtncfgTh0, Fld.hsBtncfgTh1, Fld.hsBtncfgTh2, Fld.hsBtncfgTh3, bitsOf,
    BitVec.toNat_ofNat]
  omega

/-- The four thresholds of a word of HSh_BTNCFG strictly ascend (R254). -/
abbrev btnAscends (h : Nat) (v : Word) : Prop := (Fld.hsBtncfgTh0 h).of v < (Fld.hsBtncfgTh1 h).of v ∧
  (Fld.hsBtncfgTh1 h).of v < (Fld.hsBtncfgTh2 h).of v ∧ (Fld.hsBtncfgTh2 h).of v < (Fld.hsBtncfgTh3 h).of v

/-- What a write of HSh_BTNCFG stores (R254). -/
def btnStored (h : Nat) (v : Word) : Word :=
  let t1 := ascend ((Fld.hsBtncfgTh0 h).of v) ((Fld.hsBtncfgTh1 h).of v)
  let t2 := ascend t1 ((Fld.hsBtncfgTh2 h).of v)
  btnWord ((Fld.hsBtncfgTh0 h).of v) t1 t2 (ascend t2 ((Fld.hsBtncfgTh3 h).of v))

theorem Dev.btnCfg_eq (d : Dev) (ag : Agent) (h : Nat) (v : Word) : d.btnCfg ag h v =
    if btnAscends h v then d.wr (Reg.hsBtncfg h) (btnStored h v)
    else (d.wr (Reg.hsBtncfg h) (btnStored h v)).viol 3 ag (Reg.hsBtncfg h) := by
  have hok : (decide (bitsOf v.toNat 0 8 < bitsOf v.toNat 8 8) && decide (bitsOf v.toNat 8 8 < bitsOf v.toNat 16 8) &&
      decide (bitsOf v.toNat 16 8 < bitsOf v.toNat 24 8)) = true ↔ btnAscends h v := by
    simp only [Bool.and_eq_true, decide_eq_true_eq, and_assoc]
    rfl
  exact if_congr hok rfl rfl

theorem ascend_lt {below th : Nat} (h : th < 2 ^ 8) : ascend below th < 2 ^ 8 := by
  unfold ascend
  split <;> omega

/-- A write of HSh_BTNCFG stores the thresholds, each above the one below it or 255 (R254). -/
theorem Dev.btnCfg_thresholds (d : Dev) (ag : Agent) (v : Word) (hh : h < 2) :
    let t1 := ascend ((Fld.hsBtncfgTh0 h).of v) ((Fld.hsBtncfgTh1 h).of v)
    let t2 := ascend t1 ((Fld.hsBtncfgTh2 h).of v)
    (d.btnCfg ag h v).get (Fld.hsBtncfgTh0 h) = (Fld.hsBtncfgTh0 h).of v ∧ (d.btnCfg ag h v).get (Fld.hsBtncfgTh1 h) = t1 ∧
      (d.btnCfg ag h v).get (Fld.hsBtncfgTh2 h) = t2 ∧
      (d.btnCfg ag h v).get (Fld.hsBtncfgTh3 h) = ascend t2 ((Fld.hsBtncfgTh3 h).of v) := by
  have hviol : ∀ h < 2, ∀ f ∈ violFields [3], f.addr ≠ Reg.hsBtncfg h := by decide
  have hget {g : Fld} (hg : g.addr = Reg.hsBtncfg h) : (d.btnCfg ag h v).get g = g.of (btnStored h v) := by
    rw [d.btnCfg_eq, ← d.get_wr_of_addr (btnStored h v) hg]
    split
    · rfl
    · exact (Dev.changes_viol (ps := []) fun _ => id).get_eq fun f hf => hg ▸ hviol h hh f hf
  rw [hget rfl, hget rfl, hget rfl, hget rfl]
  exact btnWord_fields (Fld.of_lt _ v) (ascend_lt (Fld.of_lt _ v)) (ascend_lt (Fld.of_lt _ v)) (ascend_lt (Fld.of_lt _ v)) h

/-- Thresholds that do not strictly ascend count in category 3 (R254). -/
theorem Dev.btnCfg_count (d : Dev) (ag : Agent) (v : Word) (hh : h < 2) : (d.btnCfg ag h v).get (Fld.violCntCount 3) =
    if btnAscends h v then d.get (Fld.violCntCount 3) else min (d.get (Fld.violCntCount 3) + 1) 65535 := by
  have hne : Reg.violCnt 3 ≠ Reg.hsBtncfg h := by
    unfold Reg.violCnt Reg.hsBtncfg
    omega
  have hstored : (d.wr (Reg.hsBtncfg h) (btnStored h v)).get (Fld.violCntCount 3) = d.get (Fld.violCntCount 3) :=
    d.get_wr_ne _ _ _ hne
  rw [d.btnCfg_eq]
  split
  · exact hstored
  · rw [Dev.get_viol_same _ _ _ (by decide), hstored]

end Sys2Proof.Machine

/-! The statements of the commands of the jacks, headset detectors and buttons, and of the button thresholds. -/
namespace Sys2Proof.Machine

/-- Settles O48: the write is HSh_BTNCFG's own, which raises the thresholds and counts. -/
theorem buttonThresholdsAscend : Obligations.ButtonThresholdsAscend := by
  intro s h v hready _ up t0 t1 t2 t3
  refine ⟨_, rfl, ?_⟩
  obtain ⟨h0, h1, h2, h3⟩ := s.dev.btnCfg_thresholds .host v h.isLt
  rw [s.hostReg_btnCfg h.isLt hready, State.on_dev]
  exact ⟨h0, h1, h2, h3, s.dev.btnCfg_count .host v h.isLt⟩

/-- Settles O14: each clause is what the command's operation on the device leaves, read back; the writes of a host are their
registers' own operations. -/
theorem jackCommandsComplete : Obligations.JackCommandsComplete := by
  unfold Obligations.JackCommandsComplete
  refine ⟨fun s k high => ⟨_, rfl, s.dev.jackRaw_bit high k.isLt⟩,
    fun s k ⟨hen, hraw⟩ => ⟨_, rfl, s.dev.jackChange_spec k.isLt hen hraw⟩,
    fun s k v hready => ⟨_, rfl, ?_⟩,
    fun s h ⟨hready, hrun, hon, hl, hr⟩ => ⟨_, rfl, ?_⟩,
    fun s h ⟨hready, hrun, hoff⟩ => ⟨_, rfl, ?_⟩,
    fun s h ⟨hready, hrun⟩ => ⟨_, rfl, ?_⟩,
    fun s h hrun => ⟨_, rfl, s.dev.hsSettleEnd_averages hrun⟩,
    fun s h z ⟨hrun, havg⟩ => ⟨_, rfl, s.dev.hsDetectDone_spec z h.isLt hrun havg⟩,
    fun s h level reached hdec => ⟨_, rfl, s.dev.buttonSample_spec level h.isLt hdec⟩,
    fun s h level reached hdec => ⟨_, rfl, s.dev.buttonSample_suspended level hdec⟩,
    fun s h v hready => ⟨_, rfl, ?_⟩⟩
  case refine_1 =>
    rw [s.hostReg_jdCfg k.isLt hready, State.on_dev]
    obtain ⟨hhi, hlo, hrest⟩ := s.dev.jdWrite_spec .host v k.isLt
    refine ⟨hhi.trans ?_, hlo.trans ?_, hrest⟩
    all_goals exact apply_ite _ _ _ _
  case refine_2 =>
    obtain ⟨-, hrel, -⟩ := s.dev.hostReady_iff.mp hready
    rw [s.hostReg_hsStart h.isLt hready, State.on_dev]
    exact s.dev.hsStart_runs hrel hrun hon hl hr
  case refine_3 =>
    obtain ⟨-, hrel, -⟩ := s.dev.hostReady_iff.mp hready
    rw [s.hostReg_hsStart h.isLt hready, State.on_dev]
    exact s.dev.hsStart_noBias hrel hrun hoff
  case refine_4 =>
    rw [s.hostReg_hsAbort h.isLt hready, State.on_dev, s.dev.hsAbort_running hrun]
    exact s.dev.hsEnd_spec h.isLt (by decide)
  case refine_5 =>
    rw [s.hostReg_btnCfg h.isLt hready, State.on_dev]
    exact s.dev.btnCfg_thresholds .host v h.isLt

end Sys2Proof.Machine

/-! What the operations of the serial ports, S/PDIF, the non-PCM monitors, the rate monitors and the converters change (chapters
09 and 10): fields of their unit, of the monitors of its stream and its clock pair, and of its converter group. -/
namespace Sys2Proof.Machine

/-! ### The fields of a unit, a monitor and a group -/

/-- STATUS of a direction (R297). -/
def dirFields (n : Nat) (tx : Bool) : List Fld := [fillF n tx, lockF n tx, stateF n tx]

/-- What a rate monitor shows (R314). -/
def rmonShowFields (m : Nat) : List Fld := [Fld.rmonStatusPeriod m, Fld.rmonStatusRate m, Fld.rmonStatusState m]

/-- What the start or the end of a direction writes: its STATUS and EVENTS, and what the monitors show (R277, R278, R314). -/
def runFields (n : Nat) (tx : Bool) : List Fld :=
  Fld.whole (unitEvents n) :: (dirFields n tx ++ (List.range 13).flatMap rmonShowFields)

/-- What an indication at non-PCM monitor `k` writes to its register (R312, R313). -/
def npFields (k : Nat) : List Fld := [Fld.spdifNpstatCause k, Fld.spdifNpstatMuted k, Fld.spdifNpstatPcmMs k]

/-- What indications at the monitors of unit `n` write (R311 to R313). -/
def npUnitFields (n : Nat) : List Fld :=
  [fillF n false, Fld.spdifEventsNpChange] ++ (List.range 8).flatMap npFields

/-- The counts and the event of R303. -/
def subframeFields : List Fld := [Fld.spdifCount2Parity, Fld.spdifCount3Invalid, Fld.spdifEventsParity]

/-- What a converter group that begins to acquire writes (R318). -/
def acquireFields (g : Nat) : List Fld := [Fld.asrcGCountAcquires g, Fld.asrcGStatusState g]

/-- What a converter group that leaves its lock writes (R318). -/
def unlockFields (g : Nat) : List Fld := [Fld.asrcEventsUnlock, Fld.asrcGCountFades g, Fld.asrcGStatusState g]

/-- What a converter group that fades out writes (R318). -/
def fadeFields (g : Nat) : List Fld := Fld.asrcGRatioRatio g :: unlockFields g

/-- What a declared change of rate writes at a converter group (R318). -/
def groupFields (g : Nat) : List Fld := Fld.asrcGCountAcquires g :: fadeFields g

/-- What a run bit written 1 writes, a refusal included (R270, R277, R314). -/
def startFields (n : Nat) (tx : Bool) : List Fld :=
  [Fld.whole (Reg.portRxframe n), Fld.whole (Reg.portTxframe n), fillF n tx, runF n tx, stateF n tx] ++
    (List.range 13).flatMap rmonShowFields ++ violFields [0]

/-- What a run bit written 0 writes (R278, R313, R318). -/
def stopFields (n : Nat) (tx : Bool) : List Fld :=
  [runF n tx] ++ fadeFields (groupOf n tx) ++ (List.range 8).map Fld.spdifNpstatPcmMs ++ runFields n tx

/-- What a completed receive frame of unit `n` writes (R271, R280, R318). -/
def frameFields (n : Nat) : List Fld :=
  [Fld.asrcGStatusState (groupOf n false), Fld.whole (unitCount n 0)] ++ runFields n false

/-- What the loss of framing of a direction writes (R276, R311, R318). -/
def unframeFields (n : Nat) (tx : Bool) : List Fld := dirFields n tx ++ npUnitFields n ++ unlockFields (groupOf n tx)

/-- What channel status writes (R304). -/
def statusFields : List Fld :=
  Fld.spdifEventsCsChange :: (List.range 6).flatMap (fun w => [Fld.whole (Reg.spdifRxcsa w), Fld.whole (Reg.spdifRxcsb w)])

/-- What a frame at the S/PDIF receiver writes (R301 to R304). -/
def spdifFields : List Fld :=
  [Fld.spdifStatusRxBlock, Fld.whole (unitCount 6 2)] ++ (subframeFields ++ npUnitFields 6) ++ statusFields ++
    unframeFields 6 false ++ frameFields 6 ++ acquireFields 12

/-- What a monitor's declarations and periods write (R311, R315, R318). -/
def rmonFields (m : Nat) : List Fld :=
  rmonShowFields m ++ [Fld.rmonCountGlitches m, Fld.rmonCountRates m, Fld.rmonEvents0Returned, Fld.rmonEvents1Glitch,
    Fld.rmonEvents1Rate, Fld.spdifEventsRateMismatch] ++ (List.range 7).flatMap npUnitFields ++ (List.range 14).flatMap groupFields

/-! ### Units, monitors and groups in range -/

theorem Dev.pairOfDir_lt (d : Dev) {n : Nat} (tx : Bool) (hn : n < 7) : d.pairOfDir n tx < 13 := by
  unfold Dev.pairOfDir
  split_ifs <;> omega

theorem groupOf_lt {n : Nat} (tx : Bool) (hn : n < 7) : groupOf n tx < 14 := by
  unfold groupOf
  split <;> omega

theorem Dev.rmonFollow_lt (d : Dev) {m : Nat} (hm : m < 13) {e : Nat × Bool} (he : e ∈ d.rmonFollow m) : e.1 < 7 := by
  have hdirs : e ∈ d.rmonDirs m := (List.mem_filter.mp he).1
  unfold Dev.rmonDirs at hdirs
  split at hdirs
  · obtain rfl := List.mem_singleton.mp hdirs
    decide
  · have hpair := (List.mem_filter.mp hdirs).1
    simp only [List.mem_cons, List.not_mem_nil, or_false] at hpair
    obtain rfl | rfl := hpair
    all_goals
      dsimp only
      omega

theorem Dev.rmonUnits_lt (d : Dev) {m n : Nat} (hm : m < 13) (hn : n ∈ d.rmonUnits m) : n < 7 := by
  obtain ⟨e, he, rfl⟩ := List.mem_map.mp hn
  exact d.rmonFollow_lt hm (List.mem_filter.mp he).1

theorem Dev.rmonGroups_lt (d : Dev) {m g : Nat} (hm : m < 13) (hg : g ∈ d.rmonGroups m) : g < 14 := by
  obtain ⟨e, he, rfl⟩ := List.mem_map.mp hg
  exact groupOf_lt _ (d.rmonFollow_lt hm he)

theorem Dev.followers_unit (d : Dev) {pair n : Nat} {tx : Bool} (h : (n, tx) ∈ d.followers pair) : n = pair / 2 := by
  have hpair := (List.mem_filter.mp h).1
  simp only [List.mem_cons, List.not_mem_nil, Prod.mk.injEq, or_false] at hpair
  omega

theorem npUnitFields_apart_stream : ∀ n < 7, ∀ k < 8, ∀ f ∈ npUnitFields n, f.apart (Fld.spdifNpstatStream k) = true := by
  decide +kernel

theorem subframeFields_apart_stream : ∀ k < 8, ∀ f ∈ subframeFields, f.apart (Fld.spdifNpstatStream k) = true := by
  decide +kernel

namespace Dev.Changes

variable {ps : List Part} {fs : List Fld} {d t : Dev} {n k g m : Nat} {tx : Bool}

/-- A loop each of whose rounds stays within the frame, told that the rounds before it did. -/
theorem each_mem {α : Type} {l : List α} {f : Dev → α → Dev} (h : d.Changes ps fs t)
    (hf : ∀ u, ∀ a ∈ l, d.Changes ps fs u → d.Changes ps fs (f u a)) : d.Changes ps fs (t.each l f) := by
  unfold Dev.each
  induction l generalizing t with
  | nil => exact h
  | cons x xs ih => exact ih (hf t x (by simp) h) fun u a ha => hf u a (by simp [ha])

/-- The same of a loop that carries a value beside the device. -/
theorem foldl_fst {α β : Type} {l : List α} {f : Dev × β → α → Dev × β} {b : β} (h : d.Changes ps fs t)
    (hf : ∀ acc a, d.Changes ps fs acc.1 → d.Changes ps fs (f acc a).1) : d.Changes ps fs (l.foldl f (t, b)).1 := by
  induction l generalizing t b with
  | nil => exact h
  | cons x xs ih => exact ih (hf (t, b) x h)

/-- A part of a field that the frame names. -/
theorem put_within {f f' : Fld} {v : Nat} (h : d.Changes ps fs t) (hf : f' ∈ fs) (hw : f.within f' = true) :
    d.Changes ps fs (t.put f v) :=
  h.trans ((put (.refl ..) (List.mem_singleton_self f)).widen fun _ m => ⟨f', hf, List.mem_singleton.mp m ▸ hw⟩)

theorem happenAt {f : Fld} (h : d.Changes ps fs t) (hi : .intc ∈ ps) (hf : f ∈ fs) (hw : f.lo + k ≤ f.hi) :
    d.Changes ps fs (t.happenAt f k) := h.trans (Dev.changes_happenAt hi hf hw)

theorem modSer {x : Ser} (h : d.Changes ps fs t) (hs : .ser ∈ ps) : d.Changes ps fs { t with ser := x } :=
  h.trans ⟨{ Dev.PartsBut.refl ps t with ser := .inl hs }, fun _ _ _ => rfl⟩

theorem modFree {x : Nat} (h : d.Changes ps fs t) (hp : .free ∈ ps) : d.Changes ps fs { t with free := x } :=
  h.trans ⟨{ Dev.PartsBut.refl ps t with free := .inl hp }, fun _ _ _ => rfl⟩

/-! ### Directions and units -/

theorem portEv {b : Nat} (h : d.Changes ps fs t) (hi : .intc ∈ ps) (hf : Fld.whole (unitEvents n) ∈ fs) (hb : b ≤ 31) :
    d.Changes ps fs (t.portEv n b) := h.trans (Dev.changes_happenBit hi ⟨_, hf, rfl, Nat.zero_le b, hb⟩)

theorem portCount {ev : Nat} (h : d.Changes ps fs t) (hi : .intc ∈ ps) (hc : Fld.whole (unitCount n (ev / 2)) ∈ fs)
    (hf : Fld.whole (unitEvents n) ∈ fs) (hev : ev ≤ 31) : d.Changes ps fs (t.portCount n ev) := by
  refine portEv (put_within h hc ?_) hi hf hev
  split_ifs with hframe
  · subst hframe
    simp [Fld.within, Fld.whole, PortEv.frameErr]
  · simp [Fld.within, Fld.whole]
  · simp [Fld.within, Fld.whole]

theorem setDir {x : PDir} (h : d.Changes ps fs t) (hs : .ser ∈ ps) (hf : fillF n tx ∈ fs) :
    d.Changes ps fs (t.setDir n tx x) := put (modSer h hs) hf

theorem modDir {f : PDir → PDir} (h : d.Changes ps fs t) (hs : .ser ∈ ps) (hf : fillF n tx ∈ fs) :
    d.Changes ps fs (t.modDir n tx f) := setDir h hs hf

theorem setDirSt {st : Nat} (h : d.Changes ps fs t) (hf : stateF n tx ∈ fs) : d.Changes ps fs (t.setDirSt n tx st) := put h hf

theorem setLock {b : Bool} (h : d.Changes ps fs t) (hf : lockF n tx ∈ fs) : d.Changes ps fs (t.setLock n tx b) :=
  of_ite h (flag h hf)

theorem setRmon {x : Rmon} (h : d.Changes ps fs t) (hs : .ser ∈ ps) : d.Changes ps fs (t.setRmon m x) := modSer h hs

theorem rmonShow (h : d.Changes ps fs t) (hs : .ser ∈ ps) (hf : rmonShowFields m ⊆ fs) : d.Changes ps fs (t.rmonShow m) := by
  have hperiod : Fld.rmonStatusPeriod m ∈ fs := hf (by simp [rmonShowFields])
  have hrate : Fld.rmonStatusRate m ∈ fs := hf (by simp [rmonShowFields])
  have hstate : Fld.rmonStatusState m ∈ fs := hf (by simp [rmonShowFields])
  unfold Dev.rmonShow
  split
  · exact put (put h hstate) hrate
  · exact of_ite (put (put (put (setRmon h hs) hstate) hrate) hperiod)
      (of_ite (put (put (put (setRmon h hs) hstate) hrate) hperiod) h)

theorem dirIdle (h : d.Changes ps fs t) (hn : n < 7) (hs : .ser ∈ ps) (hf : runFields n tx ⊆ fs) :
    d.Changes ps fs (t.dirIdle n tx) := by
  obtain ⟨-, hf⟩ := List.cons_subset.mp hf
  obtain ⟨hdir, hshow⟩ := List.append_subset.mp hf
  have hpair (u : Dev) : rmonShowFields (u.pairOfDir n tx) ⊆ fs :=
    subset_of_flatMap hshow (List.mem_range.mpr (u.pairOfDir_lt tx hn))
  exact rmonShow (setLock (setDirSt (setDir h hs (hdir (by simp [dirFields]))) (hdir (by simp [dirFields])))
    (hdir (by simp [dirFields]))) hs (hpair _)

theorem dirStopped (h : d.Changes ps fs t) (hn : n < 7) (hs : .ser ∈ ps) (hi : .intc ∈ ps) (hf : runFields n tx ⊆ fs) :
    d.Changes ps fs (t.dirStopped n tx) :=
  portEv (dirIdle h hn hs hf) hi (hf (by simp [runFields])) (by decide)

theorem dirLock (h : d.Changes ps fs t) (hs : .ser ∈ ps) (hi : .intc ∈ ps)
    (hf : Fld.whole (unitEvents n) :: dirFields n tx ⊆ fs) : d.Changes ps fs (t.dirLock n tx) := by
  obtain ⟨hev, hdir⟩ := List.cons_subset.mp hf
  have hfill : fillF n tx ∈ fs := hdir (by simp [dirFields])
  have hstate : stateF n tx ∈ fs := hdir (by simp [dirFields])
  unfold Dev.dirLock
  extract_lets x sil d1 y d2 d3
  have h2 : d.Changes ps fs d2 := setDir (setLock h (hdir (by simp [dirFields]))) hs hfill
  have h3 : d.Changes ps fs d3 := setDirSt h2 hstate
  exact of_ite (setDirSt h2 hstate) (of_ite (of_ite (portEv (modDir h3 hs hfill) hi hev (by decide)) h3)
    (setDirSt h2 hstate))

/-! ### Blocks of a memory direction (R284 to R287) -/

theorem closeBlock {short : Bool} (h : d.Changes ps fs t) (hs : .ser ∈ ps) (hf : fillF n false ∈ fs) :
    d.Changes ps fs (t.closeBlock n short) := by
  unfold Dev.closeBlock
  dsimp only
  split
  · exact h
  · exact setDir h hs hf

theorem fillBlock1 (h : d.Changes ps fs t) (hs : .ser ∈ ps) (hf : fillF n false ∈ fs) :
    d.Changes ps fs (t.fillBlock1 n) := by
  unfold Dev.fillBlock1
  dsimp only
  split
  · exact of_ite (closeBlock h hs hf) (of_ite (closeBlock (setDir h hs hf) hs hf) (setDir h hs hf))
  · exact h

theorem fillBlock (h : d.Changes ps fs t) (hs : .ser ∈ ps) (hf : fillF n false ∈ fs) : d.Changes ps fs (t.fillBlock n) :=
  of_ite (each_mem h fun _ _ _ hu => fillBlock1 hu hs hf) h

theorem breakBlock (h : d.Changes ps fs t) (hs : .ser ∈ ps) (hf : fillF n false ∈ fs) : d.Changes ps fs (t.breakBlock n) :=
  of_ite (modDir (closeBlock h hs hf) hs hf) h

theorem refill (h : d.Changes ps fs t) (hs : .ser ∈ ps) (hf : fillF n true ∈ fs) : d.Changes ps fs (t.refill n) :=
  of_ite (setDir h hs hf) h

/-! ### Non-PCM monitors (R310 to R313) -/

theorem setNp {x : NpMon} (h : d.Changes ps fs t) (hs : .ser ∈ ps) : d.Changes ps fs (t.setNp k x) := modSer h hs

/-- An indication also cuts the ramp of the frames that wait at the unit of its stream (R313). -/
theorem npIndicate {cause : Nat} (h : d.Changes ps fs t) (hs : .ser ∈ ps) (hi : .intc ∈ ps) (hk : k < 8)
    (hstream : t.get (Fld.spdifNpstatStream k) = n) (hf : npUnitFields n ⊆ fs) : d.Changes ps fs (t.npIndicate k cause) := by
  obtain ⟨hunit, hmon⟩ := List.append_subset.mp hf
  have hmon : npFields k ⊆ fs := subset_of_flatMap hmon (List.mem_range.mpr hk)
  have hfill : fillF (t.get (Fld.spdifNpstatStream k)) false ∈ fs := hstream ▸ hunit (by simp)
  unfold Dev.npIndicate
  extract_lets x was n j d1 d2 d3
  have h1 : d.Changes ps fs d1 := of_ite (modDir h hs hfill) h
  have h3 : d.Changes ps fs d3 := put (put (put (setNp h1 hs) (hmon (by simp [npFields]))) (hmon (by simp [npFields])))
    (hmon (by simp [npFields]))
  exact of_ite h3 (happen h3 hi (hunit (by simp)) (by decide))

theorem npRelock (h : d.Changes ps fs t) (hn : n < 7) (hs : .ser ∈ ps) (hi : .intc ∈ ps) (hf : npUnitFields n ⊆ fs) :
    d.Changes ps fs (t.npRelock n) := by
  have hrelock : t.Changes [.intc, .ser] (npUnitFields n) (t.npRelock n) := each_mem (.refl ..) fun u k hk hu => by
    obtain ⟨hk, hused⟩ := List.mem_filter.mp hk
    have hk : k < 8 := List.mem_range.mp hk
    simp only [Bool.and_eq_true, beq_iff_eq] at hused
    have hstream : u.get (Fld.spdifNpstatStream k) = n :=
      (hu.get_apart (npUnitFields_apart_stream n hn k hk)).trans hused.2
    have hms : Fld.spdifNpstatPcmMs k ∈ npUnitFields n :=
      List.mem_append_right _ (List.mem_flatMap.mpr ⟨k, List.mem_range.mpr hk, by simp [npFields]⟩)
    exact of_ite (npIndicate hu (by simp) (by simp) hk hstream (List.Subset.refl _)) (put (setNp hu (by simp)) hms)
  exact h.trans (hrelock.mono (by simp [hs, hi]) fun _ m => hf m)

theorem npStop (h : d.Changes ps fs t) (hs : .ser ∈ ps) (hf : (List.range 8).map Fld.spdifNpstatPcmMs ⊆ fs) :
    d.Changes ps fs (t.npStop n) :=
  each_mem h fun _ _ hk hu => put (setNp hu hs) (hf (List.mem_map_of_mem (List.mem_filter.mp hk).1))

theorem npUnmute (h : d.Changes ps fs t) (hs : .ser ∈ ps) (hi : .intc ∈ ps)
    (hf : [Fld.spdifEventsNpChange, Fld.spdifNpstatMuted k] ⊆ fs) : d.Changes ps fs (t.npUnmute k) :=
  of_ite (happen (put (setNp h hs) (hf (by simp))) hi (hf (by simp)) (by decide)) h

theorem subCount {w : Nat} (h : d.Changes ps fs t) (hi : .intc ∈ ps) (hf : subframeFields ⊆ fs) :
    d.Changes ps fs (t.subCount w) := by
  unfold Dev.subCount
  extract_lets d1
  have h1 : d.Changes ps fs d1 :=
    of_ite h (happen (inc h (hf (by simp [subframeFields]))) hi (hf (by simp [subframeFields])) (by decide))
  exact of_ite (inc h1 (hf (by simp [subframeFields]))) h1

end Dev.Changes

/-- The monitor of a stream is one of the eight, and its register names the stream's unit (R310). -/
theorem Dev.npOf_stream (d : Dev) {n j k : Nat} (h : d.npOf n j = some k) :
    k < 8 ∧ d.get (Fld.spdifNpstatStream k) = n := by
  have hused := List.find?_some h
  simp only [Bool.and_eq_true, beq_iff_eq] at hused
  exact ⟨List.mem_range.mp (List.mem_of_find?_eq_some h), hused.1.2⟩

theorem Dev.get_stream_subCount (d : Dev) {k : Nat} (w : Nat) (hk : k < 8) :
    (d.subCount w).get (Fld.spdifNpstatStream k) = d.get (Fld.spdifNpstatStream k) :=
  (Dev.Changes.subCount (ps := [.intc]) (.refl ..) (by simp) (List.Subset.refl _)).get_apart
    (subframeFields_apart_stream k hk)

namespace Dev.Changes

variable {ps : List Part} {fs : List Fld} {d t : Dev} {n k g m : Nat} {tx : Bool}

theorem npPair {j a b : Nat} (h : d.Changes ps fs t) (hs : .ser ∈ ps) (hi : .intc ∈ ps) (hk : t.npOf n j = some k)
    (hf : subframeFields ++ npUnitFields n ⊆ fs) : d.Changes ps fs (t.npPair k a b).1 := by
  obtain ⟨hsub, hnp⟩ := List.append_subset.mp hf
  obtain ⟨hk, hstream⟩ := t.npOf_stream hk
  unfold Dev.npPair
  extract_lets x pos vm
  split
  split
  extract_lets d2 d3
  have h2 : d.Changes ps fs d2 := setNp (subCount (subCount h hi hsub) hi hsub) hs
  have hstream2 : d2.get (Fld.spdifNpstatStream k) = n :=
    ((Dev.get_stream_subCount _ b hk).trans (t.get_stream_subCount a hk)).trans hstream
  have h3 : d.Changes ps fs d3 := of_ite (npIndicate h2 hs hi hk hstream2 hnp) (of_ite (npIndicate h2 hs hi hk hstream2 hnp) h2)
  split
  · exact h3
  · exact h3

theorem portSamples {ws : List Nat} (h : d.Changes ps fs t) (hs : .ser ∈ ps) (hi : .intc ∈ ps)
    (hf : subframeFields ++ npUnitFields n ⊆ fs) : d.Changes ps fs (t.portSamples n ws).1 := by
  refine foldl_fst h fun acc j hacc => ?_
  dsimp only
  split
  next k hk => exact npPair hacc hs hi hk hf
  next => exact hacc

/-! ### Converter groups (R318) -/

theorem setAsrc {x : Asrc} (h : d.Changes ps fs t) (hs : .ser ∈ ps) : d.Changes ps fs (t.setAsrc g x) := modSer h hs

theorem asrcTry (h : d.Changes ps fs t) (hf : acquireFields g ⊆ fs) : d.Changes ps fs (t.asrcTry g) := by
  have hstate (v : Nat) : d.Changes ps fs (t.put (Fld.asrcGStatusState g) v) := put h (hf (by simp [acquireFields]))
  exact of_ite h (of_ite (inc (hstate _) (hf (by simp [acquireFields]))) (hstate _))

theorem asrcUnlock (h : d.Changes ps fs t) (hi : .intc ∈ ps) (hg : g < 14) (hf : Fld.asrcEventsUnlock ∈ fs) :
    d.Changes ps fs (t.asrcUnlock g) := of_ite (happenAt h hi hf (show 16 + g ≤ 29 by omega)) h

theorem asrcLand {dest : Nat} (h : d.Changes ps fs t) (hs : .ser ∈ ps) (hf : acquireFields g ⊆ fs) :
    d.Changes ps fs (t.asrcLand g dest) := by
  have hwait : d.Changes ps fs (t.put (Fld.asrcGStatusState g) AsrcSt.wait) := put h (hf (by simp [acquireFields]))
  exact of_ite (setAsrc hwait hs) (asrcTry (setAsrc hwait hs) hf)

theorem asrcFadeOut {dest : Nat} (h : d.Changes ps fs t) (hs : .ser ∈ ps) (hi : .intc ∈ ps) (hg : g < 14)
    (hf : fadeFields g ⊆ fs) : d.Changes ps fs (t.asrcFadeOut g dest) := by
  obtain ⟨hratio, hunlock⟩ := List.cons_subset.mp hf
  have hfade : d.Changes ps fs ((t.asrcUnlock g).put (Fld.asrcGStatusState g) AsrcSt.fadeOut) :=
    put (asrcUnlock h hi hg (hunlock (by simp [unlockFields]))) (hunlock (by simp [unlockFields]))
  exact of_ite h (of_ite (of_ite h (setAsrc h hs))
    (setAsrc (put (inc hfade (hunlock (by simp [unlockFields]))) hratio) hs))

theorem asrcStop (h : d.Changes ps fs t) (hs : .ser ∈ ps) (hi : .intc ∈ ps) (hg : g < 14) (hf : fadeFields g ⊆ fs) :
    d.Changes ps fs (t.asrcStop g) := asrcFadeOut h hs hi hg hf

theorem asrcRate (h : d.Changes ps fs t) (hs : .ser ∈ ps) (hi : .intc ∈ ps) (hg : g < 14) (hf : groupFields g ⊆ fs) :
    d.Changes ps fs (t.asrcRate g) := by
  have hfade : fadeFields g ⊆ fs := (List.cons_subset.mp hf).2
  have hacq : acquireFields g ⊆ fs := List.Subset.trans (by simp [acquireFields, groupFields, fadeFields, unlockFields]) hf
  exact of_ite (of_ite (inc (put h (hacq (by simp [acquireFields]))) (hacq (by simp [acquireFields]))) h)
    (of_ite (asrcTry h hacq) (asrcFadeOut h hs hi hg hfade))

theorem asrcHold (h : d.Changes ps fs t) (hi : .intc ∈ ps) (hg : g < 14) (hf : unlockFields g ⊆ fs) :
    d.Changes ps fs (t.asrcHold g) :=
  of_ite (inc (put (asrcUnlock h hi hg (hf (by simp [unlockFields]))) (hf (by simp [unlockFields])))
    (hf (by simp [unlockFields]))) h

theorem asrcRegain (h : d.Changes ps fs t) (hf : Fld.asrcGStatusState g ∈ fs) : d.Changes ps fs (t.asrcRegain g) :=
  of_ite (put h hf) h

theorem asrcAcquired (h : d.Changes ps fs t) (hf : [Fld.asrcGRatioRatio g, Fld.asrcGStatusState g] ⊆ fs) :
    d.Changes ps fs (t.asrcAcquired g) := of_ite (put (put h (hf (by simp))) (hf (by simp))) h

theorem asrcFadeDone (h : d.Changes ps fs t) (hs : .ser ∈ ps) (hi : .intc ∈ ps) (hg : g < 14)
    (hf : Fld.asrcEventsLock :: acquireFields g ⊆ fs) : d.Changes ps fs (t.asrcFadeDone g) := by
  obtain ⟨hlock, hacq⟩ := List.cons_subset.mp hf
  exact of_ite (happenAt (put h (hacq (by simp [acquireFields]))) hi hlock (show 0 + g ≤ 13 by omega))
    (of_ite (asrcLand h hs hacq) h)

theorem asrcHoldTimeout (h : d.Changes ps fs t) (hs : .ser ∈ ps) (hf : acquireFields g ⊆ fs) :
    d.Changes ps fs (t.asrcHoldTimeout g) := of_ite (asrcLand h hs hf) h

/-! ### Runs, stops and receive frames (R271, R276 to R280) -/

theorem portStart {ag : Agent} (h : d.Changes ps fs t) (hn : n < 7) (hs : .ser ∈ ps)
    (hf : startFields n tx ⊆ fs) : d.Changes ps fs (t.portStart ag n tx) := by
  obtain ⟨hf, hviol⟩ := List.append_subset.mp hf
  obtain ⟨hunit, hshow⟩ := List.append_subset.mp hf
  have hfill : fillF n tx ∈ fs := hunit (by simp)
  have hstate : stateF n tx ∈ fs := hunit (by simp)
  have hpair (u : Dev) : rmonShowFields (u.pairOfDir n tx) ⊆ fs :=
    subset_of_flatMap hshow (List.mem_range.mpr (u.pairOfDir_lt tx hn))
  have hcount : Fld.whole (if tx then Reg.portTxframe n else Reg.portRxframe n) ∈ fs := by
    split
    · exact hunit (by simp)
    · exact hunit (by simp)
  unfold Dev.portStart
  refine of_ite (viol h hviol) (of_ite h ?_)
  extract_lets x d1 d2 st mask _ d3
  have h1 : d.Changes ps fs d1 := put h (hunit (by simp))
  have h2 : d.Changes ps fs d2 := of_ite h1 (wr h1 hcount)
  have h3 : d.Changes ps fs d3 := setDir h2 hs hfill
  exact of_ite (setDir h2 hs hfill) (of_ite (setDirSt (setDir h2 hs hfill) hstate)
    (of_ite (rmonShow (setDirSt h3 hstate) hs (hpair _)) h2))

theorem portStop (h : d.Changes ps fs t) (hn : n < 7) (hs : .ser ∈ ps) (hi : .intc ∈ ps)
    (hf : stopFields n tx ⊆ fs) :
    d.Changes ps fs (t.portStop n tx) := by
  obtain ⟨hf, hrun⟩ := List.append_subset.mp hf
  obtain ⟨hf, hnp⟩ := List.append_subset.mp hf
  obtain ⟨hbit, hfade⟩ := List.append_subset.mp hf
  have hfill : fillF n tx ∈ fs := hrun (by simp [runFields, dirFields])
  have hstate : stateF n tx ∈ fs := hrun (by simp [runFields, dirFields])
  unfold Dev.portStop
  refine of_ite h ?_
  extract_lets x d1 d2 st _ left d3
  have h1 : d.Changes ps fs d1 := asrcStop (put h (hbit (by simp))) hs hi (groupOf_lt tx hn) hfade
  have h2 : d.Changes ps fs d2 := of_ite h1 (npStop h1 hs hnp)
  have h3 : d.Changes ps fs d3 := setDir h2 hs hfill
  have hstopped : d.Changes ps fs (d2.dirStopped n tx) := dirStopped h2 hn hs hi hrun
  exact of_ite (setDir h2 hs hfill) (of_ite hstopped (of_ite hstopped
    (of_ite (of_ite (dirStopped h3 hn hs hi hrun) (setDirSt h3 hstate)) h2)))

theorem portClr (h : d.Changes ps fs t)
    (hf : (List.range (if n = 6 then 4 else 3)).map (fun i => Fld.whole (unitCount n i)) ⊆ fs) :
    d.Changes ps fs (t.portClr n) :=
  each_mem h fun _ _ hi hu => wr hu (hf (List.mem_map_of_mem hi))

theorem frameIn {slots : List Int} (h : d.Changes ps fs t) (hs : .ser ∈ ps) (hi : .intc ∈ ps) (hf : frameFields n ⊆ fs) :
    d.Changes ps fs (t.frameIn n slots) := by
  have hfill : fillF n false ∈ fs := hf (by simp [frameFields, runFields, dirFields])
  have hcount : Fld.whole (unitCount n 0) ∈ fs := hf (by simp [frameFields])
  exact of_ite (modDir (portCount h hi hcount (hf (by simp [frameFields, runFields])) (by decide)) hs hfill)
    (asrcRegain (fillBlock (setDir h hs hfill) hs hfill) (hf (by simp [frameFields])))

theorem frameDone {slots : List Int} (h : d.Changes ps fs t) (hn : n < 7) (hs : .ser ∈ ps) (hi : .intc ∈ ps)
    (hf : frameFields n ⊆ fs) : d.Changes ps fs (t.frameDone n slots) := by
  have hrun : runFields n false ⊆ fs := (List.append_subset.mp hf).2
  have hfill : fillF n false ∈ fs := hrun (by simp [runFields, dirFields])
  have hstate : stateF n false ∈ fs := hrun (by simp [runFields, dirFields])
  unfold Dev.frameDone
  extract_lets x st d1
  have hstarted : d.Changes ps fs (((t.setDir n false { x with sil := 0, silDone := x.silDone + 1, fresh := false }).setDirSt n
      false PortSt.running).cond x.fresh (fun d => d.portEv n PortEv.started)) :=
    (setDirSt (setDir h hs hfill) hstate).trans (.cond (portEv (.refl ..) hi (hrun (by simp [runFields])) (by decide)))
  have h1 : d.Changes ps fs d1 :=
    of_ite (of_ite hstarted (setDir h hs hfill))
      (of_ite (of_ite (dirStopped h hn hs hi hrun) (setDir h hs hfill)) (of_ite (frameIn h hs hi hf) h))
  exact modDir h1 hs hfill

theorem portFrame {ws : List Nat} (h : d.Changes ps fs t) (hn : n < 7) (hs : .ser ∈ ps) (hi : .intc ∈ ps)
    (hf : [Fld.portRxframeCount n] ++ (subframeFields ++ npUnitFields n) ++ frameFields n ⊆ fs) :
    d.Changes ps fs (t.portFrame n ws) := by
  obtain ⟨hf, hframe⟩ := List.append_subset.mp hf
  obtain ⟨hcount, hsamples⟩ := List.append_subset.mp hf
  have h1 : d.Changes ps fs (t.incWrap (Fld.portRxframeCount n)) := put h (hcount (by simp))
  exact of_ite h (of_ite (frameDone (portSamples h1 hs hi hsamples) hn hs hi hframe) (frameDone h1 hn hs hi hframe))

theorem dirUnframe (h : d.Changes ps fs t) (hn : n < 7) (hs : .ser ∈ ps) (hi : .intc ∈ ps) (hf : unframeFields n tx ⊆ fs) :
    d.Changes ps fs (t.dirUnframe n tx) := by
  obtain ⟨hf, hunlock⟩ := List.append_subset.mp hf
  obtain ⟨hdir, hnp⟩ := List.append_subset.mp hf
  have hfill : fillF n tx ∈ fs := hdir (by simp [dirFields])
  unfold Dev.dirUnframe
  extract_lets st d1 pin d2 d3 d4
  have h1 : d.Changes ps fs d1 := by
    cases tx with
    | true => exact h
    | false => exact breakBlock h hs hfill
  have h3 : d.Changes ps fs d3 := setLock (modDir h1 hs hfill) (hdir (by simp [dirFields]))
  have h4 : d.Changes ps fs d4 := of_ite (setDirSt h3 (hdir (by simp [dirFields]))) h3
  exact asrcHold (of_ite h4 (npRelock h4 hn hs hi hnp)) hi (groupOf_lt tx hn) hunlock

/-! ### Frame starts at a clock pair (R275, R276) -/

theorem fsEdge {pair bits : Nat} (h : d.Changes ps fs t) (hpair : pair < 12) (hs : .ser ∈ ps) (hi : .intc ∈ ps)
    (hunit : [Fld.whole (unitCount (pair / 2) 2), Fld.whole (unitEvents (pair / 2))] ⊆ fs)
    (hf : ∀ tx, unframeFields (pair / 2) tx ++ acquireFields (groupOf (pair / 2) tx) ⊆ fs) :
    d.Changes ps fs (t.fsEdge pair bits) := by
  have hn : pair / 2 < 7 := by omega
  have hcount : Fld.whole (unitCount (pair / 2) 2) ∈ fs := hunit (by simp)
  have hev : Fld.whole (unitEvents (pair / 2)) ∈ fs := hunit (by simp)
  refine of_ite h (each_mem (of_ite (modSer (portCount h hi hcount hev (by decide)) hs) h) fun u e he hu => ?_)
  obtain ⟨n, tx⟩ := e
  obtain rfl : n = pair / 2 := t.followers_unit he
  obtain ⟨hframe, hacq⟩ := List.append_subset.mp (hf tx)
  have hdir : dirFields (pair / 2) tx ⊆ fs := List.Subset.trans (by simp [unframeFields]) hframe
  have hset {x : PDir} : d.Changes ps fs (u.setDir (pair / 2) tx x) := setDir hu hs (hdir (by simp [dirFields]))
  have hlock {x : PDir} : d.Changes ps fs ((u.setDir (pair / 2) tx x).dirLock (pair / 2) tx) :=
    dirLock hset hs hi (List.cons_subset.mpr ⟨hev, hdir⟩)
  exact of_ite (of_ite hu (dirUnframe hu hn hs hi hframe))
    (of_ite (of_ite hset (of_ite (asrcTry hlock hacq) (setLock hset (hdir (by simp [dirFields]))))) hset)

/-! ### S/PDIF (R300 to R309) -/

theorem csCopy {reg : Nat → Nat} {cs : Nat} {prev : Option Nat} (h : d.Changes ps fs t) (hi : .intc ∈ ps)
    (hev : Fld.spdifEventsCsChange ∈ fs) (hreg : (List.range 6).map (fun w => Fld.whole (reg w)) ⊆ fs) :
    d.Changes ps fs (t.csCopy reg cs prev) := by
  refine of_ite ?_ h
  refine (each_mem h fun u e he hu => ?_).trans (.cond (happen (.refl ..) hi hev (by decide)))
  obtain ⟨w, hw, rfl⟩ := List.mem_map.mp he
  exact wr hu (hreg (List.mem_map_of_mem hw))

theorem csFrame {f : SpdifIn} (h : d.Changes ps fs t) (hs : .ser ∈ ps) (hi : .intc ∈ ps)
    (hf : statusFields ⊆ fs) : d.Changes ps fs (t.csFrame f) := by
  have hev : Fld.spdifEventsCsChange ∈ fs := hf (by simp [statusFields])
  have ha : (List.range 6).map (fun w => Fld.whole (Reg.spdifRxcsa w)) ⊆ fs := List.Subset.trans (by decide) hf
  have hb : (List.range 6).map (fun w => Fld.whole (Reg.spdifRxcsb w)) ⊆ fs := List.Subset.trans (by decide) hf
  exact of_ite h (of_ite (modSer (csCopy (csCopy h hi hev ha) hi hev hb) hs) (modSer h hs))

theorem spdifSamples {f : SpdifIn} (h : d.Changes ps fs t) (hs : .ser ∈ ps) (hi : .intc ∈ ps)
    (hf : subframeFields ++ npUnitFields 6 ⊆ fs) : d.Changes ps fs (t.spdifSamples f).1 := by
  obtain ⟨hsub, hnp⟩ := List.append_subset.mp hf
  unfold Dev.spdifSamples
  extract_lets s vm
  split
  split
  extract_lets d2
  have h2 : d.Changes ps fs d2 := modSer (subCount (subCount h hi hsub) hi hsub) hs
  split
  next => exact h2
  next k hk =>
    obtain ⟨hk, hstream⟩ := d2.npOf_stream hk
    exact of_ite (npIndicate h2 hs hi hk hstream hnp) (of_ite (npIndicate h2 hs hi hk hstream hnp) h2)

theorem spdifFrame {f : SpdifIn} (h : d.Changes ps fs t) (hs : .ser ∈ ps) (hi : .intc ∈ ps) (hf : spdifFields ⊆ fs) :
    d.Changes ps fs (t.spdifFrame f) := by
  obtain ⟨hf, hacq⟩ := List.append_subset.mp hf
  obtain ⟨hf, hframe⟩ := List.append_subset.mp hf
  obtain ⟨hf, hunframe⟩ := List.append_subset.mp hf
  obtain ⟨hf, hstatus⟩ := List.append_subset.mp hf
  obtain ⟨hcount, hsamples⟩ := List.append_subset.mp hf
  have hrun : runFields 6 false ⊆ fs := (List.append_subset.mp hframe).2
  have hev : Fld.whole (unitEvents 6) ∈ fs := hrun (by simp [runFields])
  have hdir : dirFields 6 false ⊆ fs := List.Subset.trans (by simp [runFields]) hrun
  have hcount2 : Fld.whole (unitCount 6 2) ∈ fs := hcount (by simp)
  have hblock : Fld.spdifStatusRxBlock ∈ fs := hcount (by simp)
  have hfill : fillF 6 false ∈ fs := hdir (by simp [dirFields])
  unfold Dev.spdifFrame
  extract_lets st order s zBad locked pos _ d1 d2 d3 d4 _ d5 x d6
  have h1 : d.Changes ps fs d1 := modSer h hs
  have h3 : d.Changes ps fs d3 := csFrame (of_ite (put h1 hblock) h1) hs hi hstatus
  have h5 : d.Changes ps fs d5 := modSer (dirUnframe (portCount h1 hi hcount2 hev (by decide)) (by decide) hs hi hunframe) hs
  have h6 : d.Changes ps fs d6 := setDir h1 hs hfill
  have framed : d.Changes ps fs (match d3.spdifSamples f with | (d, xs) => d.frameDone 6 xs) :=
    frameDone (spdifSamples h3 hs hi hsamples) (by decide) hs hi hframe
  have hlock : d.Changes ps fs (d6.dirLock 6 false) := dirLock h6 hs hi (List.cons_subset.mpr ⟨hev, hdir⟩)
  exact of_ite h (of_ite (of_ite framed (of_ite (put h5 hblock) h5))
    (of_ite (of_ite h6 (of_ite (asrcTry hlock hacq) (setLock h6 (hdir (by simp [dirFields]))))) (setDir h1 hs hfill)))

/-! ### Pin frames (R273, R277 to R280) -/

theorem txFrame {xs : Option (List Int)} (h : d.Changes ps fs t) (hs : .ser ∈ ps) (hf : fillF 6 true ∈ fs) :
    d.Changes ps fs (t.txFrame xs) := by
  unfold Dev.txFrame
  exact modDir (modSer h hs) hs hf

theorem sendFrame {mask : Nat} {xs : Option (List Int)} (h : d.Changes ps fs t) (hs : .ser ∈ ps) (hf : fillF n true ∈ fs) :
    d.Changes ps fs (t.sendFrame n mask xs) := by
  unfold Dev.sendFrame
  split
  next hn =>
    subst hn
    exact txFrame h hs hf
  next => exact modDir h hs hf

theorem convFrame (h : d.Changes ps fs t) (hs : .ser ∈ ps) (hp : .free ∈ ps) (hf : fillF n true ∈ fs) :
    d.Changes ps fs (t.convFrame n) := of_ite (modFree (setDir h hs hf) hp) h

theorem realFrame (h : d.Changes ps fs t) (hs : .ser ∈ ps) (hi : .intc ∈ ps) (hp : .free ∈ ps)
    (hf : [fillF n true, Fld.whole (unitCount n 1), Fld.whole (unitEvents n)] ⊆ fs) : d.Changes ps fs (t.realFrame n) := by
  have hfill : fillF n true ∈ fs := hf (by simp)
  have hcount : Fld.whole (unitCount n 1) ∈ fs := hf (by simp)
  have h1 : d.Changes ps fs ((t.convFrame n).refill n) := refill (convFrame h hs hp hfill) hs hfill
  unfold Dev.realFrame
  dsimp only
  split
  · exact sendFrame h1 hs hfill
  · split
    · split
      · exact refill (sendFrame (setDir h1 hs hfill) hs hfill) hs hfill
      · exact sendFrame (portCount h1 hi hcount (hf (by simp)) (by decide)) hs hfill
    · exact sendFrame h1 hs hfill

theorem pinStart (h : d.Changes ps fs t) (hn : n < 7) (hs : .ser ∈ ps) (hi : .intc ∈ ps) (hp : .free ∈ ps)
    (hf : [Fld.portTxframeCount n, Fld.whole (unitCount n 1)] ++ runFields n true ++ acquireFields (groupOf n true) ⊆ fs) :
    d.Changes ps fs (t.pinStart n) := by
  obtain ⟨hf, hacq⟩ := List.append_subset.mp hf
  obtain ⟨hcount, hrun⟩ := List.append_subset.mp hf
  have hev : Fld.whole (unitEvents n) ∈ fs := hrun (by simp [runFields])
  have hdir : dirFields n true ⊆ fs := List.Subset.trans (by simp [runFields]) hrun
  have hfill : fillF n true ∈ fs := hdir (by simp [dirFields])
  have hstate : stateF n true ∈ fs := hdir (by simp [dirFields])
  have hreal : [fillF n true, Fld.whole (unitCount n 1), Fld.whole (unitEvents n)] ⊆ fs := by
    simp [hfill, hev, hcount (show Fld.whole (unitCount n 1) ∈ _ by simp)]
  unfold Dev.pinStart
  extract_lets st0 _ _ d1 d2 x _ d3 y st d4 d5
  have h1 : d.Changes ps fs d1 := of_ite (modSer h hs) h
  have h2 : d.Changes ps fs d2 := of_ite (asrcTry (dirLock h1 hs hi (List.cons_subset.mpr ⟨hev, hdir⟩)) hacq) h
  have h3 : d.Changes ps fs d3 := of_ite (setDirSt (setDir h2 hs hfill) hstate) h2
  have h4 : d.Changes ps fs d4 := of_ite h3 (put h3 (hcount (by simp)))
  have h5 : d.Changes ps fs d5 := (setDirSt h4 hstate).trans (.cond (portEv (.refl ..) hi hev (by decide)))
  have hsilent {z : PDir} {mask : Nat} : d.Changes ps fs ((d4.setDir n true z).sendFrame n mask none) :=
    sendFrame (setDir h4 hs hfill) hs hfill
  exact of_ite h (of_ite (dirStopped h3 hn hs hi hrun) (of_ite hsilent (of_ite hsilent
    (of_ite (realFrame (modDir h5 hs hfill) hs hi hp hreal) (of_ite (realFrame h4 hs hi hp hreal)
      (of_ite (sendFrame h4 hs hfill) h4))))))

/-! ### Rate monitors (R314, R315) -/

theorem rmonTrack {x : Rmon} (h : d.Changes ps fs t) (hs : .ser ∈ ps) (hf : rmonShowFields m ⊆ fs) :
    d.Changes ps fs (t.rmonTrack m x) :=
  put (put (put (setRmon h hs) (hf (by simp [rmonShowFields]))) (hf (by simp [rmonShowFields]))) (hf (by simp [rmonShowFields]))

/-- A declaration reaches the units and the converter groups on the monitor's input. -/
theorem rmonReach {f : Dev → Nat → Dev} (h : d.Changes ps fs t) (hm : m < 13) (hs : .ser ∈ ps) (hi : .intc ∈ ps)
    (hnp : (List.range 7).flatMap npUnitFields ⊆ fs)
    (hf : ∀ u, ∀ g < 14, d.Changes ps fs u → d.Changes ps fs (f u g)) :
    d.Changes ps fs ((t.each (t.rmonUnits m) Dev.npRelock).each (t.rmonGroups m) f) := by
  refine each_mem (each_mem h fun u n hn hu => ?_) fun u g hg hu => hf u g (t.rmonGroups_lt hm hg) hu
  have hn : n < 7 := t.rmonUnits_lt hm hn
  exact npRelock hu hn hs hi (subset_of_flatMap hnp (List.mem_range.mpr hn))

theorem rmonStop (h : d.Changes ps fs t) (hm : m < 13) (hs : .ser ∈ ps) (hi : .intc ∈ ps)
    (hf : [Fld.rmonCountStops m, Fld.rmonEvents0Stop.at m] ++ rmonShowFields m ++ (List.range 7).flatMap npUnitFields ++
      (List.range 14).flatMap fadeFields ⊆ fs) : d.Changes ps fs (t.rmonStop m) := by
  obtain ⟨hf, hfade⟩ := List.append_subset.mp hf
  obtain ⟨hf, hnp⟩ := List.append_subset.mp hf
  obtain ⟨hstop, hshow⟩ := List.append_subset.mp hf
  unfold Dev.rmonStop
  refine of_ite h ?_
  extract_lets d1 per _ d2 d3
  have h1 : d.Changes ps fs d1 := happenAt_at (inc h (hstop (by simp))) hi (hstop (by simp))
  have h2 : d.Changes ps fs d2 := put (put (setRmon h1 hs) (hshow (by simp [rmonShowFields])))
    (hshow (by simp [rmonShowFields]))
  have h3 : d.Changes ps fs d3 := put h2 (hshow (by simp [rmonShowFields]))
  exact rmonReach h3 hm hs hi hnp fun u g hg hu =>
    asrcStop hu hs hi hg (subset_of_flatMap hfade (List.mem_range.mpr hg))

theorem rmonRate (h : d.Changes ps fs t) (hm : m < 13) (hs : .ser ∈ ps) (hi : .intc ∈ ps) (hf : rmonFields m ⊆ fs) :
    d.Changes ps fs (t.rmonRate m) := by
  obtain ⟨hf, hgroup⟩ := List.append_subset.mp hf
  obtain ⟨hf, hnp⟩ := List.append_subset.mp hf
  obtain ⟨-, hmon⟩ := List.append_subset.mp hf
  have h1 : d.Changes ps fs ((t.inc (Fld.rmonCountRates m)).happenAt Fld.rmonEvents1Rate m) :=
    happenAt (inc h (hmon (by simp))) hi (hmon (by simp)) (show 16 + m ≤ 28 by omega)
  exact rmonReach h1 hm hs hi hnp fun u g hg hu => asrcRate hu hs hi hg (subset_of_flatMap hgroup (List.mem_range.mpr hg))

theorem rmonGlitch (h : d.Changes ps fs t) (hm : m < 13) (hi : .intc ∈ ps)
    (hf : [Fld.rmonCountGlitches m, Fld.rmonEvents1Glitch] ⊆ fs) : d.Changes ps fs (t.rmonGlitch m) :=
  happenAt (inc h (hf (by simp))) hi (hf (by simp)) (show 0 + m ≤ 12 by omega)

theorem rmonAfter {c : Nat} (h : d.Changes ps fs t) (hm : m < 13) (hs : .ser ∈ ps) (hi : .intc ∈ ps)
    (hf : rmonFields m ⊆ fs) : d.Changes ps fs (t.rmonAfter m c) := by
  have hshow : rmonShowFields m ⊆ fs := List.Subset.trans (by simp [rmonFields]) hf
  have hret : Fld.rmonEvents0Returned ∈ fs := hf (by simp [rmonFields])
  have htrack {x : Rmon} : d.Changes ps fs (t.rmonTrack m x) := rmonTrack h hs hshow
  exact of_ite (put (setRmon h hs) (hshow (by simp [rmonShowFields])))
    (of_ite (happenAt htrack hi hret (show 16 + m ≤ 28 by omega)) (of_ite (rmonRate htrack hm hs hi hf) htrack))

theorem rmonNext {c : Nat} (h : d.Changes ps fs t) (hm : m < 13) (hs : .ser ∈ ps) (hi : .intc ∈ ps)
    (hf : rmonFields m ⊆ fs) : d.Changes ps fs (t.rmonNext m c) := by
  have hshow : rmonShowFields m ⊆ fs := List.Subset.trans (by simp [rmonFields]) hf
  have hglitch : [Fld.rmonCountGlitches m, Fld.rmonEvents1Glitch] ⊆ fs := List.Subset.trans (by simp [rmonFields]) hf
  unfold Dev.rmonNext
  extract_lets x per glitch d1 off
  have h1 : d.Changes ps fs d1 := of_ite (rmonGlitch h hm hi hglitch) h
  exact of_ite (rmonTrack h1 hs hshow) (of_ite (rmonRate (rmonTrack h1 hs hshow) hm hs hi hf) (setRmon h1 hs))

theorem rmonPeriod {c : Nat} (h : d.Changes ps fs t) (hm : m < 13) (hs : .ser ∈ ps) (hi : .intc ∈ ps)
    (hf : rmonFields m ⊆ fs) : d.Changes ps fs (t.rmonPeriod m c) := by
  have hshow : rmonShowFields m ⊆ fs := List.Subset.trans (by simp [rmonFields]) hf
  have hmismatch : Fld.spdifEventsRateMismatch ∈ fs := hf (by simp [rmonFields])
  have hgroup : (List.range 14).flatMap groupFields ⊆ fs := (List.append_subset.mp hf).2
  unfold Dev.rmonPeriod
  extract_lets d1 was d2 d3
  have h1 : d.Changes ps fs d1 := rmonShow h hs hshow
  have h2 : d.Changes ps fs d2 := of_ite (rmonAfter h1 hm hs hi hf) (rmonNext h1 hm hs hi hf)
  have h3 : d.Changes ps fs d3 := of_ite (happen h2 hi hmismatch (by decide)) h2
  refine of_ite h1 (each_mem h3 fun u g hg hu => asrcTry hu ?_)
  have hone : groupFields g ⊆ fs := subset_of_flatMap hgroup (List.mem_range.mpr (d3.rmonGroups_lt hm hg))
  exact List.Subset.trans (by simp [acquireFields, groupFields, fadeFields, unlockFields]) hone

theorem rmonClr {v : Word} (h : d.Changes ps fs t)
    (hf : (List.range 13).flatMap (fun m => [Fld.whole (Reg.rmonCount m)]) ⊆ fs) : d.Changes ps fs (t.rmonClr v) :=
  each_mem h fun _ _ hm hu => wr hu (subset_of_flatMap hf (List.mem_filter.mp hm).1 (by simp))

theorem asrcClr {v : Word} (h : d.Changes ps fs t)
    (hf : (List.range 14).flatMap (fun g => [Fld.whole (Reg.asrcGCount g)]) ⊆ fs) : d.Changes ps fs (t.asrcClr v) :=
  each_mem h fun _ _ hg hu => wr hu (subset_of_flatMap hf (List.mem_filter.mp hg).1 (by simp))

end Dev.Changes

end Sys2Proof.Machine

/-! A host's writes to the registers of units, monitors and converters (R270, R295, R325, R327): each is its register's own
operation. -/
namespace Sys2Proof.Machine

/-- The registers of these writes take no staged words (R118). -/
theorem rwtMask_serial : (∀ n < 7, rwtMask (unitCtrl n) = 0) ∧ rwtMask Reg.rmonCtrl = 0 ∧ rwtMask Reg.asrcCtrl = 0 := by
  decide +kernel

/-- A ready host's write to a register in reach of blocks PORT to ASRC, where the operation leaves the clock root and the power
sequencer alone. -/
theorem State.hostReg_of_changes (s : State) {ps : List Part} {fs : List Fld} {a : Nat} {v : Word} {f : Dev → Dev}
    (h : s.dev.hostReady = true) (ha : s.dev.regUp a = true) (hlo : 0x860000 ≤ a) (hhi : a < 0x880000)
    (e : s.dev.regWrite Env.quiet .host a v = f s.dev) (hf : s.dev.Changes ps fs (f s.dev)) (hc : .clk ∉ ps)
    (hp : .pwr ∉ ps) : s.hostReg a v = s.on f := by
  have hne {b : Nat} (hb : b < 0x860000 ∨ 0x880000 ≤ b) : a ≠ b := by omega
  rw [State.hostReg, s.hostWord_regWrite h ha (hne (by decide)) (hne (by decide)) (hne (by decide))
    (e ▸ hf.awaits hc hp (Dev.hostReady_awaits h))]
  simp only [State.on, e]

/-- A write to block PORT that is not staged is the block's own (R7). -/
theorem Dev.regWrite_port (d : Dev) {env : Env} {ag : Agent} {a : Nat} {v : Word} (ha : a / 0x10000 = 0x86)
    (hm : rwtMask a = 0) : d.regWrite env ag a v = d.portWrite ag a v := by
  have htumb : a ≠ Reg.tumbCtrl := fun h => absurd (h ▸ ha) (by decide)
  simp [Dev.regWrite, hm, ha, htumb]

theorem unitCtrl_bounds {n : Nat} (hn : n < 7) : 0x860000 ≤ unitCtrl n ∧ unitCtrl n < 0x870000 := by
  unfold unitCtrl Reg.spdifCtrl Reg.portCtrl
  split <;> omega

theorem Dev.regWrite_unitCtrl (d : Dev) {env : Env} {ag : Agent} {n : Nat} {v : Word} (hn : n < 7) :
    d.regWrite env ag (unitCtrl n) v = d.unitCtrlWrite ag n v := by
  obtain ⟨hlo, hhi⟩ := unitCtrl_bounds hn
  rw [d.regWrite_port (by omega) (rwtMask_serial.1 n hn)]
  by_cases h6 : n = 6
  · subst h6
    rfl
  · have haddr : unitCtrl n = 0x860010 + 0x1000 * n := by simp [unitCtrl, h6, Reg.portCtrl]
    have hrow : unitCtrl n < 0x866000 ∧ unitCtrl n % 0x1000 = 0x10 := by omega
    rw [Dev.portWrite, if_pos hrow, show (unitCtrl n - 0x860000) / 0x1000 = n by omega]

/-! ### The run bits (R270, R277, R278) -/

/-- A run bit written. -/
def Dev.runWrite (d : Dev) (ag : Agent) (n : Nat) (tx on : Bool) : Dev :=
  if on then d.portStart ag n tx else d.portStop n tx

theorem Dev.unitCtrlWrite_eq (d : Dev) (ag : Agent) (n : Nat) (v : Word) : d.unitCtrlWrite ag n v =
    let t := if bitOf v.toNat 2 then d.portClr n else d
    if !t.portWard n && (bitOf v.toNat 0 || bitOf v.toNat 1) then t.viol 0 ag (unitCtrl n)
    else (t.runWrite ag n false (bitOf v.toNat 0)).runWrite ag n true (bitOf v.toNat 1) := rfl

/-- Writing the value that a run bit has changes nothing (R270). -/
theorem Dev.runWrite_same (d : Dev) {ag : Agent} {n : Nat} {tx on : Bool} (hon : d.is (runF n tx) = on)
    (hward : d.portWard n = true ∨ on = false) : d.runWrite ag n tx on = d := by
  subst hon
  unfold Dev.runWrite Dev.portStart Dev.portStop
  by_cases hrun : d.is (runF n tx) = true
  · have hw : d.portWard n = true := hward.resolve_right (by simp [hrun])
    simp [hrun, hw]
  · simp [hrun]

theorem Dev.Changes.runWrite {ps : List Part} {fs : List Fld} {d t : Dev} {ag : Agent} {n : Nat} {tx on : Bool}
    (h : d.Changes ps fs t) (hn : n < 7) (hs : .ser ∈ ps) (hi : on = true ∨ .intc ∈ ps)
    (hf : (if on then startFields n tx else stopFields n tx) ⊆ fs) : d.Changes ps fs (t.runWrite ag n tx on) := by
  cases on with
  | true => exact .portStart h hn hs hf
  | false => exact .portStop h hn hs (hi.resolve_left (by simp)) hf

theorem writtenFields_apart_transmitRun :
    ∀ n < 7, ∀ f ∈ startFields n false ++ stopFields n false, f.apart (runF n true) = true := by
  decide +kernel

theorem Dev.Changes.portWard_eq {ps : List Part} {fs : List Fld} {d t : Dev} (h : d.Changes ps fs t) (hp : .boot ∉ ps)
    (n : Nat) : t.portWard n = d.portWard n := by
  rw [Dev.portWard, h.parts.boot.resolve_left hp, Dev.portWard]

theorem Dev.Changes.is_apart {ps : List Part} {fs : List Fld} {d t : Dev} (h : d.Changes ps fs t) {g : Fld}
    (hg : ∀ f ∈ fs, f.apart g = true) : t.is g = d.is g := by
  rw [Dev.is, h.get_apart hg, Dev.is]

/-- The receive run bit written leaves the transmit run bit to be written as it reads. -/
theorem Dev.runWrite_receive_keeps (d : Dev) {ag : Agent} {n : Nat} {on : Bool} (hn : n < 7) :
    (d.runWrite ag n false on).is (runF n true) = d.is (runF n true) ∧
      (d.runWrite ag n false on).portWard n = d.portWard n := by
  have hch : d.Changes [.intc, .ser] (startFields n false ++ stopFields n false) (d.runWrite ag n false on) := by
    refine .runWrite (.refl ..) hn (by simp) (.inr (by simp)) ?_
    split
    · exact List.subset_append_left ..
    · exact List.subset_append_right ..
  exact ⟨hch.is_apart (writtenFields_apart_transmitRun n hn), hch.portWard_eq (by simp) n⟩

/-- The word that writes the run bits of a unit, and whether it clears the counters (R295). -/
def runWord (clr rx tx : Bool) : Word :=
  BitVec.ofNat 32 ((if clr then 4 else 0) + (if rx then 1 else 0) + (if tx then 2 else 0))

theorem runWord_eq_transmit : ∀ rx on : Bool,
    BitVec.ofNat 32 ((if rx then 1 else 0) + if on then 2 else 0) = runWord false rx on := by
  decide

theorem runWord_eq_receive : ∀ on tx : Bool,
    BitVec.ofNat 32 ((if tx then 2 else 0) + if on then 1 else 0) = runWord false on tx := by
  decide

theorem bitOf_runWord : ∀ clr rx tx, bitOf (runWord clr rx tx).toNat 2 = clr ∧ bitOf (runWord clr rx tx).toNat 0 = rx ∧
    bitOf (runWord clr rx tx).toNat 1 = tx := by
  decide

theorem Dev.unitCtrlWrite_runWord (d : Dev) (ag : Agent) (n : Nat) (clr rx tx : Bool) :
    d.unitCtrlWrite ag n (runWord clr rx tx) =
      let t := if clr then d.portClr n else d
      if !t.portWard n && (rx || tx) then t.viol 0 ag (unitCtrl n)
      else (t.runWrite ag n false rx).runWrite ag n true tx := by
  obtain ⟨h2, h0, h1⟩ := bitOf_runWord clr rx tx
  rw [d.unitCtrlWrite_eq, h2, h0, h1]

/-- What a write of one run bit of a unit does, the other as it reads: without a port ward a 1 to either is refused (R270). -/
def Dev.unitRun (d : Dev) (ag : Agent) (n : Nat) (tx on : Bool) : Dev :=
  if !d.portWard n && (on || d.is (runF n !tx)) then d.viol 0 ag (unitCtrl n) else d.runWrite ag n tx on

/-- The word of a write of one run bit. -/
def Dev.unitRunWord (d : Dev) (n : Nat) (tx on : Bool) : Word :=
  if tx then runWord false (d.is (runF n false)) on else runWord false on (d.is (runF n true))

theorem Dev.unitCtrlWrite_run (d : Dev) (ag : Agent) {n : Nat} (tx on : Bool) (hn : n < 7) :
    d.unitCtrlWrite ag n (d.unitRunWord n tx on) = d.unitRun ag n tx on := by
  have htaken {b c : Bool} (h : ¬ (!d.portWard n && (b || c)) = true) : d.portWard n = true ∨ c = false := by
    cases c <;> simp_all
  cases tx with
  | true =>
    rw [Dev.unitRunWord, if_pos rfl, d.unitCtrlWrite_runWord, Bool.or_comm]
    refine ite_congr rfl (fun _ => rfl) fun h => ?_
    exact congrArg (Dev.runWrite · ag n true on) (d.runWrite_same rfl (htaken h))
  | false =>
    rw [Dev.unitRunWord, if_neg (by decide), d.unitCtrlWrite_runWord]
    refine ite_congr rfl (fun _ => rfl) fun h => ?_
    obtain ⟨his, hward⟩ := d.runWrite_receive_keeps (ag := ag) (on := on) hn
    exact Dev.runWrite_same _ his (by rw [if_neg (by decide), hward]; exact htaken h)

/-- What a write of clr_cnt does, the run bits as they read (R295). -/
def Dev.unitClear (d : Dev) (ag : Agent) (n : Nat) : Dev :=
  (d.portClr n).cond (!d.portWard n && (d.is (runF n false) || d.is (runF n true))) (·.viol 0 ag (unitCtrl n))

/-- The counters of a unit (R295, R299, R322). -/
def countFields (n : Nat) : List Fld := (List.range (if n = 6 then 4 else 3)).map (fun i => Fld.whole (unitCount n i))

theorem countFields_apart_run : ∀ n < 7, ∀ tx, ∀ f ∈ countFields n, f.apart (runF n tx) = true := by
  decide +kernel

theorem Dev.unitCtrlWrite_clear (d : Dev) (ag : Agent) {n : Nat} (hn : n < 7) :
    d.unitCtrlWrite ag n (runWord true (d.is (runF n false)) (d.is (runF n true))) = d.unitClear ag n := by
  have hch : d.Changes [] (countFields n) (d.portClr n) := .portClr (.refl ..) (List.Subset.refl _)
  have his (tx : Bool) : (d.portClr n).is (runF n tx) = d.is (runF n tx) := hch.is_apart (countFields_apart_run n hn tx)
  have hward : (d.portClr n).portWard n = d.portWard n := hch.portWard_eq (by simp) n
  rw [d.unitCtrlWrite_runWord, if_pos rfl]
  refine ite_congr (by rw [hward]) (fun _ => rfl) fun h => ?_
  rw [Dev.runWrite_same _ (his false) (by rw [hward]; revert h; cases d.is (runF n false) <;> simp),
    Dev.runWrite_same _ (his true) (by rw [hward]; revert h; cases d.is (runF n true) <;> simp)]

/-! ### The four writes -/

theorem Dev.unitRun_changes (d : Dev) (ag : Agent) {ps : List Part} {fs : List Fld} {n : Nat} {tx on : Bool} (hn : n < 7)
    (hs : .ser ∈ ps) (hi : on = true ∨ .intc ∈ ps)
    (hf : (if on then startFields n tx else stopFields n tx) ++ violFields [0] ⊆ fs) :
    d.Changes ps fs (d.unitRun ag n tx on) := by
  obtain ⟨hrun, hviol⟩ := List.append_subset.mp hf
  exact .of_ite (.viol (.refl ..) hviol) (.runWrite (.refl ..) hn hs hi hrun)

theorem Dev.unitClear_changes (d : Dev) (ag : Agent) {n : Nat} :
    d.Changes [] (countFields n ++ violFields [0]) (d.unitClear ag n) :=
  .of_ite (.viol (.portClr (.refl ..) (List.subset_append_left ..)) (List.subset_append_right ..))
    (.portClr (.refl ..) (List.subset_append_left ..))

/-- PORT_RUN_START and PORT_RUN_STOP are the write of one run bit (R270, R277, R278). -/
theorem State.hostRun_eq (s : State) {n : Nat} {tx on : Bool} (hn : n < 7) (h : s.dev.hostReady = true)
    (ha : s.dev.regUp (unitCtrl n) = true) : s.hostRun n tx on = s.on (·.unitRun .host n tx on) := by
  obtain ⟨hlo, hhi⟩ := unitCtrl_bounds hn
  have hword : s.hostRun n tx on = s.hostReg (unitCtrl n) (s.dev.unitRunWord n tx on) := by
    cases tx with
    | true => exact congrArg (s.hostReg _) (runWord_eq_transmit (s.dev.is (runF n false)) on)
    | false => exact congrArg (s.hostReg _) (runWord_eq_receive on (s.dev.is (runF n true)))
  have hch := s.dev.unitRun_changes .host (ps := [.intc, .ser]) (tx := tx) (on := on) hn (by simp) (.inr (by simp))
    (List.Subset.refl _)
  rw [hword]
  exact s.hostReg_of_changes h ha hlo (by omega) ((s.dev.regWrite_unitCtrl hn).trans (s.dev.unitCtrlWrite_run .host tx on hn))
    hch (by simp) (by simp)

/-- PORT_CLR_CNT is the write of clr_cnt (R295). -/
theorem State.hostClrCnt_eq (s : State) {n : Nat} (hn : n < 7) (h : s.dev.hostReady = true)
    (ha : s.dev.regUp (unitCtrl n) = true) : s.hostClrCnt n = s.on (·.unitClear .host n) := by
  obtain ⟨hlo, hhi⟩ := unitCtrl_bounds hn
  exact s.hostReg_of_changes h ha hlo (by omega) ((s.dev.regWrite_unitCtrl hn).trans (s.dev.unitCtrlWrite_clear .host hn))
    (s.dev.unitClear_changes .host) (by simp) (by simp)

/-- RMON_CLR is the write of RMON_CTRL (R325). -/
theorem State.hostReg_rmonClr (s : State) {v : Word} (h : s.dev.hostReady = true) (ha : s.dev.regUp Reg.rmonCtrl = true) :
    s.hostReg Reg.rmonCtrl v = s.on (·.rmonClr v) :=
  s.hostReg_of_changes (ps := []) h ha (by decide) (by decide)
    ((s.dev.regWrite_port (by decide) rwtMask_serial.2.1).trans rfl) (.rmonClr (.refl ..) (List.Subset.refl _)) (by simp) (by simp)

/-- ASRC_CLR is the write of ASRC_CTRL (R327). -/
theorem State.hostReg_asrcClr (s : State) {v : Word} (h : s.dev.hostReady = true) (ha : s.dev.regUp Reg.asrcCtrl = true) :
    s.hostReg Reg.asrcCtrl v = s.on (·.asrcClr v) := by
  have e : s.dev.regWrite Env.quiet .host Reg.asrcCtrl v = s.dev.asrcClr v := by
    rw [Dev.regWrite, if_neg (not_not.mpr rwtMask_serial.2.2)]
    rfl
  exact s.hostReg_of_changes (ps := []) h ha (by decide) (by decide) e (.asrcClr (.refl ..) (List.Subset.refl _)) (by simp)
    (by simp)

end Sys2Proof.Machine

/-! The frames of the commands of the serial ports, S/PDIF, the rate monitors and the converters. -/
namespace Sys2Proof.Machine

/-- The frame of a command whose outcome is an operation on the device. -/
theorem State.Changes.of_next_on {ps : List Part} {fs : List Fld} {s u w : State} {f : Dev → Dev}
    (e : (Host.Outcome.next w : Host.Outcome State Fault Refusal) = .next u) (hw : w = s.on f)
    (h : s.dev.Changes ps fs (f s.dev)) : s.Changes ps fs u := .of_next (hw ▸ e) h

/-- Settles O34: each command acts on the device alone, and its operation's frame lies within the one stated; the writes of a host
are their registers' own operations. -/
theorem portCommandsFrame : Obligations.PortCommandsFrame := by
  unfold Obligations.PortCommandsFrame
  refine ⟨fun s t n tx e ⟨h, hup⟩ => .of_next_on e (s.hostRun_eq n.isLt h hup)
      (s.dev.unitRun_changes .host n.isLt (by simp) (.inl rfl) ?_),
    fun s t n tx e ⟨h, hup⟩ => .of_next_on e (s.hostRun_eq n.isLt h hup)
      (s.dev.unitRun_changes .host n.isLt (by simp) (.inr (by simp)) ?_),
    fun s t n e ⟨h, hup⟩ => .of_next_on e (s.hostClrCnt_eq n.isLt h hup) (s.dev.unitClear_changes .host),
    fun s t n slots e => .of_next e (.portFrame (.refl ..) (by omega) (by simp) (by simp) ?_),
    fun s t pair bits e => .of_next e (.fsEdge (.refl ..) pair.isLt (by simp) (by simp) ?_ ?_),
    fun s t n e => .of_next e (.pinStart (.refl ..) n.isLt (by simp) (by simp) (by simp) ?_),
    fun s t f e => .of_next e (.spdifFrame (.refl ..) (by simp) (by simp) ?_),
    fun s t k e => .of_next e (.npUnmute (.refl ..) (by simp) (by simp) (List.Subset.refl _)),
    fun s t m e => .of_next e (.rmonStop (.refl ..) m.isLt (by simp) (by simp) ?_),
    fun s t m c e => .of_next e (.rmonPeriod (.refl ..) m.isLt (by simp) (by simp) ?_),
    fun s t mask e ⟨h, hup⟩ => .of_next_hostReg e (s.hostReg_rmonClr h hup) (.rmonClr (.refl ..) (List.Subset.refl _)),
    fun s t mask e ⟨h, hup⟩ => .of_next_hostReg e (s.hostReg_asrcClr h hup) (.asrcClr (.refl ..) (List.Subset.refl _)),
    fun s t g e => .of_next e (.asrcAcquired (.refl ..) (List.Subset.refl _)),
    fun s t g e => .of_next e (.asrcFadeDone (.refl ..) (by simp) (by simp) g.isLt (List.Subset.refl _)),
    fun s t g e => .of_next e (.asrcHoldTimeout (.refl ..) (by simp) (List.Subset.refl _))⟩
  case refine_1 | refine_2 =>
    clear * -
    revert n tx
    decide +kernel
  case refine_3 | refine_6 =>
    clear * -
    revert n
    decide +kernel
  case refine_4 | refine_5 =>
    clear * -
    revert pair
    decide +kernel
  case refine_7 =>
    clear * -
    decide +kernel
  case refine_8 | refine_9 =>
    clear * -
    revert m
    decide +kernel

end Sys2Proof.Machine

/-! A rate monitor whose input a master drives (R314), and the statement that it refutes. -/
namespace Sys2Proof.Machine

/-- The running master direction on monitor `m`'s input (R314). -/
def Dev.rmonDriver (d : Dev) (m : Nat) : Option (Nat × Bool) :=
  (d.rmonDirs m).find? (fun e => d.isMaster e.1 e.2 && d.dirSt e.1 e.2 != PortSt.idle)

theorem Dev.rmonShow_driven (d : Dev) {m : Nat} {e : Nat × Bool} (h : d.rmonDriver m = some e) :
    d.rmonShow m = (d.put (Fld.rmonStatusState m) 4).put (Fld.rmonStatusRate m) (d.rateCode e.1 e.2) := by
  unfold Dev.rmonDriver at h
  rw [Dev.rmonShow, h]

/-- A monitor that measures, and whose input no master drives, goes on (R314). -/
theorem Dev.rmonShow_measuring (d : Dev) {m : Nat} (h : d.rmonDriver m = none) (hfollow : d.rmonFollow m ≠ [])
    (hst : d.get (Fld.rmonStatusState m) = 3) : d.rmonShow m = d := by
  unfold Dev.rmonDriver at h
  rw [Dev.rmonShow, h]
  simp [hfollow, hst]

theorem rmonShow_apart (m : Nat) : (Fld.rmonStatusRate m).apart (Fld.rmonStatusState m) = true ∧
    (Fld.rmonStatusRate m).apart (Fld.rmonStatusPeriod m) = true ∧
    (Fld.rmonStatusState m).apart (Fld.rmonStatusPeriod m) = true := by
  simp [Fld.apart, Fld.rmonStatusRate, Fld.rmonStatusState, Fld.rmonStatusPeriod]

theorem acquireFields_apart_period :
    ∀ g < 14, ∀ m < 13, ∀ f ∈ acquireFields g, f.apart (Fld.rmonStatusPeriod m) = true := by
  decide +kernel

theorem Dev.rmonTrack_spec (d : Dev) (m : Nat) (x : Rmon) : (d.rmonTrack m x).rmon m = x ∧
    (d.rmonTrack m x).get (Fld.rmonStatusPeriod m) = mean256 x.acc % 2 ^ (Fld.rmonStatusPeriod m).width := by
  obtain ⟨-, hrate, hstate⟩ := rmonShow_apart m
  refine ⟨?_, ?_⟩
  · simp [Dev.rmonTrack, Dev.rmon, Dev.setRmon]
  · rw [Dev.rmonTrack, Dev.get_put_apart _ _ hrate, Dev.get_put_apart _ _ hstate,
      Dev.get_put_same _ _ _ ⟨show 0 ≤ 23 by decide, show 23 < 32 by decide⟩]

/-- What follows a period reaches neither the monitor nor the period that it shows (R305, R318). -/
theorem Dev.rmonPeriod_follow (d : Dev) {m : Nat} (b : Bool) {gs : List Nat} (hm : m < 13) (hg : ∀ g ∈ gs, g < 14) :
    ((if b then d.happen Fld.spdifEventsRateMismatch else d).each gs Dev.asrcTry).rmon m = d.rmon m ∧
      ((if b then d.happen Fld.spdifEventsRateMismatch else d).each gs Dev.asrcTry).get (Fld.rmonStatusPeriod m) =
        d.get (Fld.rmonStatusPeriod m) := by
  have hch : d.Changes [.intc] (Fld.spdifEventsRateMismatch :: (List.range 14).flatMap acquireFields)
      ((if b then d.happen Fld.spdifEventsRateMismatch else d).each gs Dev.asrcTry) :=
    .each_mem (.of_ite (.happen (.refl ..) (by simp) (by simp) (by decide)) (.refl ..)) fun u g hgs hu =>
      .asrcTry hu (subset_of_flatMap (List.subset_cons_self ..) (List.mem_range.mpr (hg g hgs)))
  refine ⟨by rw [Dev.rmon, hch.parts.ser.resolve_left (by simp), Dev.rmon], hch.get_apart fun f hf => ?_⟩
  obtain rfl | hf := List.mem_cons.mp hf
  · have hne : Reg.rmonStatus m ≠ Reg.spdifEvents := by unfold Reg.rmonStatus Reg.spdifEvents; omega
    simpa [Fld.apart] using .inl hne
  · obtain ⟨g, hg, hf⟩ := List.mem_flatMap.mp hf
    exact acquireFields_apart_period g (List.mem_range.mp hg) m hm f hf

/-- A period at a driven input leaves the monitor as it was (R314). -/
theorem Dev.rmonPeriod_driven (d : Dev) {m : Nat} (c : Nat) {e : Nat × Bool} (h : d.rmonDriver m = some e) :
    (d.rmonPeriod m c).rmon m = d.rmon m := by
  have hst : (d.rmonShow m).get (Fld.rmonStatusState m) = 4 := by
    rw [d.rmonShow_driven h, Dev.get_put_apart _ _ (rmonShow_apart m).1,
      Dev.get_put_same _ _ _ ⟨show 28 ≤ 31 by decide, show 31 < 32 by decide⟩]
    rfl
  have hperiod : d.rmonPeriod m c = d.rmonShow m := by
    unfold Dev.rmonPeriod
    simp [hst]
  rw [hperiod, d.rmonShow_driven h]
  simp [Dev.rmon]

/-- A monitor that has accepted a period, what was off before it and a loss of framing forgotten (R315). -/
def Rmon.accept (x : Rmon) (c : Nat) : Rmon := ⟨(c :: x.acc).take 32, [], x.before, x.after, false⟩

theorem Dev.rmonNext_near (d : Dev) {m c : Nat} (hlost : (d.rmon m).lost = false) (hoff : (d.rmon m).off = [])
    (hnear : near2 c (mean256 (d.rmon m).acc) = true) : d.rmonNext m c = d.rmonTrack m ((d.rmon m).accept c) := by
  simp [Dev.rmonNext, Rmon.accept, hlost, hoff, hnear]

/-- What RMON_PERIOD's clause says of a monitor whose input no master drives (R314, R315): the period joins the mean. -/
theorem Dev.rmonPeriod_accepts (d : Dev) {m c : Nat} (hm : m < 13) (hdrv : d.rmonDriver m = none)
    (hfollow : d.rmonFollow m ≠ []) (hst : d.get (Fld.rmonStatusState m) = 3) (hbefore : (d.rmon m).before = 0)
    (hlost : (d.rmon m).lost = false) (hoff : (d.rmon m).off = []) (hnear : near2 c (mean256 (d.rmon m).acc) = true) :
    ((d.rmonPeriod m c).rmon m).acc = (c :: (d.rmon m).acc).take 32 ∧
      (d.rmonPeriod m c).get (Fld.rmonStatusPeriod m) =
        mean256 ((c :: (d.rmon m).acc).take 32) % 2 ^ (Fld.rmonStatusPeriod m).width := by
  obtain ⟨hmon, hperiod⟩ := d.rmonTrack_spec m ((d.rmon m).accept c)
  unfold Dev.rmonPeriod
  rw [d.rmonShow_measuring hdrv hfollow hst, if_neg (by simp [hfollow, hst]), if_neg (not_not.mpr hbefore),
    d.rmonNext_near hlost hoff hnear]
  extract_lets was d1 d2
  obtain ⟨hmon', hperiod'⟩ := d1.rmonPeriod_follow (decide (m = 12) && d1.rateMismatch && !was) hm
    fun g hg => d2.rmonGroups_lt hm hg
  exact ⟨by rw [hmon', hmon, Rmon.accept], hperiod'.trans hperiod⟩

/-- A transmit master and a running follower share the A pair of port 1, whose monitor still tracks a period. R263 gives both
directions of a shared pair the same master bit. -/
def sharedPair : State :=
  ready.on (fun d => (d.setRmon 2 ⟨[2560], [], 0, [], false⟩).puts
    [(Fld.portFmtShare 1, 1), (Fld.portClkTxMaster 1, 1), (stateF 1 false, 3), (stateF 1 true, 3), (Fld.rmonStatusState 2, 3)])

/-- Refutes O15: its clause of RMON_PERIOD does not ask that no master drives the monitor's input, with which it holds
(`Dev.rmonPeriod_accepts`). In `sharedPair` one does: the monitor turns DRIVEN, and the period does not join the mean. -/
theorem not_portCommandsComplete : ¬ Obligations.PortCommandsComplete := by
  intro h
  obtain ⟨-, -, -, -, -, -, -, -, -, -, -, hperiod, -⟩ := h
  obtain ⟨t, ht, hacc, -⟩ := hperiod sharedPair 2 2560 (by decide +kernel)
  obtain rfl : sharedPair.on (·.rmonPeriod 2 2560) = t := Host.Outcome.next.inj ht
  have hdriver : sharedPair.dev.rmonDriver 2 = some (1, true) := by decide +kernel
  have hbefore : (sharedPair.dev.rmon 2).acc = [2560] := by decide +kernel
  rw [State.on_dev, show ((2 : Fin 13) : Nat) = 2 from rfl, sharedPair.dev.rmonPeriod_driven 2560 hdriver, hbefore] at hacc
  exact absurd hacc (by decide)

end Sys2Proof.Machine

/-! What the operations of the USB function change (chapter 11). -/
namespace Sys2Proof.Machine

/-- The fields that show the fills of the FIFOs (R336). -/
def usbFillFields : List Fld := [Fld.usbFillCapFill, Fld.usbFillPlayFill]

/-- The fields that the end of a host session writes (R342). -/
def usbSessionFields : List Fld :=
  usbFillFields ++ [Fld.usbStatusAddress, Fld.usbStatusCapAlt, Fld.usbStatusPlayAlt, Fld.usbStatusRwake, Fld.usbStatusState]

namespace Dev.Changes

variable {ps : List Part} {fs : List Fld} {d t : Dev} {cap : Bool}

/-! ### Sessions (R337, R342) -/

theorem setUsb {x : Usb} (h : d.Changes ps fs t) (hu : .usb ∈ ps) : d.Changes ps fs { t with usb := x } :=
  h.trans ⟨{ Dev.PartsBut.refl ps t with usb := .inl hu }, fun _ _ _ => rfl⟩

theorem modUsb {f : Usb → Usb} (h : d.Changes ps fs t) (hu : .usb ∈ ps) (hf : usbFillFields ⊆ fs) :
    d.Changes ps fs (t.modUsb f) :=
  put (put (setUsb h hu) (hf (by simp [usbFillFields]))) (hf (by simp [usbFillFields]))

theorem usbStart (h : d.Changes ps fs t) (hu : .usb ∈ ps) (hf : usbFillFields ⊆ fs) : d.Changes ps fs (t.usbStart cap) :=
  modUsb h hu hf

theorem usbIdle (h : d.Changes ps fs t) (hu : .usb ∈ ps) (hf : usbSessionFields ⊆ fs) : d.Changes ps fs t.usbIdle := by
  obtain ⟨hfill, hstat⟩ := List.append_subset.mp hf
  exact usbStart (usbStart (put (put h (hstat (by simp))) (hstat (by simp))) hu hfill) hu hfill

theorem usbEnd {st : Nat} (h : d.Changes ps fs t) (hu : .usb ∈ ps) (hf : usbSessionFields ⊆ fs) :
    d.Changes ps fs (t.usbEnd st) := by
  obtain ⟨hfill, hstat⟩ := List.append_subset.mp hf
  unfold Dev.usbEnd
  exact modUsb (put (put (put (usbIdle h hu hf) (hstat (by simp))) (hstat (by simp))) (hstat (by simp))) hu hfill

theorem usbCheck (h : d.Changes ps fs t) (hu : .usb ∈ ps) (hf : usbSessionFields ⊆ fs) : d.Changes ps fs t.usbCheck :=
  of_ite (of_ite h (usbEnd h hu hf)) (put h (hf (by simp [usbSessionFields])))

theorem usbConnect (h : d.Changes ps fs t) (hu : .usb ∈ ps) (hf : Fld.usbStatusVbus :: usbSessionFields ⊆ fs) :
    d.Changes ps fs t.usbConnect := by
  obtain ⟨hvbus, hsession⟩ := List.cons_subset.mp hf
  have hshown := put (v := 1) (setUsb (x := { t.usb with vbusOk := true }) h hu) hvbus
  exact of_ite (usbEnd hshown hu hsession) hshown

theorem usbDisconnect {vbus : Bool} (h : d.Changes ps fs t) (hu : .usb ∈ ps)
    (hf : Fld.usbStatusVbus :: usbSessionFields ⊆ fs) : d.Changes ps fs (t.usbDisconnect vbus) := by
  obtain ⟨hvbus, hsession⟩ := List.cons_subset.mp hf
  exact usbCheck (flag (setUsb h hu) hvbus) hu hsession

/-! ### Packets and frames (R334 to R336) -/

theorem usbCount {cnt ev : Fld} (h : d.Changes ps fs t) (hi : .intc ∈ ps) (hc : cnt ∈ fs) (he : ev ∈ fs)
    (hw : ev.lo ≤ ev.hi) : d.Changes ps fs (t.usbCount cnt ev) := happen (inc h hc) hi he hw

theorem usbOut {bs : List Byte} (h : d.Changes ps fs t) (hu : .usb ∈ ps) (hi : .intc ∈ ps)
    (hf : [Fld.usbCount0PlayOver, Fld.usbCount1BadPkt, Fld.usbEventsPlayOver] ++ usbFillFields ⊆ fs) :
    d.Changes ps fs (t.usbOut bs) := by
  obtain ⟨hcount, hfill⟩ := List.append_subset.mp hf
  have hover {u : Dev} (h : d.Changes ps fs u) : d.Changes ps fs (u.usbCount Fld.usbCount0PlayOver Fld.usbEventsPlayOver) :=
    usbCount h hi (hcount (by simp)) (hcount (by simp)) (by decide)
  exact of_ite h (of_ite (hover h) (of_ite (inc h (hcount (by simp)))
    (of_ite (hover (modUsb h hu hfill)) (modUsb h hu hfill))))

theorem usbIn {ep : Nat} {up : Bool} (h : d.Changes ps fs t) (hu : .usb ∈ ps) (hi : .intc ∈ ps)
    (hf : [Fld.usbCount1CapUnder, Fld.usbEventsCapUnder] ++ usbFillFields ⊆ fs) : d.Changes ps fs (t.usbIn ep up) := by
  obtain ⟨hcount, hfill⟩ := List.append_subset.mp hf
  have hunder := usbCount h hi (hcount (show Fld.usbCount1CapUnder ∈ _ by simp))
    (hcount (show Fld.usbEventsCapUnder ∈ _ by simp)) (by decide)
  exact of_ite h (of_ite (setUsb h hu) (of_ite (of_ite hunder (modUsb h hu hfill)) h))

theorem usbSof {frame micro : Nat} {meas : Int} (h : d.Changes ps fs t)
    (hf : [Fld.usbFeedbackFb, Fld.usbSofFrame, Fld.usbSofMicro] ⊆ fs) : d.Changes ps fs (t.usbSof frame micro meas) := by
  have hshown := put (v := micro) (put (v := frame) h (hf (show Fld.usbSofFrame ∈ _ by simp)))
    (hf (show Fld.usbSofMicro ∈ _ by simp))
  exact of_ite h (of_ite hshown (put hshown (hf (by simp))))

/-! ### Requests (R337 to R341, R345) -/

theorem usbInterface {alt ch sub res : Nat} (h : d.Changes ps fs t) (hu : .usb ∈ ps) (hi : .intc ∈ ps)
    (hf : [Fld.usbEventsAlt, usbAltF cap] ++ usbFillFields ⊆ fs) : d.Changes ps fs (t.usbInterface cap alt ch sub res) := by
  obtain ⟨halt, hfill⟩ := List.append_subset.mp hf
  have hselected := put (v := alt) h (halt (show usbAltF cap ∈ _ by simp))
  exact of_ite h (happen (usbStart (of_ite hselected (setUsb hselected hu)) hu hfill) hi (halt (by simp)) (by decide))

theorem usbStall (h : d.Changes ps fs t) (hf : violFields [11] ⊆ fs) : d.Changes ps fs t.usbStall := viol h hf

theorem usbFreq {hz : Nat} (h : d.Changes ps fs t) (hu : .usb ∈ ps) (hi : .intc ∈ ps)
    (hf : [Fld.usbEventsAlt, usbRateF cap, usbRatioF cap] ++ usbFillFields ++ violFields [11] ⊆ fs) :
    d.Changes ps fs (t.usbFreq cap hz) := by
  obtain ⟨hf, hviol⟩ := List.append_subset.mp hf
  obtain ⟨hrate, hfill⟩ := List.append_subset.mp hf
  unfold Dev.usbFreq
  split
  · next c r _ _ =>
    have hset := happen (put (v := r) (put (v := c) h (hrate (show usbRateF cap ∈ _ by simp)))
      (hrate (show usbRatioF cap ∈ _ by simp))) hi (hrate (show Fld.usbEventsAlt ∈ _ by simp)) (by decide)
    exact of_ite hset (usbStart hset hu hfill)
  · exact usbStall h hviol

theorem usbClass {r : UsbClassReq} (h : d.Changes ps fs t) (hu : .usb ∈ ps) (hf : violFields [11] ⊆ fs) :
    d.Changes ps fs (t.usbClass r) := by
  cases r with
  | setIdle n => exact setUsb h hu
  | other => exact usbStall h hf
  | _ => exact h

theorem usbStd {r : UsbStdReq} (h : d.Changes ps fs t) (hu : .usb ∈ ps) (hf : usbSessionFields ⊆ fs) :
    d.Changes ps fs (t.usbStd r) := by
  have hstat := (List.append_subset.mp hf).2
  refine of_ite h ?_
  cases r with
  | setAddress a => exact of_ite h (put (put h (hstat (by simp))) (hstat (by simp)))
  | setConfiguration c => exact of_ite h (put (setUsb (usbIdle h hu hf) hu) (hstat (by simp)))
  | remoteWake b => exact flag h (hstat (by simp))
  | getBos => exact setUsb h hu
  | read => exact h

theorem usbFeature {mute : Option Bool} {vol : Option Int} (h : d.Changes ps fs t) (hi : .intc ∈ ps)
    (hf : [Fld.usbEventsFu, if cap then Fld.usbFucapMute else Fld.usbFuplayMute,
      if cap then Fld.usbFucapVol else Fld.usbFuplayVol] ++ violFields [3] ⊆ fs) :
    d.Changes ps fs (t.usbFeature cap mute vol) := by
  obtain ⟨hset, hviol⟩ := List.append_subset.mp hf
  unfold Dev.usbFeature
  extract_lets b lo hi' t1 t2
  have h1 : d.Changes ps fs t1 := by
    cases mute with
    | some m => exact flag h (hset (by simp))
    | none => exact h
  have h2 : d.Changes ps fs t2 := by
    cases vol with
    | some v => exact of_ite (put h1 (hset (by simp))) (viol (put h1 (hset (by simp))) hviol)
    | none => exact h1
  exact happen h2 hi (hset (by simp)) (by decide)

theorem usbReport {v : Nat} (h : d.Changes ps fs t) (hi : .intc ∈ ps)
    (hf : [Fld.usbEventsHidOut, Fld.usbHidoutReport] ⊆ fs) : d.Changes ps fs (t.usbReport v) :=
  happen (put h (hf (by simp))) hi (hf (by simp)) (by decide)

theorem usbLpm (h : d.Changes ps fs t) (hu : .usb ∈ ps) (hf : Fld.usbStatusState :: violFields [11] ⊆ fs) :
    d.Changes ps fs t.usbLpm := by
  obtain ⟨hstate, hviol⟩ := List.cons_subset.mp hf
  exact of_ite h (of_ite (usbStall h hviol) (of_ite (put (setUsb h hu) hstate) h))

/-! ### Suspend and resume (R344, R549) -/

theorem usbSuspend (h : d.Changes ps fs t) (hu : .usb ∈ ps) (hi : .intc ∈ ps)
    (hf : [Fld.usbEventsSuspend, Fld.usbStatusState] ⊆ fs) : d.Changes ps fs t.usbSuspend :=
  of_ite (happen (put (setUsb h hu) (hf (by simp))) hi (hf (by simp)) (by decide)) h

theorem usbResume {reset high : Bool} (h : d.Changes ps fs t) (hu : .usb ∈ ps) (hi : .intc ∈ ps)
    (hf : [Fld.usbEventsBusReset, Fld.usbStatusSpeed] ++ usbSessionFields ⊆ fs) :
    d.Changes ps fs (t.usbResume reset high) := by
  obtain ⟨hreset, hsession⟩ := List.append_subset.mp hf
  have hstate : Fld.usbStatusState ∈ fs := hsession (by simp [usbSessionFields])
  exact of_ite h (of_ite (happen (flag (put (usbEnd h hu hsession) hstate) (hreset (by simp))) hi (hreset (by simp))
    (by decide)) (of_ite (put (setUsb h hu) hstate) h))

theorem resumeSignal {reset high : Bool} (h : d.Changes ps fs t) (hc : .clk ∈ ps) (hp : .pwr ∈ ps) (hu : .usb ∈ ps)
    (hi : .intc ∈ ps) (hf : [Fld.usbEventsBusReset, Fld.usbStatusSpeed] ++ usbSessionFields ++ wakeFields ⊆ fs) :
    d.Changes ps fs (t.resumeSignal reset high) := by
  obtain ⟨husb, hwake⟩ := List.append_subset.mp hf
  exact of_ite h (usbResume (wakeEvent h hc hp hi hwake) hu hi husb)

/-! ### The two registers that a host writes (R341, R348) -/

theorem usbHidin {v : Word} (h : d.Changes ps fs t) (hu : .usb ∈ ps) (hf : Fld.usbHidinReport ∈ fs) :
    d.Changes ps fs (t.usbHidin v) := of_ite h (usbWakeUp (setUsb (put h hf) hu) hu)

theorem usbCtrl {v : Word} (h : d.Changes ps fs t) (hu : .usb ∈ ps)
    (hf : [Reg.usbCount0, Reg.usbCount1, Reg.usbCtrl].map Fld.whole ++ usbSessionFields ⊆ fs) :
    d.Changes ps fs (t.usbCtrl v) := by
  obtain ⟨hreg, hsession⟩ := List.append_subset.mp hf
  unfold Dev.usbCtrl
  extract_lets t1 t2
  have h1 : d.Changes ps fs t1 := wr h (hreg (by simp))
  have h2 : d.Changes ps fs t2 := of_ite (wr (wr h1 (hreg (by simp))) (hreg (by simp))) h1
  exact of_ite (usbCheck h2 hu hsession) h2

end Dev.Changes

end Sys2Proof.Machine

/-! A host's writes to USB_CTRL and USB_HIDIN (R341, R348): each is its register's own operation. -/
namespace Sys2Proof.Machine

/-- Neither register takes staged words (R118). -/
theorem rwtMask_usb : rwtMask Reg.usbCtrl = 0 ∧ rwtMask Reg.usbHidin = 0 := by decide +kernel

theorem Dev.regWrite_usbCtrl (d : Dev) {env : Env} {ag : Agent} {v : Word} :
    d.regWrite env ag Reg.usbCtrl v = d.usbCtrl v := by
  rw [Dev.regWrite, if_neg (not_not.mpr rwtMask_usb.1)]
  rfl

theorem Dev.regWrite_usbHidin (d : Dev) {env : Env} {ag : Agent} {v : Word} :
    d.regWrite env ag Reg.usbHidin v = d.usbHidin v := by
  rw [Dev.regWrite, if_neg (not_not.mpr rwtMask_usb.2)]
  rfl

/-- A ready host's write to a register in reach of block USB, where the operation changes the function alone. -/
theorem State.hostReg_usb (s : State) {fs : List Fld} {a : Nat} {v : Word} {f : Dev → Dev} (h : s.dev.hostReady = true)
    (ha : s.dev.regUp a = true) (hblock : a / 0x10000 = 0x8D) (e : s.dev.regWrite Env.quiet .host a v = f s.dev)
    (hf : s.dev.Changes [.usb] fs (f s.dev)) : s.hostReg a v = s.on f := by
  have hne {b : Nat} (hb : b / 0x10000 ≠ 0x8D) : a ≠ b := fun hab => hb (hab ▸ hblock)
  rw [State.hostReg, s.hostWord_regWrite h ha (hne (by decide)) (hne (by decide)) (hne (by decide))
    (e ▸ hf.awaits (by simp) (by simp) (Dev.hostReady_awaits h))]
  simp only [State.on, e]

/-- HIDIN_WRITE is the write of USB_HIDIN (R341). -/
theorem State.hostReg_usbHidin (s : State) {v : Word} (h : s.dev.hostReady = true) (ha : s.dev.regUp Reg.usbHidin = true) :
    s.hostReg Reg.usbHidin v = s.on (·.usbHidin v) :=
  s.hostReg_usb h ha (by decide) s.dev.regWrite_usbHidin
    (.usbHidin (fs := [Fld.usbHidinReport]) (.refl ..) (by simp) (by simp))

/-- USB_CTRL_WRITE is the write of USB_CTRL (R348). -/
theorem State.hostReg_usbCtrl (s : State) {v : Word} (h : s.dev.hostReady = true) (ha : s.dev.regUp Reg.usbCtrl = true) :
    s.hostReg Reg.usbCtrl v = s.on (·.usbCtrl v) :=
  s.hostReg_usb h ha (by decide) s.dev.regWrite_usbCtrl (.usbCtrl (.refl ..) (by simp) (List.Subset.refl _))

end Sys2Proof.Machine

/-! The statements of the commands of the USB function: their frames, and the state that a resume leads back to. -/
namespace Sys2Proof.Machine

/-- Settles O35: each command acts on the device alone, and its operation's frame lies within the one stated; the two writes of
a host are their registers' own operations. -/
theorem usbCommandsFrame : Obligations.UsbCommandsFrame := by
  unfold Obligations.UsbCommandsFrame
  refine ⟨fun s t bytes e => .of_next e (.usbOut (.refl ..) (by simp) (by simp) ?_),
    fun s t ep up e => .of_next e (.usbIn (.refl ..) (by simp) (by simp) ?_),
    fun s t frame micro meas e => .of_next e (.usbSof (.refl ..) (List.Subset.refl _)),
    fun s t cap alt ch sub res e => .of_next e (.usbInterface (.refl ..) (by simp) (by simp) ?_),
    fun s t cap hz e => .of_next e (.usbFreq (.refl ..) (by simp) (by simp) ?_),
    fun s t req e => .of_next e (.usbClass (.refl ..) (by simp) (List.Subset.refl _)),
    fun s t req e => .of_next e (.usbStd (.refl ..) (by simp) ?_),
    fun s t report e => .of_next e (.usbReport (.refl ..) (by simp) (List.Subset.refl _)),
    fun s t e => .of_next e (.usbConnect (.refl ..) (by simp) ?_),
    fun s t vbus e => .of_next e (.usbDisconnect (.refl ..) (by simp) ?_),
    fun s t e => .of_next e (.usbSuspend (.refl ..) (by simp) (by simp) (List.Subset.refl _)),
    fun s t reset high e => .of_next e (.resumeSignal (.refl ..) (by simp) (by simp) (by simp) (by simp) ?_),
    fun s t e => .of_next e (.usbLpm (.refl ..) (by simp) (List.Subset.refl _)),
    fun s t cap mute vol e => .of_next e (.usbFeature (.refl ..) (by simp) ?_),
    fun s t v e ⟨h, hup⟩ => .of_next_hostReg e (s.hostReg_usbHidin h hup) (.usbHidin (.refl ..) (by simp) (by simp)),
    fun s t v e ⟨h, hup⟩ => .of_next_hostReg e (s.hostReg_usbCtrl h hup) (.usbCtrl (.refl ..) (by simp) ?_)⟩
  case refine_8 =>
    clear * -
    decide +kernel
  case refine_9 => cases cap <;> simp [violFields]
  all_goals simp [usbFillFields, usbSessionFields, violFields]

/-- Resume signalling leads back to the state before the suspend, as far as USB_STATUS.state holds it (R344). -/
theorem Dev.resumeSignal_returns (d : Dev) (high : Bool) (hrel : d.released = false) (hst : d.usbSt = UsbSt.suspended) :
    (d.resumeSignal false high).usbSt = d.usb.before % 2 ^ Fld.usbStatusState.width := by
  have hwake : d.Changes [.clk, .intc, .pwr] wakeFields (d.wakeEvent 1) :=
    .wakeEvent (.refl ..) (by simp) (by simp) (by simp) (List.Subset.refl _)
  have hkept : (d.wakeEvent 1).usbSt = UsbSt.suspended := (hwake.get_apart (by decide +kernel)).trans hst
  have husb : (d.wakeEvent 1).usb = d.usb := hwake.parts.usb.resolve_left (by simp)
  have e : d.resumeSignal false high =
      ({ d.wakeEvent 1 with usb := { (d.wakeEvent 1).usb with rwSignal := false } }).put Fld.usbStatusState d.usb.before := by
    simp [Dev.resumeSignal, Dev.usbResume, hrel, hkept, husb]
  rw [e]
  exact Dev.get_put_same _ _ _ ⟨show 28 ≤ 31 by decide, show 31 < 32 by decide⟩

/-- What USB_RESUME's clause says where the state before the suspend is one of the eight of R349. -/
theorem Dev.resumeSignal_returns_of_lt (d : Dev) (high : Bool) (hrel : d.released = false)
    (hst : d.usbSt = UsbSt.suspended) (hbefore : d.usb.before < 8) :
    (d.resumeSignal false high).usbSt = d.usb.before % 8 := by
  have hwidth : 2 ^ Fld.usbStatusState.width = 16 := rfl
  rw [d.resumeSignal_returns high hrel hst, hwidth]
  omega

/-- A power transaction runs, and the function is suspended from a state 8, for which USB_STATUS.state has a code and R349 no
name. -/
def suspendedFromEight : State :=
  ready.on (fun d =>
    { d.puts [(Fld.usbStatusState, 5), (Fld.pwrTxnBusy, 1)] with usb := { d.usb with before := 8 } })

/-- Refutes O16: its clause of USB_RESUME takes the state before the suspend modulo 8, and does not ask that it is one of the
eight, with which it holds (`Dev.resumeSignal_returns_of_lt`). USB_STATUS.state has four bits: from `suspendedFromEight` the
function resumes in state 8, and not in 0. -/
theorem not_usbCommandsComplete : ¬ Obligations.UsbCommandsComplete := by
  intro h
  obtain ⟨-, -, -, -, -, -, -, -, -, -, -, -, -, -, -, -, -, hresume, -⟩ := h
  obtain ⟨t, ht, hback⟩ := hresume suspendedFromEight false (by decide +kernel)
  obtain rfl : suspendedFromEight.on (·.resumeSignal false false) = t := Host.Outcome.next.inj ht
  rw [State.on_dev, Dev.resumeSignal_returns _ _ (by decide +kernel) (by decide +kernel)] at hback
  exact absurd hback (by decide +kernel)

end Sys2Proof.Machine

/-! The machine as a whole: what a step runs, that every command answers, that the queue stays, and what reset leaves. -/
namespace Sys2Proof.Machine
set_option Elab.async false

/-- Settles O1: a step is defined by the front of the queue. -/
theorem stepRunsFrontCommand : Obligations.StepRunsFrontCommand := by
  refine ⟨fun _ _ _ => rfl, fun s hq => ?_⟩
  simp [step, hq]

/-- Settles O2: each command's operation is a function from states to states, and its outcome is the next state. -/
theorem commandsNeverStop : Obligations.CommandsNeverStop := by
  intro c _
  cases c <;> exact ⟨_, rfl⟩

/-- Edits of the device and of memory leave the queue as it is. -/
theorem editClosed_pending (q : List Instr) : EditClosed (fun s => s.pending = q) where
  dev _ h := h
  store _ _ h := h
  erase _ h := h

/-- Settles O3: every command is made of edits of the device and of memory. -/
theorem execKeepsTheQueue : Obligations.ExecKeepsTheQueue := fun _ _ _ e =>
  (editClosed_pending _).exec_next rfl e

/-- Settles O6: reset clears memory, and no write has come before. -/
theorem resetMeetsInvariants : Obligations.ResetMeetsInvariants := by
  unfold Obligations.ResetMeetsInvariants Dev.accessEnded
  decide +kernel

/-- A register that the device lists no value of holds its hardware value. -/
theorem Dev.rd_of_unlisted (d : Dev) {a : Nat} (h : ∀ e ∈ d.regs, e.1 ≠ a) : d.rd a = Regs.hw a := by
  have hget : ∀ m : SMap Word, (∀ e ∈ m, e.1 ≠ a) → SMap.get (Regs.hw a) m a = Regs.hw a := by
    intro m
    induction m with
    | nil => exact fun _ => rfl
    | cons e m ih =>
      intro hm
      rw [List.forall_mem_cons] at hm
      simpa [SMap.get, hm.1] using ih hm.2
  exact hget d.regs h

/-- The registers of which reset lists a value. -/
theorem reset_regs_listed : ∀ e ∈ State.reset.dev.regs,
    e.1 ∈ [Reg.pwrState 0, Reg.pwrState 1, Reg.pwrState 2, Reg.hostifI2cnow, Reg.ktBootcnt] ∨ e.1 = Reg.sysRstcause ∨
      ∃ o < 10, e.1 = Reg.outStatus o := by
  decide +kernel

/-- SYS_RSTCAUSE reads after reset what the table gives it. -/
theorem reset_sysRstcause : State.reset.dev.rd Reg.sysRstcause = 0x00010000 ∧ Regs.hw Reg.sysRstcause = 0x00010000 := by
  decide +kernel

/-- Settles O7: reset lists the registers named and no other. -/
theorem resetValues : Obligations.ResetValues := by
  have hstate : (∀ k, k < 46 → State.reset.dev.dom k = 2) ∧ State.reset.dev.bootSt = BootSt.selftest ∧
      State.reset.pending = [] ∧ State.reset.dev.boot.everRun = false ∧ ∀ o, o < 10 → State.reset.dev.outSt o = OutSt.hiz := by
    decide +kernel
  obtain ⟨hdom, hboot, hq, hrun, hout⟩ := hstate
  refine ⟨reset_sysRstcause.1, hdom, hboot, hq, hrun, hout, fun a ha hstat => ?_⟩
  by_cases hcause : a = Reg.sysRstcause
  · rw [hcause, reset_sysRstcause.1, reset_sysRstcause.2]
  · refine Dev.rd_of_unlisted _ fun e he hea => ?_
    obtain h | h | ⟨o, ho, h⟩ := reset_regs_listed e he
    · exact ha (hea ▸ h)
    · exact hcause (hea ▸ h)
    · exact hstat o ho (hea ▸ h)

end Sys2Proof.Machine

/-! The scalar and predicate registers of an engine (R353). -/
namespace Sys2Proof.Machine
set_option Elab.async false

/-- A scalar register other than s0 reads back in its class, and the others keep what they read. -/
theorem Eng.readS_writeS (x : Eng) (fast : Bool) (v : Word) {i : Nat} (j : Nat) (hi : i ≠ 0) :
    (x.writeS fast i v).readS fast j = if j = i then v else x.readS fast j := by
  unfold Eng.writeS Eng.readS
  rw [if_neg hi]
  by_cases hj : j = i
  · subst hj
    by_cases hb : (fast && decide (24 ≤ j)) = true <;> simp [hi, hb]
  · by_cases hb : (fast && decide (24 ≤ i)) = true <;> simp [hj, hb, SMap.get_set_ne]

/-- The upper registers of one class are not those of the other. -/
theorem Eng.readS_writeS_upper (x : Eng) (fast : Bool) (v : Word) {i : Nat} (j : Nat) (hi : 24 ≤ i) :
    (x.writeS fast i v).readS (!fast) j = x.readS (!fast) j := by
  have h0 : i ≠ 0 := by omega
  unfold Eng.writeS Eng.readS
  rw [if_neg h0]
  cases fast
  · by_cases hj : 24 ≤ j
    · simp [hj]
    · have hne : j ≠ i := by omega
      simp [hj, SMap.get_set_ne _ _ _ _ _ _ hne]
  · simp [hi]

/-- The lower registers are shared by the classes. -/
theorem Eng.readS_writeS_lower (x : Eng) (fast : Bool) (v : Word) {i : Nat} (hi : i ≠ 0) (h24 : i < 24) :
    (x.writeS fast i v).readS (!fast) i = v := by
  have hl : ¬ 24 ≤ i := by omega
  simp [Eng.writeS, Eng.readS, hi, hl]

/-- Settles O56: s0 and p0 are answered before any register is looked up, and the fast class has a bank of its own from s24 on. -/
theorem engineConstantRegisters : Obligations.EngineConstantRegisters := fun x fast v _ =>
  ⟨rfl, rfl, rfl, rfl, fun _ j hi => x.readS_writeS fast v j hi, fun _ j hi => x.readS_writeS_upper fast v j hi,
    fun _ hi h24 => x.readS_writeS_lower fast v hi h24⟩

end Sys2Proof.Machine

/-! A host's word that the role refuses (R502), or that a quiesce holds (R546). -/
namespace Sys2Proof.Machine
set_option Elab.async false

/-- A package in STANDBY or PAIRING refuses a word in reach that its role does not accept, in category 10 (R502, R535). -/
theorem Dev.writeGate_role (d : Dev) {a : Nat} {v : Word} (he : d.boot.everRun = true) (hr : isRegAddr a = true)
    (hd : d.downHere a true = false) (hl : d.released = true) (ha : d.roleAccepts a v = false) :
    d.writeGate .host a v = some 10 := by
  simp [Dev.writeGate, d.region_reg a hr, he, hd, hl, ha]

/-- Settles O50: no check before that of R502 refuses the word. -/
theorem standbyRefusesHostWrites : Obligations.StandbyRefusesHostWrites := by
  intro s env a v hin hend he h4 hr hd hl ha
  rw [exec_registerWrite, s.hostWord_refused hin hend h4 (by simp [s.dev.region_reg a hr]) (s.dev.writeGate_role he hr hd hl ha)]

/-- A register lies in the domain of its block (R27). -/
theorem Dev.addrDom_reg (d : Dev) {a : Nat} (hr : isRegAddr a = true) : d.addrDom a = regDom a := by
  simp [Dev.addrDom, d.region_reg a hr]

/-- A register is in reach only while its domain is on (R30). -/
theorem Dev.on_of_regUp (d : Dev) {a k : Nat} (ha : d.regUp a = true) (hk : regDom a = some k) : d.on k = true := by
  by_contra hoff
  rw [Dev.regUp, d.downHere_of_off hk (Bool.not_eq_true _ ▸ hoff)] at ha
  simp at ha

/-- A register in reach is an aligned register of R27 that its domain does not refuse. -/
theorem Dev.regUp_iff (d : Dev) (a : Nat) :
    d.regUp a = true ↔ isRegAddr a = true ∧ a % 4 = 0 ∧ d.downHere a true = false := by
  simp [Dev.regUp, and_assoc]

/-- Settles O54: no check refuses the word, and the quiesce of its domain holds it. -/
theorem quiescingDomainHoldsWrite : Obligations.QuiescingDomainHoldsWrite := by
  intro s env a k v hin hend he hl hz ha hk hq
  obtain ⟨hr, h4, hd⟩ := (s.dev.regUp_iff a).mp ha
  have haa : a / 4 * 4 = a := by omega
  have hg : s.dev.writeGate .host a v = none := by
    simp [Dev.writeGate, s.dev.region_reg a hr, he, hd, hl, hz]
  have hh : s.dev.holdsWrite .host a = true := by
    simp [Dev.holdsWrite, s.dev.addrDom_reg hr, hk, hq, s.dev.on_of_regUp ha hk]
  have hword : s.writeWord env .host a v = s.on (·.modPwr (fun p => { p with held := p.held ++ [(16, a, v)] })) := by
    simp [State.writeWord, haa, s.dev.region_reg a hr, hg, hh, Agent.code]
  rw [exec_registerWrite, State.hostWord, hin, if_neg Bool.false_ne_true, hword]
  exact congrArg Host.Outcome.next (State.endAccess_of_ended _ hend)

end Sys2Proof.Machine

/-! A ready host's writes to registers, and the violation counters (R535, R537, R541). -/
namespace Sys2Proof.Machine
set_option Elab.async false

/-- A register of no power domain that takes no staged words is always in reach (R23, R30, R118). -/
theorem Dev.regUp_of_no_domain (d : Dev) {a : Nat} (hr : isRegAddr a = true) (h4 : a % 4 = 0) (hdom : regDom a = none)
    (hm : rwtMask a = 0) : d.regUp a = true := by
  have heng : ¬ (0xA00000 ≤ a ∧ a < 0xA10000) := fun h => by simp [regDom, h] at hdom
  simp [Dev.regUp, Dev.downHere, Dev.tileGone, hr, h4, hdom, hm, heng]

/-- A ready host's write to a register in reach is the register's own operation, where that leaves the clock root and the power
sequencer alone. -/
theorem State.hostReg_reach (s : State) {ps : List Part} {fs : List Fld} {a : Nat} {v : Word} {f : Dev → Dev}
    (h : s.dev.hostReady = true) (ha : s.dev.regUp a = true) (hne : a ∉ [Reg.sysRstctrl, Reg.bootCtrl, Reg.bootHostdata])
    (e : s.dev.regWrite Env.quiet .host a v = f s.dev) (hf : s.dev.Changes ps fs (f s.dev)) (hc : .clk ∉ ps)
    (hp : .pwr ∉ ps) : s.hostReg a v = s.on f := by
  simp only [List.mem_cons, List.not_mem_nil, or_false, not_or] at hne
  obtain ⟨h1, h2, h3⟩ := hne
  rw [State.hostReg, s.hostWord_regWrite h ha h1 h2 h3 (e ▸ hf.awaits hc hp (Dev.hostReady_awaits h))]
  simp only [State.on, e]

/-- The counters of R535 take no staged words, and lie in no power domain. -/
theorem violCnt_open : ∀ c < 16, isRegAddr (Reg.violCnt c) = true ∧ regDom (Reg.violCnt c) = none ∧ rwtMask (Reg.violCnt c) = 0 := by
  decide +kernel

/-- A host's write of any value to a violation counter clears it (R537). -/
theorem Dev.regWrite_violCnt (d : Dev) {c : Nat} {v : Word} (hc : c < 16) :
    d.regWrite Env.quiet .host (Reg.violCnt c) v = d.wr (Reg.violCnt c) 0 := by
  have hb : Reg.violCnt c = 0x908000 + 4 * c := rfl
  have hne {b : Nat} (h : b < 0x908000) : Reg.violCnt c ≠ b := by omega
  have hblock : Reg.violCnt c / 0x10000 = 0x90 := by omega
  have hmon : d.monWrite (Reg.violCnt c) v = d.wr (Reg.violCnt c) 0 := by
    rw [Dev.monWrite, if_neg (hne (by decide)), if_neg (hne (by decide)), if_neg (hne (by decide)), if_pos (by omega)]
  rw [Dev.regWrite, if_neg (not_not.mpr (violCnt_open c hc).2.2)]
  simp only [hblock, hne (show Reg.tumbCtrl < 0x908000 by decide), hne (show Reg.hingeCtrl < 0x908000 by decide),
    Nat.reduceEqDiff, if_false, if_true, hmon]

theorem State.hostReg_violCnt (s : State) {c : Nat} {v : Word} (hc : c < 16) (h : s.dev.hostReady = true) :
    s.hostReg (Reg.violCnt c) v = s.on (·.wr (Reg.violCnt c) 0) := by
  obtain ⟨hr, hdom, hm⟩ := violCnt_open c hc
  have hb : Reg.violCnt c = 0x908000 + 4 * c := rfl
  have hne : Reg.violCnt c ∉ [Reg.sysRstctrl, Reg.bootCtrl, Reg.bootHostdata] := by
    simp only [List.mem_cons, List.not_mem_nil, or_false, not_or]
    unfold Reg.sysRstctrl Reg.bootCtrl Reg.bootHostdata
    omega
  exact s.hostReg_reach h (s.dev.regUp_of_no_domain hr (by omega) hdom hm) hne (s.dev.regWrite_violCnt hc)
    (Dev.changes_wr (ps := []) (List.mem_singleton.mpr rfl)) (by simp) (by simp)

/-- The codes of the agents fit their field of VIOL_LAST (R541). -/
theorem Agent.code_lt (g : Agent) : g.code < 32 := by
  cases g <;> simp only [Agent.code] <;> omega

/-- Settles O60: a violation counts and describes itself, each in a register of its own; a host's write clears the count. -/
theorem violationCounting : Obligations.ViolationCounting := by
  refine ⟨fun d cat addr ag hc haddr => ⟨d.get_viol_same ag addr hc, ?_, ?_, ?_, fun c h16 hne => ?_⟩,
    fun s cat v h => ⟨_, rfl, ?_⟩⟩
  · rw [Dev.viol, Dev.violN, Dev.get_put_apart _ _ (by decide), Dev.get_put_apart _ _ (by decide),
      Dev.get_put_same _ _ _ ⟨by decide, by decide⟩]
    exact Nat.mod_eq_of_lt hc
  · rw [Dev.viol, Dev.violN, Dev.get_put_apart _ _ (by decide), Dev.get_put_same _ _ _ ⟨by decide, by decide⟩]
    exact Nat.mod_eq_of_lt ag.code_lt
  · rw [Dev.viol, Dev.violN, Dev.get_put_same _ _ _ ⟨by decide, by decide⟩]
    exact Nat.mod_eq_of_lt haddr
  · have h1 : Reg.violCnt c ≠ Reg.violCnt cat := by unfold Reg.violCnt; omega
    have h2 : Reg.violCnt c < Reg.violLast := by unfold Reg.violCnt Reg.violLast; omega
    exact congrArg (Fld.violCntCount c).of (d.rd_viol_ne cat ag addr _ h1 h2.ne (h2.trans (by decide)).ne)
  · rw [s.hostReg_violCnt cat.isLt h, State.on_dev]
    exact (Dev.get_wr_of_addr _ _ (f := Fld.violCntCount cat) rfl).trans (by simp [Fld.of, bitsOf])

end Sys2Proof.Machine

/-! The end of a quiesce (R546, R547): a refused transaction, and what a word of PWR_TARGET that still waits makes of it. -/
namespace Sys2Proof.Machine
set_option Elab.async false

/-- With no access held and none posted or stretched, the end of a quiesce serves nothing but the end of an access. -/
theorem State.serveHeld_idle (s : State) (hheld : s.dev.pwr.held = []) (hposted : s.dev.host.posted = [])
    (hstretched : s.dev.host.stretched = none) (hend : s.dev.accessEnded) : s.serveHeld = s := by
  have hsame : (s.on fun d =>
      { d.modPwr (fun x => { x with held := [] }) with host := { d.host with posted := [] } }) = s := by
    unfold State.on Dev.modPwr
    rw [← hheld, ← hposted]
  unfold State.serveHeld
  split
  · rfl
  · simp only [hheld, hposted, List.foldl_nil, hsame, State.endAccess_of_ended s hend, hstretched]

/-- What a refused transaction reports, in fields of PWR_TXN and PWR_EVENTS that are apart from each other (R547). -/
theorem Dev.refuseTxn_reports (d : Dev) (k reason : Nat) :
    (d.refuseTxn k reason).get Fld.pwrTxnBusy = 0 ∧ (d.refuseTxn k reason).get Fld.pwrTxnResult = 2 ∧
      (d.refuseTxn k reason).get Fld.pwrTxnReason = reason % 2 ^ Fld.pwrTxnReason.width ∧
      (d.refuseTxn k reason).get Fld.pwrTxnDomain = k % 2 ^ Fld.pwrTxnDomain.width ∧
      (d.refuseTxn k reason).pwr.lower = [] ∧ (d.refuseTxn k reason).get Fld.pwrEventsRefused = 1 := by
  have hne {f : Fld} (h : f.addr = Reg.pwrTxn) : f.addr ≠ Fld.pwrEventsRefused.addr := h ▸ by decide
  refine ⟨?_, ?_, ?_, ?_, by simp [Dev.refuseTxn, Dev.inc, Dev.addSat, Dev.modPwr],
    Dev.happen_sets _ _ (by decide) (by decide)⟩
  all_goals
    rw [Dev.refuseTxn, Dev.get_happen_ne _ _ _ (hne rfl), Dev.inc, Dev.addSat, Dev.get_put_apart _ _ (by decide)]
  · rw [Dev.get_put_apart _ _ (by decide), Dev.get_put_apart _ _ (by decide), Dev.get_put_apart _ _ (by decide),
      Dev.get_put_apart _ _ (by decide), Dev.get_put_same _ _ _ ⟨by decide, by decide⟩]
    rfl
  · rw [Dev.get_put_apart _ _ (by decide), Dev.get_put_apart _ _ (by decide),
      Dev.get_put_same _ _ _ ⟨by decide, by decide⟩]
    rfl
  · rw [Dev.get_put_apart _ _ (by decide), Dev.get_put_same _ _ _ ⟨by decide, by decide⟩]
  · rw [Dev.get_put_same _ _ _ ⟨by decide, by decide⟩]

/-- Restoring targets writes registers alone. -/
theorem Dev.restoreTargets_only (d : Dev) (ks : List Nat) : d.restoreTargets ks = { d with regs := (d.restoreTargets ks).regs } := by
  refine List.foldlRecOn (motive := fun u : Dev => u = { d with regs := u.regs }) ks (fun d k => d.setTarget k (d.present k))
    rfl fun u hu k _ => ?_
  rw [hu]
  rfl

/-- A refusal leaves what waits outside the transaction (R547). -/
theorem Dev.refuseTxn_keeps (d : Dev) (k reason : Nat) : (d.refuseTxn k reason).clk = d.clk ∧
    (d.refuseTxn k reason).host = d.host ∧ (d.refuseTxn k reason).pwr = { d.pwr with lower := [], agreed := [] } := by
  have hpwr : (d.restoreTargets (d.pwr.lower.map (·.1))).pwr = d.pwr := by rw [d.restoreTargets_only]
  have hclk : (d.restoreTargets (d.pwr.lower.map (·.1))).clk = d.clk := by rw [d.restoreTargets_only]
  have hhost : (d.restoreTargets (d.pwr.lower.map (·.1))).host = d.host := by rw [d.restoreTargets_only]
  simp [Dev.refuseTxn, Dev.inc, Dev.addSat, Dev.modPwr, hpwr, hclk, hhost]

/-- What QUIESCE_TIMEOUT comes to in a state in which no access waits for its end. -/
theorem State.quiesceEnds_of_accessEnded (s : State) {k : Nat}
    (hk : (s.dev.pwr.lower.map (·.1)).find? (fun k => !s.dev.pwr.agreed.contains k) = some k) (hwake : s.dev.pwr.wakePend = 0)
    (hheld : s.dev.pwr.held = []) (hposted : s.dev.host.posted = []) (hstretched : s.dev.host.stretched = none)
    (hend : s.dev.accessEnded) : s.quiesceEnds = s.on (·.refuseTxn k 2) := by
  obtain ⟨hclk, hhost, hpwr⟩ := s.dev.refuseTxn_keeps k 2
  have hrefuse : s.on Dev.quiesceTimeout = s.on (·.refuseTxn k 2) := by
    unfold State.on Dev.quiesceTimeout
    simp only [hk, Dev.pendingWake, hpwr, hwake, ne_eq, not_true_eq_false, false_and, if_false]
  rw [State.quiesceEnds, hrefuse]
  refine State.serveHeld_idle _ ?_ ?_ ?_ ⟨?_, ?_⟩ <;> simp only [State.on_dev, hclk, hhost, hpwr]
  exacts [hheld, hposted, hstretched, hend.1, hend.2]

/-- A lowering domain that has not agreed, and a staged word of PWR_TARGET that turns engines 12 to 15 off. -/
def stagedDuringQuiesce : State :=
  ready.on (·.modPwr (fun p => { p with lower := [(36, 0)], staged := [(0, 0x00AAAAAA)] }))

/-- Refutes O24: the clause of QUIESCE_TIMEOUT lets a word of PWR_TARGET wait for the end of an access. The refusal serves what
the quiesce held and so ends an access: the staged word begins the next transaction, and PWR_TXN reads busy. -/
theorem not_powerCommandsComplete : ¬ Obligations.PowerCommandsComplete := by
  rintro ⟨-, -, htimeout, -⟩
  obtain ⟨t, ht, hbusy, -⟩ := htimeout stagedDuringQuiesce 36 (by decide +kernel)
  obtain rfl : stagedDuringQuiesce.quiesceEnds = t := Host.Outcome.next.inj ht
  exact absurd hbusy (by decide +kernel)

end Sys2Proof.Machine

/-! The bundles of an engine (R356, R366): a LOOP that executes inside a trap faults. -/
namespace Sys2Proof.Machine
set_option Elab.async false

/-- A scalar instruction without a memory access reads 0 from memory and changes nothing (R359). -/
theorem State.engMemory_none (s : State) {env : Env} {e w : Nat} (hshape : memShape (opOf w) = none)
    (hop : opOf w ∉ [0x1E, 0x1F]) : s.engMemory env e w = (s, .ok 0) := by
  simp only [List.mem_cons, List.not_mem_nil, or_false] at hop
  simp [State.engMemory, hop, hshape]

/-- A legal bundle commits where LOOP, too, is shut out with what reaches memory or may fault (R356). -/
theorem State.engIssue_commits (s : State) {env : Env} {e p b : Nat} (hlegal : bundleLegal b = true)
    (hop : (s.dev.eng e).executes b = true →
      memShape (opOf (scalarOf b)) = none ∧ opOf (scalarOf b) ∉ [0x1E, 0x1F, 0x23, 0x24]) :
    s.engIssue env e p b = s.on (·.engCommit e p b env.errs (s.dev.eng e) 0) := by
  unfold State.engIssue
  cases hex : (s.dev.eng e).executes b with
  | false => simp [hlegal, hex]
  | true =>
    obtain ⟨hshape, hne⟩ := hop hex
    simp only [List.mem_cons, List.not_mem_nil, or_false, not_or] at hne
    obtain ⟨h1e, h1f, h23, h24⟩ := hne
    simp [hlegal, hex, h23, h24, s.engMemory_none hshape (show opOf (scalarOf b) ∉ [0x1E, 0x1F] by simp [h1e, h1f])]

/-- Engine 1 runs in a trap, and its PC leads to a bundle that holds LOOP alone. -/
def loopInTrap : State :=
  (ready.on (fun d => ((d.setEng 1 (Eng.init.setMode 1 true)).wr (Reg.winVa 0 1) 0x7).puts [(Fld.engStatusState 1, 1)])).store 0
    (leBytes 8 0x8C000000)

/-- The bundle faults where it issues: the engine halts by a double fault, and does not run on behind the bundle. -/
theorem loopInTrap_halts : ((loopInTrap.engineBundle 1 0 Env.quiet).dev.engSt 1) = EngSt.halted := by decide +kernel

/-- Refutes O17: the clause of ENGINE_BUNDLE shuts out a running hardware loop, but not a LOOP that executes in a trap, which
R366 makes illegal. The bundle faults (R373, R374) where the clause has it commit. -/
theorem not_engineCommandsComplete : ¬ Obligations.EngineCommandsComplete := by
  rintro ⟨hbundle, -⟩
  obtain ⟨t, ht, hcommit⟩ := hbundle loopInTrap 1 0 Env.quiet 0 false (by decide +kernel)
  obtain rfl : loopInTrap.engineBundle 1 0 Env.quiet = t := Host.Outcome.next.inj ht
  have hstate := congrArg (fun u : State => u.dev.engSt 1) hcommit
  rw [loopInTrap_halts] at hstate
  exact absurd hstate (by decide +kernel)

end Sys2Proof.Machine

/-! Registers by the rows of R8: where the addresses of a row end, which blocks take staged words (R118), and a ready host's writes
to registers of no power domain. -/
namespace Sys2Proof.Machine
set_option Elab.async false

/-- The addresses of a row lie below this one, but for what page numbers from 2^32 on select. -/
def RegRow.top (r : RegRow) : Nat := r.base + (r.stride2 % 2 ^ 32 * (r.count2 - 1) + r.stride * r.count + 1)

theorem RegRow.lt_top_of_has {r : RegRow} {a : Nat} (h : r.has a = true) (ha : a < 2 ^ 32) : a < r.top := by
  simp only [RegRow.has, Bool.and_eq_true, decide_eq_true_eq] at h
  obtain ⟨hbase, ⟨hj, hi⟩, hd⟩ := h
  have hrow {d : Nat} (hi : (if r.stride = 0 then 0 else d / r.stride) < r.count)
      (hd : (if r.stride = 0 then d else d % r.stride) = 0) : d < r.stride * r.count + 1 := by
    by_cases h1 : r.stride = 0
    · rw [if_pos h1] at hd
      omega
    · rw [if_neg h1, Nat.div_lt_iff_lt_mul (Nat.pos_of_ne_zero h1), Nat.mul_comm] at hi
      omega
  have hrem := hrow hi hd
  unfold RegRow.top
  by_cases h2 : r.stride2 = 0
  · rw [if_pos h2] at hrem
    omega
  · rw [if_neg h2] at hrem hj
    have hsplit := Nat.div_add_mod (a - r.base) r.stride2
    have hpages : r.stride2 * ((a - r.base) / r.stride2) ≤ r.stride2 % 2 ^ 32 * (r.count2 - 1) := by
      by_cases hbig : r.stride2 < 2 ^ 32
      · rw [Nat.mod_eq_of_lt hbig]
        exact Nat.mul_le_mul_left _ (by omega)
      · rw [Nat.div_eq_of_lt (by omega)]
        exact Nat.zero_le _
    omega

theorem regRow_has {r : RegRow} {a : Nat} (h : regRow a = some r) : r.has a = true := by
  unfold regRow at h
  have hhas := List.find?_some h
  exact hhas

/-- A mask that no row of a range of addresses has is 0 there. -/
theorem maskOf_eq_zero {f : RegRow → Nat} {lo hi a : Nat} (h : ∀ r ∈ regRows, f r = 0 ∨ r.top ≤ lo ∨ hi ≤ r.base)
    (hlo : lo ≤ a) (hhi : a < hi) (ha : a < 2 ^ 32) : maskOf f a = 0 := by
  unfold maskOf
  cases hr : regRow a with
  | none => rfl
  | some r =>
    obtain ⟨hmem, hbase⟩ := regRow_some hr
    have htop : a < r.top := RegRow.lt_top_of_has (regRow_has hr) ha
    obtain h0 | hlow | hhigh := h r hmem
    · exact h0
    · omega
    · omega

/-- The rows with RWT bits lie in the blocks KEYWAY to JACK. -/
theorem regRows_rwt_range : ∀ r ∈ regRows, r.rwt = 0 ∨ (0x850000 ≤ r.base ∧ r.top ≤ 0x8B0000) := by decide +kernel

theorem rwtMask_of_outside {a : Nat} (h : a < 0x850000 ∨ (0x8B0000 ≤ a ∧ a < 2 ^ 32)) : rwtMask a = 0 := by
  have hmod : a % 2 ^ 32 = a := Nat.mod_eq_of_lt (by omega)
  have hrows {lo hi : Nat} (hr : hi ≤ 0x850000 ∨ 0x8B0000 ≤ lo) :
      ∀ r ∈ regRows, r.rwt = 0 ∨ r.top ≤ lo ∨ hi ≤ r.base := fun r hmem => by
    obtain h0 | ⟨hbase, htop⟩ := regRows_rwt_range r hmem
    · exact .inl h0
    · omega
  unfold rwtMask
  rw [hmod]
  obtain h | ⟨hlo, hhi⟩ := h
  · exact maskOf_eq_zero (hrows (.inl le_rfl)) (Nat.zero_le a) h (by omega)
  · exact maskOf_eq_zero (hrows (.inr le_rfl)) hlo hhi hhi

/-- The blocks below KEYWAY, DMA's own registers apart, and those from HOSTIF to VIOL are in no power domain (R27), and none of
their words is staged (R118): their registers are always in reach. -/
theorem Dev.regUp_of_open (d : Dev) {a : Nat} (h4 : a % 4 = 0)
    (h : (0x800000 ≤ a ∧ a < 0x840000) ∨ (0x848000 ≤ a ∧ a < 0x84A180) ∨ (0x8E0000 ≤ a ∧ a < 0x910000)) : d.regUp a = true := by
  have hreg : isRegAddr a = true := by
    simp only [isRegAddr, Bool.or_eq_true, decide_eq_true_eq]
    omega
  have hdom : regDom a = none := by
    unfold regDom
    split_ifs <;> first | rfl | omega
  exact d.regUp_of_no_domain hreg h4 hdom (rwtMask_of_outside (by omega))

end Sys2Proof.Machine

/-! The interrupt controller (chapter 15): its operations, and the host's writes and reads that are theirs. -/
namespace Sys2Proof.Machine
set_option Elab.async false

variable {ps : List Part} {fs : List Fld}

/-! ### Gateways -/

@[simp] theorem Dev.gate_setGate_same (d : Dev) (k : Nat) (g : Gate) : (d.setGate k g).gate k = g := SMap.get_set_same ..

theorem Dev.gate_setGate_ne (d : Dev) {k j : Nat} (g : Gate) (h : j ≠ k) : (d.setGate k g).gate j = d.gate j :=
  SMap.get_set_ne _ _ _ _ _ _ h

/-- A completion completes the gateway of its source and no other (R446); where the next search starts is not a gateway's. -/
theorem Dev.gate_completeKey_same (d : Dev) (t k : Nat) : (d.completeKey t k).gate k = (d.gate k).complete := by
  have h := d.gate_setGate_same k (d.gate k).complete
  unfold Dev.completeKey
  split <;> exact h

theorem Dev.gate_completeKey_ne (d : Dev) (t : Nat) {k j : Nat} (h : j ≠ k) : (d.completeKey t k).gate j = d.gate j := by
  have h := d.gate_setGate_ne (d.gate k).complete h
  unfold Dev.completeKey
  split <;> exact h

theorem Dev.changes_intc {d : Dev} {x : Intc} (hi : .intc ∈ ps) : d.Changes ps fs { d with intc := x } :=
  ⟨by constructor <;> first | exact .inl hi | exact .inr rfl | exact fun _ => .inr (.inr rfl), fun _ _ _ => rfl⟩

theorem Dev.changes_completeKey {d : Dev} {t k : Nat} (hi : .intc ∈ ps) : d.Changes ps fs (d.completeKey t k) := by
  unfold Dev.completeKey
  split
  · exact (Dev.changes_setGate hi).trans (Dev.changes_intc hi)
  · exact Dev.changes_setGate hi

/-! ### Claims and completions (R444, R446) -/

theorem Dev.claim_some (d : Dev) {t k : Nat} {fast : Bool} (h : d.best t fast = some k) :
    d.claim t fast = (keyId k, d.setGate k { d.gate k with st := .active, tgt := t, fast := fast }) := by
  simp [Dev.claim, h]

theorem Dev.claim_none (d : Dev) {t : Nat} {fast : Bool} (h : d.best t fast = none) :
    d.claim t fast = (1023, d.inc Fld.intcStatusSpurious) := by
  simp [Dev.claim, h]

theorem Dev.changes_claim {d : Dev} {t : Nat} {fast : Bool} (hi : .intc ∈ ps) (hf : Fld.intcStatusSpurious ∈ fs) :
    d.Changes ps fs (d.claim t fast).2 := by
  cases h : d.best t fast with
  | some k =>
    rw [d.claim_some h]
    exact Dev.changes_setGate hi
  | none =>
    rw [d.claim_none h]
    exact Dev.changes_put hf (by decide)

/-- What a completion names is active there: its gateway completes. -/
theorem Dev.complete_active (d : Dev) {ag : Agent} {t id k : Nat} {fast : Bool} (hid : id ≠ 1023) (hk : idKey t id = some k)
    (ha : d.activeAt t fast k = true) : d.complete ag t fast id = d.completeKey t k := by
  simp [Dev.complete, hid, hk, ha]

/-- What a completion names is active nowhere there: it only counts. -/
theorem Dev.complete_inactive (d : Dev) {ag : Agent} {t id : Nat} {fast : Bool} (hid : id ≠ 1023)
    (h : ∀ k, idKey t id = some k → d.activeAt t fast k = false) :
    d.complete ag t fast id = d.viol 0 ag (if fast then Reg.intcTFclaim t else Reg.intcTClaim t) := by
  cases hk : idKey t id with
  | none => simp [Dev.complete, hid, hk]
  | some k => simp [Dev.complete, hid, hk, h k hk]

theorem Dev.changes_complete {d : Dev} {ag : Agent} {t id : Nat} {fast : Bool} (hi : .intc ∈ ps)
    (hf : ∀ f ∈ violFields [0], f ∈ fs) : d.Changes ps fs (d.complete ag t fast id) := by
  by_cases hid : id = 1023
  · rw [Dev.complete, if_pos hid]
    exact .refl ..
  by_cases hact : ∃ k, idKey t id = some k ∧ d.activeAt t fast k = true
  · obtain ⟨k, hk, ha⟩ := hact
    rw [d.complete_active hid hk ha]
    exact Dev.changes_completeKey hi
  · rw [d.complete_inactive hid (by simpa using hact)]
    exact Dev.changes_viol hf

/-- A claim register of a target and class: those of the fast class are the engines' (R444). -/
def claimReg (t : Nat) (fast : Bool) : Nat := Reg.intcTClaim t + if fast then 16 else 0

theorem claimReg_eq (t : Nat) (fast : Bool) : claimReg t fast = if fast then Reg.intcTFclaim t else Reg.intcTClaim t := by
  cases fast <;> simp [claimReg, Reg.intcTClaim, Reg.intcTFclaim, Nat.add_right_comm]

theorem claimReg_bounds {t : Nat} {fast : Bool} (ht : t < 18) (hf : fast = true → t < 16) :
    0x833000 ≤ claimReg t fast ∧ claimReg t fast < 0x833480 ∧ (claimReg t fast - 0x833000) / 64 = t ∧
      claimReg t fast % 64 = (if fast then 16 else 0) ∧ (fast = true → claimReg t fast < 0x833400) := by
  unfold claimReg Reg.intcTClaim
  cases fast
  · simp; omega
  · have := hf rfl
    simp; omega

/-- A write to block INTC is the block's own (R7): none of its words is staged. -/
theorem Dev.regWrite_intc (d : Dev) {env : Env} {ag : Agent} {a : Nat} {v : Word} (ha : a / 0x10000 = 0x83) :
    d.regWrite env ag a v = d.intcWrite ag a v := by
  simp [Dev.regWrite, rwtMask_of_outside (a := a) (by omega), ha]

/-- A write to a claim register is a completion (R446). -/
theorem Dev.regWrite_claimReg (d : Dev) {t id : Nat} {fast : Bool} (ht : t < 18) (hf : fast = true → t < 16) (hid : id < 1024) :
    d.regWrite Env.quiet .host (claimReg t fast) (BitVec.ofNat 32 id) = d.complete .host t fast id := by
  obtain ⟨hlo, hhi, hdiv, hmod, -⟩ := claimReg_bounds ht hf
  have hbits : bitsOf (BitVec.ofNat 32 id).toNat 0 10 = id := by
    simp [bitsOf]
    omega
  have hsw : claimReg t fast ≠ Reg.intcSwset := fun h => absurd (h ▸ hlo) (by decide)
  rw [d.regWrite_intc (by omega), Dev.intcWrite, if_neg hsw, if_neg (by omega), if_pos ⟨hlo, hhi⟩]
  simp only [hdiv, hbits, show (claimReg t fast - 0x833000) % 64 = if fast then 16 else 0 by omega]
  cases fast
  · simp
  · simp [hf rfl]

theorem State.hostReg_claimReg (s : State) {t id : Nat} {fast : Bool} (h : s.dev.hostReady = true) (ht : t < 18)
    (hf : fast = true → t < 16) (hid : id < 1024) :
    s.hostReg (claimReg t fast) (BitVec.ofNat 32 id) = s.on (·.complete .host t fast id) := by
  obtain ⟨hlo, hhi, -, hmod, -⟩ := claimReg_bounds ht hf
  have hne : claimReg t fast ∉ [Reg.sysRstctrl, Reg.bootCtrl, Reg.bootHostdata] := by
    simp only [List.mem_cons, List.not_mem_nil, or_false, not_or]
    unfold Reg.sysRstctrl Reg.bootCtrl Reg.bootHostdata
    omega
  exact s.hostReg_reach h (s.dev.regUp_of_open (by split at hmod <;> omega) (.inl (by omega))) hne
    (s.dev.regWrite_claimReg ht hf hid) (Dev.changes_complete (ps := [.intc]) (fs := violFields [0]) (by simp) (by simp)) (by simp) (by simp)

/-- A host's read of a claim register is a claim (R444). -/
theorem State.hostRead_claimReg (s : State) {t : Nat} {fast : Bool} (hin : s.dev.pwr.inReset = false) (ht : t < 18)
    (hf : fast = true → t < 16) : s.hostRead (claimReg t fast) = s.on (fun d => (d.claim t fast).2) := by
  obtain ⟨hlo, hhi, hdiv, hmod, hfast⟩ := claimReg_bounds ht hf
  have h4 : claimReg t fast / 4 * 4 = claimReg t fast := by split at hmod <;> omega
  obtain ⟨hreg, -, hup⟩ := (s.dev.regUp_iff _).mp (s.dev.regUp_of_open (a := claimReg t fast) (by omega) (.inl (by omega)))
  have hdown : s.dev.downHere (claimReg t fast) false = false := by
    simp only [Dev.downHere, Bool.or_eq_false_iff] at hup ⊢
    exact ⟨hup.1, rfl⟩
  have hclass : claimReg t fast % 64 = 0 ∨ claimReg t fast % 64 = 16 ∧ claimReg t fast < 0x833400 := by
    cases fast
    · exact .inl hmod
    · exact .inr ⟨hmod, hfast rfl⟩
  have hread : (s.dev.readReg (claimReg t fast)).1 = (s.dev.claim t fast).2 := by
    rw [Dev.readReg, if_pos ⟨hlo, hhi, hclass⟩, hdiv, hmod]
    cases fast <;> rfl
  simp [State.hostRead, hin, State.readWord, h4, s.dev.region_reg _ hreg, hdown, State.on, hread]

/-- Settles O57: a completion is ignored, counted or done, and no two of these at once. -/
theorem interruptCompletion : Obligations.InterruptCompletion := by
  intro s tg fast id a h ha hf
  have hexec : exec (.complete tg fast id) s = .next (s.on (·.complete .host tg fast id)) :=
    congrArg Host.Outcome.next (s.hostReg_claimReg h tg.isLt hf id.isLt)
  rw [hexec]
  refine ⟨fun hid => ?_, fun hid hk => ?_, fun k hid hk hact => ⟨_, rfl, ?_, fun j hj => ?_⟩⟩
  · simp [State.on, Dev.complete, hid]
  · simp only [State.on, s.dev.complete_inactive hid hk]
    rfl
  · rw [State.on_dev, s.dev.complete_active hid hk hact, Dev.gate_completeKey_same]
  · rw [State.on_dev, s.dev.complete_active hid hk hact, Dev.gate_completeKey_ne _ _ hj]

end Sys2Proof.Machine

/-! Registers of plain words (R7), and the sources' configuration and coalescers (R441, R454). -/
namespace Sys2Proof.Machine
set_option Elab.async false

variable {ps : List Part} {fs : List Fld}

/-! ### Plain writes without events -/

/-- A plain write to a register without W1C bits stores its RW bits. -/
theorem Dev.rd_plain_rw (d : Dev) {a : Nat} (v : Word) (h : maskOf (·.w1c) a = 0) :
    (d.plain a v).rd a =
      (d.rd a &&& ~~~BitVec.ofNat 32 (maskOf (·.rw) a)) ||| (v &&& BitVec.ofNat 32 (maskOf (·.rw) a)) := by
  unfold Dev.plain
  dsimp only
  rw [h, if_pos rfl]
  split
  case isTrue hrw =>
    rw [hrw, show ~~~(0 : Word) = BitVec.allOnes 32 from rfl, BitVec.and_allOnes]
    simp
  case isFalse => exact Dev.rd_wr_same ..

/-- It changes that register alone. -/
theorem Dev.changes_plain_rw {d : Dev} {a : Nat} {v : Word} (h : maskOf (·.w1c) a = 0) (hf : Fld.whole a ∈ fs) :
    d.Changes ps fs (d.plain a v) := by
  unfold Dev.plain
  dsimp only
  rw [h, if_pos rfl]
  split
  · exact .refl ..
  · exact Dev.changes_wr hf

/-- No register of the sources, of the states and of the targets has W1C bits. -/
theorem w1c_intc {a : Nat} (hlo : 0x831000 ≤ a) (hhi : a < 0x836000) : maskOf (·.w1c) a = 0 :=
  maskOf_eq_zero (by decide +kernel) hlo hhi (by omega)

theorem masks_intcCtrl : maskOf (·.w1c) Reg.intcCtrl = 0 ∧ maskOf (·.rw) Reg.intcCtrl = 1 := by decide +kernel

/-! ### Words of block INTC -/

/-- A ready host's write to block INTC is the block's own, where that leaves the clock root and the power sequencer alone. -/
theorem State.hostReg_intc (s : State) {a : Nat} {v : Word} (h : s.dev.hostReady = true) (ha : a / 0x10000 = 0x83)
    (h4 : a % 4 = 0) (hf : s.dev.Changes ps fs (s.dev.intcWrite .host a v)) (hc : .clk ∉ ps) (hp : .pwr ∉ ps) :
    s.hostReg a v = s.on (·.intcWrite .host a v) := by
  have hne : a ∉ [Reg.sysRstctrl, Reg.bootCtrl, Reg.bootHostdata] := by
    simp only [List.mem_cons, List.not_mem_nil, or_false, not_or]
    unfold Reg.sysRstctrl Reg.bootCtrl Reg.bootHostdata
    omega
  exact s.hostReg_reach h (s.dev.regUp_of_open h4 (.inl (by omega))) hne (s.dev.regWrite_intc ha) hf hc hp

theorem Dev.intcWrite_swset (d : Dev) {ag : Agent} {v : Word} : d.intcWrite ag Reg.intcSwset v = d.swset ag v := rfl

theorem Dev.intcWrite_ctrl (d : Dev) {ag : Agent} {v : Word} : d.intcWrite ag Reg.intcCtrl v = d.plain Reg.intcCtrl v := rfl

/-- The registers of sources lie between the EXTINT registers and the targets, and behind these. -/
theorem cfgSource_bounds {a k : Nat} (h : cfgSource a = some k) :
    (0x831200 ≤ a ∧ a < 0x832000) ∨ (0x834000 ≤ a ∧ a < 0x836000) := by
  unfold cfgSource at h
  split_ifs at h
  · exact .inl ‹_›
  · exact .inr ‹_›

/-- A write to a register of a source is the source's (R454, R455). -/
theorem Dev.intcWrite_source (d : Dev) {ag : Agent} {a k : Nat} {v : Word} (h : cfgSource a = some k) :
    d.intcWrite ag a v =
      if (regRow a).isNone then d else if a % 8 = 0 then d.cfgWrite ag k v else d.coalWrite ag k v := by
  have hb := cfgSource_bounds h
  have hsw : a ≠ Reg.intcSwset := by unfold Reg.intcSwset; omega
  rw [Dev.intcWrite, if_neg hsw, if_neg (by omega), if_neg (by omega)]
  simp only [h]

/-- Where there is no source behind the EXTINT registers and below the targets, a write is plain. -/
theorem Dev.intcWrite_no_source (d : Dev) {ag : Agent} {a : Nat} {v : Word} (h : cfgSource a = none)
    (ha : (0x831000 ≤ a ∧ a < 0x833000) ∨ (0x834000 ≤ a ∧ a < 0x836000)) : d.intcWrite ag a v = d.plain a v := by
  have hsw : a ≠ Reg.intcSwset := by unfold Reg.intcSwset; omega
  rw [Dev.intcWrite, if_neg hsw, if_neg (by omega), if_neg (by omega)]
  simp only [h]

theorem srcCfg_bounds {k : Nat} (h : k < 2048) : srcCfg k % 8 = 0 ∧
    ((0x831000 ≤ srcCfg k ∧ srcCfg k + 4 < 0x833000) ∨ (0x834000 ≤ srcCfg k ∧ srcCfg k + 4 < 0x836000)) := by
  unfold srcCfg Reg.intcPcfg
  split_ifs <;> omega

/-- The source that a register of a source names has its configuration there. -/
theorem srcCfg_of_cfgSource {k j c : Nat} (h : k < 2048) (hc : c < 8) (hj : cfgSource (srcCfg k + c) = some j) :
    srcCfg j = srcCfg k := by
  unfold cfgSource privKey at hj
  unfold srcCfg Reg.intcPcfg at hj ⊢
  split_ifs at hj ⊢ <;> simp only [Option.some.injEq] at hj <;> omega

/-! ### Configuration, coalescers and software sources -/

/-- A violation leaves the registers below block VIOL as they are. -/
theorem Dev.rd_viol_below (d : Dev) (c : Nat) (g : Agent) (x : Nat) {a : Nat} (h : a < 0x908000) :
    (d.viol c g x).rd a = d.rd a :=
  d.rd_viol_ne c g x a (by unfold Reg.violCnt; omega) (by unfold Reg.violLast; omega) (by unfold Reg.violLastaddr; omega)

theorem Dev.rd_cfgWrite (d : Dev) {ag : Agent} {k : Nat} {v : Word} (hk : srcCfg k < 0x908000) :
    (d.cfgWrite ag k v).rd (srcCfg k) = (clampCfg (decide (1024 ≤ k)) v).1 := by
  unfold Dev.cfgWrite
  dsimp only
  split
  · exact Dev.rd_wr_same ..
  · rw [Dev.rd_viol_below _ _ _ _ hk, Dev.rd_wr_same]

theorem Dev.rd_coalWrite (d : Dev) {ag : Agent} {k : Nat} {v : Word} (hk : srcCoal k < 0x908000) :
    (d.coalWrite ag k v).rd (srcCoal k) = BitVec.ofNat 32 (max 1 (bitsOf v.toNat 16 8) * 2 ^ 16 + bitsOf v.toNat 0 16) := by
  unfold Dev.coalWrite
  dsimp only
  split
  case isTrue h0 => rw [Dev.rd_viol_below _ _ _ _ hk, Dev.rd_wr_same, h0, Nat.max_zero, Nat.one_mul]
  case isFalse h0 => rw [Dev.rd_wr_same, Nat.max_eq_right (Nat.one_le_iff_ne_zero.mpr h0)]

/-- A coalescer's count and time are stored, the count as 1 at least (R454). -/
theorem Dev.coalWrite_stores (d : Dev) {ag : Agent} {k : Nat} {v : Word} (hk : srcCoal k < 0x908000) :
    (d.coalWrite ag k v).coalCount k = max 1 (bitsOf v.toNat 16 8) ∧ (d.coalWrite ag k v).coalTime k = bitsOf v.toNat 0 16 := by
  have hc : bitsOf v.toNat 16 8 < 2 ^ 8 := bitsOf_lt _ _ _
  have ht : bitsOf v.toNat 0 16 < 2 ^ 16 := bitsOf_lt _ _ _
  have hword (c t : Nat) (hc : c < 2 ^ 8) (ht : t < 2 ^ 16) :
      bitsOf (BitVec.ofNat 32 (c * 2 ^ 16 + t)).toNat 16 8 = c ∧ bitsOf (BitVec.ofNat 32 (c * 2 ^ 16 + t)).toNat 0 16 = t := by
    simp only [bitsOf, BitVec.toNat_ofNat]
    omega
  rw [Dev.coalCount, Dev.coalTime, d.rd_coalWrite hk]
  exact hword _ _ (by omega) ht

theorem Dev.changes_cfgWrite {d : Dev} {ag : Agent} {k : Nat} {v : Word} (hw : Fld.whole (srcCfg k) ∈ fs)
    (hf : ∀ f ∈ violFields [3], f ∈ fs) : d.Changes ps fs (d.cfgWrite ag k v) := by
  unfold Dev.cfgWrite
  dsimp only
  split
  · exact Dev.changes_wr hw
  · exact (Dev.changes_wr hw).trans (Dev.changes_viol hf)

theorem Dev.changes_coalWrite {d : Dev} {ag : Agent} {k : Nat} {v : Word} (hw : Fld.whole (srcCoal k) ∈ fs)
    (hf : ∀ f ∈ violFields [3], f ∈ fs) : d.Changes ps fs (d.coalWrite ag k v) := by
  unfold Dev.coalWrite
  dsimp only
  split
  · exact (Dev.changes_wr hw).trans (Dev.changes_viol hf)
  · exact Dev.changes_wr hw

theorem Dev.changes_swset {d : Dev} {ag : Agent} {v : Word} (hi : .intc ∈ ps) (hf : ∀ f ∈ violFields [4], f ∈ fs) :
    d.Changes ps fs (d.swset ag v) := by
  unfold Dev.swset
  dsimp only
  split
  · exact Dev.changes_viol hf
  · exact Dev.changes_srcEvent hi

/-- A write to a register of a source changes its configuration or its coalescer, or nothing (R454). -/
theorem Dev.changes_intcWrite_source {d : Dev} {ag : Agent} {k c : Nat} {v : Word} (hk : k < 2048) (hc : c = 0 ∨ c = 4)
    (hcfg : Fld.whole (srcCfg k) ∈ fs) (hcoal : Fld.whole (srcCoal k) ∈ fs) (hf : ∀ f ∈ violFields [3], f ∈ fs) :
    d.Changes ps fs (d.intcWrite ag (srcCfg k + c) v) := by
  obtain ⟨-, hb⟩ := srcCfg_bounds hk
  cases hs : cfgSource (srcCfg k + c) with
  | none =>
    rw [d.intcWrite_no_source hs (by omega)]
    refine Dev.changes_plain_rw (w1c_intc (by omega) (by omega)) ?_
    obtain rfl | rfl := hc
    · exact hcfg
    · exact hcoal
  | some j =>
    have hj : srcCfg j = srcCfg k := srcCfg_of_cfgSource hk (by omega) hs
    rw [d.intcWrite_source hs]
    split
    · exact .refl ..
    split
    · exact Dev.changes_cfgWrite (hj ▸ hcfg) hf
    · exact Dev.changes_coalWrite (by rw [srcCoal, hj]; exact hcoal) hf

end Sys2Proof.Machine

/-! The statements of the commands of the interrupt controller (chapter 15). -/
namespace Sys2Proof.Machine
set_option Elab.async false

/-- A coalescer's timer that runs out over an edge, or over a level that holds, fires (R441). -/
theorem Dev.coalExpire_fires (d : Dev) {k : Nat} (htimer : (d.gate k).timer = true) (h : d.isEdge k = true ∨ d.level k = true) :
    d.coalExpire k = d.setGate k ((d.gate k).fire (d.isEdge k)) := by
  have hfire : (d.isEdge k || d.level k) = true := by simpa using h
  simp [Dev.coalExpire, htimer, hfire]

theorem Dev.changes_coalExpire {ps : List Part} {fs : List Fld} {d : Dev} {k : Nat} (hi : .intc ∈ ps) :
    d.Changes ps fs (d.coalExpire k) := by
  unfold Dev.coalExpire
  dsimp only
  split
  · exact .refl ..
  split <;> exact Dev.changes_setGate hi

/-- Withdrawing and counting requests leave the pins of EXTINT as they are. -/
theorem Dev.ext_settle (d : Dev) (ids : List Nat) : (d.settle ids).intc.ext = d.intc.ext :=
  Dev.each_induct (fun t => t.intc.ext = d.intc.ext) _ (fun t id h => by split <;> exact h) ids d rfl

theorem Dev.ext_srcEvent (d : Dev) (k : Nat) : (d.srcEvent k).intc.ext = d.intc.ext := by
  unfold Dev.srcEvent
  split <;> rfl

/-- The filtered levels of the EXTINT pins are `n`. -/
def Dev.setExt (d : Dev) (n : Nat) : Dev := { d with intc := { d.intc with ext := n } }

/-- What a change of an input's level comes to: the level is kept, and its source gains an event or loses its level (R450). -/
theorem Dev.extintChange_of_ne (d : Dev) {k : Nat} {high : Bool} (h : ¬ (bitOf d.intc.ext k == high) = true) :
    ∃ u, u = d.setExt (if high then orBit d.intc.ext k else clrBit d.intc.ext k) ∧
      (d.extintChange k high = u.srcEvent (160 + k) ∨ d.extintChange k high = u.settle [160 + k]) := by
  refine ⟨_, rfl, ?_⟩
  rw [Dev.extintChange, if_neg h]
  dsimp only
  generalize hu : d.setExt _ = u
  unfold Dev.setExt at hu
  rw [hu]
  split
  · exact .inl rfl
  · exact .inr rfl

/-- The input's filtered level is what it has become (R450). -/
theorem Dev.ext_extintChange (d : Dev) (k : Nat) (high : Bool) : bitOf (d.extintChange k high).intc.ext k = high := by
  by_cases hsame : (bitOf d.intc.ext k == high) = true
  · rw [Dev.extintChange, if_pos hsame]
    exact beq_iff_eq.mp hsame
  obtain ⟨u, hu, h⟩ := d.extintChange_of_ne hsame
  have hext : (d.extintChange k high).intc.ext = u.intc.ext := by
    obtain h | h := h
    · rw [h, Dev.ext_srcEvent]
    · rw [h, Dev.ext_settle]
  rw [hext, hu]
  cases high
  · exact bitOf_clrBit _ _
  · exact orBit_testBit _ _

theorem Dev.changes_extintChange {ps : List Part} {fs : List Fld} {d : Dev} {k : Nat} {high : Bool} (hi : .intc ∈ ps) :
    d.Changes ps fs (d.extintChange k high) := by
  by_cases hsame : (bitOf d.intc.ext k == high) = true
  · rw [Dev.extintChange, if_pos hsame]
    exact .refl ..
  obtain ⟨u, rfl, h | h⟩ := d.extintChange_of_ne hsame
  · exact h ▸ (Dev.changes_intc hi).trans (Dev.changes_srcEvent hi)
  · exact h ▸ (Dev.changes_intc hi).trans (Dev.changes_settle hi)

/-- A software source of an engine whose tile is available counts an event (R452). -/
theorem Dev.gate_swset (d : Dev) {ag : Agent} {v : Word}
    (h : bitOf (d.rd (Reg.sysTilemap (bitsOf v.toNat 16 4 / 8))).toNat (4 * (bitsOf v.toNat 16 4 % 8) + 3) = false) :
    let k := privKey (bitsOf v.toNat 16 4) (19 + bitsOf v.toNat 0 5)
    (d.swset ag v).gate k = (d.gate k).event true (d.coalCount k) (d.coalTime k) := by
  intro k
  have hk : 1024 ≤ k := by
    change 1024 ≤ 1024 + 64 * bitsOf v.toNat 16 4 + (19 + bitsOf v.toNat 0 5)
    omega
  have hedge : d.isEdge k = true := if_pos hk
  have hraise : d.swset ag v = d.srcEvent k := by
    unfold Dev.swset
    dsimp only
    rw [if_neg (by simp [h])]
    rfl
  rw [hraise, Dev.srcEvent, if_neg (by omega), hedge, Dev.gate_setGate_same]

/-- A field of one bit reads that bit. -/
theorem Fld.of_one_bit (w : Word) {f : Fld} (h : f.width = 1) : f.of w = (w.getLsbD f.lo).toNat := by
  rw [Fld.of, bitsOf, h, Nat.pow_one, BitVec.getLsbD, Nat.toNat_testBit]

/-- INTC_CTRL stores the hold (R449). -/
theorem Dev.get_hold_plain (d : Dev) (hold : Bool) :
    (d.plain Reg.intcCtrl (if hold then 1 else 0)).get Fld.intcCtrlHold = if hold then 1 else 0 := by
  obtain ⟨hw1c, hrw⟩ := masks_intcCtrl
  have hlo : Fld.intcCtrlHold.lo = 0 := rfl
  rw [Dev.get, Fld.of_one_bit _ rfl, show Fld.intcCtrlHold.addr = Reg.intcCtrl from rfl, d.rd_plain_rw _ hw1c, hrw, hlo]
  cases hold <;> simp

/-- A ready host's write to a register of a source acts on that register and its neighbour alone, but for a violation (R454). -/
theorem State.hostReg_source (s : State) {k c : Nat} {v : Word} (h : s.dev.hostReady = true) (hk : k < 2048)
    (hc : c = 0 ∨ c = 4) : s.hostReg (srcCfg k + c) v = s.on (·.intcWrite .host (srcCfg k + c) v) ∧
      s.dev.Changes [] ([Fld.whole (srcCfg k), Fld.whole (srcCoal k)] ++ violFields [3])
        (s.dev.intcWrite .host (srcCfg k + c) v) := by
  obtain ⟨h8, hb⟩ := srcCfg_bounds hk
  have hch : s.dev.Changes [] ([Fld.whole (srcCfg k), Fld.whole (srcCoal k)] ++ violFields [3])
      (s.dev.intcWrite .host (srcCfg k + c) v) :=
    Dev.changes_intcWrite_source hk hc (by simp) (by simp) fun f hf => List.mem_append_right _ hf
  exact ⟨s.hostReg_intc h (by omega) (by omega) hch (by simp) (by simp), hch⟩

/-- Settles O20: each command is one operation of the controller, and the host's accesses are their registers' own. -/
theorem intcCommandsComplete : Obligations.IntcCommandsComplete := by
  have hclass {g : Fin 18} {fast : Bool} (h : (g : Nat) < 16 ∨ fast = false) : fast = true → (g : Nat) < 16 := fun hf =>
    h.resolve_right (by simp [hf])
  refine ⟨?_, ?_, ?_, ?_, ?_, ?_, ?_, ?_, ?_, ?_⟩
  · rintro s k ⟨htimer, hedge⟩
    refine ⟨_, rfl, ?_⟩
    rw [State.on_dev, s.dev.coalExpire_fires htimer (.inl hedge), hedge, Dev.gate_setGate_same]
  · rintro s k ⟨htimer, hedge, hlevel⟩
    refine ⟨_, rfl, ?_⟩
    rw [State.on_dev, s.dev.coalExpire_fires htimer (.inr hlevel), hedge, Dev.gate_setGate_same]
  · rintro s g fast k ⟨hin, hg, hbest⟩
    refine ⟨_, congrArg Host.Outcome.next (s.hostRead_claimReg hin g.isLt (hclass hg)), ?_⟩
    rw [State.on_dev, s.dev.claim_some hbest, Dev.gate_setGate_same]
    exact ⟨rfl, rfl, rfl⟩
  · rintro s g fast ⟨hin, hg, hbest⟩
    refine ⟨_, congrArg Host.Outcome.next (s.hostRead_claimReg hin g.isLt (hclass hg)), ?_⟩
    rw [State.on_dev, s.dev.claim_none hbest]
    exact (Dev.get_put_same _ _ _ ⟨by decide, by decide⟩).trans
      (Nat.mod_eq_of_lt (Nat.lt_of_le_of_lt (Nat.min_le_right ..) (by decide)))
  · rintro s g fast id k ⟨h, hg, hid, hk, hact⟩
    refine ⟨_, congrArg Host.Outcome.next (s.hostReg_claimReg h g.isLt (hclass hg) id.isLt), ?_⟩
    rw [State.on_dev, s.dev.complete_active hid hk hact, Dev.gate_completeKey_same]
  · rintro s v ⟨h, htile⟩
    refine ⟨_, congrArg Host.Outcome.next (s.hostReg_intc h (by decide) (by decide)
      (Dev.changes_swset (ps := [.intc]) (fs := violFields [4]) (by simp) (by simp)) (by simp) (by simp)), ?_⟩
    rw [State.on_dev, Dev.intcWrite_swset]
    exact s.dev.gate_swset htile
  · rintro s hold h
    refine ⟨_, congrArg Host.Outcome.next (s.hostReg_intc h (by decide) (by decide)
      (Dev.changes_plain_rw (ps := []) masks_intcCtrl.1 (List.mem_singleton.mpr rfl)) (by simp) (by simp)), ?_⟩
    exact s.dev.get_hold_plain hold
  · rintro s k v ⟨h, hsrc, hrow⟩
    obtain ⟨h8, hb⟩ := srcCfg_bounds k.isLt
    refine ⟨_, congrArg Host.Outcome.next (s.hostReg_source h k.isLt (.inl rfl)).1, ?_⟩
    rw [State.on_dev, Nat.add_zero, s.dev.intcWrite_source hsrc, if_neg (by simpa [Option.isSome_iff_ne_none] using hrow), if_pos h8]
    exact s.dev.rd_cfgWrite (by omega)
  · rintro s k v ⟨h, hsrc, hrow⟩
    obtain ⟨h8, hb⟩ := srcCfg_bounds k.isLt
    refine ⟨_, congrArg Host.Outcome.next (s.hostReg_source h k.isLt (.inr rfl)).1, ?_⟩
    have hcoal : s.dev.intcWrite .host (srcCfg k + 4) v = s.dev.coalWrite .host k v := by
      rw [show srcCfg k + 4 = srcCoal k from rfl, s.dev.intcWrite_source hsrc, if_neg (by simpa [Option.isSome_iff_ne_none] using hrow),
        if_neg (by unfold srcCoal; omega)]
    rw [State.on_dev, hcoal]
    exact s.dev.coalWrite_stores (by unfold srcCoal; omega)
  · exact fun s k high => ⟨_, rfl, s.dev.ext_extintChange k high⟩

/-- Settles O39: each command changes gateways, or the one register written and the record of a violation. -/
theorem intcCommandsFrame : Obligations.IntcCommandsFrame := by
  refine ⟨fun s t k e => .of_next e (Dev.changes_coalExpire (by simp)), ?_, ?_, ?_, ?_, ?_,
    fun s t k high e => .of_next e (Dev.changes_extintChange (by simp))⟩
  · rintro s t tg fast e ⟨h, hf⟩
    obtain ⟨hin, -⟩ := s.dev.hostReady_iff.mp h
    exact .of_next_on e (s.hostRead_claimReg hin tg.isLt hf) (Dev.changes_claim (by simp) (by simp))
  · rintro s t tg fast id e ⟨h, -, hf⟩
    exact .of_next_hostReg e (s.hostReg_claimReg h tg.isLt hf id.isLt) (Dev.changes_complete (by simp) (by simp))
  · rintro s t v e ⟨h, -⟩
    have hch : s.dev.Changes [.intc] (violFields [4]) (s.dev.intcWrite .host Reg.intcSwset v) :=
      Dev.changes_swset (by simp) (by simp)
    exact .of_next_hostReg e (s.hostReg_intc h (by decide) (by decide) hch (by simp) (by simp)) hch
  · rintro s t hold e ⟨h, -⟩
    have hch : s.dev.Changes [] [Fld.whole Reg.intcCtrl] (s.dev.intcWrite .host Reg.intcCtrl (if hold then 1 else 0)) :=
      Dev.changes_plain_rw masks_intcCtrl.1 (by simp)
    exact .of_next_hostReg e (s.hostReg_intc h (by decide) (by decide) hch (by simp) (by simp)) hch
  · rintro s t k coal v e ⟨h, -⟩
    obtain ⟨hwrite, hch⟩ := s.hostReg_source (v := v) (c := if coal then 4 else 0) h k.isLt (by cases coal <;> simp)
    exact .of_next_hostReg e hwrite hch

end Sys2Proof.Machine

/-! Loops that make something hold of each element, and what the supplies, the temperatures and the watchdog do (chapter 19). -/
namespace Sys2Proof.Machine
set_option Elab.async false

/-- A loop whose round for an element makes `P` hold of it, under an invariant that every round keeps, and leaves it to the others,
makes `P` hold of every element. -/
theorem Dev.each_establishes {α : Type} [DecidableEq α] {I : Dev → Prop} {P : α → Dev → Prop} {f : Dev → α → Dev} {l : List α}
    (hinv : ∀ d, ∀ x ∈ l, I d → I (f d x)) (hset : ∀ d, ∀ x ∈ l, I d → P x (f d x))
    (hkeep : ∀ d, ∀ x ∈ l, ∀ y, y ≠ x → P y d → P y (f d x)) {d : Dev} (hd : I d) {y : α} (hy : y ∈ l ∨ P y d) :
    P y (d.each l f) := by
  induction l generalizing d with
  | nil => exact hy.resolve_left (by simp)
  | cons x l ih =>
    refine ih (fun d z hz => hinv d z (List.mem_cons_of_mem x hz)) (fun d z hz => hset d z (List.mem_cons_of_mem x hz))
      (fun d z hz => hkeep d z (List.mem_cons_of_mem x hz)) (hinv d x List.mem_cons_self hd) ?_
    by_cases hyx : y = x
    · exact .inr (hyx ▸ hset d x List.mem_cons_self hd)
    · exact (hy.imp_left fun h => (List.mem_cons.mp h).resolve_left hyx).imp_right
        (hkeep d x List.mem_cons_self y hyx)

/-! ### The watchdog (R556) -/

/-- A write to block SYS falls to none of the blocks with operations of their own (R7). -/
theorem Dev.regWrite_sys (d : Dev) {env : Env} {ag : Agent} {a : Nat} {v : Word} (ha : a / 0x10000 = 0x80) :
    d.regWrite env ag a v = d.miscWrite env ag a v := by
  have htumb : a ≠ Reg.tumbCtrl := fun h => absurd (h ▸ ha) (by decide)
  have hhinge : a ≠ Reg.hingeCtrl := fun h => absurd (h ▸ ha) (by decide)
  simp [Dev.regWrite, rwtMask_of_outside (a := a) (by omega), ha, htumb, hhinge]

theorem Dev.regWrite_wdtcfg (d : Dev) {v : Word} : d.regWrite Env.quiet .host Reg.sysWdtcfg v = d.wdtCfg .host v := by
  rw [d.regWrite_sys (by decide), Dev.miscWrite, if_pos rfl]

theorem Dev.regWrite_wdtkick (d : Dev) {v : Word} : d.regWrite Env.quiet .host Reg.sysWdtkick v = d.wdtKick .host v := by
  rw [d.regWrite_sys (by decide), Dev.miscWrite, if_neg (by decide), if_pos rfl]

section
variable {ps : List Part} {fs : List Fld} {d : Dev} {ag : Agent} {v : Word}

theorem Dev.changes_wdtRestart (hf : Fld.sysWdtevRemain ∈ fs) : d.Changes ps fs d.wdtRestart := Dev.changes_put hf (by decide)

theorem Dev.changes_wdtKick (hf : Fld.sysWdtevRemain ∈ fs) (hv : ∀ f ∈ violFields [0], f ∈ fs) :
    d.Changes ps fs (d.wdtKick ag v) := .of_ite (Dev.changes_wdtRestart hf) (Dev.changes_viol hv)

theorem Dev.changes_wdtCfg (hf : Fld.sysWdtevRemain ∈ fs) (hw : Fld.whole Reg.sysWdtcfg ∈ fs)
    (hv : ∀ f ∈ violFields [0, 3], f ∈ fs) : d.Changes ps fs (d.wdtCfg ag v) := by
  refine .of_ite (Dev.changes_viol fun f hm => hv f ?_) (Dev.Changes.trans ?_ (Dev.changes_wdtRestart hf))
  · revert f
    decide
  · refine .of_ite (Dev.changes_wr hw) ((Dev.changes_wr hw).trans (Dev.changes_viol fun f hm => hv f ?_))
    revert f
    decide

theorem Dev.changes_wdtPre (hi : .intc ∈ ps) (hf : [Fld.sysWdtevPre, Fld.sysWdtevRemain] ⊆ fs) : d.Changes ps fs d.wdtPre :=
  .of_ite ((Dev.changes_put (hf (by simp)) (by decide)).trans (Dev.changes_happen hi (hf (by simp)) (by decide))) (.refl ..)

end

theorem Dev.get_wdtRestart (d : Dev) : d.wdtRestart.get Fld.sysWdtevRemain = d.get Fld.sysWdtcfgTimeout :=
  (Dev.get_put_same _ _ _ ⟨by decide, by decide⟩).trans (Nat.mod_eq_of_lt (d.get_lt _))

/-- A word of SYS_WDTCFG by its fields (R556). -/
theorem sysWdtcfg_fields {e p t : Nat} (he : e < 2) (hp : p < 2 ^ 15) (ht : t < 2 ^ 16) :
    Fld.sysWdtcfgEn.of (BitVec.ofNat 32 (e * 2 ^ 31 + p * 2 ^ 16 + t)) = e ∧
      Fld.sysWdtcfgPre.of (BitVec.ofNat 32 (e * 2 ^ 31 + p * 2 ^ 16 + t)) = p ∧
      Fld.sysWdtcfgTimeout.of (BitVec.ofNat 32 (e * 2 ^ 31 + p * 2 ^ 16 + t)) = t := by
  simp only [Fld.of, bitsOf, Fld.width, Fld.sysWdtcfgEn, Fld.sysWdtcfgPre, Fld.sysWdtcfgTimeout, BitVec.toNat_ofNat]
  omega

/-- A write of SYS_WDTCFG that may change it stores a timeout of 1 at least and a pre below it, and starts the count (R556). -/
theorem Dev.wdtCfg_stores (d : Dev) {v : Word} (h : d.is Fld.sysWdtcfgEn = true → bitOf v.toNat 31 = true) :
    let t := max 1 (bitsOf v.toNat 0 16)
    (d.wdtCfg .host v).get Fld.sysWdtcfgTimeout = t ∧ (d.wdtCfg .host v).get Fld.sysWdtcfgEn = bitsOf v.toNat 31 1 ∧
      (d.wdtCfg .host v).get Fld.sysWdtcfgPre = min (bitsOf v.toNat 16 15) (t - 1) ∧
      (d.wdtCfg .host v).get Fld.sysWdtevRemain = t := by
  intro t
  have hopen : ¬ (d.is Fld.sysWdtcfgEn && !bitOf v.toNat 31) = true := by simpa using h
  have ht16 : bitsOf v.toNat 0 16 < 2 ^ 16 := bitsOf_lt _ _ _
  have hp15 : bitsOf v.toNat 16 15 < 2 ^ 15 := bitsOf_lt _ _ _
  have he1 : bitsOf v.toNat 31 1 < 2 := bitsOf_lt _ _ _
  have hpre : (if t ≤ bitsOf v.toNat 16 15 then t - 1 else bitsOf v.toNat 16 15) = min (bitsOf v.toNat 16 15) (t - 1) := by
    split <;> omega
  obtain ⟨hen, hp, ht⟩ := sysWdtcfg_fields (e := bitsOf v.toNat 31 1) (p := min (bitsOf v.toNat 16 15) (t - 1)) (t := t)
    he1 (by omega) (by omega)
  rw [Dev.wdtCfg, if_neg hopen]
  dsimp only
  rw [show max 1 (bitsOf v.toNat 0 16) = t from rfl, hpre]
  generalize hw : BitVec.ofNat 32 (bitsOf v.toNat 31 1 * 2 ^ 31 + min (bitsOf v.toNat 16 15) (t - 1) * 2 ^ 16 + t) = w at *
  generalize hu : (if t = bitsOf v.toNat 0 16 ∧ min (bitsOf v.toNat 16 15) (t - 1) = bitsOf v.toNat 16 15 then
    d.wr Reg.sysWdtcfg w else (d.wr Reg.sysWdtcfg w).viol 3 .host Reg.sysWdtcfg) = u
  have hrd : u.rd Reg.sysWdtcfg = w := by
    rw [← hu]
    split
    · exact Dev.rd_wr_same ..
    · rw [Dev.rd_viol_below _ _ _ _ (by decide), Dev.rd_wr_same]
  have hcfg {f : Fld} (hf : f.addr = Reg.sysWdtcfg) : u.wdtRestart.get f = f.of w := by
    rw [Dev.wdtRestart, Dev.get_put_ne _ _ _ _ (hf ▸ by decide), Dev.get, hf, hrd]
  refine ⟨(hcfg rfl).trans ht, (hcfg rfl).trans hen, (hcfg rfl).trans hp, ?_⟩
  rw [Dev.get_wdtRestart, Dev.get, show Fld.sysWdtcfgTimeout.addr = Reg.sysWdtcfg from rfl, hrd, ht]

end Sys2Proof.Machine

/-! Supplies (R560, R561) and temperatures (R563, R564): the fields that each operation writes, and what it leaves in them. -/
namespace Sys2Proof.Machine
set_option Elab.async false

section
variable {ps : List Part} {fs : List Fld} {d : Dev}

/-- The fields of the voltages measured (R567), and of the temperatures (R563). -/
def supplyShown : List Fld := [Fld.monSupply1Core, Fld.monSupply0Io33, Fld.monSupply0Avdd18, Fld.spkPvddMv]
def tempShown : List Fld := [Fld.monThermDie0, Fld.monThermDie1, Fld.spkThermTemp]

/-- The fields that a supply mute writes (R243, R560). -/
def supplyMuteFields : List Fld :=
  (List.range 10).flatMap (fun o => [Fld.outStatusHolding o, Fld.outStatusPersona o, Fld.outStatusState o]) ++
    (List.range 10).flatMap (fun n => [Fld.seqStatusMuteSupply n, Fld.seqStatusServo n, Fld.seqStatusStep n])

theorem seqFields_of_supplyMute : ∀ o ∈ List.range 10, Fld.seqStatusMuteSupply o :: seqFields o ⊆ supplyMuteFields := by
  decide +kernel

/-- The monitors of supplies and temperatures lie behind all of them. -/
theorem supplyMute_below : ∀ f ∈ supplyMuteFields, f.addr < 0x900000 := by decide +kernel

theorem Dev.changes_showSupply {i mv : Nat} (hf : supplyShown ⊆ fs) : d.Changes ps fs (d.showSupply i mv) := by
  unfold Dev.showSupply
  split <;> exact Dev.changes_put (hf (by simp [supplyShown])) (by decide)

theorem Dev.changes_showTemp {k : Nat} {T : Int} (hf : tempShown ⊆ fs) : d.Changes ps fs (d.showTemp k T) := by
  unfold Dev.showTemp
  split <;> exact Dev.changes_put (hf (by simp [tempShown])) (by decide)

theorem Dev.changes_supplyMutes (hp : .outs ∈ ps) (hf : supplyMuteFields ⊆ fs) : d.Changes ps fs d.supplyMutes :=
  .each fun _ o ho => by
    obtain ⟨hm, hs⟩ := List.cons_subset.mp (List.Subset.trans (seqFields_of_supplyMute o ho) hf)
    exact .setMute (.refl ..) (mayChange_of_outs hp) hs hm

/-! ### Supplies -/

/-- The count of a supply is of 8 bits. -/
theorem supCnt_fits (i : Fin 4) : (supCnt i).fits ∧ (supCnt i).addr = Reg.monSupcnt := by
  unfold Fld.fits
  revert i
  decide

theorem Dev.Changes.supplyMutes {t : Dev} (h : d.Changes ps fs t) (hp : .outs ∈ ps) (hf : supplyMuteFields ⊆ fs) :
    d.Changes ps fs t.supplyMutes := h.trans (Dev.changes_supplyMutes hp hf)

theorem Dev.Changes.supplyWarning {i : Fin 4} {mv : Nat} {t : Dev} (h : d.Changes ps fs t)
    (hp : [Part.intc, Part.outs, Part.pins] ⊆ ps)
    (hf : [Fld.monSupevWarn.at i, Fld.monSupstatBelow, Fld.monSupstatMuting, supCnt i] ++ supplyShown ++ supplyMuteFields ⊆ fs) :
    d.Changes ps fs (t.supplyWarning i mv) := by
  obtain ⟨hf, hmute⟩ := List.append_subset.mp hf
  obtain ⟨hf, hshown⟩ := List.append_subset.mp hf
  have hs : d.Changes ps fs (t.showSupply i mv) := h.trans (Dev.changes_showSupply hshown)
  have hbelow : d.Changes ps fs (((t.showSupply i mv).modPins (fun p => { p with low := orBit p.low i })).setBit
      Fld.monSupstatBelow i) := (hs.modPins (hp (by simp))).put (hf (by simp))
  exact .of_ite hs ((((hbelow.happenAt_at (hp (by simp)) (hf (by simp))).inc (hf (by simp))).put
    (hf (by simp))).supplyMutes (hp (by simp)) hmute)

theorem Dev.Changes.supplyRecover {i : Fin 4} {mv : Nat} {t : Dev} (h : d.Changes ps fs t)
    (hp : [Part.intc, Part.outs, Part.pins, Part.pwr] ⊆ ps)
    (hf : [Fld.monSupevRecovered.at i, Fld.monSupstatBelow, Fld.monSupstatMuting] ++ supplyShown ++ supplyMuteFields ⊆ fs) :
    d.Changes ps fs (t.supplyRecover i mv) := by
  obtain ⟨hf, hmute⟩ := List.append_subset.mp hf
  obtain ⟨hf, hshown⟩ := List.append_subset.mp hf
  have hs : d.Changes ps fs (t.showSupply i mv) := h.trans (Dev.changes_showSupply hshown)
  have hbelow : d.Changes ps fs (((t.showSupply i mv).modPins (fun p => { p with low := clrBit p.low i })).dropBit
      Fld.monSupstatBelow i) := (hs.modPins (hp (by simp))).put (hf (by simp))
  have hevent := hbelow.happenAt_at (f := Fld.monSupevRecovered) (i := i) (hp (by simp)) (hf (by simp))
  exact .of_ite hs (.of_ite (hbelow.modPwr (hp (by simp)))
    (.of_ite ((hevent.put (hf (by simp))).supplyMutes (hp (by simp)) hmute) hevent))

theorem Dev.changes_supplyResume : d.Changes [.outs] ([Fld.monSupstatMuting] ++ supplyMuteFields) d.supplyResume :=
  .of_ite ((Dev.changes_put (by simp) (by decide)).trans
    (Dev.changes_supplyMutes (by simp) (List.subset_append_right ..))) (.refl ..)

/-- The supply mutes leave the monitors and the pins as they are. -/
theorem Dev.get_supplyMutes (d : Dev) {f : Fld} (h : 0x900000 ≤ f.addr) : d.supplyMutes.get f = d.get f :=
  (Dev.changes_supplyMutes (ps := [.outs]) (by simp) (List.Subset.refl _)).get_eq fun g hg hga => by
    have := supplyMute_below g hg
    omega

theorem Dev.pins_supplyMutes (d : Dev) : d.supplyMutes.pins = d.pins :=
  (Dev.changes_supplyMutes (ps := [.outs]) (by simp) (List.Subset.refl _)).pins_eq (by simp)

/-- Nor does the voltage measured touch the pins, or a field that is not its own. -/
theorem Dev.pins_showSupply (d : Dev) (i mv : Nat) : (d.showSupply i mv).pins = d.pins :=
  (Dev.changes_showSupply (ps := []) (List.Subset.refl _)).pins_eq (by simp)

theorem Dev.get_showSupply (d : Dev) (i mv : Nat) {g : Fld} (h : ∀ f ∈ supplyShown, f.apart g = true) :
    (d.showSupply i mv).get g = d.get g :=
  (Dev.changes_showSupply (ps := []) (List.Subset.refl _)).get_apart h

end

end Sys2Proof.Machine

/-! What the operations of supplies and temperatures leave (R560, R561, R563, R564), and the statements of their commands. -/
namespace Sys2Proof.Machine
set_option Elab.async false

/-! ### Supplies -/

/-- The counts of the supplies lie apart from what else a warning writes. -/
theorem supCnt_apart : ∀ i : Fin 4, (∀ f ∈ supplyShown, f.apart (supCnt i) = true) ∧
    ∀ f ∈ [Fld.monSupstatBelow, Fld.monSupstatMuting, Fld.monSupevWarn],
      (supCnt i).apart f = true ∧ f.apart (supCnt i) = true := by
  decide

theorem Dev.bit_supplyMutes (d : Dev) {f : Fld} (i : Nat) (h : 0x900000 ≤ f.addr) : d.supplyMutes.bit f i = d.bit f i := by
  rw [Dev.bit, d.get_supplyMutes h, Dev.bit]

theorem Dev.setBit_eq_putBit (d : Dev) (f : Fld) (i : Nat) : d.setBit f i = d.putBit f i true := rfl

theorem Dev.dropBit_eq_putBit (d : Dev) (f : Fld) (i : Nat) : d.dropBit f i = d.putBit f i false := rfl

theorem Dev.bit_inc_apart (d : Dev) {f g : Fld} (i : Nat) (h : f.apart g = true) : (d.inc f).bit g i = d.bit g i := by
  rw [Dev.bit, Dev.inc, Dev.addSat, d.get_put_apart _ h, Dev.bit]

/-- A supply that falls below its threshold is low, below and muting, counts and sets its warning (R560). -/
theorem Dev.supplyWarning_low (d : Dev) (i : Fin 4) (mv : Nat) (h : bitOf d.pins.low i = false) :
    bitOf (d.supplyWarning i mv).pins.low i = true ∧ (d.supplyWarning i mv).bit Fld.monSupstatBelow i = true ∧
      (d.supplyWarning i mv).bit Fld.monSupevWarn i = true ∧ (d.supplyWarning i mv).bit Fld.monSupstatMuting i = true ∧
      (d.supplyWarning i mv).get (supCnt i) = min (d.get (supCnt i) + 1) (2 ^ (supCnt i).width - 1) := by
  obtain ⟨hfits, haddr⟩ := supCnt_fits i
  obtain ⟨hshown, hap⟩ := supCnt_apart i
  have hi : (i : Nat) < 4 := i.isLt
  have hopen : ¬ bitOf (d.showSupply i mv).pins.low i = true := by simp [d.pins_showSupply, h]
  rw [Dev.supplyWarning, if_neg hopen]
  dsimp only [Dev.setBit_eq_putBit]
  refine ⟨?_, ?_, ?_, ?_, ?_⟩
  · rw [Dev.pins_supplyMutes]
    simpa [Dev.putBit, Dev.setBit, Dev.inc, Dev.addSat, Dev.modPins] using orBit_testBit _ _
  · rw [Dev.bit_supplyMutes _ _ (by decide), Dev.bit_putBit_apart _ _ (by decide), Dev.bit_inc_apart _ _ (hap _ (by simp)).1,
      Dev.bit_happenAt_ne _ (by decide), Dev.bit_putBit_same _ _ (show 0 + (i : Nat) ≤ 3 by omega) (by decide)]
  · rw [Dev.bit_supplyMutes _ _ (by decide), Dev.bit_putBit_apart _ _ (by decide), Dev.bit_inc_apart _ _ (hap _ (by simp)).1,
      Dev.bit_happenAt_same _ (show 0 + (i : Nat) ≤ 3 by omega) (by decide)]
  · rw [Dev.bit_supplyMutes _ _ (by decide), Dev.bit_putBit_same _ _ (show 4 + (i : Nat) ≤ 7 by omega) (by decide)]
  · have hlt : min (d.get (supCnt i) + 1) (2 ^ (supCnt i).width - 1) < 2 ^ (supCnt i).width := by
      have := Nat.two_pow_pos (supCnt i).width
      omega
    have hbefore : (((d.showSupply i mv).modPins (fun p => { p with low := orBit p.low i })).putBit Fld.monSupstatBelow i
        true).get (supCnt i) = d.get (supCnt i) :=
      (Dev.get_putBit_apart _ _ (hap _ (by simp)).2).trans (d.get_showSupply i mv hshown)
    rw [Dev.get_supplyMutes _ (by rw [haddr]; decide), Dev.get_putBit_apart _ _ (hap _ (by simp)).2, Dev.inc, Dev.addSat,
      Dev.get_put_same _ _ _ hfits, Dev.get_happenAt_ne _ _ _ _ (by rw [haddr]; decide), hbefore, Nat.mod_eq_of_lt hlt]

/-- A low supply that recovers is neither low nor below, sets its event and, with automatic resumption, ends its mute (R561). -/
theorem Dev.supplyRecover_high (d : Dev) (i : Fin 4) (mv : Nat) (h : bitOf d.pins.low i = true)
    (hrec : bitOf d.pwr.recov i = false) :
    bitOf (d.supplyRecover i mv).pins.low i = false ∧ (d.supplyRecover i mv).bit Fld.monSupstatBelow i = false ∧
      (d.supplyRecover i mv).bit Fld.monSupevRecovered i = true ∧
      (d.supplyRecover i mv).bit Fld.monSupstatMuting i = (!d.is Fld.monCfgAutoResume && d.bit Fld.monSupstatMuting i) := by
  have hi : (i : Nat) < 4 := i.isLt
  have hopen : ¬ (!bitOf (d.showSupply i mv).pins.low i) = true := by simp [d.pins_showSupply, h]
  rw [Dev.supplyRecover, if_neg hopen]
  dsimp only [Dev.dropBit_eq_putBit]
  generalize hu : ((d.showSupply i mv).modPins (fun p => { p with low := clrBit p.low i })).putBit Fld.monSupstatBelow i false = u
  have hpwr : (d.showSupply i mv).pwr = d.pwr :=
    (Dev.changes_showSupply (ps := []) (List.Subset.refl _)).parts.pwr.resolve_left (by simp)
  have hgo : ¬ bitOf u.pwr.recov i = true := by
    rw [← hu]
    simp [Dev.putBit, Dev.dropBit, Dev.modPins, hpwr, hrec]
  have hlow : bitOf u.pins.low i = false := by
    rw [← hu]
    simpa [Dev.putBit, Dev.dropBit, Dev.modPins] using bitOf_clrBit _ _
  have hbelow : u.bit Fld.monSupstatBelow i = false := by
    rw [← hu, Dev.bit_putBit_same _ _ (show 0 + (i : Nat) ≤ 3 by omega) (by decide)]
  have hkept {f : Fld} (hs : ∀ g ∈ supplyShown, g.apart f = true) (hb : Fld.monSupstatBelow.apart f = true) :
      u.get f = d.get f := by
    rw [← hu, Dev.get_putBit_apart _ _ hb]
    exact d.get_showSupply i mv hs
  have hmuting : u.bit Fld.monSupstatMuting i = d.bit Fld.monSupstatMuting i := by
    rw [Dev.bit, hkept (by decide) (by decide), Dev.bit]
  have hauto : (u.happenAt Fld.monSupevRecovered i).is Fld.monCfgAutoResume = d.is Fld.monCfgAutoResume := by
    rw [Dev.is, Dev.get_happenAt_ne _ _ _ _ (by decide), hkept (by decide) (by decide), Dev.is]
  rw [if_neg hgo, hauto]
  cases d.is Fld.monCfgAutoResume with
  | true =>
    refine ⟨?_, ?_, ?_, ?_⟩
    · rw [if_pos rfl, Dev.pins_supplyMutes]
      simpa [Dev.putBit, Dev.dropBit] using hlow
    · rw [if_pos rfl, Dev.bit_supplyMutes _ _ (by decide), Dev.bit_putBit_apart _ _ (by decide),
        Dev.bit_happenAt_ne _ (by decide), hbelow]
    · rw [if_pos rfl, Dev.bit_supplyMutes _ _ (by decide), Dev.bit_putBit_apart _ _ (by decide),
        Dev.bit_happenAt_same _ (show 4 + (i : Nat) ≤ 7 by omega) (by decide)]
    · rw [if_pos rfl, Dev.bit_supplyMutes _ _ (by decide), Dev.bit_putBit_same _ _ (show 4 + (i : Nat) ≤ 7 by omega) (by decide)]
      rfl
  | false =>
    rw [if_neg Bool.false_ne_true]
    refine ⟨by simpa using hlow, ?_, Dev.bit_happenAt_same _ (show 4 + (i : Nat) ≤ 7 by omega) (by decide), ?_⟩
    · rw [Dev.bit_happenAt_ne _ (by decide), hbelow]
    · rw [Dev.bit_happenAt_ne _ (by decide), hmuting]
      rfl

/-! ### Resumption (R561) -/

/-- The supply mute of an output is no field of a sequence, and no field of another output. -/
theorem muteSupply_apart : ∀ o < 10, (∀ f ∈ seqFields o, f.apart (Fld.seqStatusMuteSupply o) = true) ∧
    ∀ p < 10, p ≠ o → ∀ f ∈ Fld.seqStatusMuteSupply o :: seqFields o, f.apart (Fld.seqStatusMuteSupply p) = true := by
  decide +kernel

/-- The mute cause reads as it is set: the sequence that follows does not write it. -/
theorem Dev.get_setMute_supply (d : Dev) {o : Nat} (b : Bool) (ho : o < 10) :
    (d.setMute o Fld.seqStatusMuteSupply b).get (Fld.seqStatusMuteSupply o) = if b then 1 else 0 := by
  have hflag : (d.flag (Fld.seqStatusMuteSupply o) b).get (Fld.seqStatusMuteSupply o) = if b then 1 else 0 :=
    d.get_flag_same b ⟨Nat.le_refl 9, show 9 < 32 by decide⟩ rfl
  have hseq (bs : List Blk) (st : Nat) (fin : SeqEnd) : ((d.flag (Fld.seqStatusMuteSupply o) b).startSeq o bs st fin).get
      (Fld.seqStatusMuteSupply o) = if b then 1 else 0 :=
    ((Dev.Changes.startSeq (.refl [.out o] (seqFields o) _) (mayChange_of_out (by simp)) (List.Subset.refl _)).get_apart
      (muteSupply_apart o ho).1).trans hflag
  unfold Dev.setMute
  dsimp only
  generalize (if b = true then 1 else 0) = n at hflag hseq ⊢
  split
  · exact hflag
  split
  · exact hseq ..
  split
  · exact hseq ..
  · exact hflag

theorem Dev.get_setMute_supply_ne (d : Dev) {o p : Nat} (b : Bool) (ho : o < 10) (hp : p < 10) (hne : p ≠ o) :
    (d.setMute o Fld.seqStatusMuteSupply b).get (Fld.seqStatusMuteSupply p) = d.get (Fld.seqStatusMuteSupply p) :=
  (Dev.Changes.setMute (.refl [.out o] (Fld.seqStatusMuteSupply o :: seqFields o) d) (mayChange_of_out (by simp))
    (List.subset_cons_self ..) (by simp)).get_apart ((muteSupply_apart o ho).2 p hp hne)

theorem Dev.get_setMute_monitor (d : Dev) {o : Nat} (b : Bool) {f : Fld} (ho : o < 10) (hf : 0x900000 ≤ f.addr) :
    (d.setMute o Fld.seqStatusMuteSupply b).get f = d.get f :=
  (Dev.Changes.setMute (.refl [.out o] (Fld.seqStatusMuteSupply o :: seqFields o) d) (mayChange_of_out (by simp))
    (List.subset_cons_self ..) (by simp)).get_eq fun g hg hga => by
      have := supplyMute_below g (seqFields_of_supplyMute o (List.mem_range.mpr ho) hg)
      omega

/-- With no supply muting, no output has the supply mute cause. -/
theorem Dev.supplyMuted_of_none (d : Dev) (o : Nat) (h : d.get Fld.monSupstatMuting = 0) : d.supplyMuted o = false := by
  simp [Dev.supplyMuted, Dev.bit, h, bitOf]

/-- Once every supply is up, a resumption ends every supply mute (R561). -/
theorem Dev.supplyResume_ends (d : Dev) (h : d.pins.low = 0) : d.supplyResume.get Fld.monSupstatMuting = 0 ∧
    ∀ o < 10, d.supplyResume.get (Fld.seqStatusMuteSupply o) = 0 := by
  have hput : (d.put Fld.monSupstatMuting 0).get Fld.monSupstatMuting = 0 :=
    Dev.get_put_same _ _ _ ⟨by decide, by decide⟩
  rw [Dev.supplyResume, if_pos h]
  refine ⟨(Dev.get_supplyMutes _ (by decide)).trans hput, fun o ho => ?_⟩
  refine Dev.each_establishes (I := fun u => u.get Fld.monSupstatMuting = 0)
    (P := fun o u => o < 10 → u.get (Fld.seqStatusMuteSupply o) = 0) (fun u x hx hu => ?_) (fun u x hx hu _ => ?_)
    (fun u x hx y hyx hy hy10 => ?_) hput (.inl (List.mem_range.mpr ho)) ho
  · exact (u.get_setMute_monitor _ (List.mem_range.mp hx) (by decide)).trans hu
  · rw [u.get_setMute_supply _ (List.mem_range.mp hx), u.supplyMuted_of_none x hu]
    rfl
  · rw [u.get_setMute_supply_ne _ (List.mem_range.mp hx) hy10 hyx, hy hy10]

end Sys2Proof.Machine

/-! Temperatures (R563, R564), and the statements of the commands of chapter 19's supplies, temperatures and watchdog. -/
namespace Sys2Proof.Machine
set_option Elab.async false

section
variable {ps : List Part} {fs : List Fld} {d t : Dev}

/-! ### Frames -/

theorem Dev.Changes.showTemp {k : Nat} {T : Int} (h : d.Changes ps fs t) (hf : tempShown ⊆ fs) :
    d.Changes ps fs (t.showTemp k T) := h.trans (Dev.changes_showTemp hf)

theorem Dev.Changes.setEng {e : Nat} {x : Eng} (h : d.Changes ps fs t) (hp : .engs ∈ ps) : d.Changes ps fs (t.setEng e x) :=
  h.trans ⟨{ Dev.PartsBut.refl ps t with engs := fun _ => .inl hp }, fun _ _ _ => rfl⟩

theorem Dev.changes_thermalWarning {k : Nat} {T : Int} (hk : k < 3) (hi : .intc ∈ ps)
    (hf : Fld.monThevWarn :: tempShown ⊆ fs) : d.Changes ps fs (d.thermalWarning k T) := by
  obtain ⟨hw, hs⟩ := List.cons_subset.mp hf
  have hshown : d.Changes ps fs (d.showTemp k T) := .showTemp (.refl ..) hs
  exact .of_ite (hshown.trans (Dev.changes_happenAt hi hw (show 0 + k ≤ 2 by omega))) hshown

/-- Each engine is marked as throttled, or not (R564). -/
theorem Dev.changes_throttled {v : Nat} (hf : ∀ e < 16, Fld.engStatusThrottled e ∈ fs) :
    d.Changes ps fs (d.each (List.range 16) (fun d e => d.put (Fld.engStatusThrottled e) v)) :=
  .each fun _ e he => .put (.refl ..) (hf e (List.mem_range.mp he))

theorem Dev.changes_throttle {T : Int} (hi : .intc ∈ ps) (hf : Fld.monThevThrottle :: tempShown ⊆ fs)
    (he : ∀ e < 16, Fld.engStatusThrottled e ∈ fs) : d.Changes ps fs (d.throttle T) := by
  obtain ⟨hw, hs⟩ := List.cons_subset.mp hf
  have hshown : d.Changes ps fs (d.showTemp 0 T) := .showTemp (.refl ..) hs
  exact .of_ite hshown ((hshown.trans (Dev.changes_throttled he)).happen hi hw (by decide))

theorem Dev.changes_throttleEnd {T : Int} (hf : tempShown ⊆ fs) (he : ∀ e < 16, Fld.engStatusThrottled e ∈ fs) :
    d.Changes ps fs (d.throttleEnd T) := by
  have hshown : d.Changes ps fs (d.showTemp 0 T) := .showTemp (.refl ..) hf
  exact .of_ite hshown (hshown.trans (Dev.changes_throttled he))

theorem Dev.changes_shutdown {T : Int} {long : Bool} (hp : [Part.engs, Part.intc, Part.pwr] ⊆ ps)
    (hf : Fld.monThevShutdown :: tempShown ⊆ fs) (he : ∀ e < 16, Fld.engStatusState e ∈ fs) :
    d.Changes ps fs (d.shutdown T long) := by
  obtain ⟨hw, hs⟩ := List.cons_subset.mp hf
  have hshown : d.Changes ps fs (d.showTemp 0 T) := .showTemp (.refl ..) hs
  have hhalt (u : Dev) (e : Nat) (hm : e ∈ List.range 16) : u.Changes ps fs (if u.engBusy e then u.engHalt e else u) :=
    .of_ite ((Dev.Changes.put (.refl ..) (he e (List.mem_range.mp hm))).setEng (hp (by simp))) (.refl ..)
  exact .of_ite hshown (((hshown.trans (.each hhalt)).modPwr (hp (by simp))).happen (hp (by simp)) hw (by decide))

end

/-! ### What they leave -/

/-- The engines' STATUS registers, and their fields for the state and the mark (R382, R564). -/
theorem engStatus_ne {e f : Nat} (h : f ≠ e) : Reg.engStatus f ≠ Reg.engStatus e := by
  unfold Reg.engStatus
  omega

theorem engStatus_ne_monThev (e : Nat) : Reg.engStatus e ≠ Reg.monThev := by
  unfold Reg.engStatus Reg.monThev
  omega

theorem engThrottled_fld (e : Nat) : (Fld.engStatusThrottled e).fits ∧ (Fld.engStatusThrottled e).width = 1 ∧
    (Fld.engStatusThrottled e).addr = Reg.engStatus e := ⟨⟨Nat.le_refl 24, show 24 < 32 by decide⟩, rfl, rfl⟩

theorem engState_fld (e : Nat) : (Fld.engStatusState e).fits ∧ (Fld.engStatusState e).width = 4 ∧
    (Fld.engStatusState e).addr = Reg.engStatus e := ⟨⟨show 28 ≤ 31 by decide, show 31 < 32 by decide⟩, rfl, rfl⟩

theorem Dev.get_put_throttled (d : Dev) (e : Nat) {v : Nat} (hv : v < 2) :
    (d.put (Fld.engStatusThrottled e) v).get (Fld.engStatusThrottled e) = v := by
  obtain ⟨hfits, hw, -⟩ := engThrottled_fld e
  rw [Dev.get_put_same _ _ _ hfits, hw, Nat.pow_one, Nat.mod_eq_of_lt hv]

theorem Dev.get_put_throttled_ne (d : Dev) {e f : Nat} (v : Nat) (h : f ≠ e) :
    (d.put (Fld.engStatusThrottled e) v).get (Fld.engStatusThrottled f) = d.get (Fld.engStatusThrottled f) :=
  Dev.get_put_ne _ _ _ _ (engStatus_ne h)

/-- A loop over the engines marks each of them. -/
theorem Dev.get_each_throttled (d : Dev) {v : Nat} (hv : v < 2) {e : Nat} (he : e < 16) :
    (d.each (List.range 16) (fun d e => d.put (Fld.engStatusThrottled e) v)).get (Fld.engStatusThrottled e) = v :=
  Dev.each_establishes (I := fun _ => True) (P := fun e u => u.get (Fld.engStatusThrottled e) = v) (fun _ _ _ h => h)
    (fun u x _ _ => u.get_put_throttled x hv) (fun u _ _ _ hne hy => (u.get_put_throttled_ne v hne).trans hy) trivial
    (.inl (List.mem_range.mpr he))

theorem Dev.is_throttled_showTemp (d : Dev) (T : Int) :
    (d.showTemp 0 T).is (Fld.engStatusThrottled 0) = d.is (Fld.engStatusThrottled 0) := by
  rw [Dev.is, (Dev.changes_showTemp (ps := []) (List.Subset.refl _)).get_apart (by decide), Dev.is]

/-- At 125 °C die 0 is throttled, if it is not yet (R564). -/
theorem Dev.throttle_marks (d : Dev) {T : Int} (hT : 1000 ≤ T) (h : d.is (Fld.engStatusThrottled 0) = false) :
    (d.throttle T).get Fld.monThevThrottle = 1 ∧ ∀ e < 16, (d.throttle T).get (Fld.engStatusThrottled e) = 1 := by
  have hopen : ¬ (T < 1000 ∨ (d.showTemp 0 T).is (Fld.engStatusThrottled 0) = true) := by
    simp only [d.is_throttled_showTemp, h, Bool.false_eq_true, or_false]
    omega
  rw [Dev.throttle, if_neg hopen]
  refine ⟨Dev.happen_sets _ _ (by decide) (by decide), fun e he => ?_⟩
  rw [Dev.get_happen_ne _ _ _ (engStatus_ne_monThev e), Dev.get_each_throttled _ (by decide) he]

theorem Dev.throttleEnd_unmarks (d : Dev) {T : Int} (hT : T < 960) {e : Nat} (he : e < 16) :
    (d.throttleEnd T).get (Fld.engStatusThrottled e) = 0 := by
  rw [Dev.throttleEnd, if_neg (by omega), Dev.get_each_throttled _ (by decide) he]

theorem Dev.get_setEng (d : Dev) (e : Nat) (x : Eng) (f : Fld) : (d.setEng e x).get f = d.get f := rfl

/-- A halted engine is not busy (R384). -/
theorem Dev.engBusy_engHalt (d : Dev) (e : Nat) : (d.engHalt e).engBusy e = false := by
  obtain ⟨hfits, hw, -⟩ := engState_fld e
  have hst : (d.engHalt e).get (Fld.engStatusState e) = EngSt.stopped % 2 ^ 4 := by
    rw [Dev.engHalt, Dev.engSilence, Dev.modEng, Dev.get_setEng, Dev.setEngSt, Dev.get_put_same _ _ _ hfits, hw]
  rw [Dev.engBusy, hst]
  decide

theorem Dev.engBusy_engHalt_ne (d : Dev) {e f : Nat} (h : f ≠ e) : (d.engHalt e).engBusy f = d.engBusy f := by
  have hst : (d.engHalt e).get (Fld.engStatusState f) = d.get (Fld.engStatusState f) := by
    rw [Dev.engHalt, Dev.engSilence, Dev.modEng, Dev.get_setEng, Dev.setEngSt, Dev.get_put_ne _ _ _ _ (engStatus_ne h)]
  rw [Dev.engBusy, hst, Dev.engBusy]

/-- At 135 °C every engine is stopped, and START is held off (R564). -/
theorem Dev.shutdown_stops (d : Dev) {T : Int} (long : Bool) (hT : 1080 ≤ T) :
    (d.shutdown T long).pwr.hot = true ∧ (d.shutdown T long).get Fld.monThevShutdown = 1 ∧
      ∀ e < 16, (d.shutdown T long).engBusy e = false := by
  have hopen (b : Prop) : ¬ (T < 1080 ∧ b) := fun h => by omega
  rw [Dev.shutdown, if_neg (hopen _)]
  refine ⟨by simp [Dev.modPwr], Dev.happen_sets _ _ (by decide) (by decide), fun e he => ?_⟩
  rw [Dev.engBusy, Dev.get_happen_ne _ _ _ (engStatus_ne_monThev e)]
  refine Dev.each_establishes (I := fun _ => True) (P := fun e u => u.engBusy e = false) (fun _ _ _ h => h)
    (fun u x _ _ => ?_) (fun u x _ y hne hy => ?_) trivial (.inl (List.mem_range.mpr he))
  · split
    · exact u.engBusy_engHalt x
    case isFalse hidle => exact Bool.eq_false_iff.mpr hidle
  · split
    · exact (u.engBusy_engHalt_ne hne).trans hy
    · exact hy

/-- An event leaves the fields apart from it as they are. -/
theorem Dev.get_happen_apart (d : Dev) {f g : Fld} (hw : f.lo ≤ f.hi) (h : f.apart g = true) : (d.happen f).get g = d.get g :=
  (Dev.changes_happen (ps := [.intc]) (fs := [f]) (by simp) (by simp) hw).get_apart (by simpa using h)

/-! ### The host's writes -/

theorem State.hostReg_wdtkick (s : State) {v : Word} (h : s.dev.hostReady = true) :
    s.hostReg Reg.sysWdtkick v = s.on (·.wdtKick .host v) :=
  s.hostReg_reach h (s.dev.regUp_of_open (by decide) (.inl (by decide))) (by decide) s.dev.regWrite_wdtkick
    (Dev.changes_wdtKick (ps := []) (fs := Fld.sysWdtevRemain :: violFields [0]) (by simp) fun _ => List.mem_cons_of_mem _)
    (by simp) (by simp)

theorem State.hostReg_wdtcfg (s : State) {v : Word} (h : s.dev.hostReady = true) :
    s.hostReg Reg.sysWdtcfg v = s.on (·.wdtCfg .host v) :=
  s.hostReg_reach h (s.dev.regUp_of_open (by decide) (.inl (by decide))) (by decide) s.dev.regWrite_wdtcfg
    (Dev.changes_wdtCfg (ps := []) (fs := [Fld.sysWdtevRemain, Fld.whole Reg.sysWdtcfg] ++ violFields [0, 3]) (by simp) (by simp)
      fun _ => List.mem_append_right _) (by simp) (by simp)

/-- A write to blocks MON and VIOL is these blocks' own (R7). -/
theorem Dev.regWrite_mon (d : Dev) {env : Env} {ag : Agent} {a : Nat} {v : Word} (ha : a / 0x10000 = 0x90) :
    d.regWrite env ag a v = d.monWrite a v := by
  have htumb : a ≠ Reg.tumbCtrl := fun h => absurd (h ▸ ha) (by decide)
  have hhinge : a ≠ Reg.hingeCtrl := fun h => absurd (h ▸ ha) (by decide)
  simp [Dev.regWrite, rwtMask_of_outside (a := a) (by omega), ha, htumb, hhinge]

/-- RESUME is the write of 1 to MON_CTRL (R561). -/
theorem Dev.regWrite_resume (d : Dev) : d.regWrite Env.quiet .host Reg.monCtrl 1 = d.supplyResume := by
  rw [d.regWrite_mon (by decide), Dev.monWrite, if_neg (by decide), if_neg (by decide), if_pos rfl, if_pos (by decide)]

theorem State.hostReg_resume (s : State) (h : s.dev.hostReady = true) : s.hostReg Reg.monCtrl 1 = s.on (·.supplyResume) :=
  s.hostReg_reach h (s.dev.regUp_of_open (by decide) (.inr (.inr (by decide)))) (by decide) s.dev.regWrite_resume
    s.dev.changes_supplyResume (by simp) (by simp)

/-- Settles O25: each command is one operation, and the fields that it names are what that operation leaves in them. -/
theorem supplyCommandsComplete : Obligations.SupplyCommandsComplete := by
  refine ⟨fun s h => ⟨_, congrArg Host.Outcome.next (s.hostReg_wdtkick h), ?_⟩,
    fun s v ⟨h, hen⟩ => ⟨_, congrArg Host.Outcome.next (s.hostReg_wdtcfg h), s.dev.wdtCfg_stores hen⟩,
    fun s h => ⟨_, rfl, ?_, ?_⟩,
    fun s i mv h => ⟨_, rfl, s.dev.fastOn.supplyWarning_low i mv h⟩,
    fun s i mv ⟨h, hrec⟩ => ⟨_, rfl, s.dev.supplyRecover_high i mv h hrec⟩,
    fun s ⟨h, hlow⟩ => ⟨_, congrArg Host.Outcome.next (s.hostReg_resume h), ?_⟩,
    fun s k T hT => ⟨_, rfl, ?_⟩,
    fun s T ⟨hT, h⟩ => ⟨_, rfl, (s.dev.throttle_marks hT h).1, fun e => (s.dev.throttle_marks hT h).2 e e.isLt⟩,
    fun s T hT => ⟨_, rfl, fun e => s.dev.throttleEnd_unmarks hT e.isLt⟩,
    fun s T long hT => ⟨_, rfl, ?_⟩⟩
  · rw [State.on_dev, Dev.wdtKick, if_pos (by decide), Dev.get_wdtRestart]
  · rw [State.on_dev, Dev.wdtPre, if_pos h]
    exact Dev.happen_sets _ _ (by decide) (by decide)
  · rw [State.on_dev, Dev.wdtPre, if_pos h]
    rw [Dev.get_happen_apart _ (by decide) (by decide), Dev.get_put_same _ _ _ ⟨by decide, by decide⟩]
    exact Nat.mod_eq_of_lt (Nat.lt_of_lt_of_le (s.dev.get_lt _) (by decide))
  · obtain ⟨hmuting, hout⟩ := s.dev.supplyResume_ends hlow
    exact ⟨hmuting, fun o => hout o o.isLt⟩
  · rw [State.on_dev, Dev.thermalWarning, if_pos hT]
    exact Dev.bit_happenAt_same _ (show 0 + (k : Nat) ≤ 2 by omega) (by decide)
  · obtain ⟨hhot, hev, hbusy⟩ := s.dev.shutdown_stops long hT
    exact ⟨hhot, hev, fun e => hbusy e e.isLt⟩

/-- Settles O44: each operation's frame, in the fields that the statement lists. -/
theorem supplyCommandsFrame : Obligations.SupplyCommandsFrame := by
  refine ⟨fun s t e h => .of_next_hostReg e (s.hostReg_wdtkick h) (Dev.changes_wdtKick (by simp) fun _ => List.mem_append_right _),
    fun s t v e h => .of_next_hostReg e (s.hostReg_wdtcfg h) (Dev.changes_wdtCfg (by simp) (by simp) fun _ => List.mem_append_right _),
    fun s t e => .of_next e (Dev.changes_wdtPre (by simp) (by simp)),
    fun s t i mv e => .of_next e ?_,
    fun s t i mv e => .of_next e ?_,
    fun s t e ⟨h, _⟩ => .of_next_hostReg e (s.hostReg_resume h) ?_,
    fun s t k T e => .of_next e (Dev.changes_thermalWarning k.isLt (by simp) (by simp [tempShown])),
    fun s t T e => .of_next e (Dev.changes_throttle (by simp) (by simp [tempShown]) fun e he => ?_),
    fun s t T e => .of_next e (Dev.changes_throttleEnd (by simp [tempShown]) fun e he => ?_),
    fun s t T long e => .of_next e (Dev.changes_shutdown (by simp) (by simp [tempShown]) fun e he => ?_)⟩
  · rw [List.append_assoc]
    exact .supplyWarning (.modClk (.refl ..) (by simp)) (by simp)
      (List.append_subset.mpr ⟨by simp [supplyShown], List.subset_append_right _ supplyMuteFields⟩)
  · rw [List.append_assoc]
    exact .supplyRecover (.refl ..) (by simp)
      (List.append_subset.mpr ⟨by simp [supplyShown], List.subset_append_right _ supplyMuteFields⟩)
  · rw [List.append_assoc]
    exact s.dev.changes_supplyResume
  all_goals
    exact List.mem_append_right _ (List.mem_flatMap.mpr ⟨e, List.mem_range.mpr he, List.mem_singleton.mpr rfl⟩)

end Sys2Proof.Machine

/-! The memories, the windows and the lockbox (chapter 13), and what a reset records (R555). -/
namespace Sys2Proof.Machine
set_option Elab.async false

/-! ### Resets -/

/-- A reset records its cause, and the device stays in reset (R554, R555). -/
theorem State.assertReset_records (s : State) {c : Nat} (supply : Nat) (hc : c < 8) :
    (s.assertReset c supply).dev.get Fld.sysRstcauseLast = c ∧ (s.assertReset c supply).dev.pwr.inReset = true := by
  have hlast (d : Dev) : ((d.put Fld.sysRstcauseLast c).setBit Fld.sysRstcauseHistory c).get Fld.sysRstcauseLast = c := by
    rw [Dev.setBit, Dev.get_put_apart _ _ (by decide), Dev.get_put_same _ _ _ ⟨by decide, by decide⟩]
    exact Nat.mod_eq_of_lt hc
  refine ⟨?_, rfl⟩
  change (Dev.recordReset _ c supply).get Fld.sysRstcauseLast = c
  unfold Dev.recordReset
  dsimp only
  split
  · rw [Dev.get_put_apart _ _ (by decide), hlast]
  · exact hlast _

/-! ### Corrected words (R393, R395) -/

theorem Dev.eccWriteback_of_wb (d : Dev) {a : Nat} (h : d.memc.wb.contains (a / 16 * 16) = true) :
    (d.eccWriteback a).memc.wb = d.memc.wb.filter (· != a / 16 * 16) ∧
      (d.eccWriteback a).memc.seen.contains (a / 16 * 16) = true := by
  rw [Dev.eccWriteback, if_pos h]
  refine ⟨rfl, ?_⟩
  dsimp only
  split
  case isTrue hs => exact hs
  case isFalse => simp

/-- A corrected error counts and sets its event (R393). -/
theorem Dev.ce_counts (d : Dev) (code a cw b : Nat) :
    (d.ce code a cw b).get Fld.memEcccntCe = min (d.get Fld.memEcccntCe + 1) 65535 ∧
      (d.ce code a cw b).get Fld.memEventsCe = 1 := by
  refine ⟨?_, Dev.happen_sets _ _ (by decide) (by decide)⟩
  have hlt : min (d.get Fld.memEcccntCe + 1) (2 ^ Fld.memEcccntCe.width - 1) < 2 ^ Fld.memEcccntCe.width :=
    Nat.lt_of_le_of_lt (Nat.min_le_right ..) (by decide)
  rw [Dev.ce, Dev.get_happen_ne _ _ _ (by decide), Dev.get_wr_ne _ _ _ _ (by decide), Dev.get_put_apart _ _ (by decide),
    Dev.inc, Dev.addSat, Dev.get_put_same _ _ _ ⟨by decide, by decide⟩, Nat.mod_eq_of_lt hlt]
  rfl

/-- The word that a read of a memory in service visits leaves the list of those seen once (R393). -/
def Dev.unseen (d : Dev) (w : Nat) : Dev := { d with memc := { d.memc with seen := d.memc.seen.filter (· != w) } }

/-- A word whose correction is to be written back (R395). -/
def Dev.toWrite (d : Dev) (w : Nat) : Dev :=
  { d with memc := { d.memc with wb := if d.memc.wb.contains w then d.memc.wb else d.memc.wb ++ [w] } }

theorem Dev.get_toWrite (d : Dev) (w : Nat) (f : Fld) : (d.toWrite w).get f = d.get f := rfl

theorem Dev.wb_toWrite (d : Dev) (w : Nat) : (d.toWrite w).memc.wb.contains w = true := by
  simp only [Dev.toWrite]
  split
  case isTrue h => exact h
  case isFalse => simp

/-- The scrubber reads a word whose array has no error. -/
theorem Dev.scrubRead_clean (d : Dev) {a : Nat} (hen : d.is Fld.memScrubcfgEn = true) (ha : a < 0x610000)
    (hb : d.bankOn (d.region a) = true) : d.scrubRead a [] = d.unseen (a / 16 * 16) := by
  simp [Dev.scrubRead, hen, ha, hb, Dev.eccRead, errsAt, Dev.each, Dev.unseen]

/-- It reads a word with one correctable error that has not been met before: counted, and to be written back (R393, R395). -/
theorem Dev.scrubRead_corrects (d : Dev) {a b : Nat} {e : EccErr} (hen : d.is Fld.memScrubcfgEn = true) (ha : a < 0x610000)
    (hbank : d.bankOn (d.region a) = true) (hw : e.word = a / 16 * 16) (hb : e.bit = some b)
    (hseen : d.memc.seen.contains (a / 16 * 16) = false) :
    (d.scrubRead a [e]).get Fld.memEcccntCe = min (d.get Fld.memEcccntCe + 1) 65535 ∧
      (d.scrubRead a [e]).get Fld.memEventsCe = 1 ∧ (d.scrubRead a [e]).memc.wb.contains (a / 16 * 16) = true := by
  obtain ⟨hcount, hevent⟩ := (d.unseen (a / 16 * 16)).ce_counts EccAgent.scrub (a / 16 * 16) e.cw b
  have hread : d.scrubRead a [e] = ((d.unseen (a / 16 * 16)).ce EccAgent.scrub (a / 16 * 16) e.cw b).toWrite (a / 16 * 16) := by
    rw [Dev.scrubRead, if_pos (by simp [hen, ha, hbank]), Dev.eccRead]
    simp only [hseen, errsAt, hw, beq_self_eq_true, List.filter_cons_of_pos, List.filter_nil, Dev.each, List.foldl_cons,
      List.foldl_nil, hb, Bool.false_eq_true, if_false]
    rfl
  rw [hread, Dev.get_toWrite, Dev.get_toWrite]
  exact ⟨hcount, hevent, Dev.wb_toWrite ..⟩

/-! ### Repair copies (R396, R521) -/

theorem Dev.get_queueBurn (d : Dev) (r : Repair) (f : Fld) : (d.queueBurn r).get f = d.get f := rfl

theorem Dev.get_noteRepair (d : Dev) (r : Repair) : (d.noteRepair r).get Fld.repEventsSoft = 1 :=
  Dev.happen_sets ((((d.put Fld.repLastLoc r.loc).put Fld.repLastinfoInfo
    (r.info + (d.put Fld.repLastLoc r.loc).get Fld.ktBootcntCount)).inc Fld.repStatusSoft)) Fld.repEventsSoft
      (by decide) (by decide)

/-- The record of a soft repair sets its event, whether or not the pool is full (R520, R524). -/
theorem Dev.get_softRepair_event (d : Dev) (loc kind spare : Nat) (boot : Bool) :
    (d.softRepair loc kind spare boot).get Fld.repEventsSoft = 1 := by
  obtain ⟨r, e | e⟩ := d.softRepair_cases loc kind spare boot
  · rw [e, Dev.get_happen_apart _ (by decide) (by decide), Dev.get_put_apart _ _ (by decide), Dev.get_noteRepair]
  · rw [e]
    exact (Dev.get_queueBurn ..).trans (d.get_noteRepair r)

theorem Dev.memc_softRepair (d : Dev) (loc kind spare : Nat) (boot : Bool) :
    (d.softRepair loc kind spare boot).memc = d.memc :=
  (Dev.changes_softRepair (ps := [.intc, .kt]) (by simp) (by simp) fun _ h => h).parts.memc.resolve_left (by simp)

/-- A copy that was under way waits for its boundary. -/
def Dev.copied (d : Dev) (l kind : Nat) : Dev :=
  { d with memc := { d.memc with copies := d.memc.copies.erase (l, kind), ready := d.memc.ready ++ [(l, kind)] } }

/-- Its end is recorded as a soft repair (R396, R521). -/
theorem Dev.copyDone_of_copy (d : Dev) {l kind : Nat} (h : d.memc.copies.contains (l, kind) = true) :
    ∃ loc spare, d.copyDone l kind = (d.copied l kind).softRepair loc kind spare false := ⟨_, _, if_pos h⟩

/-! ### Windows (R397, R400) -/

/-- The address of a window word. -/
theorem winWord_bounds {set win : Nat} (hs : set < 64) (hw : win < 16) (pa : Bool) :
    let a := 0x848000 + 0x80 * set + 8 * win + (if pa then 4 else 0)
    0x848000 ≤ a ∧ a < 0x84A000 ∧ a % 4 = 0 ∧ winOf a = some (set, win, pa) := by
  intro a
  have hc : (if pa then 4 else 0) = 4 * pa.toNat := by cases pa <;> rfl
  have hp : pa.toNat ≤ 1 := Bool.toNat_le pa
  have ha : a = 0x848000 + 0x80 * set + 8 * win + 4 * pa.toNat := by rw [← hc]
  have hpa : bitOf a 2 = pa := by
    have hbit : a / 2 ^ 2 % 2 = pa.toNat := by omega
    rw [bitOf, hbit]
    cases pa <;> rfl
  refine ⟨by omega, by omega, by omega, ?_⟩
  rw [winOf, if_pos (by omega), hpa, show (a - 0x848000) / 0x80 = set by omega, show (a - 0x848000) / 8 % 16 = win by omega]

theorem Dev.regWrite_dma (d : Dev) {env : Env} {ag : Agent} {a : Nat} {v : Word} (ha : a / 0x10000 = 0x84) :
    d.regWrite env ag a v = d.dmaWrite ag a v := by
  simp [Dev.regWrite, rwtMask_of_outside (a := a) (by omega), ha]

theorem Dev.regWrite_window (d : Dev) {env : Env} {ag : Agent} {a : Nat} {v : Word} (hlo : 0x848000 ≤ a) (hhi : a < 0x84A000) :
    d.regWrite env ag a v = d.winWrite ag a v := by
  rw [d.regWrite_dma (by omega), Dev.dmaWrite, if_neg (by omega), if_pos ⟨hlo, hhi⟩]

section
variable {ps : List Part} {fs : List Fld} {d : Dev}

theorem Dev.changes_winWrite {ag : Agent} {a : Nat} {v : Word} (hw : Fld.whole a ∈ fs) (hv : ∀ f ∈ violFields [0, 3], f ∈ fs) :
    d.Changes ps fs (d.winWrite ag a v) := by
  have hviol {c : Nat} (hc : c = 0 ∨ c = 3) : ∀ f ∈ violFields [c], f ∈ fs := fun f hm => hv f (by
    revert f
    obtain rfl | rfl := hc <;> decide)
  unfold Dev.winWrite
  split
  · exact .refl ..
  · exact .of_ite (Dev.changes_viol (hviol (.inl rfl))) (.of_ite (Dev.changes_wr hw)
      ((Dev.changes_wr hw).trans (Dev.changes_viol (hviol (.inr rfl)))))

/-- Each bank's count of starved requests. -/
def starveFields : List Fld := (List.range 32).map Fld.memBankStarve

theorem Dev.changes_memCtrl {v : Word} (hw : Fld.whole Reg.memEcccnt ∈ fs) (hf : starveFields ⊆ fs) :
    d.Changes ps fs (d.memCtrl v) := by
  have hloop : d.Changes ps fs (if bitOf v.toNat 1 then
      d.each (List.range 32) (fun d b => d.put (Fld.memBankStarve b) 0) else d) :=
    .of_ite (.each fun _ b hb => .put (.refl ..) (hf (List.mem_map_of_mem hb))) (.refl ..)
  exact .of_ite (hloop.wr hw) hloop

end

/-- A ready host's write to a window word is a window write (R400). -/
theorem State.hostReg_window (s : State) {a : Nat} {v : Word} (h : s.dev.hostReady = true) (h4 : a % 4 = 0) (hlo : 0x848000 ≤ a)
    (hhi : a < 0x84A000) : s.hostReg a v = s.on (·.winWrite .host a v) := by
  have hne : a ∉ [Reg.sysRstctrl, Reg.bootCtrl, Reg.bootHostdata] := by
    simp only [List.mem_cons, List.not_mem_nil, or_false, not_or]
    unfold Reg.sysRstctrl Reg.bootCtrl Reg.bootHostdata
    omega
  exact s.hostReg_reach h (s.dev.regUp_of_open h4 (.inr (.inl (by omega)))) hne (s.dev.regWrite_window hlo hhi)
    (Dev.changes_winWrite (ps := []) (fs := Fld.whole a :: violFields [0, 3]) (by simp) fun _ => List.mem_cons_of_mem _)
    (by simp) (by simp)

/-- A word of an idle set that is not secure is stored as its size allows, the rest of it counted (R400). -/
theorem Dev.rd_winWrite (d : Dev) {ag : Agent} {a set win : Nat} {pa : Bool} {v : Word} (ha : a < 0x908000)
    (hof : winOf a = some (set, win, pa)) (hidle : d.winIdle set = true) (hs : d.is (Fld.winVaS win set) = false)
    (hv : pa = false → bitOf v.toNat 3 = false) :
    (d.winWrite ag a v).rd a =
      let size := if pa then d.get (Fld.winVaSize win set) else min 14 (bitsOf v.toNat 4 4)
      let base := v.toNat / 2 ^ (8 + size) * 2 ^ (8 + size)
      BitVec.ofNat 32 (if pa then base else base + size * 16 + bitsOf v.toNat 0 4) := by
  have hopen : ¬ (!d.winIdle set || d.is (Fld.winVaS win set) || (!pa && bitOf v.toNat 3)) = true := by
    cases pa
    · simp [hidle, hs, hv rfl]
    · simp [hidle, hs]
  have hstore (w given : Nat) : (if w = given then d.wr a (BitVec.ofNat 32 w) else
      (d.wr a (BitVec.ofNat 32 w)).viol 3 ag a).rd a = BitVec.ofNat 32 w := by
    split
    · exact Dev.rd_wr_same ..
    · rw [Dev.rd_viol_below _ _ _ _ ha, Dev.rd_wr_same]
  unfold Dev.winWrite
  simp only [hof]
  rw [if_neg hopen]
  exact hstore ..

/-! ### The lockbox and MEM_CTRL (R402, R407) -/

theorem Dev.wipeDone_ends (d : Dev) : d.wipeDone.get Fld.lbxStatusWiping = 0 ∧ d.wipeDone.get Fld.memEventsWipe = 1 ∧
    d.wipeDone.get Fld.lbxStatusWipes = min (d.get Fld.lbxStatusWipes + 1) (2 ^ Fld.lbxStatusWipes.width - 1) := by
  have hlt : min (d.get Fld.lbxStatusWipes + 1) (2 ^ Fld.lbxStatusWipes.width - 1) < 2 ^ Fld.lbxStatusWipes.width :=
    Nat.lt_of_le_of_lt (Nat.min_le_right ..) (by decide)
  unfold Dev.wipeDone Dev.inc Dev.addSat
  refine ⟨?_, Dev.happen_sets _ _ (by decide) (by decide), ?_⟩
  · rw [Dev.get_happen_ne _ _ _ (by decide), Dev.get_put_apart _ _ (by decide), Dev.get_put_same _ _ _ ⟨by decide, by decide⟩]
    rfl
  · rw [Dev.get_happen_ne _ _ _ (by decide), Dev.get_put_same _ _ _ ⟨by decide, by decide⟩, Dev.get_put_apart _ _ (by decide),
      Nat.mod_eq_of_lt hlt]

theorem Dev.regWrite_memCtrl (d : Dev) {env : Env} {ag : Agent} {v : Word} :
    d.regWrite env ag Reg.memCtrl v = d.memCtrl v := by
  rw [d.regWrite_dma (by decide), Dev.dmaWrite, if_neg (by decide), if_neg (by decide), if_pos rfl]

theorem State.hostReg_memCtrl (s : State) {v : Word} (h : s.dev.hostReady = true) : s.hostReg Reg.memCtrl v = s.on (·.memCtrl v) :=
  s.hostReg_reach h (s.dev.regUp_of_open (by decide) (.inr (.inl (by decide)))) (by decide) s.dev.regWrite_memCtrl
    (Dev.changes_memCtrl (ps := []) (fs := Fld.whole Reg.memEcccnt :: starveFields) (by simp) (List.subset_cons_self ..))
    (by simp) (by simp)

theorem memBank_fld (b : Nat) : (Fld.memBankStarve b).fits ∧ (Fld.memBankStarve b).addr = Reg.memBank b :=
  ⟨⟨show 16 ≤ 31 by decide, show 31 < 32 by decide⟩, rfl⟩

theorem memBank_ne {b c : Nat} (h : c ≠ b) : Reg.memBank c ≠ Reg.memBank b := by
  unfold Reg.memBank
  omega

/-- A write of 1 to the second bit of MEM_CTRL clears every bank's count (R407). -/
theorem Dev.get_memCtrl_starve (d : Dev) {v : Word} (h : bitOf v.toNat 1 = true) {b : Nat} (hb : b < 32) :
    (d.memCtrl v).get (Fld.memBankStarve b) = 0 := by
  have hloop : (d.each (List.range 32) (fun d b => d.put (Fld.memBankStarve b) 0)).get (Fld.memBankStarve b) = 0 :=
    Dev.each_establishes (I := fun _ => True) (P := fun b u => u.get (Fld.memBankStarve b) = 0) (fun _ _ _ h => h)
      (fun u x _ _ => by rw [Dev.get_put_same _ _ _ (memBank_fld x).1, Nat.zero_mod])
      (fun u x _ y hne hy => (Dev.get_put_ne _ _ _ _ (memBank_ne hne)).trans hy) trivial (.inl (List.mem_range.mpr hb))
  have hne : Reg.memBank b ≠ Reg.memEcccnt := by
    unfold Reg.memBank Reg.memEcccnt
    omega
  rw [Dev.memCtrl, if_pos h]
  split
  · exact (Dev.get_wr_ne _ _ _ _ hne).trans hloop
  · exact hloop

/-- Settles O18: each command is one operation of the memories, and the host's writes are their registers' own. -/
theorem memoryCommandsComplete : Obligations.MemoryCommandsComplete := by
  refine ⟨fun s a h => ⟨_, rfl, s.dev.eccWriteback_of_wb h⟩,
    fun s a e b ⟨hen, ha, hbank, hw, hb, hseen⟩ => ⟨_, rfl, s.dev.scrubRead_corrects hen ha hbank hw hb hseen⟩,
    fun s a ⟨hen, ha, hbank⟩ => ⟨_, rfl, ?_⟩,
    fun s l kind h => ⟨_, rfl, ?_⟩,
    fun s set win v ⟨h, hidle, hs⟩ => ?_,
    fun s set win v ⟨h, hidle, hs, hv⟩ => ?_,
    fun s ⟨hw, hadv⟩ => ⟨_, rfl, ?_⟩,
    fun s ⟨hw, hadv⟩ => ⟨_, rfl, ?_⟩,
    fun s v ⟨h, hv⟩ => ⟨_, congrArg Host.Outcome.next (s.hostReg_memCtrl h), ?_⟩,
    fun s v ⟨h, hv⟩ => ⟨_, congrArg Host.Outcome.next (s.hostReg_memCtrl h), fun b => s.dev.get_memCtrl_starve hv b.isLt⟩⟩
  · rw [State.on_dev, s.dev.scrubRead_clean hen ha hbank]
    exact ⟨rfl, rfl⟩
  · obtain ⟨loc, spare, hcopy⟩ := s.dev.copyDone_of_copy h
    rw [State.on_dev, hcopy, Dev.memc_softRepair, Dev.get_softRepair_event]
    exact ⟨rfl, rfl, rfl⟩
  · obtain ⟨hlo, hhi, h4, hof⟩ := winWord_bounds set.isLt win.isLt true
    have haddr : Reg.winPa win set = 0x848000 + 0x80 * set + 8 * win + 4 := by
      unfold Reg.winPa
      omega
    refine ⟨_, congrArg Host.Outcome.next (s.hostReg_window h h4 hlo hhi), ?_⟩
    rw [State.on_dev, haddr]
    exact s.dev.rd_winWrite (by omega) hof hidle hs (by simp)
  · obtain ⟨hlo, hhi, h4, hof⟩ := winWord_bounds set.isLt win.isLt false
    have haddr : Reg.winVa win set = 0x848000 + 0x80 * set + 8 * win + 0 := by
      unfold Reg.winVa
      omega
    refine ⟨_, congrArg Host.Outcome.next (s.hostReg_window h h4 hlo hhi), ?_⟩
    rw [State.on_dev, haddr]
    exact s.dev.rd_winWrite (by omega) hof hidle hs fun _ => hv
  · have hdone : s.lbxWipeDone = s.on Dev.wipeDone := by simp [State.lbxWipeDone, hw, hadv]
    rw [hdone]
    exact s.dev.wipeDone_ends
  · have hdone : s.lbxWipeDone = (s.on Dev.wipeDone).assertReset Rst.soft 0 := by simp [State.lbxWipeDone, hw, hadv]
    rw [hdone]
    exact State.assertReset_records _ 0 (by decide)
  · rw [State.on_dev, Dev.memCtrl, if_pos hv, Dev.rd_wr_same]

end Sys2Proof.Machine

/-! Self-repair, the keyturn store, tamper and violations (chapter 18). -/
namespace Sys2Proof.Machine
set_option Elab.async false

/-! ### The host's writes of block KEYTURN and REPAIR -/

theorem Dev.regWrite_kt (d : Dev) {env : Env} {ag : Agent} {a : Nat} {v : Word} (ha : a / 0x10000 = 0x8F) :
    d.regWrite env ag a v = d.ktBlockWrite ag a v := by
  have htumb : a ≠ Reg.tumbCtrl := by
    rintro rfl
    exact absurd ha (by decide)
  have hhinge : a ≠ Reg.hingeCtrl := by
    rintro rfl
    exact absurd ha (by decide)
  simp [Dev.regWrite, rwtMask_of_outside (a := a) (by omega), ha, htumb, hhinge]

theorem State.hostReg_kt (s : State) {ps : List Part} {fs : List Fld} {a : Nat} {v : Word} {f : Dev → Dev}
    (h : s.dev.hostReady = true) (ha : a / 0x10000 = 0x8F) (h4 : a % 4 = 0) (e : s.dev.ktBlockWrite .host a v = f s.dev)
    (hf : s.dev.Changes ps fs (f s.dev)) (hc : .clk ∉ ps) (hp : .pwr ∉ ps) : s.hostReg a v = s.on f := by
  have hne : a ∉ [Reg.sysRstctrl, Reg.bootCtrl, Reg.bootHostdata] := by
    simp only [List.mem_cons, List.not_mem_nil, or_false, not_or]
    unfold Reg.sysRstctrl Reg.bootCtrl Reg.bootHostdata
    omega
  exact s.hostReg_reach h (s.dev.regUp_of_open h4 (.inr (.inr (by omega)))) hne ((s.dev.regWrite_kt ha).trans e) hf hc hp

theorem ktReg_open (k : Fin 26) : ktReg k / 0x10000 = 0x8F ∧ ktReg k % 4 = 0 ∧ ktSetting (ktReg k) = some (k : Nat) := by
  revert k
  decide

/-- The register of a holding word (R528). -/
def holdReg (w : Nat) : Nat := if w = 0 then Reg.ktLikeness0 else Reg.ktRoothash (w - 1)

theorem holdReg_open (w : Fin 8) : holdReg w / 0x10000 = 0x8F ∧ holdReg w % 4 = 0 ∧ ktSetting (holdReg w) = none ∧
    ktHoldOf (holdReg w) = some (w : Nat) := by
  revert w
  decide

theorem Dev.ktBlockWrite_setting (d : Dev) {ag : Agent} {a i : Nat} {v : Word} (h : ktSetting a = some i) :
    d.ktBlockWrite ag a v = d.ktWrite i v := by
  simp only [Dev.ktBlockWrite, h]

theorem Dev.ktBlockWrite_holding (d : Dev) {ag : Agent} {a w : Nat} {v : Word} (hn : ktSetting a = none)
    (h : ktHoldOf a = some w) : d.ktBlockWrite ag a v = d.ktHolding w v := by
  simp only [Dev.ktBlockWrite, hn, h]

theorem Dev.ktBlockWrite_repCtrl (d : Dev) {ag : Agent} {v : Word} :
    d.ktBlockWrite ag Reg.repCtrl v = d.repCtrl ag v := by
  have hn : ktSetting Reg.repCtrl = none := by decide
  have hw : ktHoldOf Reg.repCtrl = none := by decide
  simp only [Dev.ktBlockWrite, hn, hw, if_true]

/-! ### Tile swaps (R522) -/

/-- A tile swap under way. -/
def Dev.startSwap (d : Dev) (n : Nat) : Dev := { d with kt := { d.kt with swap := some n } }

theorem repCtrl_word (n : Fin 16) : let v := BitVec.ofNat 32 (0x96160001 + 16 * n)
    bitsOf v.toNat 16 16 = 0x9616 ∧ bitsOf v.toNat 0 4 = 1 ∧ bitsOf v.toNat 4 4 = n := by
  revert n
  decide

theorem Dev.repCtrl_swap (d : Dev) {n : Fin 16} (h : d.swapAllowed n = true) :
    d.repCtrl .host (BitVec.ofNat 32 (0x96160001 + 16 * n)) = d.startSwap n := by
  obtain ⟨hkey, hcmd, htile⟩ := repCtrl_word n
  unfold Dev.repCtrl
  simp only [hkey, hcmd, htile, h]
  rfl

theorem Dev.phys_setPhys (d : Dev) (n p : Nat) : (d.setPhys n p).phys n = p % 8 := by
  have hlt : setBits (d.rd (Reg.sysTilemap (n / 8))).toNat (4 * (n % 8)) 3 p < 2 ^ 32 :=
    setBits_lt _ _ _ _ _ (by omega) (BitVec.isLt _)
  rw [Dev.phys, Dev.setPhys, Dev.rd_wr_same, BitVec.toNat_ofNat, Nat.mod_eq_of_lt hlt, bitsOf_setBits_same]
  rfl

theorem Dev.swap_softRepair (d : Dev) (loc kind spare : Nat) (boot : Bool) :
    (d.softRepair loc kind spare boot).kt.swap = d.kt.swap := by
  have hnote (r : Repair) : (d.noteRepair r).kt.swap = d.kt.swap := by
    simp [Dev.noteRepair]
  obtain ⟨r, e | e⟩ := d.softRepair_cases loc kind spare boot
  · rw [e]
    simpa using hnote r
  · rw [e]
    exact hnote r

/-- The device with a swap's remap in force, its repair recorded and its event set. -/
theorem Dev.swapDone_of_swap (d : Dev) {n : Nat} (h : d.kt.swap = some n) (hn : n < 16) :
    d.swapDone.phys n = 4 ∧ d.swapDone.kt.swap = none ∧ d.swapDone.get Fld.repEventsSwapDone = 1 := by
  have hdone : d.swapDone = (((({ d with kt := { d.kt with swap := none } } : Dev).setPhys n 4).softRepair
      (locWord 0 (n / 4) (d.phys n) 0 0 0) 3 4 false).dropBit Fld.repTilefailFailing n).happen Fld.repEventsSwapDone := by
    simp only [Dev.swapDone, h]
  rw [hdone]
  generalize hu : ({ d with kt := { d.kt with swap := none } } : Dev) = u
  have hswap : u.kt.swap = none := by rw [← hu]
  have hframe : (u.setPhys n 4).Changes [.intc, .kt] (Fld.repEventsSwapDone :: Fld.repTilefailFailing :: softRepairFields)
      ((((u.setPhys n 4).softRepair (locWord 0 (n / 4) (d.phys n) 0 0 0) 3 4 false).dropBit Fld.repTilefailFailing n).happen
        Fld.repEventsSwapDone) :=
    (((Dev.Changes.refl ..).softRepair (by simp) (by simp) (List.Subset.trans (List.subset_cons_self ..)
      (List.subset_cons_self ..))).putBit (b := false) (by simp)).happen (by simp) (by simp) (by decide)
  have haddr : ∀ f ∈ Fld.repEventsSwapDone :: Fld.repTilefailFailing :: softRepairFields, f.addr ≠ Reg.sysTilemap (n / 8) := by
    have hlow : ∀ f ∈ Fld.repEventsSwapDone :: Fld.repTilefailFailing :: softRepairFields, 0x8F8000 ≤ f.addr := by decide
    intro f hf hfa
    have := hlow f hf
    rw [hfa] at this
    unfold Reg.sysTilemap at this
    omega
  refine ⟨?_, ?_, Dev.happen_sets _ _ (by decide) (by decide)⟩
  · rw [Dev.phys, hframe.rd_eq haddr]
    exact (u.phys_setPhys n 4)
  · simp only [Dev.happen_keeps, Dev.dropBit_keeps, Dev.swap_softRepair]
    exact hswap

/-! ### Burns (R524) -/

theorem repEntry_apart {k : Nat} {f : Fld} (h : f.addr < 0x8F9000) (v w : Nat) (d : Dev) :
    ((d.put (Fld.repEntryLocLoc k) v).put (Fld.repEntryInfoInfo k) w).get f = d.get f := by
  have hloc : f.addr ≠ (Fld.repEntryLocLoc k).addr := Nat.ne_of_lt (Nat.lt_of_lt_of_le h (Nat.le_add_right ..))
  have hinfo : f.addr ≠ (Fld.repEntryInfoInfo k).addr :=
    Nat.ne_of_lt (Nat.lt_of_lt_of_le (Nat.lt_of_lt_of_le h (by decide)) (Nat.le_add_right ..))
  rw [Dev.get_put_ne _ _ _ _ hinfo, Dev.get_put_ne _ _ _ _ hloc]

/-- A burn under way uses the first entry that no burn has used. -/
theorem Dev.burnStart_of_repair (d : Dev) {r : Repair} (hb : d.kt.burn = none) (hw : d.supplyWarn = false)
    (hl : d.life ≠ Life.retired) (hr : d.kt.queue.find? d.burnable = some r) (hu : d.get Fld.repStatusUsed < 512) :
    d.burnStart.kt.burn = some (r, d.get Fld.repStatusUsed) ∧
      d.burnStart.get Fld.repStatusUsed = d.get Fld.repStatusUsed + 1 ∧ d.burnStart.get Fld.repStatusBurning = 1 := by
  have hgo : ¬ (d.kt.burn.isSome || d.supplyWarn || d.life == Life.retired) = true := by simp [hb, hw, hl]
  unfold Dev.burnStart
  rw [if_neg hgo]
  simp only [hr]
  rw [if_neg (Nat.not_le.mpr hu)]
  generalize d.get Fld.repStatusUsed = k at hu ⊢
  generalize hp : ({ d with kt := { d.kt with queue := d.kt.queue.erase r, burn := some (r, k) } } : Dev) = p
  have hburn : p.kt.burn = some (r, k) := by rw [← hp]
  generalize hq : (p.put (Fld.repEntryLocLoc k) r.loc).put (Fld.repEntryInfoInfo k)
    (r.info + (p.put (Fld.repEntryLocLoc k) r.loc).get Fld.ktBootcntCount) = q
  have hqburn : q.kt.burn = some (r, k) := by
    rw [← hq]
    simpa using hburn
  have hused : ((q.put Fld.repStatusUsed (k + 1)).put Fld.repStatusBurning 1).get Fld.repStatusUsed = k + 1 := by
    rw [Dev.get_put_apart _ _ (by decide), Dev.get_put_same _ _ _ ⟨by decide, by decide⟩]
    exact Nat.mod_eq_of_lt (Nat.lt_of_lt_of_le (Nat.succ_lt_succ hu) (by decide))
  have hburning : ((q.put Fld.repStatusUsed (k + 1)).put Fld.repStatusBurning 1).get Fld.repStatusBurning = 1 := by
    rw [Dev.get_put_same _ _ _ ⟨by decide, by decide⟩]
    rfl
  split
  · refine ⟨by simpa using hqburn, ?_, ?_⟩
    · rw [Dev.get_put_apart _ _ (by decide), hused]
    · rw [Dev.get_put_apart _ _ (by decide), hburning]
  · exact ⟨by simpa using hqburn, hused, hburning⟩

theorem Dev.burnDone_of_burn (d : Dev) {r : Repair} {k : Nat} (h : d.kt.burn = some (r, k)) :
    d.burnDone.kt.burn = none ∧ SMap.get false d.burnDone.kt.sealed k = true ∧ d.burnDone.get Fld.repStatusBurning = 0 ∧
      d.burnDone.get Fld.repEventsBurned = 1 := by
  have hdone : d.burnDone = (({ d with kt := { d.kt with burn := none, sealed := SMap.set false d.kt.sealed k true } } :
      Dev).put Fld.repStatusBurning 0).happen Fld.repEventsBurned := by
    simp only [Dev.burnDone, h]
  rw [hdone]
  refine ⟨by simp, ?_, ?_, Dev.happen_sets _ _ (by decide) (by decide)⟩
  · simp only [Dev.happen_keeps, Dev.put_keeps]
    exact SMap.get_set_same ..
  · rw [Dev.get_happen_ne _ _ _ (by decide), Dev.get_put_same _ _ _ ⟨by decide, by decide⟩]
    rfl

/-! ### Turns (R525 to R528) -/

/-- A turn under way: its slot is used, and the busy bit stands. -/
def Dev.startTurn (d : Dev) (i x : Nat) : Dev :=
  let u := d.setSlot i (d.ktSpent i) ⟨true, false, d.get Fld.ktBootcntCount, x⟩
  (({ u with kt := { u.kt with turn := some (i, d.ktSpent i, x) } } : Dev).put Fld.ktStatusBusy 1).ktResult i 0

theorem Dev.ktWrite_starts (d : Dev) {i : Nat} {v : Word} (h25 : i ≠ 25) (hrun : d.running = true)
    (hper : d.ktPermitted i = true) (hbusy : d.is Fld.ktStatusBusy = false) (hw : d.supplyWarn = false)
    (hne : d.ktValue i v ≠ d.kt! i) (hok : d.ktInvalid i (d.ktValue i v) = false) (hs : d.ktSpent i < ktBudget i) :
    d.ktWrite i v = d.startTurn i (d.ktValue i v) := by
  unfold Dev.ktWrite
  dsimp only
  rw [if_neg h25, if_neg (by simp [hrun, hper]), if_neg (by simp [hbusy, hw]), if_neg hne, if_neg (by simp [hok]),
    if_neg (Nat.not_le.mpr hs)]
  rfl

theorem Dev.slot_setSlot_same (d : Dev) (i t : Nat) (x : Slot) : (d.setSlot i t x).slot i t = x := SMap.get_set_same ..

theorem Dev.slot_of_kt {d u : Dev} (h : d.kt.slots = u.kt.slots) (i t : Nat) : d.slot i t = u.slot i t := by
  rw [Dev.slot, Dev.slot, h]

@[simp] theorem Dev.ktResult_kt (d : Dev) (i c : Nat) : (d.ktResult i c).kt = d.kt := by simp [Dev.ktResult]

theorem Dev.get_ktResult (d : Dev) (i c : Nat) {f : Fld} (hs : Fld.ktStatusSetting.apart f = true)
    (hr : Fld.ktStatusResult.apart f = true) : (d.ktResult i c).get f = d.get f := by
  rw [Dev.ktResult, Dev.get_put_apart _ _ hr, Dev.get_put_apart _ _ hs]

theorem Dev.changes_startTurn (d : Dev) (i x : Nat) : d.Changes [.kt] [Fld.whole Reg.ktStatus] (d.startTurn i x) := by
  have hkt (y : Kt) : d.Changes [.kt] [Fld.ktStatusBusy, Fld.ktStatusSetting, Fld.ktStatusResult] { d with kt := y } :=
    Dev.changes_kt (by simp)
  exact (((hkt _).put (by simp)).put (by simp)).put (by simp) |>.widen (by decide)

theorem Dev.startTurn_state (d : Dev) (i x : Nat) : (d.startTurn i x).kt.turn = some (i, d.ktSpent i, x) ∧
    (d.startTurn i x).get Fld.ktStatusBusy = 1 ∧
      (d.startTurn i x).slot i (d.ktSpent i) = ⟨true, false, d.get Fld.ktBootcntCount, x⟩ := by
  refine ⟨by simp [Dev.startTurn], ?_, ?_⟩
  · rw [Dev.startTurn, Dev.get_ktResult _ _ _ (by decide) (by decide), Dev.get_put_same _ _ _ ⟨by decide, by decide⟩]
    rfl
  · exact (Dev.slot_of_kt (by simp [Dev.startTurn]) ..).trans (d.slot_setSlot_same i (d.ktSpent i) _)

theorem Dev.holding_ktHolding (d : Dev) (w : Nat) (v : Word) : (d.ktHolding w v).holding w = v.toNat :=
  SMap.get_ins_same _ _ _ _ (SMap.not_mem_del d.kt.hold w)

theorem Dev.changes_codeSealed {d t d0 : Dev} {i : Nat} {ps : List Part} {fs : List Fld} (h : d.Changes ps fs t) (hp : .outs ∈ ps)
    (hf : seqFields (i - 9) ⊆ fs) : d.Changes ps fs (t.codeSealed d0 i) := by
  have hgo {o st : Nat} {bs : List Blk} {fin : SeqEnd} (ho : o = i - 9) : d.Changes ps fs (t.startSeq o bs st fin) :=
    ho ▸ h.startSeq (.inl hp) hf
  have hcode : d.Changes ps fs (t.codeChange (i - 9)) := .of_ite h (.of_ite (hgo rfl) (.of_ite (hgo rfl) h))
  exact .of_ite (.of_ite hcode h) h

/-- The new power-up code of an output that holds it touches no register of the keyturn store or of repair. -/
theorem Dev.codeSealed_keeps (d d0 : Dev) (i : Nat) : (d.codeSealed d0 i).kt = d.kt ∧
    ∀ f : Fld, 0x8F0000 ≤ f.addr → f.addr < 0x900000 → (d.codeSealed d0 i).get f = d.get f := by
  by_cases hi : 9 ≤ i ∧ i ≤ 18
  case neg => simp [Dev.codeSealed, hi]
  have hframe : d.Changes [.outs] (seqFields (i - 9)) (d.codeSealed d0 i) :=
    Dev.changes_codeSealed (.refl ..) (by simp) (List.Subset.refl _)
  refine ⟨hframe.parts.kt.resolve_left (by simp), fun f hlo hhi => hframe.get_eq fun g hg hga => ?_⟩
  have hseq : ∀ o : Fin 10, ∀ g ∈ seqFields o, g.addr < 0x8F0000 ∨ 0x900000 ≤ g.addr := by decide
  have := hseq ⟨i - 9, by omega⟩ g hg
  omega

theorem State.ktSeal_of_turn (s : State) {k n x : Nat} (h : s.dev.kt.turn = some (k, n, x)) (hk : k ≠ 3) :
    s.ktSeal = s.on (fun d => (d.sealSlot k n).codeSealed d k) := by
  simp [State.ktSeal, h, hk]

theorem Dev.sealSlot_state (d : Dev) (k n : Nat) :
    (d.sealSlot k n).slot k n = { d.slot k n with sealed := true } ∧ (d.sealSlot k n).kt.turn = none ∧
      (d.sealSlot k n).get Fld.ktStatusBusy = 0 ∧ (d.sealSlot k n).get Fld.ktStatusResult = 1 ∧
        (d.sealSlot k n).get Fld.repEventsTurnDone = 1 := by
  unfold Dev.sealSlot
  refine ⟨?_, by simp, ?_, ?_, Dev.happen_sets _ _ (by decide) (by decide)⟩
  · exact (Dev.slot_of_kt (by simp) ..).trans (d.slot_setSlot_same k n _)
  · rw [Dev.get_happen_ne _ _ _ (by decide), Dev.get_ktResult _ _ _ (by decide) (by decide),
      Dev.get_put_same _ _ _ ⟨by decide, by decide⟩]
    rfl
  · rw [Dev.get_happen_ne _ _ _ (by decide), Dev.ktResult, Dev.get_put_same _ _ _ ⟨by decide, by decide⟩]
    rfl

/-! ### Tamper (R534) -/

theorem Dev.changes_cutTurn {d t : Dev} {ps : List Part} {fs : List Fld} (h : d.Changes ps fs t) (hp : .kt ∈ ps)
    (hb : Fld.ktStatusBusy ∈ fs) (hs : Fld.ktStatusSetting ∈ fs) (hr : Fld.ktStatusResult ∈ fs) :
    d.Changes ps fs t.cutTurn := by
  unfold Dev.cutTurn
  split
  · exact h
  · exact ((((h.trans (Dev.changes_kt hp)).put hb).put hs).put hr)

theorem Dev.changes_cutBurn {d t : Dev} {ps : List Part} {fs : List Fld} (h : d.Changes ps fs t) (hp : .kt ∈ ps)
    (hb : Fld.repStatusBurning ∈ fs) : d.Changes ps fs t.cutBurn := by
  unfold Dev.cutBurn
  split
  · exact h
  · exact (h.trans (Dev.changes_kt hp)).put hb

theorem Dev.turn_cutTurn (d : Dev) : d.cutTurn.kt.turn = none := by
  unfold Dev.cutTurn
  split
  case h_1 h => exact h
  case h_2 => simp

theorem Dev.turn_cutBurn (d : Dev) : d.cutBurn.kt.turn = d.kt.turn := by
  unfold Dev.cutBurn
  split <;> simp

theorem State.get_wipe (s : State) {f : Fld} (h : f.addr ≠ Reg.lbxStatus) : s.wipe.dev.get f = s.dev.get f := by
  unfold State.wipe
  split
  · rfl
  · exact Dev.get_put_ne _ _ _ _ h

/-- What tamper counts and marks, on a device whose wipe has begun. -/
theorem Dev.tamper_counts (d : Dev) {cause : Nat} (hc : cause < 4) :
    let t := ((d.happen Fld.ktEventsTamper).inc Fld.ktTamperCount).put Fld.ktTamperCause cause
    t.get Fld.ktEventsTamper = 1 ∧ t.get Fld.ktTamperCause = cause ∧
      t.get Fld.ktTamperCount = min (d.get Fld.ktTamperCount + 1) (2 ^ Fld.ktTamperCount.width - 1) ∧
        t.kt.turn = d.kt.turn := by
  have hlt : min (d.get Fld.ktTamperCount + 1) (2 ^ Fld.ktTamperCount.width - 1) < 2 ^ Fld.ktTamperCount.width :=
    Nat.lt_of_le_of_lt (Nat.min_le_right ..) (by decide)
  refine ⟨?_, ?_, ?_, by simp⟩
  · rw [Dev.get_put_ne _ _ _ _ (by decide), Dev.inc, Dev.addSat, Dev.get_put_ne _ _ _ _ (by decide)]
    exact Dev.happen_sets _ _ (by decide) (by decide)
  · rw [Dev.get_put_same _ _ _ ⟨by decide, by decide⟩]
    exact Nat.mod_eq_of_lt hc
  · rw [Dev.get_put_apart _ _ (by decide), Dev.inc, Dev.addSat, Dev.get_put_same _ _ _ ⟨by decide, by decide⟩,
      Dev.get_happen_ne _ _ _ (by decide), Nat.mod_eq_of_lt hlt]

/-- Settles O23: each command is one operation of repair or of the keyturn store, and the host's writes are their registers' own. -/
theorem repairCommandsComplete : Obligations.RepairCommandsComplete := by
  refine ⟨fun s n ⟨h, hn⟩ => ?_,
    fun s n ⟨h, hn⟩ => ⟨_, rfl, s.dev.swapDone_of_swap h hn⟩,
    fun s r ⟨hb, hw, hl, hr, hu⟩ => ⟨_, rfl, s.dev.burnStart_of_repair hb hw hl hr hu⟩,
    fun s r k h => ⟨_, rfl, s.dev.burnDone_of_burn h⟩,
    fun s k v ⟨h, h25, hrun, hper, hbusy, hw, hne, hok, hs⟩ => ?_,
    fun s w v h => ?_,
    fun s k n x ⟨h, hk⟩ => ⟨_, congrArg Host.Outcome.next (s.ktSeal_of_turn h hk), ?_⟩,
    fun s cause => ⟨_, rfl, ?_⟩,
    fun s cat v h => ⟨_, rfl, ?_⟩⟩
  · have hwrite := s.dev.ktBlockWrite_repCtrl.trans (s.dev.repCtrl_swap hn)
    exact ⟨_, congrArg Host.Outcome.next (s.hostReg_kt (ps := [.kt]) (fs := []) (f := fun d => d.startSwap n) h (by decide)
      (by decide) hwrite (Dev.changes_kt (by simp)) (by simp) (by simp)), rfl⟩
  · obtain ⟨hblock, h4, hset⟩ := ktReg_open k
    have hwrite := (s.dev.ktBlockWrite_setting (ag := .host) (v := v) hset).trans
      (s.dev.ktWrite_starts h25 hrun hper hbusy hw hne hok hs)
    exact ⟨_, congrArg Host.Outcome.next (s.hostReg_kt (f := fun d => d.startTurn k (d.ktValue k v)) h hblock h4 hwrite
      (s.dev.changes_startTurn ..) (by simp) (by simp)), s.dev.startTurn_state k _⟩
  · obtain ⟨hblock, h4, hset, hhold⟩ := holdReg_open w
    exact ⟨_, congrArg Host.Outcome.next (s.hostReg_kt (ps := [.kt]) (fs := []) (f := fun d => d.ktHolding w v) h hblock h4
      (s.dev.ktBlockWrite_holding hset hhold) (Dev.changes_kt (by simp)) (by simp) (by simp)), s.dev.holding_ktHolding w v⟩
  · obtain ⟨hslot, hturn, hbusy, hres, hev⟩ := s.dev.sealSlot_state k n
    obtain ⟨hkt, hget⟩ := (s.dev.sealSlot k n).codeSealed_keeps s.dev k
    rw [State.on_dev]
    refine ⟨(Dev.slot_of_kt (congrArg _ hkt) ..).trans hslot, (congrArg _ hkt).trans hturn, ?_, ?_, ?_⟩
    · rw [hget _ (by decide) (by decide), hbusy]
    · rw [hget _ (by decide) (by decide), hres]
    · rw [hget _ (by decide) (by decide), hev]
  · have hcount : ((s.on Dev.fastOn).wipe.dev.cutTurn.cutBurn).get Fld.ktTamperCount = s.dev.get Fld.ktTamperCount := by
      have hcut : (s.on Dev.fastOn).wipe.dev.Changes [.kt] [Fld.ktStatusBusy, Fld.ktStatusSetting, Fld.ktStatusResult,
          Fld.repStatusBurning] ((s.on Dev.fastOn).wipe.dev.cutTurn.cutBurn) :=
        Dev.changes_cutBurn (Dev.changes_cutTurn (.refl ..) (by simp) (by simp) (by simp) (by simp)) (by simp) (by simp)
      rw [hcut.get_eq (by decide), State.get_wipe _ (by decide)]
      rfl
    have hturn : ((s.on Dev.fastOn).wipe.dev.cutTurn.cutBurn).kt.turn = none := by
      rw [Dev.turn_cutBurn, Dev.turn_cutTurn]
    obtain ⟨hev, hcause, hcnt, hk⟩ :=
      Dev.tamper_counts ((s.on Dev.fastOn).wipe.dev.cutTurn.cutBurn) (cause := cause + 1) (by omega)
    exact ⟨hev, hcause, hcnt.trans (by rw [hcount]), hk.trans hturn⟩
  · rw [s.hostReg_violCnt cat.isLt h, State.on_dev]
    exact (Dev.get_wr_of_addr _ _ (f := Fld.violCntCount cat) rfl).trans (by simp [Fld.of, bitsOf])

end Sys2Proof.Machine

/-! What the link's commands leave unchanged (chapter 16): a link boot that fails takes domain LINK off, and the frame of BOOT_DATA
does not name PWR_STATE. -/
namespace Sys2Proof.Machine
set_option Elab.async false

/-- The 84 bytes before the CRC of a BOOT_DATA broadcast (R476): 44 zero bytes at offset 88. -/
def badChunkBody : List Byte := [0, 0, 0, 0, 5, 1, 48, 2] ++ List.replicate 8 0 ++ [88] ++ List.replicate 67 0

/-- The message. -/
def badChunk : List Byte := badChunkBody ++ leBytes 4 (crc32 badChunkBody)

/-- A link boot before the first keyplan: 88 zero bytes have come over UP, which is framed (R481). -/
def linkBoot : State := State.reset.on (fun d =>
  (d.modBoot (fun b => { b with load := some .boot, image := List.replicate 88 0 })).each
    [(Fld.bootStatusSource, 4), (Fld.bootStatusState, BootSt.loading), (Fld.linkPortCfgUsed 0, 1),
      (Fld.linkPortStatusState 0, LPortSt.framed)] (fun d e => d.put e.1 e.2))

/-- The header is complete with this chunk and fails, no source is left, and domain LINK goes off (R50, R481, R544). -/
theorem linkBoot_bootData : linkBoot.dev.on Dom.link = true ∧ (linkBoot.bootData 0 badChunk).dev.on Dom.link = false ∧
    (linkBoot.bootData 0 badChunk).dev.bootSt = BootSt.hostwait := by
  decide +kernel

theorem pwrState_not_in_loadRegs :
    ¬ ((regDom (Reg.pwrState (Dom.link / 16) % 2 ^ 32)).isSome = true ∨ Reg.pwrState (Dom.link / 16) ∈ loadRegs) := by
  decide +kernel

/-- Refutes O40: BOOT_DATA changes PWR_STATE where the link boot fails, and that register is neither in a domain's block nor among
those named. -/
theorem not_linkCommandsFrame : ¬ Obligations.LinkCommandsFrame := by
  rintro ⟨-, -, -, -, -, -, -, -, -, -, -, -, -, hdata, -⟩
  obtain ⟨-, -, -, hregs⟩ := hdata linkBoot _ 0 badChunk rfl
  have hstate := hregs _ pwrState_not_in_loadRegs
  obtain ⟨hon, hoff, -⟩ := linkBoot_bootData
  have hdom : (linkBoot.bootData 0 badChunk).dev.on Dom.link = linkBoot.dev.on Dom.link := by
    rw [Dev.on, Dev.on, Dev.dom, Dev.dom]
    exact congrArg (fun w : Word => bitsOf w.toNat (2 * (Dom.link % 16)) 2 == 2) hstate
  exact absurd (hoff.symm.trans (hdom.trans hon)) (by decide)

end Sys2Proof.Machine

/-! What a restart of the PLL changes beside the clock (R80, R89), and what the link's operations on a port, a message and the root
state do (chapter 16). -/
namespace Sys2Proof.Machine
set_option Elab.async false

/-! ### Fallback (R89) -/

/-- The fields that the entry to fallback writes. -/
def fallbackFields : List Fld :=
  Fld.keyStatusRunning :: ((List.range 10).flatMap (fun o => Fld.outStatusClrCause o :: clearFields o) ++
    (List.range 14).flatMap (fun k => runFields (k / 2) (k % 2 == 1)) ++ (List.range 3).map Fld.linkPortStatusState)

/-- With those that a restart of the PLL writes. -/
def restartFields : List Fld := Fld.whole Reg.clkStatus :: fallbackFields

/-- The parts that a restart of the PLL changes. -/
def restartParts : List Part := [.clk, .hinge, .intc, .link, .outs, .ser]

namespace Dev.Changes

variable {ps : List Part} {fs : List Fld} {d t : Dev}

theorem dirFallback {n : Nat} {tx : Bool} (h : d.Changes ps fs t) (hn : n < 7) (hs : .ser ∈ ps) (hi : .intc ∈ ps)
    (hf : runFields n tx ⊆ fs) : d.Changes ps fs (t.dirFallback n tx) := by
  have hfill : fillF n tx ∈ fs := hf (by simp [runFields, dirFields])
  unfold Dev.dirFallback
  extract_lets st x d1 d2
  have h1 : d.Changes ps fs d1 := by
    cases tx with
    | true => exact h
    | false => exact breakBlock h hs hfill
  have h2 : d.Changes ps fs d2 := of_ite (setLock h1 (hf (by simp [runFields, dirFields]))) h1
  exact of_ite h (of_ite (dirStopped h hn hs hi hf) (of_ite h
    (setDirSt (modDir h2 hs hfill) (hf (by simp [runFields, dirFields])))))

theorem portsFallback (h : d.Changes ps fs t) (hs : .ser ∈ ps) (hi : .intc ∈ ps)
    (hf : (List.range 14).flatMap (fun k => runFields (k / 2) (k % 2 == 1)) ⊆ fs) : d.Changes ps fs t.portsFallback :=
  each_mem (each_mem h fun _ k hk hu => hu.dirFallback (by have := List.mem_range.mp hk; omega) hs hi
    fun _ hm => hf (List.mem_flatMap.mpr ⟨k, hk, hm⟩)) fun _ _ _ hu => hu.setAsrc hs

theorem outFallback (h : d.Changes ps fs t) (ho : .outs ∈ ps)
    (hf : (List.range 10).flatMap (fun o => Fld.outStatusClrCause o :: clearFields o) ⊆ fs) : d.Changes ps fs t.outFallback :=
  each_mem h fun _ o hm hu => (hu.setCause (hf (List.mem_flatMap.mpr ⟨o, hm, by simp⟩))).enterClear (.inl ho)
    fun _ hc => hf (List.mem_flatMap.mpr ⟨o, hm, List.mem_cons_of_mem _ hc⟩)

theorem modLink {x : Link} (h : d.Changes ps fs t) (hl : .link ∈ ps) : d.Changes ps fs { t with link := x } :=
  h.trans ⟨{ Dev.PartsBut.refl ps t with link := .inl hl }, fun _ _ _ => rfl⟩

theorem modHinge {f : Hinge → Hinge} (h : d.Changes ps fs t) (hh : .hinge ∈ ps) : d.Changes ps fs (t.modHinge f) :=
  h.trans ⟨{ Dev.PartsBut.refl ps t with hinge := .inl hh }, fun _ _ _ => rfl⟩

theorem linkUnframe (h : d.Changes ps fs t) (hl : .link ∈ ps) (hf : (List.range 3).map Fld.linkPortStatusState ⊆ fs) :
    d.Changes ps fs t.linkUnframe :=
  each_mem h fun _ _ hp hu => of_ite ((hu.modLink hl).put (hf (List.mem_map_of_mem hp))) hu

theorem enterFallback (h : d.Changes restartParts restartFields t) : d.Changes restartParts restartFields t.enterFallback := by
  have hfall : fallbackFields ⊆ restartFields := List.subset_cons_self ..
  obtain ⟨hrest, hlink⟩ := List.append_subset.mp (List.Subset.trans (List.subset_cons_self ..) hfall)
  obtain ⟨hout, hport⟩ := List.append_subset.mp hrest
  have hrun : d.Changes restartParts restartFields ((t.modClk (fun c => { c with fallback := true })).put Fld.keyStatusRunning 0) :=
    (h.modClk (by simp [restartParts])).put (hfall (by simp [fallbackFields]))
  have hunframe := ((hrun.outFallback (by simp [restartParts]) hout).portsFallback (by simp [restartParts])
    (by simp [restartParts]) hport).linkUnframe (by simp [restartParts]) hlink
  exact of_ite h (of_ite (hunframe.modHinge (by simp [restartParts])) hunframe)

end Dev.Changes

/-- The fields of CLK_STATUS that a restart writes (R80). -/
def acqFields : List Fld :=
  [Fld.clkStatusLocked, Fld.clkStatusHoldover, Fld.clkStatusOnAlt, Fld.clkStatusAcquiring, Fld.clkStatusRefUsed,
    Fld.clkStatusLastCause]

theorem Dev.changes_acqStatus (d : Dev) (cause : Nat) : d.Changes [] acqFields (d.acqStatus cause) := by
  have hunlock {ps : List Part} : d.Changes ps acqFields
      (((d.put Fld.clkStatusLocked 0).put Fld.clkStatusHoldover 0).put Fld.clkStatusOnAlt 0) :=
    (((Dev.Changes.refl ..).put (by simp [acqFields])).put (by simp [acqFields])).put (by simp [acqFields])
  unfold Dev.acqStatus
  extract_lets run t u
  have hu : d.Changes [] acqFields u := (hunlock.flag (by simp [acqFields])).put (by simp [acqFields])
  exact .of_ite (hu.put (by simp [acqFields])) hu

/-- A restart changes CLK_STATUS, and what fallback changes (R80, R89). -/
theorem Dev.changes_acquire (d : Dev) (cause : Nat) : d.Changes restartParts restartFields (d.acquire cause) := by
  have hin : ∀ f ∈ acqFields, ∃ g ∈ restartFields, f.within g = true := fun f hf =>
    ⟨Fld.whole Reg.clkStatus, by simp [restartFields], by revert f; decide⟩
  have hst : d.Changes restartParts restartFields (d.acqStatus cause) :=
    ((d.changes_acqStatus cause).mono (by simp) fun _ => id).widen hin
  rw [d.acquire_eq]
  exact (hst.modClk (by simp [restartParts])).enterFallback

end Sys2Proof.Machine

/-! The link's commands (chapter 16): what a header, a message, ranging and the host's writes of block LINK do. -/
namespace Sys2Proof.Machine
set_option Elab.async false

/-! ### A port's record (R461, R467) -/

theorem Dev.lport_setLport_same (d : Dev) (p : Nat) (x : LPort) : (d.setLport p x).lport p = x := SMap.get_set_same ..

/-- From `d` to `t` the frame number and the count of good headers of port `p` stay as they are, and so does field `g`. -/
structure Dev.KeepsPort (p : Nat) (g : Fld) (d t : Dev) : Prop where
  get : t.get g = d.get g
  frame : (t.lport p).frame = (d.lport p).frame
  good : (t.lport p).good = (d.lport p).good

namespace Dev.KeepsPort

variable {p : Nat} {g : Fld} {d t : Dev}

theorem refl (p : Nat) (g : Fld) (d : Dev) : d.KeepsPort p g d := ⟨rfl, rfl, rfl⟩

/-- What leaves the ports alone keeps the record. -/
theorem of_ports {u : Dev} (h : d.KeepsPort p g t) (hg : u.get g = t.get g) (hp : u.link.ports = t.link.ports) :
    d.KeepsPort p g u := by
  have hport : u.lport p = t.lport p := congrArg (SMap.get LPort.init · p) hp
  exact ⟨hg.trans h.get, by rw [hport, h.frame], by rw [hport, h.good]⟩

theorem put {f : Fld} {v : Nat} (h : d.KeepsPort p g t) (hf : f.apart g = true) : d.KeepsPort p g (t.put f v) :=
  h.of_ports (Dev.get_put_apart _ _ hf) (by simp)

theorem happen {f : Fld} (h : d.KeepsPort p g t) (hw : f.lo ≤ f.hi) (hf : f.apart g = true) : d.KeepsPort p g (t.happen f) :=
  h.of_ports (Dev.get_happen_apart _ hw hf) (by simp)

theorem of_ite {c : Prop} [Decidable c] {a b : Dev} (ha : d.KeepsPort p g a) (hb : d.KeepsPort p g b) :
    d.KeepsPort p g (if c then a else b) := by
  split
  · exact ha
  · exact hb

theorem each {α : Type} {l : List α} {f : Dev → α → Dev} (h : d.KeepsPort p g t)
    (hf : ∀ u a, d.KeepsPort p g u → d.KeepsPort p g (f u a)) : d.KeepsPort p g (t.each l f) := by
  unfold Dev.each
  induction l generalizing t with
  | nil => exact h
  | cons a l ih => exact ih (hf t a h)

theorem mapCheck (h : d.KeepsPort p g t) (hok : (Fld.linkPortStatusMapOk p).apart g = true)
    (hev : Fld.linkEventsMap.apart g = true) : d.KeepsPort p g (t.mapCheck p) :=
  of_ite (happen (put h hok) (by decide) hev) (put h hok)

theorem setRanging {b : Bool} {n : Nat} (h : d.KeepsPort p g t) :
    d.KeepsPort p g { t with link := { t.link with back := b, ranging := n } } := h.of_ports rfl rfl

theorem setArrived {l : List (Nat × Int)} (h : d.KeepsPort p g t) :
    d.KeepsPort p g { t with link := { t.link with arr := l } } := h.of_ports rfl rfl

/-- The slots of a frame keep the record of its port (R462). -/
theorem slotTake {m : Nat} {e : SlotIn} (h : d.KeepsPort p g t) (hg : (Fld.linkPortCountCode p).apart g = true) :
    d.KeepsPort p g (t.slotTake p m e) := by
  unfold Dev.slotTake
  extract_lets x old v t1 t2 dbl s back pass cs
  have h1 : d.KeepsPort p g t1 := of_ite (put h hg) h
  have hport : t2.lport p = { t1.lport p with slots := SMap.set (0, 0) (t1.lport p).slots e.slot (v, e.crossed) } :=
    t1.lport_setLport_same ..
  have h2 : d.KeepsPort p g t2 := ⟨h1.get, by rw [hport]; exact h1.frame, by rw [hport]; exact h1.good⟩
  exact h2.setArrived

end Dev.KeepsPort

/-- The fields that a header on UP writes (R463 to R466, R474). -/
def upFields : List Fld :=
  [Fld.linkStatusHops, Fld.linkPosPath, Fld.linkStatusL, Fld.linkStatusState, Fld.linkEventsMismatch]

theorem Dev.KeepsPort.upHeader {p : Nat} {g : Fld} {d t : Dev} {hdr : List Byte} {downB : Bool} (h : d.KeepsPort p g t)
    (hf : ∀ f ∈ upFields, f.apart g = true) : d.KeepsPort p g (t.upHeader hdr downB) := by
  simp only [upFields, List.forall_mem_cons] at hf
  obtain ⟨hhops, hpath, hl, hst, hev, -⟩ := hf
  unfold Dev.upHeader
  extract_lets rate ph path t1 t2 t3
  have h2 : d.KeepsPort p g t2 := ((h.put hhops).put hpath).put hl
  have h3 : d.KeepsPort p g t3 := .of_ite (h2.put hst) h2
  clear_value t3
  exact .of_ite (.of_ite h2 ((h2.put hst).happen (by decide) hev))
    (.of_ite h3.setRanging (.of_ite h3.setRanging h3))

/-- The fields that a good header writes after the partner's ID, before what UP tells a child. -/
def headerFields (p : Nat) : List Fld :=
  [Fld.linkPortStatusPartnerJoined p, Fld.linkPortOffsetPs p, Fld.linkPortDelayPs p, Fld.linkPortStatusMapOk p, Fld.linkEventsMap,
    Fld.linkPortStatusState p]

theorem headerFields_apart (p : Fin 3) : (∀ f ∈ headerFields p ++ upFields, f.apart (Fld.linkPortStatusPartner p) = true) ∧
    (Fld.linkPortCountCode p).apart (Fld.linkPortStatusPartner p) = true ∧
    (Fld.linkPortCountCode p).apart (Fld.linkPortCountCrc p) = true := by
  revert p
  decide

theorem linkPortStatusPartner_fits (p : Nat) : (Fld.linkPortStatusPartner p).fits :=
  ⟨show 0 ≤ 15 by decide, show 15 < 32 by decide⟩

theorem linkPortCountCrc_fits (p : Nat) : (Fld.linkPortCountCrc p).fits := ⟨show 16 ≤ 31 by decide, show 31 < 32 by decide⟩

/-- A good header shows the partner, and its frame number and one more good header stand at the port (R461, R465). -/
theorem Dev.goodHeader_records (d : Dev) (p : Fin 3) (f : LinkIn) :
    (d.goodHeader p f).get (Fld.linkPortStatusPartner p) = hdrNat f.hdr 8 2 % 2 ^ (Fld.linkPortStatusPartner p).width ∧
      ((d.goodHeader p f).lport p).frame = hdrNat f.hdr 4 4 ∧ ((d.goodHeader p f).lport p).good = (d.lport p).good + 1 := by
  obtain ⟨hap, -⟩ := headerFields_apart p
  obtain ⟨hhead, hup⟩ := List.forall_mem_append.mp hap
  simp only [headerFields, List.forall_mem_cons] at hhead
  obtain ⟨hjoined, hoff, hdelay, hok, hev, hst, -⟩ := hhead
  unfold Dev.goodHeader
  extract_lets hdr flags x good d1 d2 d3 d4 d5 near d6 d7
  have hpartner : d2.get (Fld.linkPortStatusPartner p) = hdrNat f.hdr 8 2 % 2 ^ (Fld.linkPortStatusPartner p).width :=
    (Dev.get_put_apart _ _ hjoined).trans (Dev.get_put_same _ _ _ (linkPortStatusPartner_fits p))
  have hport : d2.lport p = d1.lport p := by
    rw [Dev.lport, Dev.lport]
    simp [d2]
  have hframe : (d1.lport p).frame = hdrNat f.hdr 4 4 :=
    (congrArg LPort.frame (d.lport_setLport_same ..))
  have hgood : (d1.lport p).good = (d.lport p).good + 1 :=
    (congrArg LPort.good (d.lport_setLport_same ..))
  clear_value d2
  have h5 : d2.KeepsPort p (Fld.linkPortStatusPartner p) d5 := (((Dev.KeepsPort.refl ..).put hoff).put hdelay).mapCheck hok hev
  have h6 : d2.KeepsPort p (Fld.linkPortStatusPartner p) d6 := .of_ite (h5.put hst) h5
  have h7 : d2.KeepsPort p (Fld.linkPortStatusPartner p) d7 := .of_ite (h6.put hst) h6
  clear_value d7
  have hend : d2.KeepsPort p (Fld.linkPortStatusPartner p)
      (if (p : Nat) = 0 ∧ d7.lportSt 0 = LPortSt.framed ∧ !d7.isRoot then d7.upHeader hdr f.downB else d7) :=
    .of_ite (h7.upHeader hup) h7
  exact ⟨hend.get.trans hpartner, hend.frame.trans (hport ▸ hframe), hend.good.trans (hport ▸ hgood)⟩

theorem Dev.linkFrame_good (d : Dev) (p : Fin 3) (f : LinkIn) (hon : d.on Dom.link = true)
    (hu : d.is (Fld.linkPortCfgUsed p) = true) (hi : d.lportSt p ≠ LPortSt.idle) (hc : f.codeErr = false)
    (hh : hdrOk f.hdr = true) :
    (d.linkFrame p f).get (Fld.linkPortStatusPartner p) = hdrNat f.hdr 8 2 % 2 ^ (Fld.linkPortStatusPartner p).width ∧
      ((d.linkFrame p f).lport p).frame = hdrNat f.hdr 4 4 ∧ ((d.linkFrame p f).lport p).good = (d.lport p).good + 1 := by
  obtain ⟨hpartner, hframe, hgood⟩ := d.goodHeader_records p f
  obtain ⟨-, hcode, -⟩ := headerFields_apart p
  unfold Dev.linkFrame
  rw [if_neg (by simp [hon, hu, hi])]
  simp only [hc, hh, Bool.not_false, Bool.and_self, if_true]
  have hslots : (d.goodHeader p f).KeepsPort p (Fld.linkPortStatusPartner p)
      ((d.goodHeader p f).each f.slots (fun d e => d.slotTake p (hdrNat f.hdr 4 4) e)) :=
    Dev.KeepsPort.each (.refl ..) fun _ _ h => h.slotTake hcode
  have hend := Dev.KeepsPort.of_ite (c := (d.goodHeader p f).lportSt p = LPortSt.framed ∧
    (d.goodHeader p f).linkSt ≠ LinkSt.mismatch) hslots (.refl ..)
  exact ⟨hend.get.trans hpartner, hend.frame.trans hframe, hend.good.trans hgood⟩

theorem Dev.linkFrame_bad (d : Dev) (p : Fin 3) (f : LinkIn) (hon : d.on Dom.link = true)
    (hu : d.is (Fld.linkPortCfgUsed p) = true) (hi : d.lportSt p ≠ LPortSt.idle) (hb : f.codeErr = true ∨ hdrOk f.hdr = false) :
    (d.linkFrame p f).get (Fld.linkPortCountCrc p) =
        min (d.get (Fld.linkPortCountCrc p) + 1) (2 ^ (Fld.linkPortCountCrc p).width - 1) ∧
      ((d.linkFrame p f).lport p).good = 0 := by
  obtain ⟨-, -, hcode⟩ := headerFields_apart p
  have hok : (!f.codeErr && hdrOk f.hdr) = false := by
    obtain h | h := hb <;> simp [h]
  unfold Dev.linkFrame
  rw [if_neg (by simp [hon, hu, hi])]
  simp only [hok, Bool.false_eq_true, if_false]
  generalize ((d.lport p).frame + d.linkStep) % 2 ^ 32 = m
  generalize hu : (d.inc (Fld.linkPortCountCrc p)).modLport p (fun x => { x with good := 0, frame := m }) = u
  have hcount : u.get (Fld.linkPortCountCrc p) =
      min (d.get (Fld.linkPortCountCrc p) + 1) (2 ^ (Fld.linkPortCountCrc p).width - 1) := by
    have hlt : min (d.get (Fld.linkPortCountCrc p) + 1) (2 ^ (Fld.linkPortCountCrc p).width - 1) <
        2 ^ (Fld.linkPortCountCrc p).width :=
      Nat.lt_of_le_of_lt (Nat.min_le_right ..) (Nat.sub_lt (Nat.two_pow_pos _) Nat.one_pos)
    rw [← hu]
    exact (Dev.get_put_same _ _ _ (linkPortCountCrc_fits p)).trans (Nat.mod_eq_of_lt hlt)
  have hgood : (u.lport p).good = 0 := by
    rw [← hu]
    exact congrArg LPort.good (Dev.lport_setLport_same ..)
  have hslots : u.KeepsPort p (Fld.linkPortCountCrc p) (u.each f.slots (fun d e => d.slotTake p m e)) :=
    Dev.KeepsPort.each (.refl ..) fun _ _ h => h.slotTake hcode
  have hend := Dev.KeepsPort.of_ite (c := u.lportSt p = LPortSt.framed ∧ u.linkSt ≠ LinkSt.mismatch) hslots (.refl ..)
  exact ⟨hend.get.trans hcount, hend.good.trans hgood⟩

end Sys2Proof.Machine

/-! The link's messages, ranging, and the host's writes of block LINK (chapter 16). -/
namespace Sys2Proof.Machine
set_option Elab.async false

/-! ### Messages (R477 to R479) -/

section
variable {ps : List Part} {fs : List Fld} {d t : Dev}

theorem Dev.Changes.queueMsg {p : Nat} {m : Msg} (h : d.Changes ps fs t) (hl : .link ∈ ps) (hf : Fld.linkCount0Dropped ∈ fs) :
    d.Changes ps fs (t.queueMsg p m) := .of_ite h (.of_ite (h.inc hf) (h.modLink hl))

theorem Dev.Changes.forward {l : List Nat} {m : Msg} (h : d.Changes ps fs t) (hl : .link ∈ ps) (hf : Fld.linkCount0Dropped ∈ fs) :
    d.Changes ps fs (t.forward l m) :=
  .of_ite h (.of_ite (h.inc hf) (h.each_mem fun _ _ _ hu => hu.queueMsg hl hf))

end

theorem Dev.rxq_queueMsg (d : Dev) (p : Nat) (m : Msg) : (d.queueMsg p m).link.rxq = d.link.rxq := by
  unfold Dev.queueMsg
  split
  · rfl
  split
  · simp [Dev.dropMsg]
  · rfl

theorem Dev.rxq_forward (d : Dev) (l : List Nat) (m : Msg) : (d.forward l m).link.rxq = d.link.rxq := by
  have hloop (m' : Msg) : ∀ (l : List Nat) (u : Dev), (u.each l (fun d p => d.queueMsg p m')).link.rxq = u.link.rxq := by
    intro l
    induction l with
    | nil => exact fun _ => rfl
    | cons p l ih => exact fun u => (ih (u.queueMsg p m')).trans (u.rxq_queueMsg p m')
  unfold Dev.forward
  dsimp only
  split
  · rfl
  split
  · simp [Dev.dropMsg]
  · exact hloop _ _ _

/-- A message that passes its checks leaves the device as it is. -/
theorem Dev.checkMsg_ok (d : Dev) {p : Nat} {m : Msg} (h : (d.checkMsg p m).2 = true) : d.checkMsg p m = (d, true) := by
  revert h
  unfold Dev.checkMsg
  dsimp only
  split_ifs <;> simp

/-- It is forwarded, and consumed where its route says so (R478). -/
theorem Dev.arrive_ok (d : Dev) {ty p : Nat} {m : Msg} (hon : d.msgOn p = true) (hty : msgNat m 4 1 = ty)
    (hc : (d.checkMsg p m).2 = true) (hr : (d.route p m).1 = true) :
    d.arrive ty p m = (d.forward (d.route p m).2 m, true) := by
  unfold Dev.arrive
  rw [if_neg (by simp [hon, hty]), d.checkMsg_ok hc]
  simp [hr]

/-- The registers that show the FIFO's head. -/
def rxFields : List Fld := Fld.linkRxstatCount :: (List.range 20).map Fld.linkRxmsgData

theorem Dev.changes_showRx (d : Dev) : d.Changes [] rxFields d.showRx :=
  (Dev.Changes.each_mem (.refl ..) fun _ _ hw hu => hu.put (List.mem_cons_of_mem _ (List.mem_map_of_mem hw))).put
    (List.mem_cons_self ..)

theorem Dev.link_showRx (d : Dev) : d.showRx.link = d.link := d.changes_showRx.parts.link.resolve_left (by simp)

theorem Dev.deliver_queues (d : Dev) {m : Msg} (h : d.link.rxq.length < 8) :
    (d.deliver m).link.rxq = d.link.rxq ++ [m] ∧ (d.deliver m).get Fld.linkEventsRxMsg = 1 := by
  unfold Dev.deliver
  rw [if_neg (Nat.not_le.mpr h)]
  refine ⟨?_, Dev.happen_sets _ _ (by decide) (by decide)⟩
  simp only [Dev.happen_keeps, Dev.link_showRx]

/-- What forwarding keeps: the FIFO, and every register but the count of messages dropped. -/
theorem Dev.changes_forwarded (d : Dev) (l : List Nat) (m : Msg) : d.Changes [.link] [Fld.linkCount0Dropped] (d.forward l m) :=
  (Dev.Changes.refl ..).forward (by simp) (by simp)

theorem Dev.linkApp_delivers (d : Dev) {p : Nat} {m : Msg} (h : d.arrive MsgType.app p m = (d.forward (d.route p m).2 m, true))
    (hq : d.link.rxq.length < 8) :
    (d.linkApp p m).link.rxq = d.link.rxq ++ [m] ∧ (d.linkApp p m).get Fld.linkEventsRxMsg = 1 := by
  simp only [Dev.linkApp, h, if_true]
  rw [← d.rxq_forward (d.route p m).2 m] at hq ⊢
  exact Dev.deliver_queues _ hq

theorem Dev.linkJoin_delivers (d : Dev) {p : Nat} {m : Msg}
    (h : d.arrive MsgType.join p m = (d.forward (d.route p m).2 m, true)) (hroot : d.isRoot = true)
    (hq : d.link.rxq.length < 8) :
    (d.linkJoin p m).link.rxq = d.link.rxq ++ [m] ∧ (d.linkJoin p m).get Fld.linkEventsRxMsg = 1 := by
  have hr : (d.forward (d.route p m).2 m).isRoot = true :=
    (congrArg (· != 0) ((d.changes_forwarded (d.route p m).2 m).get_eq (g := Fld.linkCfgRoot) (by decide))).trans hroot
  simp only [Dev.linkJoin, h, hr, Bool.and_self, if_true]
  rw [← d.rxq_forward (d.route p m).2 m] at hq ⊢
  exact Dev.deliver_queues _ hq

theorem Dev.linkAssign_names (d : Dev) {p : Nat} {m : Msg}
    (h : d.arrive MsgType.assign p m = (d.forward (d.route p m).2 m, true)) (hhost : d.is Fld.linkCfgIdHost = true)
    (hvalid : d.is Fld.linkNodeidValid = false) :
    (d.linkAssign p m).get Fld.linkNodeidId = msgNat m 16 2 % 2 ^ 16 ∧ (d.linkAssign p m).get Fld.linkNodeidValid = 1 := by
  have hf := d.changes_forwarded (d.route p m).2 m
  have hh : (d.forward (d.route p m).2 m).is Fld.linkCfgIdHost = true :=
    (congrArg (· != 0) (hf.get_eq (g := Fld.linkCfgIdHost) (by decide))).trans hhost
  have hv : (d.forward (d.route p m).2 m).is Fld.linkNodeidValid = false :=
    (congrArg (· != 0) (hf.get_eq (g := Fld.linkNodeidValid) (by decide))).trans hvalid
  simp only [Dev.linkAssign, h, hh, hv, Bool.and_self, Bool.not_false, if_true]
  generalize d.forward (d.route p m).2 m = u
  generalize hw : (u.put Fld.linkNodeidId (msgNat m 16 2)).put Fld.linkNodeidValid 1 = w
  have hq : w.Changes [.link] [Fld.linkCount0Dropped] (w.queueMsg 0 w.joinMsg) := (Dev.Changes.refl ..).queueMsg (by simp) (by simp)
  rw [hq.get_eq (g := Fld.linkNodeidId) (by decide), hq.get_eq (g := Fld.linkNodeidValid) (by decide), ← hw]
  refine ⟨?_, ?_⟩
  · rw [Dev.get_put_apart _ _ (by decide), Dev.get_put_same _ _ _ ⟨by decide, by decide⟩]
    rfl
  · rw [Dev.get_put_same _ _ _ ⟨by decide, by decide⟩]
    rfl

theorem Dev.linkResetMsg_resets (d : Dev) {p : Nat} {m : Msg}
    (h : d.arrive MsgType.reset p m = (d.forward (d.route p m).2 m, true)) (hkey : msgNat m 16 4 = 0x9616) :
    d.linkResetMsg p m = (d.forward (d.route p m).2 m, true) := by
  simp only [Dev.linkResetMsg, h, hkey, if_true]

/-! ### Ranging and root loss (R469 to R471, R482) -/

/-- A node that has joined shows it, and its frame count is UP's. -/
theorem Dev.enterJoined_shows (d : Dev) (n : Nat) :
    let t := ((d.put Fld.keyFramecntCount n).put Fld.linkStatusRootLost 0).enterJoined
    t.linkSt = LinkSt.joined ∧ t.get Fld.linkStatusRootLost = 0 ∧ t.get Fld.linkEventsJoined = 1 ∧
      t.get Fld.keyFramecntCount = n % 2 ^ 32 := by
  unfold Dev.enterJoined
  generalize hw : ((((d.put Fld.keyFramecntCount n).put Fld.linkStatusRootLost 0).setLinkSt LinkSt.joined).happen
    Fld.linkEventsJoined) = w
  have hq : w.Changes [.link] [Fld.linkCount0Dropped] (w.queueMsg 0 w.joinMsg) := (Dev.Changes.refl ..).queueMsg (by simp) (by simp)
  dsimp only
  rw [Dev.linkSt, hq.get_eq (g := Fld.linkStatusState) (by decide), hq.get_eq (g := Fld.linkStatusRootLost) (by decide),
    hq.get_eq (g := Fld.linkEventsJoined) (by decide), hq.get_eq (g := Fld.keyFramecntCount) (by decide), ← hw]
  refine ⟨?_, ?_, Dev.happen_sets _ _ (by decide) (by decide), ?_⟩
  · rw [Dev.get_happen_ne _ _ _ (by decide), Dev.setLinkSt, Dev.get_put_same _ _ _ ⟨by decide, by decide⟩]
    rfl
  · rw [Dev.get_happen_ne _ _ _ (by decide), Dev.setLinkSt, Dev.get_put_apart _ _ (by decide),
      Dev.get_put_same _ _ _ ⟨by decide, by decide⟩]
    rfl
  · rw [Dev.get_happen_ne _ _ _ (by decide), Dev.setLinkSt, Dev.get_put_ne _ _ _ _ (by decide),
      Dev.get_put_ne _ _ _ _ (by decide), Dev.get_put_same _ _ _ ⟨by decide, by decide⟩]
    rfl

/-- Ranging that has counted its 32 frames has ended. -/
def Dev.ranged (d : Dev) : Dev := { d with link := { d.link with ranging := 0, back := false, slew := 0 } }

theorem Dev.rangingDone_joins (d : Dev) (same : Bool) (hroot : d.isRoot = false) (hrel : d.released = false)
    (hup : d.lportSt 0 = LPortSt.framed) (hst : d.linkSt = LinkSt.ranging) (hn : 32 ≤ d.link.ranging) :
    d.rangingDone same = ((d.ranged.put Fld.keyFramecntCount (d.lport 0).frame).put Fld.linkStatusRootLost 0).enterJoined := by
  unfold Dev.rangingDone
  dsimp only
  rw [if_neg (by simp [hroot, hrel, hup]), if_pos ⟨hst, hn⟩]
  rfl

theorem restartFields_apart (g : Fld) (hg : g ∈ [Fld.linkStatusState, Fld.linkStatusRootLost, Fld.linkEventsJoined, Fld.keyFramecntCount]) :
    ∀ f ∈ restartFields, f.addr ≠ g.addr := by
  revert g
  decide +kernel

theorem Dev.linkRangingDone_joins (d : Dev) (same : Bool) (hroot : d.isRoot = false) (hrel : d.released = false)
    (hup : d.lportSt 0 = LPortSt.framed) (hst : d.linkSt = LinkSt.ranging) (hn : 32 ≤ d.link.ranging) :
    (d.linkRangingDone same).linkSt = LinkSt.joined ∧ (d.linkRangingDone same).get Fld.linkStatusRootLost = 0 ∧
      (d.linkRangingDone same).get Fld.linkEventsJoined = 1 ∧
        (d.linkRangingDone same).get Fld.keyFramecntCount = (d.lport 0).frame % 2 ^ 32 := by
  have hjoin := d.ranged.enterJoined_shows (d.lport 0).frame
  rw [← d.rangingDone_joins same hroot hrel hup hst hn] at hjoin
  unfold Dev.linkRangingDone
  dsimp only
  split
  case isFalse => exact hjoin
  case isTrue =>
    obtain ⟨hstate, hlost, hev, hcount⟩ := hjoin
    have hch := Dev.changes_acquire { d.rangingDone same with link := { (d.rangingDone same).link with rejoin := false } } AcqCause.write
    rw [Dev.linkSt, hch.get_eq (restartFields_apart Fld.linkStatusState (by simp)),
      hch.get_eq (restartFields_apart Fld.linkStatusRootLost (by simp)),
      hch.get_eq (restartFields_apart Fld.linkEventsJoined (by simp)),
      hch.get_eq (restartFields_apart Fld.keyFramecntCount (by simp))]
    exact ⟨hstate, hlost, hev, hcount⟩

theorem Dev.get_withLink (d : Dev) (x : Link) (f : Fld) : ({ d with link := x } : Dev).get f = d.get f := rfl

theorem Dev.rootLoss_of_gone (d : Dev) (hroot : d.isRoot = false) (hu : d.is (Fld.linkPortCfgUsed 0) = true)
    (hl : d.is Fld.linkStatusRootLost = false) (hg : 8 ≤ (d.lport 0).gone)
    (hst : d.linkSt = LinkSt.joined ∨ d.linkSt = LinkSt.slew) :
    d.rootLoss.get Fld.linkStatusRootLost = 1 ∧ d.rootLoss.get Fld.linkEventsRootLoss = 1 ∧ d.rootLoss.linkSt = LinkSt.holdover := by
  have hmem : (d.linkSt == LinkSt.joined || d.linkSt == LinkSt.slew) = true := by
    obtain h | h := hst <;> simp [h]
  unfold Dev.rootLoss
  extract_lets up lost d1 l d2 d3
  have hgone : lost = true := decide_eq_true hg
  rw [if_neg (by simp [hroot, hu, hl, hmem, hgone]), if_pos hgone]
  have hlost : d1.get Fld.linkStatusRootLost = 1 :=
    (Dev.get_happen_ne _ _ _ (by decide)).trans (Dev.get_put_same _ _ _ ⟨by decide, by decide⟩)
  have hev : d1.get Fld.linkEventsRootLoss = 1 := Dev.happen_sets _ _ (by decide) (by decide)
  have hport : d2.Changes [.link] [Fld.linkPortStatusState 0] d3 := .of_ite ((Dev.Changes.refl ..).put (by simp)) (.refl ..)
  have hlost2 : d2.get Fld.linkStatusRootLost = 1 := (d1.get_withLink l _).trans hlost
  have hev2 : d2.get Fld.linkEventsRootLoss = 1 := (d1.get_withLink l _).trans hev
  clear_value d2 d3
  have hend : d2.Changes [.link] [Fld.linkPortStatusState 0] (d3.modLport 0 (fun x => { x with good := 0 })) :=
    hport.modLink (by simp)
  generalize d3.modLport 0 (fun x => { x with good := 0 }) = u at hend
  refine ⟨?_, ?_, ?_⟩
  · rw [Dev.setLinkSt, Dev.get_put_apart _ _ (by decide), hend.get_eq (by decide), hlost2]
  · rw [Dev.setLinkSt, Dev.get_put_ne _ _ _ _ (by decide), hend.get_eq (by decide), hev2]
  · rw [Dev.linkSt, Dev.setLinkSt, Dev.get_put_same _ _ _ ⟨by decide, by decide⟩]
    rfl

/-! ### The host's writes of block LINK (R484 to R488) -/

theorem Dev.regWrite_link (d : Dev) {env : Env} {ag : Agent} {a : Nat} {v : Word} (ha : a / 0x10000 = 0x8B) :
    d.regWrite env ag a v = d.linkWrite ag a v := by
  have htumb : a ≠ Reg.tumbCtrl := by
    rintro rfl
    exact absurd ha (by decide)
  simp [Dev.regWrite, rwtMask_of_outside (a := a) (by omega), ha, htumb]

theorem State.hostReg_link (s : State) {a : Nat} {v : Word} {f : Dev → Dev} (h : s.dev.hostReady = true)
    (hup : s.dev.regUp a = true) (ha : a / 0x10000 = 0x8B) (e : s.dev.linkWrite .host a v = f s.dev)
    (hq : s.dev.Awaits .none → (f s.dev).Awaits .none) : s.hostReg a v = s.on f := by
  have hne (b : Nat) (hb : b / 0x10000 ≠ 0x8B) : a ≠ b := by
    rintro rfl
    exact hb ha
  have hwrite := (s.dev.regWrite_link (env := Env.quiet) ha).trans e
  rw [State.hostReg, s.hostWord_regWrite h hup (hne _ (by decide)) (hne _ (by decide)) (hne _ (by decide))
    (hwrite ▸ hq (Dev.hostReady_awaits h))]
  simp only [State.on, hwrite]

/-- With a key, what a send does ends with its event (R488). -/
theorem Dev.linkSend_ends (d : Dev) (hrel : d.released = false) (hkey : d.link.key.isSome = true) :
    ∃ u : Dev, d.linkSend = u.happen Fld.linkEventsTxDone ∧ (d.Awaits .none → u.Awaits .none) := by
  have hk : d.link.key.isNone = false := by
    simpa using hkey
  unfold Dev.linkSend
  rw [if_neg (by simp [hrel])]
  dsimp only
  rw [if_neg (by simp [hk])]
  have hloop (hq : d.Awaits .none) (l : List Nat) (m : Msg) : (d.each l (fun d p => d.queueMsg p m)).Awaits .none :=
    .each (fun _ _ hu => .queueMsg hu) hq
  exact ⟨_, rfl, fun hq => .of_ite (.of_ite (.deliver (hloop hq _ _)) (hloop hq _ _)) (.queueMsg hq)⟩

theorem Dev.linkWrite_send (d : Dev) {ag : Agent} : d.linkWrite ag Reg.linkTxctrl 1 = d.linkSend := by
  unfold Dev.linkWrite
  rw [if_neg (by decide), if_neg (by decide), if_pos rfl, if_pos (by decide)]

theorem Dev.linkWrite_pop (d : Dev) {ag : Agent} : d.linkWrite ag Reg.linkRxstat 1 = d.linkPop := by
  unfold Dev.linkWrite
  rw [if_neg (by decide), if_neg (by decide), if_neg (by decide), if_pos rfl, if_pos (by decide)]

theorem Dev.linkWrite_clr (d : Dev) {ag : Agent} : d.linkWrite ag Reg.linkCtrl 1 = d.linkClr := by
  unfold Dev.linkWrite
  rw [if_neg (by decide), if_pos rfl, if_pos (by decide)]

theorem Dev.linkWrite_nodeId (d : Dev) {ag : Agent} {v : Word} : d.linkWrite ag Reg.linkNodeid v = d.nodeIdWrite ag v := by
  unfold Dev.linkWrite
  rw [if_pos rfl]

theorem Dev.awaits_nodeIdWrite {d : Dev} {ag : Agent} {v : Word} (hq : d.Awaits .none) : (d.nodeIdWrite ag v).Awaits .none :=
  .of_ite (.put (.put hq)) (.viol hq)

theorem linkPortCtrl_bounds (p : Fin 3) : Reg.linkPortCtrl p / 0x10000 = 0x8B ∧
    Reg.linkPortCtrl p ∉ [Reg.linkNodeid, Reg.linkCtrl, Reg.linkTxctrl, Reg.linkRxstat] ∧
    (0x8B0100 ≤ Reg.linkPortCtrl p ∧ Reg.linkPortCtrl p < 0x8B0160 ∧ Reg.linkPortCtrl p % 32 = 4) ∧
    (Reg.linkPortCtrl p - 0x8B0100) / 32 = p := by
  revert p
  decide

theorem linkPortCtrl_dom (p : Fin 3) : regDom (Reg.linkPortCtrl p) = some Dom.link := by
  revert p
  decide

theorem Dev.linkWrite_port (d : Dev) {ag : Agent} (p : Fin 3) {v : Word} :
    d.linkWrite ag (Reg.linkPortCtrl p) v = d.lportCtrl p v := by
  obtain ⟨-, hne, hin, hp⟩ := linkPortCtrl_bounds p
  simp only [List.mem_cons, List.not_mem_nil, or_false, not_or] at hne
  obtain ⟨h1, h2, h3, h4⟩ := hne
  unfold Dev.linkWrite
  rw [if_neg h1, if_neg h2, if_neg h3, if_neg h4, if_pos hin, hp]

theorem Dev.linkPop_shows (d : Dev) : d.linkPop.link.rxq = d.link.rxq.drop 1 ∧
    d.linkPop.get Fld.linkRxstatCount = (d.link.rxq.drop 1).length % 2 ^ Fld.linkRxstatCount.width := by
  refine ⟨?_, ?_⟩
  · rw [Dev.linkPop, Dev.link_showRx]
  · exact Dev.get_put_same _ _ _ ⟨by decide, by decide⟩

theorem Dev.nodeIdWrite_names (d : Dev) {ag : Agent} {v : Word} (hhost : d.is Fld.linkCfgIdHost = true)
    (hvalid : d.is Fld.linkNodeidValid = false) : d.nodeIdWrite ag v =
      (d.put Fld.linkNodeidId (bitsOf v.toNat 0 16)).put Fld.linkNodeidValid 1 := if_pos (by simp [hhost, hvalid])

/-- The three ports' counts read 0 after a clear, and so do the node's (R487). -/
theorem Dev.linkClr_clears (d : Dev) : d.linkClr.rd Reg.linkCount0 = 0 ∧ d.linkClr.rd Reg.linkCount1 = 0 ∧
    ∀ p : Fin 3, d.linkClr.rd (Reg.linkPortCount p) = 0 := by
  have hclr : d.linkClr = ((((d.wr Reg.linkCount0 0).wr Reg.linkCount1 0).wr (Reg.linkPortCount 0) 0).wr (Reg.linkPortCount 1) 0).wr
      (Reg.linkPortCount 2) 0 := rfl
  have hwr (a b : Nat) (u : Dev) (h : u.rd a = 0) : (u.wr b 0).rd a = 0 := by
    by_cases hab : a = b
    · rw [hab, Dev.rd_wr_same]
    · rw [Dev.rd_wr_ne _ _ _ _ hab, h]
  rw [hclr]
  refine ⟨hwr _ _ _ (hwr _ _ _ (hwr _ _ _ (hwr _ _ _ (Dev.rd_wr_same ..)))),
    hwr _ _ _ (hwr _ _ _ (hwr _ _ _ (Dev.rd_wr_same ..))), fun p => ?_⟩
  match p with
  | 0 => exact hwr _ _ _ (hwr _ _ _ (Dev.rd_wr_same ..))
  | 1 => exact hwr _ _ _ (Dev.rd_wr_same ..)
  | 2 => exact Dev.rd_wr_same ..

/-! ### Ports that rest and wake (R484, R485) -/

theorem linkPort_fields (p : Nat) : (Fld.linkPortCtrlIdle p).fits ∧ (Fld.linkPortCtrlIdle p).width = 1 ∧
    (Fld.linkPortStatusState p).fits ∧ (Fld.linkPortStatusState p).width = 4 :=
  ⟨⟨show 0 ≤ 0 by decide, show 0 < 32 by decide⟩, rfl, ⟨show 28 ≤ 31 by decide, show 31 < 32 by decide⟩, rfl⟩

/-- A port that rests acquires where it is used and its domain is on. -/
theorem Dev.lportSt_portAcquire (d : Dev) {p : Nat} (hst : d.lportSt p = LPortSt.idle) (hu : d.is (Fld.linkPortCfgUsed p) = true)
    (hon : d.on Dom.link = true) : (d.portAcquire p).lportSt p = LPortSt.acquire := by
  obtain ⟨-, -, hfits, hw⟩ := linkPort_fields p
  have hne : Reg.linkPortStatus p ≠ Reg.linkStatus := by
    unfold Reg.linkPortStatus Reg.linkStatus
    omega
  have hset (u : Dev) : (u.setLportSt p LPortSt.acquire).lportSt p = LPortSt.acquire := by
    rw [Dev.lportSt, Dev.setLportSt, Dev.get_put_same _ _ _ hfits, hw]
    rfl
  unfold Dev.portAcquire
  rw [if_pos ⟨hst, hu, hon⟩]
  dsimp only
  split
  · rw [Dev.lportSt, Dev.setLinkSt, Dev.get_put_ne _ _ _ _ hne]
    exact hset _
  · exact hset _

theorem Dev.get_portAcquire_ne (d : Dev) (p : Nat) {f : Fld} (hs : f.addr ≠ Reg.linkPortStatus p) (hl : f.addr ≠ Reg.linkStatus) :
    (d.portAcquire p).get f = d.get f := by
  have hport : d.Changes [.link] [Fld.linkPortStatusState p, Fld.linkStatusState] (d.portAcquire p) := by
    have hset : d.Changes [.link] [Fld.linkPortStatusState p, Fld.linkStatusState]
        ((d.setLport p { LPort.init with txq := (d.lport p).txq }).setLportSt p LPortSt.acquire) :=
      ((Dev.Changes.refl ..).modLink (by simp)).put (by simp)
    exact .of_ite (.of_ite (hset.put (by simp)) hset) (.refl ..)
  refine hport.get_eq fun g hg => ?_
  simp only [List.mem_cons, List.not_mem_nil, or_false] at hg
  obtain rfl | rfl := hg
  · exact hs.symm
  · exact hl.symm

theorem Dev.bit_of_is {d : Dev} {f : Fld} (hw : f.width = 1) : d.get f = (d.is f).toNat := by
  rw [← d.is_toNat hw]
  cases d.is f <;> rfl

theorem linkPortCtrl_apart (p : Nat) : (Fld.linkPortCtrlIdle p).addr ≠ Reg.linkPortStatus p ∧
    (Fld.linkPortCtrlIdle p).addr ≠ Reg.linkStatus ∧ (Fld.linkPortCtrlIdle p).addr ≠ (Fld.linkPortStatusState p).addr ∧
      (Fld.linkPortCtrlIdle p).addr ≠ (Fld.linkPortCfgUsed p).addr := by
  change Reg.linkPortCtrl p ≠ _ ∧ Reg.linkPortCtrl p ≠ _ ∧ Reg.linkPortCtrl p ≠ Reg.linkPortStatus p ∧
    Reg.linkPortCtrl p ≠ Reg.linkPortCfg p
  unfold Reg.linkPortCtrl Reg.linkPortStatus Reg.linkStatus Reg.linkPortCfg
  omega

theorem Dev.lportCtrl_idle (d : Dev) {p : Nat} (hidle : d.is (Fld.linkPortCtrlIdle p) = false) (hst : d.lportSt p ≠ LPortSt.idle) :
    (d.lportCtrl p 1).get (Fld.linkPortCtrlIdle p) = 1 ∧ ((d.lportCtrl p 1).lport p).idleReq = 16 := by
  obtain ⟨hfits, hw, -⟩ := linkPort_fields p
  obtain ⟨-, -, hne, -⟩ := linkPortCtrl_apart p
  have hst' : (d.put (Fld.linkPortCtrlIdle p) 1).lportSt p ≠ LPortSt.idle := by
    rwa [Dev.lportSt, Dev.get_put_ne _ _ _ _ hne.symm]
  have hctrl : d.lportCtrl p 1 = (d.put (Fld.linkPortCtrlIdle p) 1).modLport p (fun x => { x with idleReq := 16 }) := by
    have h0 : bitOf (1 : Word).toNat 0 = true := by decide
    have h1 : bitOf (1 : Word).toNat 1 = false := by decide
    simp only [Dev.lportCtrl, h0, h1, hidle, Bool.not_false, Bool.and_self, if_true, Bool.false_eq_true, if_false]
    exact if_neg hst'
  rw [hctrl]
  refine ⟨?_, congrArg LPort.idleReq (Dev.lport_setLport_same ..)⟩
  exact (Dev.get_put_same _ _ _ hfits).trans (by rw [hw]; rfl)

/-- A write of 1 to wake, with idle as it reads. -/
theorem Dev.lportCtrl_wake (d : Dev) (p : Nat) :
    d.lportCtrl p (BitVec.ofNat 32 (2 + d.get (Fld.linkPortCtrlIdle p))) = d.linkWake p false := by
  obtain ⟨-, hw, -⟩ := linkPort_fields p
  rw [Dev.bit_of_is hw]
  cases hi : d.is (Fld.linkPortCtrlIdle p) with
  | false =>
    have h0 : bitOf (BitVec.ofNat 32 (2 + false.toNat)).toNat 0 = false := by decide
    have h1 : bitOf (BitVec.ofNat 32 (2 + false.toNat)).toNat 1 = true := by decide
    simp only [Dev.lportCtrl, h0, h1, hi, Bool.false_and, Bool.and_false, Bool.false_eq_true, if_false, if_true]
  | true =>
    have h0 : bitOf (BitVec.ofNat 32 (2 + true.toNat)).toNat 0 = true := by decide
    have h1 : bitOf (BitVec.ofNat 32 (2 + true.toNat)).toNat 1 = true := by decide
    simp only [Dev.lportCtrl, h0, h1, hi, Bool.not_true, Bool.and_false, Bool.false_and, Bool.false_eq_true, if_false, if_true]

/-- A write of 0 to idle. -/
theorem Dev.lportCtrl_clear (d : Dev) (p : Nat) : (d.lportCtrl p 0).get (Fld.linkPortCtrlIdle p) = 0 := by
  obtain ⟨hfits, hw, -⟩ := linkPort_fields p
  obtain ⟨hs, hl, -⟩ := linkPortCtrl_apart p
  have h0 : bitOf (0 : Word).toNat 0 = false := by decide
  have h1 : bitOf (0 : Word).toNat 1 = false := by decide
  cases hi : d.is (Fld.linkPortCtrlIdle p) with
  | false =>
    simp only [Dev.lportCtrl, h0, h1, hi, Bool.false_and, Bool.and_false, Bool.false_eq_true, if_false]
    rw [Dev.bit_of_is hw, hi]
    rfl
  | true =>
    simp only [Dev.lportCtrl, h0, h1, hi, Bool.not_true, Bool.not_false, Bool.and_false, Bool.and_true, Bool.false_eq_true, if_false,
      if_true]
    rw [Dev.linkWake, Dev.get_portAcquire_ne _ _ hs hl]
    exact (Dev.get_put_same _ _ _ hfits).trans (Nat.zero_mod _)

theorem Dev.linkWake_acquires (d : Dev) {p : Nat} (hon : d.on Dom.link = true) (hu : d.is (Fld.linkPortCfgUsed p) = true)
    (hst : d.lportSt p = LPortSt.idle) : (d.linkWake p false).lportSt p = LPortSt.acquire ∧
      (d.linkWake p false).get (Fld.linkPortCtrlIdle p) = d.get (Fld.linkPortCtrlIdle p) := by
  obtain ⟨hs, hl, -⟩ := linkPortCtrl_apart p
  unfold Dev.linkWake
  simp only [Bool.false_eq_true, if_false]
  exact ⟨Dev.lportSt_portAcquire _ hst hu hon, Dev.get_portAcquire_ne _ _ hs hl⟩

theorem wakeFields_below (p : Fin 3) : ∀ f ∈ wakeFields, f.addr ≠ (Fld.linkPortStatusState p).addr ∧ f.addr ≠ (Fld.linkPortCfgUsed p).addr := by
  revert p
  decide

/-- Activity at a port of the keyplan in use sets its event (R485). -/
theorem Dev.squelchWake_event (d : Dev) {p : Fin 3} (hst : d.lportSt p = LPortSt.idle) (hu : d.is (Fld.linkPortCfgUsed p) = true) :
    (d.squelchWake p).get Fld.linkEventsWake = 1 := by
  have hwake : d.Changes [.clk, .intc, .pwr] wakeFields (d.wakeEvent 0) :=
    (Dev.Changes.refl ..).wakeEvent (by simp) (by simp) (by simp) (List.Subset.refl _)
  have hst' : (d.wakeEvent 0).lportSt p = LPortSt.idle :=
    (hwake.get_eq fun f hf => (wakeFields_below p f hf).1).trans hst
  have hu' : (d.wakeEvent 0).is (Fld.linkPortCfgUsed p) = true :=
    (congrArg (· != 0) (hwake.get_eq fun f hf => (wakeFields_below p f hf).2)).trans hu
  have hne : Fld.linkEventsWake.addr ≠ Reg.linkPortStatus p := by
    change 0x8B0010 ≠ 0x8B0108 + 0x20 * (p : Nat)
    omega
  unfold Dev.squelchWake
  rw [if_pos ⟨hst, by simp [Dev.portUsed, hu]⟩, Dev.squelch, if_pos ⟨hst', hu'⟩, Dev.get_portAcquire_ne _ _ hne (by decide)]
  exact Dev.happen_sets _ _ (by decide) (by decide)

theorem State.bootData_takes (s : State) {p : Nat} {m : Msg}
    (h : s.dev.arrive MsgType.bootData p m = (s.dev.forward (s.dev.route p m).2 m, true)) :
    s.bootData p m = (s.on (·.forward (s.dev.route p m).2 m)).linkData ((m.drop 16).take (min 64 (msgNat m 6 1))) := by
  simp only [State.bootData, h, if_true]
  rfl

theorem State.linkReset_resets (s : State) {p : Nat} {m : Msg}
    (h : s.dev.arrive MsgType.reset p m = (s.dev.forward (s.dev.route p m).2 m, true)) (hkey : msgNat m 16 4 = 0x9616) :
    s.linkReset p m = (s.on (·.forward (s.dev.route p m).2 m)).assertReset Rst.link 0 := by
  simp only [State.linkReset, s.dev.linkResetMsg_resets h hkey, if_true]
  rfl

theorem Dev.nodeIdWrite_shows (d : Dev) {ag : Agent} {v : Word} (hhost : d.is Fld.linkCfgIdHost = true)
    (hvalid : d.is Fld.linkNodeidValid = false) : (d.nodeIdWrite ag v).get Fld.linkNodeidId = bitsOf v.toNat 0 16 ∧
      (d.nodeIdWrite ag v).get Fld.linkNodeidValid = 1 := by
  rw [d.nodeIdWrite_names hhost hvalid]
  refine ⟨?_, ?_⟩
  · rw [Dev.get_put_apart _ _ (by decide), Dev.get_put_same _ _ _ ⟨by decide, by decide⟩]
    exact Nat.mod_eq_of_lt (Nat.mod_lt _ (by decide))
  · rw [Dev.get_put_same _ _ _ ⟨by decide, by decide⟩]
    rfl

theorem Dev.awaits_lportCtrl {d : Dev} {p : Nat} {v : Word} (hq : d.Awaits .none) : (d.lportCtrl p v).Awaits .none := by
  have hidle {u : Dev} (h : u.Awaits .none) : (u.linkIdle p).Awaits .none := .of_ite (.put h) (.modLport (.put h))
  have hwake {u : Dev} {b : Bool} (h : u.Awaits .none) : (u.linkWake p b).Awaits .none :=
    .portAcquire (.modLport (.of_ite (.put h) h))
  have hfirst (c c' : Bool) : (if c then d.linkIdle p else if c' then d.linkWake p true else d).Awaits .none :=
    .of_ite (hidle hq) (.of_ite (hwake hq) hq)
  exact .of_ite (hwake (hfirst ..)) (hfirst ..)

/-- Settles O21: each command is one operation of the link, and the host's writes are their registers' own. -/
theorem linkCommandsComplete : Obligations.LinkCommandsComplete := by
  refine ⟨fun s p f ⟨hon, hu, hi, hc, hh⟩ => ⟨_, rfl, s.dev.linkFrame_good p f hon hu hi hc hh⟩,
    fun s p f ⟨hon, hu, hi, hb⟩ => ⟨_, rfl, s.dev.linkFrame_bad p f hon hu hi hb⟩,
    fun s same ⟨hroot, hrel, hup, hst, hn⟩ => ⟨_, rfl, s.dev.linkRangingDone_joins same hroot hrel hup hst hn⟩,
    fun s ⟨hroot, hu, hl, hg, hst⟩ => ⟨_, rfl, s.dev.rootLoss_of_gone hroot hu hl hg hst⟩,
    fun s p m ⟨hon, hty, hc, hr, hq⟩ => ⟨_, rfl, s.dev.linkApp_delivers (s.dev.arrive_ok hon hty hc hr) hq⟩,
    fun s p m ⟨hon, hty, hc, hr, hhost, hvalid⟩ => ⟨_, rfl, s.dev.linkAssign_names (s.dev.arrive_ok hon hty hc hr) hhost hvalid⟩,
    fun s p m ⟨hon, hty, hc, hr, hroot, hq⟩ => ⟨_, rfl, s.dev.linkJoin_delivers (s.dev.arrive_ok hon hty hc hr) hroot hq⟩,
    fun s p m ⟨hon, hty, hc, hr, hkey⟩ => ⟨_, congrArg Host.Outcome.next (s.linkReset_resets (s.dev.arrive_ok hon hty hc hr) hkey),
      State.assertReset_records _ 0 (by decide)⟩,
    fun s p m ⟨hon, hty, hc, hr⟩ => ⟨_, rfl, s.bootData_takes (s.dev.arrive_ok hon hty hc hr)⟩,
    fun s ⟨h, hup, hkey⟩ => ?_, fun s ⟨h, hup⟩ => ?_, fun s v ⟨h, hup, hhost, hvalid⟩ => ?_, fun s p ⟨h, hup, hidle, hst⟩ => ?_,
    fun s p ⟨h, hup, hu, hst⟩ => ?_, fun s p ⟨h, hup⟩ => ?_,
    fun s p ⟨hst, hu⟩ => ⟨_, rfl, s.dev.squelchWake_event hst hu⟩,
    fun s ⟨h, hup⟩ => ?_⟩
  · obtain ⟨-, hrel, -⟩ := s.dev.hostReady_iff.mp h
    obtain ⟨u, hsend, hq⟩ := s.dev.linkSend_ends hrel hkey
    refine ⟨_, congrArg Host.Outcome.next (s.hostReg_link (f := fun _ => u.happen Fld.linkEventsTxDone) h hup (by decide)
      (s.dev.linkWrite_send.trans hsend) fun hq' => .happen (hq hq')), Dev.happen_sets _ _ (by decide) (by decide)⟩
  · exact ⟨_, congrArg Host.Outcome.next (s.hostReg_link (f := Dev.linkPop) h hup (by decide) s.dev.linkWrite_pop
      fun hq => .showRx (.parts hq)), s.dev.linkPop_shows⟩
  · exact ⟨_, congrArg Host.Outcome.next (s.hostReg_link (f := (·.nodeIdWrite .host v)) h hup (by decide)
      s.dev.linkWrite_nodeId Dev.awaits_nodeIdWrite), s.dev.nodeIdWrite_shows hhost hvalid⟩
  · exact ⟨_, congrArg Host.Outcome.next (s.hostReg_link (f := (·.lportCtrl p 1)) h hup (linkPortCtrl_bounds p).1
      (s.dev.linkWrite_port p) Dev.awaits_lportCtrl), s.dev.lportCtrl_idle hidle hst⟩
  · have hon : s.dev.on Dom.link = true := s.dev.on_of_regUp hup (linkPortCtrl_dom p)
    exact ⟨_, congrArg Host.Outcome.next (s.hostReg_link (f := (·.linkWake p false)) h hup (linkPortCtrl_bounds p).1
      ((s.dev.linkWrite_port p).trans (s.dev.lportCtrl_wake p)) fun hq => .portAcquire (.modLport hq)),
      s.dev.linkWake_acquires hon hu hst⟩
  · exact ⟨_, congrArg Host.Outcome.next (s.hostReg_link (f := (·.lportCtrl p 0)) h hup (linkPortCtrl_bounds p).1
      (s.dev.linkWrite_port p) Dev.awaits_lportCtrl), s.dev.lportCtrl_clear p⟩
  · exact ⟨_, congrArg Host.Outcome.next (s.hostReg_link (f := Dev.linkClr) h hup (by decide) s.dev.linkWrite_clr
      fun hq => .linkClr hq), s.dev.linkClr_clears⟩

end Sys2Proof.Machine

/-! Twin operation (chapter 17): what a role brings with it, what a hinge frame shows, and the commands of roles. -/
namespace Sys2Proof.Machine
set_option Elab.async false

/-! ### Roles (R491, R493) -/

/-- The fields outside the hinge's block that a change of role writes (R157, R160, R196, R290, R309, R342). -/
def roleFields : List Fld :=
  (List.range 10).flatMap clearFields ++ [Fld.micbStatusDriving, Fld.pdmStatusReceiving, Fld.pdmStatusClkPresent] ++
    ((List.range 6).map Fld.portStatusReleased ++ [Fld.spdifStatusReleased]) ++ usbSessionFields

theorem Dev.changes_roleEffects (d : Dev) (was : Bool) : d.Changes [.outs, .usb] roleFields (d.roleEffects was) := by
  obtain ⟨hrest, husb⟩ := List.append_subset.mp (List.Subset.refl roleFields)
  obtain ⟨hrest, hport⟩ := List.append_subset.mp hrest
  obtain ⟨hout, hpin⟩ := List.append_subset.mp hrest
  obtain ⟨hports, hspdif⟩ := List.append_subset.mp hport
  have hrel {u : Dev} (h : d.Changes [.outs, .usb] roleFields u) : d.Changes [.outs, .usb] roleFields u.releaseOuts :=
    h.each_mem fun _ o ho hu => hu.enterHiz (.inl (by simp)) fun _ hf => hout (List.mem_flatMap.mpr ⟨o, ho, hf⟩)
  have hpdm {u : Dev} (k : Nat) (h : d.Changes [.outs, .usb] roleFields u) : d.Changes [.outs, .usb] roleFields (u.pdmRole k) :=
    .of_ite (h.putBit (b := true) (hpin (by simp))) ((h.putBit (b := false) (hpin (by simp))).putBit (b := false) (hpin (by simp)))
  have hout' : d.Changes [.outs, .usb] roleFields (if d.released && !was then d.releaseOuts else d) :=
    .of_ite (hrel (.refl ..)) (.refl ..)
  have hpins := ((hout'.trans (Dev.changes_showMicb (hpin (by simp)))).each_mem (l := List.range 8) fun _ k _ hu => hpdm k hu)
  exact ((hpins.each_mem fun _ _ hn hu => hu.flag (hports (List.mem_map_of_mem hn))).flag (hspdif (by simp))).usbCheck
    (by simp) husb

theorem roleFields_outside : ∀ f ∈ roleFields, f.addr < 0x8C0000 ∨ 0x8D0000 ≤ f.addr := by
  decide +kernel

/-- A role's effects leave the hinge's own registers and its state. -/
theorem Dev.get_roleEffects (d : Dev) (was : Bool) {f : Fld} (hlo : 0x8C0000 ≤ f.addr) (hhi : f.addr < 0x8D0000) :
    (d.roleEffects was).get f = d.get f :=
  (d.changes_roleEffects was).get_eq fun g hg hga => by
    have := roleFields_outside g hg
    omega

/-- The fields of HINGE_STATUS that a role writes. -/
def Dev.takeRole (d : Dev) (r : Nat) : Dev :=
  let d := d.put Fld.hingeStatusRole r
  let d := if r = Role.pairing then d else (d.put Fld.hingeStatusFresh 0).modHinge (fun h => { h with waiting := false })
  let d := if r = Role.active then d else d.put Fld.hingeStatusArmed 0
  (d.flag Fld.hingeStatusHold (r == Role.active || r == Role.standby)).flag Fld.hingeStatusSynced (r == Role.standby)

theorem Dev.setRole_eq (d : Dev) (r : Nat) : d.setRole r = (d.takeRole r).roleEffects d.released := rfl

theorem Dev.get_modHinge (d : Dev) (g : Hinge → Hinge) (f : Fld) : (d.modHinge g).get f = d.get f := rfl

/-- The fields of HINGE_STATUS that follow a role. -/
def followFields : List Fld := [Fld.hingeStatusFresh, Fld.hingeStatusArmed, Fld.hingeStatusHold, Fld.hingeStatusSynced]

theorem Dev.changes_takeRole (d : Dev) (r : Nat) : (d.put Fld.hingeStatusRole r).Changes [.hinge] followFields (d.takeRole r) := by
  unfold Dev.takeRole
  extract_lets d1 d2 d3
  have h2 : d1.Changes [.hinge] followFields d2 :=
    .of_ite (.refl ..) (((Dev.Changes.refl ..).put (by simp [followFields])).modHinge (by simp))
  have h3 : d1.Changes [.hinge] followFields d3 := .of_ite h2 (h2.put (by simp [followFields]))
  exact (h3.flag (by simp [followFields])).flag (by simp [followFields])

theorem Dev.takeRole_role (d : Dev) {r : Nat} (hr : r < 4) : (d.takeRole r).get Fld.hingeStatusRole = r := by
  rw [(d.changes_takeRole r).get_apart (by decide), Dev.get_put_same _ _ _ ⟨by decide, by decide⟩]
  exact Nat.mod_eq_of_lt hr

theorem Dev.takeRole_fresh (d : Dev) {r : Nat} (hr : r ≠ Role.pairing) : (d.takeRole r).get Fld.hingeStatusFresh = 0 := by
  unfold Dev.takeRole
  extract_lets d1 d2 d3
  have h2 : d2.get Fld.hingeStatusFresh = 0 := by
    have hput : d2 = (d1.put Fld.hingeStatusFresh 0).modHinge (fun h => { h with waiting := false }) := if_neg hr
    rw [hput, Dev.get_modHinge, Dev.get_put_same _ _ _ ⟨by decide, by decide⟩, Nat.zero_mod]
  have h3 : d2.Changes [] [Fld.hingeStatusArmed] d3 := .of_ite (.refl ..) ((Dev.Changes.refl ..).put (by simp))
  rw [Dev.get_flag_apart _ _ (by decide), Dev.get_flag_apart _ _ (by decide), h3.get_apart (by decide), h2]

theorem Dev.role_setRole (d : Dev) {r : Nat} (hr : r < 4) : (d.setRole r).role = r := by
  rw [d.setRole_eq, Dev.role, Dev.get_roleEffects _ _ (by decide) (by decide), d.takeRole_role hr]

theorem Dev.fresh_setRole (d : Dev) {r : Nat} (hr : r ≠ Role.pairing) : (d.setRole r).get Fld.hingeStatusFresh = 0 := by
  rw [d.setRole_eq, Dev.get_roleEffects _ _ (by decide) (by decide), d.takeRole_fresh hr]

/-! ### Pairing, its time-out, and a partner lost (R493, R496, R507, R510) -/

theorem Dev.syncEdge_of_role (d d0 : Dev) (h : d.role ≠ Role.pairing) : d.syncEdge d0 = d := by
  simp [Dev.syncEdge, h]

theorem Dev.pairWaitEnds_solo (d : Dev) (hr : d.role = Role.pairing) (hw : d.hinge.waiting = true)
    (hp : d.is Fld.hingeStatusPartner = false) : d.pairWaitEnds.role = Role.solo ∧ d.pairWaitEnds.get Fld.hingeStatusFresh = 0 := by
  have hsolo : d.pairWaitExpire = d.setRole Role.solo := by
    unfold Dev.pairWaitExpire Dev.pairDecide
    dsimp only
    rw [if_neg (by simp [hr, hw]), if_pos (by simp [hp])]
  have hrole : (d.setRole Role.solo).role = Role.solo := d.role_setRole (by decide)
  rw [Dev.pairWaitEnds, hsolo, Dev.syncEdge_of_role _ _ (by rw [hrole]; decide)]
  exact ⟨hrole, d.fresh_setRole (by decide)⟩

theorem Dev.syncTimesOut_refused (d : Dev) (hs : d.hinge.sync = true) (hr : d.role = Role.active)
    (ha : d.is Fld.hingeStatusArmed = false) : d.syncTimesOut.get Fld.hingeStatusRefuse = Refuse.sync ∧
      d.syncTimesOut.get Fld.hingeEventsRefused = 1 ∧ d.syncTimesOut.hinge.sync = false := by
  have hout : d.syncTimeout = ((d.refusePair Refuse.sync).put Fld.hingeStatusFresh 0).modHinge
      (fun h => { h with sync := false, copy := [], copyTumb := none }) := if_pos (by simp [hs, hr, ha])
  have hrole : d.syncTimeout.role = Role.active := by
    rw [hout, Dev.role, Dev.get_modHinge, Dev.get_put_apart _ _ (by decide), Dev.refusePair,
      Dev.get_happen_ne _ _ _ (by decide), Dev.inc, Dev.addSat, Dev.get_put_ne _ _ _ _ (by decide),
      Dev.get_put_apart _ _ (by decide), ← hr, Dev.role]
  rw [Dev.syncTimesOut, Dev.syncEdge_of_role _ _ (by rw [hrole]; decide), hout, Dev.get_modHinge, Dev.get_modHinge]
  refine ⟨?_, ?_, rfl⟩
  · rw [Dev.get_put_apart _ _ (by decide), Dev.refusePair, Dev.get_happen_ne _ _ _ (by decide), Dev.inc, Dev.addSat,
      Dev.get_put_ne _ _ _ _ (by decide), Dev.get_put_same _ _ _ ⟨by decide, by decide⟩]
    rfl
  · rw [Dev.get_put_ne _ _ _ _ (by decide)]
    exact Dev.happen_sets _ _ (by decide) (by decide)

theorem Dev.deadman_fires (d : Dev) (h : d.is Fld.hingeStatusArmed = true) : d.deadman.role = Role.pairing ∧
    d.deadman.get Fld.hingeStatusFresh = 0 ∧ d.deadman.get Fld.hingeStatusDropped = 1 ∧ d.deadman.get Fld.hingeEventsDropped = 1 := by
  unfold Dev.deadman
  rw [if_pos h]
  refine ⟨?_, ?_, ?_, Dev.happen_sets _ _ (by decide) (by decide)⟩
  · rw [Dev.role, Dev.get_happen_ne _ _ _ (by decide), Dev.get_put_apart _ _ (by decide), Dev.get_put_apart _ _ (by decide)]
    exact d.role_setRole (by decide)
  · rw [Dev.get_happen_ne _ _ _ (by decide), Dev.get_put_apart _ _ (by decide), Dev.get_put_same _ _ _ ⟨by decide, by decide⟩]
    rfl
  · rw [Dev.get_happen_ne _ _ _ (by decide), Dev.get_put_same _ _ _ ⟨by decide, by decide⟩]
    rfl

theorem Dev.partnerLost_shows (d : Dev) (hr : d.role = Role.active) (hg : 6 ≤ d.hinge.gone)
    (hp : d.is Fld.hingeStatusPartner = true) : d.partnerLost.get Fld.hingeStatusArmed = 0 ∧
      d.partnerLost.get Fld.hingeStatusPartner = 0 ∧ d.partnerLost.get Fld.hingeStatusPartnerRole = 4 ∧
        d.partnerLost.get Fld.hingeEventsPartnerLost = 1 := by
  unfold Dev.partnerLost
  rw [if_pos ⟨hr, hg, hp⟩]
  refine ⟨?_, ?_, ?_, Dev.happen_sets _ _ (by decide) (by decide)⟩
  · rw [Dev.get_happen_ne _ _ _ (by decide), Dev.get_put_apart _ _ (by decide), Dev.get_put_apart _ _ (by decide),
      Dev.get_put_same _ _ _ ⟨by decide, by decide⟩]
    rfl
  · rw [Dev.get_happen_ne _ _ _ (by decide), Dev.get_put_apart _ _ (by decide), Dev.get_put_same _ _ _ ⟨by decide, by decide⟩]
    rfl
  · rw [Dev.get_happen_ne _ _ _ (by decide), Dev.get_put_same _ _ _ ⟨by decide, by decide⟩]
    rfl

/-! ### Heartbeats and the takeover (R506, R509) -/

/-- A heartbeat missed is counted, and this boundary's miss is known. -/
def Dev.missed (d : Dev) : Dev :=
  ((d.inc Fld.hingeStatusMiss).inc Fld.hingeCount2Missed).modHinge (fun h => { h with beat := true })

theorem Dev.heartbeatMiss_early (d : Dev) (high priOk : Bool) (hr : d.role = Role.standby) (hb : d.hinge.beat = false)
    (hm : d.get Fld.hingeStatusMiss < 5) : (d.heartbeatMiss high priOk).get Fld.hingeStatusMiss = d.get Fld.hingeStatusMiss + 1 ∧
      (d.heartbeatMiss high priOk).role = Role.standby := by
  have hmiss : d.heartbeatMiss high priOk = d.missed := by
    unfold Dev.heartbeatMiss
    rw [if_neg (by simp [hr, hb])]
    exact if_pos hm
  rw [hmiss, Dev.missed, Dev.role, Dev.get_modHinge, Dev.get_modHinge]
  refine ⟨?_, ?_⟩
  · have hmin : min (d.get Fld.hingeStatusMiss + 1) (2 ^ Fld.hingeStatusMiss.width - 1) = d.get Fld.hingeStatusMiss + 1 :=
      Nat.min_eq_left (Nat.le_trans hm (by decide))
    rw [Dev.inc, Dev.addSat, Dev.get_put_ne _ _ _ _ (by decide), Dev.inc, Dev.addSat,
      Dev.get_put_same _ _ _ ⟨by decide, by decide⟩, hmin]
    exact Nat.mod_eq_of_lt (Nat.lt_of_le_of_lt (Nat.succ_le_of_lt hm) (by decide))
  · rw [Dev.inc, Dev.addSat, Dev.get_put_ne _ _ _ _ (by decide), Dev.inc, Dev.addSat, Dev.get_put_apart _ _ (by decide), ← hr,
      Dev.role]

/-- The fields that a takeover writes after the role and its event. -/
def takeoverFields : List Fld :=
  Fld.hingeCount0Takeovers :: ((List.range 10).flatMap driveFields ++ usbSessionFields ++
    [Fld.whole Reg.clkRefsel, Fld.whole Reg.clkStatus, Fld.clkEventsRefSwitch])

theorem Dev.Changes.takeoverOut {ps : List Part} {fs : List Fld} {d t : Dev} {o : Nat} (h : d.Changes ps fs t) (ho : .outs ∈ ps)
    (hf : driveFields o ⊆ fs) : d.Changes ps fs (t.takeoverOut o) := by
  have hleft : d.Changes ps fs ((t.abandon o).modOut o (fun x => { x with hold := .none, level := 0, spk := .clamp, cm := 0 })) :=
    (h.abandon (.inl ho) (clearFields_of_driveFields hf)).modOut (.inl ho)
  have hseq {bs : List Blk} {st : Nat} {fin : SeqEnd} := hleft.startSeq (bs := bs) (st := st) (fin := fin) (.inl ho)
    (seqFields_of_driveFields hf)
  exact .of_ite h (.of_ite (hleft.enterHiz (.inl ho) (clearFields_of_driveFields hf)) (.of_ite hseq (.of_ite hseq hseq)))

theorem Dev.Changes.planFields {ps : List Part} {fs : List Fld} {d t : Dev} (h : d.Changes ps fs t)
    (hf : Fld.whole Reg.clkRefsel ∈ fs) : d.Changes ps fs t.planFields := h.wr hf

/-- The role and the event of a takeover. -/
def Dev.tookOver (d : Dev) : Dev :=
  ((d.modHinge (fun h => { h with sync := false, copy := [], copyTumb := none, syncAt := none })).setRole Role.active).happen
    Fld.hingeEventsFailover

theorem Dev.changes_takeover (d : Dev) (priOk : Bool) :
    d.tookOver.Changes [.clk, .intc, .outs, .usb] takeoverFields (d.takeover priOk) := by
  obtain ⟨hcount, hrest⟩ := List.cons_subset.mp (List.Subset.refl takeoverFields)
  obtain ⟨hrest, hclk⟩ := List.append_subset.mp hrest
  obtain ⟨hout, husb⟩ := List.append_subset.mp hrest
  have hstatus {f : Fld} {v : Nat} {u : Dev} (hf : f.within (Fld.whole Reg.clkStatus) = true)
      (h : d.tookOver.Changes [.clk, .intc, .outs, .usb] takeoverFields u) :
      d.tookOver.Changes [.clk, .intc, .outs, .usb] takeoverFields (u.put f v) :=
    h.trans (((Dev.Changes.refl _ [f] u).put (List.mem_singleton_self f)).widen
      fun g hg => ⟨_, hclk (by simp : Fld.whole Reg.clkStatus ∈ _), List.mem_singleton.mp hg ▸ hf⟩)
  have hdrive : d.tookOver.Changes [.clk, .intc, .outs, .usb] takeoverFields
      ((d.tookOver.inc Fld.hingeCount0Takeovers).each (List.range 10) Dev.takeoverOut) :=
    ((Dev.Changes.refl ..).inc hcount).each_mem fun _ o ho hu =>
      hu.takeoverOut (by simp) fun _ hf => hout (List.mem_flatMap.mpr ⟨o, ho, hf⟩)
  have husbOff (u : Dev) (h : d.tookOver.Changes [.clk, .intc, .outs, .usb] takeoverFields u) :
      d.tookOver.Changes [.clk, .intc, .outs, .usb] takeoverFields
        (({ u with usb := { u.usb with vbusOk := false } } : Dev).usbCheck.planFields.put Fld.clkStatusOnAlt 0) :=
    hstatus (by decide) (((h.setUsb (by simp)).usbCheck (by simp) husb).planFields (hclk (by simp)))
  have hbase := husbOff _ hdrive
  have hhold {u : Dev} (h : d.tookOver.Changes [.clk, .intc, .outs, .usb] takeoverFields u) :
      d.tookOver.Changes [.clk, .intc, .outs, .usb] takeoverFields u.enterHoldover :=
    (hstatus (by decide) (hstatus (by decide) h)).modClk (by simp)
  have hswitch {u : Dev} {r : Nat} (h : d.tookOver.Changes [.clk, .intc, .outs, .usb] takeoverFields u) :
      d.tookOver.Changes [.clk, .intc, .outs, .usb] takeoverFields ((u.put Fld.clkStatusRefUsed r).happen Fld.clkEventsRefSwitch) :=
    (hstatus (by decide) h).happen (by simp) (hclk (by simp)) (by decide)
  exact .of_ite hbase (.of_ite (hswitch hbase) (hhold hbase))

theorem takeoverFields_apart : ∀ f ∈ takeoverFields, f.addr ≠ Reg.hingeStatus ∧ f.addr ≠ Reg.hingeEvents := by
  decide +kernel

theorem Dev.takeover_shows (d : Dev) (priOk : Bool) :
    (d.takeover priOk).role = Role.active ∧ (d.takeover priOk).get Fld.hingeEventsFailover = 1 := by
  have hch := d.changes_takeover priOk
  rw [Dev.role, hch.get_eq fun f hf => (takeoverFields_apart f hf).1, hch.get_eq fun f hf => (takeoverFields_apart f hf).2]
  refine ⟨?_, Dev.happen_sets _ _ (by decide) (by decide)⟩
  rw [Dev.tookOver, Dev.get_happen_ne _ _ _ (by decide)]
  exact Dev.role_setRole _ (by decide)

theorem Dev.heartbeatMiss_takesOver (d : Dev) (priOk : Bool) (hr : d.role = Role.standby) (hb : d.hinge.beat = false)
    (hm : 5 ≤ d.get Fld.hingeStatusMiss) : d.heartbeatMiss true priOk = d.missed.takeover priOk := by
  unfold Dev.heartbeatMiss
  rw [if_neg (by simp [hr, hb])]
  dsimp only
  rw [if_neg (Nat.not_lt.mpr hm), if_pos rfl]
  rfl

end Sys2Proof.Machine

/-! Twin operation (chapter 17): hinge frames at a package that is SOLO, synchronisations, and the host's commands. -/
namespace Sys2Proof.Machine
set_option Elab.async false

/-! ### Hinge frames (R497 to R506) -/

/-- From `d` to `t` the role, what the hinge shows of the partner, and the count of frames without one stay as they are. -/
structure Dev.KeepsFrame (d t : Dev) : Prop where
  role : t.role = d.role
  partner : t.get Fld.hingeStatusPartnerRole = d.get Fld.hingeStatusPartnerRole
  delay : t.get Fld.hingePdelayPs = d.get Fld.hingePdelayPs
  gone : t.hinge.gone = d.hinge.gone

/-- A field apart from those that a frame of the hinge shows. -/
def Fld.offFrame (f : Fld) : Bool :=
  f.apart Fld.hingeStatusRole && f.apart Fld.hingeStatusPartnerRole && f.apart Fld.hingePdelayPs

namespace Dev.KeepsFrame

variable {d t : Dev}

theorem refl (d : Dev) : d.KeepsFrame d := ⟨rfl, rfl, rfl, rfl⟩

theorem put {f : Fld} {v : Nat} (h : d.KeepsFrame t) (hf : f.offFrame = true) : d.KeepsFrame (t.put f v) := by
  simp only [Fld.offFrame, Bool.and_eq_true] at hf
  obtain ⟨⟨hrole, hpartner⟩, hdelay⟩ := hf
  exact ⟨(Dev.get_put_apart _ _ hrole).trans h.role, (Dev.get_put_apart _ _ hpartner).trans h.partner,
    (Dev.get_put_apart _ _ hdelay).trans h.delay, by simpa using h.gone⟩

theorem happen {f : Fld} (h : d.KeepsFrame t) (hw : f.lo ≤ f.hi) (hf : f.offFrame = true) : d.KeepsFrame (t.happen f) := by
  simp only [Fld.offFrame, Bool.and_eq_true] at hf
  obtain ⟨⟨hrole, hpartner⟩, hdelay⟩ := hf
  exact ⟨(Dev.get_happen_apart _ hw hrole).trans h.role, (Dev.get_happen_apart _ hw hpartner).trans h.partner,
    (Dev.get_happen_apart _ hw hdelay).trans h.delay, by simpa using h.gone⟩

theorem modHinge {f : Hinge → Hinge} (h : d.KeepsFrame t) (hf : ∀ x : Hinge, (f x).gone = x.gone) : d.KeepsFrame (t.modHinge f) :=
  ⟨h.role, h.partner, h.delay, (hf _).trans h.gone⟩

theorem of_ite {c : Prop} [Decidable c] {a b : Dev} (ha : d.KeepsFrame a) (hb : d.KeepsFrame b) :
    d.KeepsFrame (if c then a else b) := by
  split
  · exact ha
  · exact hb

theorem each {α : Type} {l : List α} {f : Dev → α → Dev} (h : d.KeepsFrame t)
    (hf : ∀ u a, d.KeepsFrame u → d.KeepsFrame (f u a)) : d.KeepsFrame (t.each l f) := by
  unfold Dev.each
  induction l generalizing t with
  | nil => exact h
  | cons a l ih => exact ih (hf t a h)

theorem beginSync (h : d.KeepsFrame t) : d.KeepsFrame t.beginSync := h.modHinge fun _ => rfl

theorem lockstep {pass : Nat} {theirs : List Nat} (h : d.KeepsFrame t) : d.KeepsFrame (t.lockstep pass theirs) := by
  unfold Dev.lockstep
  split
  · exact h
  · extract_lets diff d1 d2
    have h2 : d.KeepsFrame d2 := ((h.put (by decide)).put (by decide)).put (by decide)
    exact of_ite (h.put (by decide)) (of_ite (h2.happen (by decide) (by decide)) h2)

theorem takeBatch {seq eff : Nat} {es : List (Nat × Word)} (h : d.KeepsFrame t) : d.KeepsFrame (t.takeBatch seq eff es) := by
  unfold Dev.takeBatch
  extract_lets d1
  have h1 : d.KeepsFrame d1 := h.modHinge fun _ => rfl
  clear_value d1
  exact of_ite h (of_ite ((h1.beginSync.happen (by decide) (by decide)).put (by decide)) h1)

end Dev.KeepsFrame

theorem Dev.pairDecide_of_solo {d : Dev} (h : d.role = Role.solo) : d.pairDecide = d := by
  unfold Dev.pairDecide
  dsimp only
  rw [if_pos (by simp [h])]

/-- The parts of what a good frame does, in order: the partner's role and what the hinge keeps of the frame. -/
def Dev.frameRole (d : Dev) (f : HingeIn) : Dev :=
  ((d.flag Fld.hingeStatusPartner (d.is Fld.hingeStatusPartner || decide (d.hinge.gone ≤ 1))).put Fld.hingeStatusPartnerRole
    f.role).modHinge (fun h => { h with
      gone := 0, pFresh := f.fresh, pSide := f.side, unacked := h.unacked.filter (fun m => decide (f.ack < m.seq)),
      copy := h.copy ++ f.copy, syncAt := if f.syncAt.isSome then f.syncAt else h.syncAt })

/-- The tumbler's entries and the partner's identity, where the frame carries them. -/
def Dev.frameIdent (d : Dev) (f : HingeIn) : Dev :=
  let d := match f.tumb with
    | some (es, ar) => d.modHinge (fun h => { h with copyTumb := some (es.map (fun (e : Nat × Word) => ⟨e.1, e.2⟩), ar) })
    | none => d
  match f.ident with
  | some (l, hs, r, p) =>
    (d.modHinge (fun h => { h with pLike := l, pHash := hs, pRev := r, pPref := p })).put Fld.hingePrevRevid r
  | none => d

/-- The heartbeat, the lockstep check and the batch. -/
def Dev.frameBatch (d : Dev) (f : HingeIn) : Dev :=
  let d := if d.role = Role.standby ∧ f.hb ∧ f.inTime ∧ f.frame = d.frame then
      (d.put Fld.hingeStatusMiss 0).modHinge (fun h => { h with beat := true })
    else d
  let d := if f.crcs = [] then d else d.lockstep ((f.frame + 2 ^ 32 - 1) % 2 ^ 32) f.crcs
  match f.batch with
  | some (s, e, es) => d.takeBatch s e es
  | none => d

/-- Headset results, repair records, and what the partner's role decides. -/
def Dev.frameRest (d : Dev) (f : HingeIn) (framed : Bool) : Dev :=
  let d := if d.role = Role.standby then d.each f.hsRes (fun d (e : Nat × Word) => d.wr e.1 e.2) else d
  let d := d.each f.records (fun d (e : Nat × Nat) => (d.put Fld.repLastLoc (orBit e.1 31)).put Fld.repLastinfoInfo e.2)
  let d := if framed && d.hinge.pHash != [] then d.pairDecide else d
  if f.req = 2 ∧ d.role = Role.pairing ∧ !d.hinge.sync then d.beginSync else d

theorem Dev.hingeFrame_eq (d : Dev) (f : HingeIn) (hon : d.hingeOn = true) (hok : f.ok = true) :
    d.hingeFrame f = ((((d.frameRole f).frameIdent f).put Fld.hingePdelayPs f.delay).frameBatch f).frameRest f
      (d.is Fld.hingeStatusPartner || decide (d.hinge.gone ≤ 1)) := by
  unfold Dev.hingeFrame
  rw [if_neg (by simp [hon]), if_neg (by simp [hok])]
  rfl

theorem Dev.frameRole_shows (d : Dev) (f : HingeIn) : (d.frameRole f).role = d.role ∧
    (d.frameRole f).get Fld.hingeStatusPartnerRole = f.role % 2 ^ Fld.hingeStatusPartnerRole.width ∧
      (d.frameRole f).hinge.gone = 0 := by
  unfold Dev.frameRole
  rw [Dev.role, Dev.get_modHinge, Dev.get_modHinge, Dev.get_put_apart _ _ (by decide), Dev.get_flag_apart _ _ (by decide),
    Dev.get_put_same _ _ _ ⟨by decide, by decide⟩]
  exact ⟨rfl, rfl, rfl⟩

theorem Dev.frameIdent_keeps (d : Dev) (f : HingeIn) : d.KeepsFrame (d.frameIdent f) := by
  have hident {u : Dev} {g : Hinge → Hinge} {r : Nat} (h : d.KeepsFrame u) (hg : ∀ x : Hinge, (g x).gone = x.gone) :
      d.KeepsFrame ((u.modHinge g).put Fld.hingePrevRevid r) := (h.modHinge hg).put (by decide)
  unfold Dev.frameIdent
  extract_lets u
  have hu : d.KeepsFrame u := by
    unfold u
    split
    · exact (Dev.KeepsFrame.refl d).modHinge fun _ => rfl
    · exact .refl d
  split
  · exact hident hu fun _ => rfl
  · exact hu

theorem Dev.frameBatch_keeps (d : Dev) (f : HingeIn) : d.KeepsFrame (d.frameBatch f) := by
  unfold Dev.frameBatch
  extract_lets u w
  have hu : d.KeepsFrame u := .of_ite (((Dev.KeepsFrame.refl d).put (by decide)).modHinge fun _ => rfl) (.refl d)
  have hw : d.KeepsFrame w := .of_ite hu hu.lockstep
  split
  · exact hw.takeBatch
  · exact hw

theorem Dev.frameRest_keeps (d : Dev) (f : HingeIn) (framed : Bool) (hr : d.role = Role.solo) :
    d.KeepsFrame (d.frameRest f framed) := by
  have hrec {u : Dev} (h : d.KeepsFrame u) : d.KeepsFrame (u.each f.records (fun d (e : Nat × Nat) =>
      (d.put Fld.repLastLoc (orBit e.1 31)).put Fld.repLastinfoInfo e.2)) :=
    h.each fun _ _ h => (h.put (by decide)).put (by decide)
  unfold Dev.frameRest
  extract_lets u v w
  have hu : u = d := if_neg (by simp [hr])
  have hv : d.KeepsFrame v := hrec (hu ▸ .refl d)
  have hsolo : v.role = Role.solo := hv.role.trans hr
  clear_value v
  have hw : w = v := by
    unfold w
    rw [Dev.pairDecide_of_solo hsolo, ite_self]
  rw [if_neg (by simp [hw, hsolo]), hw]
  exact hv

/-- A package that is SOLO shows a good frame's role and delay, and stays SOLO (R497). -/
theorem Dev.hingeFrame_solo (d : Dev) (f : HingeIn) (hon : d.hingeOn = true) (hok : f.ok = true) (hr : d.role = Role.solo) :
    (d.hingeFrame f).role = Role.solo ∧
      (d.hingeFrame f).get Fld.hingeStatusPartnerRole = f.role % 2 ^ Fld.hingeStatusPartnerRole.width ∧
      (d.hingeFrame f).get Fld.hingePdelayPs = f.delay % 2 ^ Fld.hingePdelayPs.width ∧ (d.hingeFrame f).hinge.gone = 0 := by
  rw [d.hingeFrame_eq f hon hok]
  obtain ⟨hrole, hpartner, hgone⟩ := d.frameRole_shows f
  have hident := (d.frameRole f).frameIdent_keeps f
  generalize (d.frameRole f).frameIdent f = u at hident ⊢
  have hurole : (u.put Fld.hingePdelayPs f.delay).role = Role.solo :=
    (Dev.get_put_ne _ _ _ _ (by decide)).trans (hident.role.trans (hrole.trans hr))
  have hupartner := (Dev.get_put_ne u Fld.hingePdelayPs Fld.hingeStatusPartnerRole f.delay (by decide)).trans
    (hident.partner.trans hpartner)
  have hudelay := Dev.get_put_same u Fld.hingePdelayPs f.delay ⟨by decide, by decide⟩
  have hugone : (u.put Fld.hingePdelayPs f.delay).hinge.gone = 0 := by
    simpa using hident.gone.trans hgone
  generalize u.put Fld.hingePdelayPs f.delay = w at hurole hupartner hudelay hugone ⊢
  have hbatch := w.frameBatch_keeps f
  have hrest := (w.frameBatch f).frameRest_keeps f (d.is Fld.hingeStatusPartner || decide (d.hinge.gone ≤ 1))
    (hbatch.role.trans hurole)
  exact ⟨hrest.role.trans (hbatch.role.trans hurole), hrest.partner.trans (hbatch.partner.trans hupartner),
    hrest.delay.trans (hbatch.delay.trans hudelay), hrest.gone.trans (hbatch.gone.trans hugone)⟩

/-- What a SOLO package does with a frame that asks for no reset is in the frame alone. -/
theorem State.hingeRx_solo (s : State) (f : HingeIn) (hr : (s.dev.hingeFrame f).role = Role.solo) (hreq : f.ok = true → f.req ≠ 3) :
    s.hingeRx f = s.on (·.hingeFrame f) := by
  have hstandby : (s.dev.hingeFrame f).role ≠ Role.standby := by
    rw [hr]
    decide
  have hpairing : (s.dev.hingeFrame f).role ≠ Role.pairing := by
    rw [hr]
    decide
  have hasked : (f.ok && f.req == 3 && s.dev.hingeOn) = false := by
    cases hok : f.ok with
    | false => rfl
    | true => simp [hreq hok]
  have hresync : ¬ ((s.dev.hingeFrame f).role = Role.standby ∧ 6 ≤ s.dev.get Fld.hingeStatusMiss ∧
      (s.dev.hingeFrame f).get Fld.hingeStatusMiss = 0) := fun h => hstandby h.1
  unfold State.hingeRx
  dsimp only
  rw [if_neg hresync, Dev.syncEdge_of_role _ _ hpairing, hasked]
  simp only [beq_eq_false_iff_ne.mpr hstandby, Bool.and_false, Bool.false_and, Bool.false_eq_true, if_false]
  rfl

theorem Dev.hingeFrame_bad (d : Dev) (f : HingeIn) (hon : d.hingeOn = true) (hok : f.ok = false) :
    d.hingeFrame f = d.inc Fld.hingeCount2Crc := by
  unfold Dev.hingeFrame
  rw [if_neg (by simp [hon]), if_pos (by simp [hok])]

/-! ### Synchronisations (R496) -/

theorem State.standbySync_active (s : State) (f : FrameIn) (hon : s.dev.hingeOn = true) (hs : s.dev.hinge.sync = true)
    (hr : s.dev.role = Role.active) : s.standbySync f =
      s.on (fun d => ((d.modHinge (fun h => { h with sync := false })).put Fld.hingeStatusArmed 1).happen Fld.hingeEventsPaired) := by
  unfold State.standbySync
  dsimp only
  rw [if_neg (by simp [hs, hon]), if_pos hr]

theorem State.standbySync_partner (s : State) (f : FrameIn) {b : Nat} (hon : s.dev.hingeOn = true) (hs : s.dev.hinge.sync = true)
    (hr : s.dev.role = Role.pairing ∨ s.dev.role = Role.standby) (hb : s.dev.hinge.syncAt = some b)
    (hc : s.dev.clk.fallback = false) (hp : s.dev.pwr.inReset = false) : s.standbySync f =
      ((((s.on (·.observe f)).on (fun d => d.each (List.range 7) Dev.portBoundary)).standbyStart b).runPass f b).on
        Dev.boundaryEnd := by
  have hactive : s.dev.role ≠ Role.active := by
    obtain h | h := hr <;> rw [h] <;> decide
  have hsolo : s.dev.role ≠ Role.solo := by
    obtain h | h := hr <;> rw [h] <;> decide
  unfold State.standbySync
  dsimp only
  rw [if_neg (by simp [hs, hon]), if_neg hactive]
  simp only [hb]
  rw [if_neg (by simp [hc, hp, hsolo])]

/-! ### The host's commands of HINGE_CTRL (R511, R513) -/

theorem Dev.regWrite_hingeCtrl (d : Dev) {env : Env} {ag : Agent} {v : Word} :
    d.regWrite env ag Reg.hingeCtrl v = d.hingeCtrl ag v := by
  unfold Dev.regWrite
  rw [if_neg (by rw [rwtMask_of_outside (.inr (by decide))]; decide), if_neg (by decide), if_neg (by decide), if_neg (by decide),
    if_neg (by decide), if_neg (by decide), if_neg (by decide), if_neg (by decide), if_pos rfl]

theorem State.hostReg_hingeCtrl (s : State) {v : Word} {f : Dev → Dev} (h : s.dev.hostReady = true)
    (hup : s.dev.regUp Reg.hingeCtrl = true) (e : s.dev.hingeCtrl .host v = f s.dev)
    (hq : s.dev.Awaits .none → (f s.dev).Awaits .none) : s.hostReg Reg.hingeCtrl v = s.on f := by
  have hwrite := (s.dev.regWrite_hingeCtrl (env := Env.quiet)).trans e
  rw [State.hostReg, s.hostWord_regWrite h hup (by decide) (by decide) (by decide) (hwrite ▸ hq (Dev.hostReady_awaits h))]
  simp only [State.on, hwrite]

theorem Dev.hingeCtrl_detach (d : Dev) {ag : Agent} : d.hingeCtrl ag 0x96160001 = d.detach ag := by
  unfold Dev.hingeCtrl
  rw [if_neg (by decide), if_neg (by decide), show bitsOf (0x96160001 : Word).toNat 0 3 = 1 by decide]
  rfl

theorem Dev.hingeCtrl_attach (d : Dev) {ag : Agent} : d.hingeCtrl ag 0x96160002 = d.attach ag := by
  unfold Dev.hingeCtrl
  rw [if_neg (by decide), if_neg (by decide), show bitsOf (0x96160002 : Word).toNat 0 3 = 2 by decide]
  rfl

theorem Dev.hingeCtrl_reset (d : Dev) {ag : Agent} : d.hingeCtrl ag 0x96160003 = d.resetTwin ag := by
  unfold Dev.hingeCtrl
  rw [if_neg (by decide), if_neg (by decide), show bitsOf (0x96160003 : Word).toNat 0 3 = 3 by decide]
  rfl

theorem Dev.hingeCtrl_clr (d : Dev) {ag : Agent} : d.hingeCtrl ag 0x96160008 = d.hingeClr := by
  unfold Dev.hingeCtrl
  rw [if_neg (by decide), if_pos (by decide), show bitsOf (0x96160008 : Word).toNat 0 3 = 0 by decide]
  rfl

theorem Dev.attach_solo (d : Dev) {ag : Agent} (hr : d.role = Role.solo) (hon : d.hingeOn = true)
    (hp : d.is Fld.hingeStatusPartner = true) (hpr : d.get Fld.hingeStatusPartnerRole = Role.pairing)
    (hc : d.pairCheck = none) : d.attach ag = (d.setRole Role.active).beginSync := by
  unfold Dev.attach
  rw [if_pos ⟨.inl hr, hon, hp, hpr⟩]
  simp only [hc]
  rw [if_neg (by rw [hr]; decide)]

theorem Dev.sync_beginSync (d : Dev) : d.beginSync.hinge.sync = true := rfl

theorem Dev.role_beginSync (d : Dev) : d.beginSync.role = d.role := rfl

/-- The next hinge frame asks the partner for a reset. -/
def Dev.askReset (d : Dev) : Dev := d.modHinge (fun h => { h with cmdOut := 3 })

theorem Dev.cmdOut_askReset (d : Dev) : d.askReset.hinge.cmdOut = 3 := rfl

theorem Dev.hingeClr_clears (d : Dev) : d.hingeClr.rd Reg.hingeCount0 = 0 ∧ d.hingeClr.rd Reg.hingeCount1 = 0 ∧
    d.hingeClr.rd Reg.hingeCount2 = 0 := by
  unfold Dev.hingeClr
  refine ⟨?_, ?_, Dev.rd_wr_same ..⟩
  · rw [Dev.rd_wr_ne _ _ _ _ (by decide), Dev.rd_wr_ne _ _ _ _ (by decide), Dev.rd_wr_same]
  · rw [Dev.rd_wr_ne _ _ _ _ (by decide), Dev.rd_wr_same]

/-- Settles O22: each command is one operation of the hinge, and the host's commands are HINGE_CTRL's own. -/
theorem twinCommandsComplete : Obligations.TwinCommandsComplete := by
  refine ⟨fun s f ⟨hon, hok, hreq, hr⟩ => ?_, fun s f ⟨hon, hok, hr⟩ => ?_,
    fun s ⟨hr, hw, hp⟩ => ⟨_, rfl, s.dev.pairWaitEnds_solo hr hw hp⟩,
    fun s f ⟨hon, hs, hr⟩ => ⟨_, congrArg Host.Outcome.next (s.standbySync_active f hon hs hr), ?_⟩,
    fun s f b ⟨hon, hs, hr, hb, hc, hp⟩ => ⟨_, rfl, s.standbySync_partner f hon hs hr hb hc hp⟩,
    fun s ⟨hs, hr, ha⟩ => ⟨_, rfl, s.dev.syncTimesOut_refused hs hr ha⟩,
    fun s high priOk ⟨hr, hb, hm⟩ => ⟨_, rfl, s.dev.heartbeatMiss_early high priOk hr hb hm⟩,
    fun s priOk ⟨hr, hb, hm⟩ => ⟨_, rfl, ?_⟩,
    fun s h => ⟨_, rfl, s.dev.deadman_fires h⟩,
    fun s ⟨hr, hg, hp⟩ => ⟨_, rfl, s.dev.partnerLost_shows hr hg hp⟩,
    fun s ⟨h, hup, hr⟩ => ?_, fun s ⟨h, hup, hr, hon, hp, hpr, hc⟩ => ?_, fun s ⟨h, hup, hr, hp⟩ => ?_, fun s ⟨h, hup⟩ => ?_⟩
  · obtain ⟨hrole, hpartner, hdelay, hgone⟩ := s.dev.hingeFrame_solo f hon hok hr
    exact ⟨_, congrArg Host.Outcome.next (s.hingeRx_solo f hrole fun _ => hreq), hpartner, hgone, hdelay⟩
  · have hbad := s.dev.hingeFrame_bad f hon hok
    have hrole : (s.dev.hingeFrame f).role = Role.solo := by
      rw [hbad, Dev.role, Dev.inc, Dev.addSat, Dev.get_put_ne _ _ _ _ (by decide), ← hr, Dev.role]
    have hlt : min (s.dev.get Fld.hingeCount2Crc + 1) (2 ^ Fld.hingeCount2Crc.width - 1) < 2 ^ Fld.hingeCount2Crc.width :=
      Nat.lt_of_le_of_lt (Nat.min_le_right ..) (by decide)
    refine ⟨_, congrArg Host.Outcome.next (s.hingeRx_solo f hrole fun h => absurd h (by simp [hok])), ?_⟩
    rw [State.on_dev, hbad, Dev.inc, Dev.addSat, Dev.get_put_same _ _ _ ⟨by decide, by decide⟩, Nat.mod_eq_of_lt hlt]
  · rw [State.on_dev]
    refine ⟨?_, Dev.happen_sets _ _ (by decide) (by decide), by simp only [Dev.happen_keeps, Dev.put_keeps]; rfl⟩
    rw [Dev.get_happen_ne _ _ _ (by decide), Dev.get_put_same _ _ _ ⟨by decide, by decide⟩]
    rfl
  · rw [State.on_dev, s.dev.heartbeatMiss_takesOver priOk hr hb hm]
    exact s.dev.missed.takeover_shows priOk
  · obtain ⟨-, -, hsb, -⟩ := s.dev.hostReady_iff.mp h
    have hdetach : s.dev.detach .host = s.dev.setRole Role.solo := by
      unfold Dev.detach
      rw [if_neg (by rw [hsb, hr]; decide), if_pos hr]
    exact ⟨_, congrArg Host.Outcome.next (s.hostReg_hingeCtrl (f := (·.setRole Role.solo)) h hup
      (s.dev.hingeCtrl_detach.trans hdetach) fun hq => .setRole hq), s.dev.role_setRole (by decide)⟩
  · exact ⟨_, congrArg Host.Outcome.next (s.hostReg_hingeCtrl (f := fun d => (d.setRole Role.active).beginSync) h hup
      (s.dev.hingeCtrl_attach.trans (s.dev.attach_solo hr hon hp hpr hc)) fun hq => .beginSync (.setRole hq)),
      (Dev.role_beginSync _).trans (s.dev.role_setRole (by decide)), Dev.sync_beginSync _⟩
  · exact ⟨_, congrArg Host.Outcome.next (s.hostReg_hingeCtrl (f := Dev.askReset) h hup
      (s.dev.hingeCtrl_reset.trans (if_pos ⟨hr, hp⟩)) fun hq => .modHinge hq), s.dev.cmdOut_askReset⟩
  · exact ⟨_, congrArg Host.Outcome.next (s.hostReg_hingeCtrl (f := Dev.hingeClr) h hup s.dev.hingeCtrl_clr
      fun hq => .wr (.wr (.wr hq))), s.dev.hingeClr_clears⟩

end Sys2Proof.Machine

/-! DMA channels (chapter 14): the host's commands, a fetch that waits, reads that return, and the end of a chain. -/
namespace Sys2Proof.Machine
set_option Elab.async false

/-! ### A channel's record (R432) -/

theorem Dev.chan_setChan_same (d : Dev) (c : Nat) (x : Chan) : (d.setChan c x).chan c = x := by
  have hput : (d.setChan c x).chans = SMap.set Chan.init d.chans c x := by simp [Dev.setChan]
  rw [Dev.chan, hput, SMap.get_set_same]

theorem Dev.chan_of_chans {d t : Dev} (h : t.chans = d.chans) (c : Nat) : t.chan c = d.chan c := by
  rw [Dev.chan, Dev.chan, h]

theorem Dev.chan_setChSt (d : Dev) (c st k : Nat) : (d.setChSt c st).chan k = d.chan k :=
  Dev.chan_of_chans (by simp [Dev.setChSt]) k

theorem dmaChStatus_fields (c : Nat) : (Fld.dmaChStatusState c).fits ∧ (Fld.dmaChStatusState c).width = 4 ∧
    (Fld.dmaChStatusInflight c).apart (Fld.dmaChStatusState c) = true := by
  refine ⟨⟨show 28 ≤ 31 by decide, show 31 < 32 by decide⟩, rfl, ?_⟩
  simp only [Fld.apart, Bool.or_eq_true, decide_eq_true_eq]
  exact .inr ⟨⟨show 20 ≤ 22 by decide, show 22 < 32 by decide⟩, ⟨show 28 ≤ 31 by decide, show 31 < 32 by decide⟩,
    .inr (show 22 < 28 by decide)⟩

theorem Dev.chSt_setChSt (d : Dev) (c : Nat) {st : Nat} (h : st < 16) : (d.setChSt c st).chSt c = st := by
  obtain ⟨hfits, hw, -⟩ := dmaChStatus_fields c
  rw [Dev.chSt, Dev.setChSt, Dev.get_put_same _ _ _ hfits, hw]
  exact Nat.mod_eq_of_lt h

theorem Dev.chSt_setChan (d : Dev) (c : Nat) (x : Chan) : (d.setChan c x).chSt c = d.chSt c :=
  Dev.get_put_apart _ _ (dmaChStatus_fields c).2.2

/-- A write to another register leaves the channel's state. -/
theorem Dev.get_setChan_ne (d : Dev) (c : Nat) (x : Chan) {f : Fld} (h : f.addr ≠ Reg.dmaChStatus c) :
    (d.setChan c x).get f = d.get f := Dev.get_put_ne _ _ _ _ h

theorem Dev.get_setChSt_ne (d : Dev) (c st : Nat) {f : Fld} (h : f.addr ≠ Reg.dmaChStatus c) :
    (d.setChSt c st).get f = d.get f := Dev.get_put_ne _ _ _ _ h

theorem dmaCh_ne (c : Nat) : Reg.dmaChOffset c ≠ Reg.dmaChStatus c ∧ Reg.dmaChCurdesc c ≠ Reg.dmaChStatus c ∧
    Reg.dmaChOffset c ≠ Reg.dmaChCurdesc c ∧ Reg.dmaChEvents c ≠ Reg.dmaChStatus c ∧ Reg.dmaChCount c ≠ Reg.dmaChStatus c ∧
      Reg.dmaChCount c ≠ Reg.dmaChEvents c := by
  unfold Reg.dmaChOffset Reg.dmaChStatus Reg.dmaChCurdesc Reg.dmaChEvents Reg.dmaChCount
  omega

/-! ### The host's writes (R429 to R431) -/

theorem dmaChCtrl_bounds (c : Fin 64) : Reg.dmaChCtrl c / 0x10000 = 0x84 ∧ Reg.dmaChCtrl c < 0x841000 ∧
    (Reg.dmaChCtrl c - 0x840000) / 64 = c ∧ (Reg.dmaChCtrl c - 0x840000) % 64 = 8 := by
  unfold Reg.dmaChCtrl
  omega

/-- The registers of the channels are in reach while their domain is on (R30). -/
theorem Dev.regUp_dmaCh (d : Dev) {a : Nat} (hlo : 0x840000 ≤ a) (hhi : a < 0x841000) (h4 : a % 4 = 0) :
    d.regUp a = d.on Dom.dma := by
  have hreg : isRegAddr a = true := by
    simp only [isRegAddr, Bool.or_eq_true, decide_eq_true_eq]
    omega
  have hdom : regDom a = some Dom.dma := by
    unfold regDom
    rw [if_neg (by omega), if_pos (by omega), if_neg (by omega)]
  have heng : ¬ (0xA00000 ≤ a ∧ a < 0xA10000) := by omega
  simp [Dev.regUp, Dev.downHere, Dev.tileGone, hreg, h4, hdom, heng, rwtMask_of_outside (a := a) (.inl (by omega))]

theorem Dev.dmaWrite_ctrl (d : Dev) {ag : Agent} (c : Fin 64) {v : Word} : d.dmaWrite ag (Reg.dmaChCtrl c) v = d.dmaCtrl ag c v := by
  obtain ⟨-, hlt, hc, hr⟩ := dmaChCtrl_bounds c
  unfold Dev.dmaWrite
  rw [if_pos hlt]
  dsimp only
  rw [hc, hr, if_neg (by decide), if_pos rfl]

theorem State.hostReg_dma (s : State) {a : Nat} {v : Word} {f : Dev → Dev} (h : s.dev.hostReady = true)
    (hup : s.dev.regUp a = true) (ha : a / 0x10000 = 0x84) (e : s.dev.dmaWrite .host a v = f s.dev)
    (hq : s.dev.Awaits .none → (f s.dev).Awaits .none) : s.hostReg a v = s.on f := by
  have hne (b : Nat) (hb : b / 0x10000 ≠ 0x84) : a ≠ b := by
    rintro rfl
    exact hb ha
  have hwrite := (s.dev.regWrite_dma (env := Env.quiet) ha).trans e
  rw [State.hostReg, s.hostWord_regWrite h hup (hne _ (by decide)) (hne _ (by decide)) (hne _ (by decide))
    (hwrite ▸ hq (Dev.hostReady_awaits h))]
  simp only [State.on, hwrite]

/-- A ready host's command to a channel is the channel's own. -/
theorem State.hostReg_dmaCtrl (s : State) (c : Fin 64) {v : Word} {f : Dev → Dev} (h : s.dev.hostReady = true)
    (hup : s.dev.regUp (Reg.dmaChCtrl c) = true) (e : s.dev.dmaCtrl .host c v = f s.dev)
    (hq : s.dev.Awaits .none → (f s.dev).Awaits .none) : s.hostReg (Reg.dmaChCtrl c) v = s.on f :=
  s.hostReg_dma h hup (dmaChCtrl_bounds c).1 ((s.dev.dmaWrite_ctrl c).trans e) hq

theorem Dev.dmaCtrl_start (d : Dev) {ag : Agent} {c : Nat} : d.dmaCtrl ag c 1 = d.dmaStart ag c := by
  unfold Dev.dmaCtrl
  rw [if_neg (by decide), show bitsOf (1 : Word).toNat 0 4 = 1 by decide]
  rfl

theorem Dev.dmaCtrl_stop (d : Dev) {ag : Agent} {c : Nat} : d.dmaCtrl ag c 2 = d.dmaStop ag c := by
  unfold Dev.dmaCtrl
  rw [if_neg (by decide), show bitsOf (2 : Word).toNat 0 4 = 2 by decide]
  rfl

theorem Dev.dmaCtrl_resume (d : Dev) {ag : Agent} {c : Nat} : d.dmaCtrl ag c 3 = d.dmaResume ag c := by
  unfold Dev.dmaCtrl
  rw [if_neg (by decide), show bitsOf (3 : Word).toNat 0 4 = 3 by decide]
  rfl

theorem Dev.dmaCtrl_kick (d : Dev) {ag : Agent} {c : Nat} : d.dmaCtrl ag c 4 = d.dmaKick c := by
  unfold Dev.dmaCtrl
  rw [if_neg (by decide), show bitsOf (4 : Word).toNat 0 4 = 4 by decide]
  rfl

theorem Dev.dmaCtrl_clr (d : Dev) {ag : Agent} {c : Nat} : d.dmaCtrl ag c 16 = d.dmaClr c := by
  unfold Dev.dmaCtrl
  rw [if_pos (by decide), show bitsOf (16 : Word).toNat 0 4 = 0 by decide]
  rfl

/-- A channel that fetches the descriptor at `a` (R413, R420). -/
theorem Dev.dmaFetch_begins (d : Dev) (c a : Nat) (resume : Bool) : (d.dmaFetch c a resume).chSt c = ChSt.fetch ∧
    (d.dmaFetch c a resume).rd (Reg.dmaChCurdesc c) = BitVec.ofNat 32 (a / 32 * 32) ∧
    (d.dmaFetch c a resume).get (Fld.dmaChOffsetBytes c) = (if resume then d.get (Fld.dmaChOffsetBytes c) else 0) ∧
    ((d.dmaFetch c a resume).chan c).resume = resume := by
  obtain ⟨hoff, hcur, hoffcur, -⟩ := dmaCh_ne c
  unfold Dev.dmaFetch
  extract_lets d1 d2 refused
  have hcur2 : d2.rd (Reg.dmaChCurdesc c) = BitVec.ofNat 32 (a / 32 * 32) := by
    unfold d2
    split
    · exact Dev.rd_wr_same ..
    · exact (Dev.rd_put_ne _ _ _ _ hoffcur.symm).trans (Dev.rd_wr_same ..)
  have hoff2 : d2.get (Fld.dmaChOffsetBytes c) = if resume then d.get (Fld.dmaChOffsetBytes c) else 0 := by
    unfold d2
    split
    · exact Dev.get_wr_ne _ _ _ _ hoffcur
    · exact (Dev.get_put_same _ _ _ ⟨show 0 ≤ 23 by decide, show 23 < 32 by decide⟩).trans (Nat.zero_mod _)
  clear_value d2
  refine ⟨Dev.chSt_setChSt _ _ (by decide), ?_, ?_, ?_⟩
  · exact (Dev.rd_put_ne _ _ _ _ hcur).trans ((Dev.rd_put_ne _ _ _ _ hcur).trans hcur2)
  · rw [Dev.get_setChSt_ne _ _ _ hoff, Dev.get_setChan_ne _ _ _ hoff, hoff2]
  · rw [Dev.chan_setChSt, Dev.chan_setChan_same]

theorem Dev.dmaStart_fetches (d : Dev) {ag : Agent} {c : Nat}
    (h : d.chSt c = ChSt.idle ∨ d.chSt c = ChSt.stopped ∨ d.chSt c = ChSt.faulted) :
    d.dmaStart ag c = (d.clearFault c).dmaFetch c (d.rd (Reg.dmaChDesc c)).toNat false := if_pos h

theorem Dev.dmaStop_halts (d : Dev) {ag : Agent} {c : Nat}
    (h : d.chSt c = ChSt.fetch ∨ d.chSt c = ChSt.active ∨ d.chSt c = ChSt.waitDesc) : d.dmaStop ag c = d.dmaHalt c := if_pos h

theorem Dev.dmaResume_fetches (d : Dev) {ag : Agent} {c : Nat} (h : d.chSt c = ChSt.stopped ∨ d.chSt c = ChSt.faulted) :
    d.dmaResume ag c = d.dmaFetch c (d.rd (Reg.dmaChCurdesc c)).toNat true := if_pos h

theorem Dev.chSt_dmaHalt (d : Dev) (c : Nat) : (d.dmaHalt c).chSt c =
    if d.chSt c = ChSt.active ∧ (d.chan c).beats ≠ [] then ChSt.stopping else ChSt.stopped := by
  refine Dev.chSt_setChSt _ _ ?_
  split <;> decide

/-- The address of CFG or DESC. -/
theorem dmaCfg_bounds (c : Fin 64) (desc : Bool) : let a := if desc then Reg.dmaChDesc c else Reg.dmaChCfg c
    a / 0x10000 = 0x84 ∧ a < 0x841000 ∧ (a - 0x840000) / 64 = c ∧ ((a - 0x840000) % 64 = 0 ∨ (a - 0x840000) % 64 = 4) ∧
      (a = Reg.dmaChCfg c ↔ desc = false) := by
  have hc := c.isLt
  cases desc with
  | false =>
    simp only [Bool.false_eq_true, if_false, and_true]
    unfold Reg.dmaChCfg
    omega
  | true =>
    simp only [if_true, Bool.true_eq_false, iff_false]
    unfold Reg.dmaChDesc Reg.dmaChCfg
    omega

theorem State.hostReg_dmaCfg (s : State) (c : Fin 64) (desc : Bool) {v : Word} (h : s.dev.hostReady = true)
    (hup : s.dev.regUp (Reg.dmaChCtrl c) = true) (hb : s.dev.chanBusy c = false) :
    s.hostReg (if desc then Reg.dmaChDesc c else Reg.dmaChCfg c) v =
      s.on (·.wr (if desc then Reg.dmaChDesc c else Reg.dmaChCfg c) (v &&& if desc then 0xFFFFFFE0 else 0x8FFF001F)) := by
  obtain ⟨hblock, hlt, hc, hr, hcfg⟩ := dmaCfg_bounds c desc
  have hon : s.dev.on Dom.dma = true := by
    rwa [s.dev.regUp_dmaCh (by unfold Reg.dmaChCtrl; omega) (dmaChCtrl_bounds c).2.1 (by unfold Reg.dmaChCtrl; omega)] at hup
  have hmask : (v &&& if (if desc then Reg.dmaChDesc c else Reg.dmaChCfg c) = Reg.dmaChCfg c then (0x8FFF001F : Word) else 0xFFFFFFE0) =
      v &&& if desc then 0xFFFFFFE0 else 0x8FFF001F := by
    cases desc with
    | false => rw [if_pos (hcfg.mpr rfl)]; rfl
    | true => rw [if_neg (fun h => absurd (hcfg.mp h) (by decide))]; rfl
  generalize (if desc then Reg.dmaChDesc c else Reg.dmaChCfg c) = a at *
  have hregup : s.dev.regUp a = true := by
    rwa [s.dev.regUp_dmaCh (by omega) hlt (by omega)]
  refine s.hostReg_dma h hregup hblock ?_ fun hq => .wr hq
  unfold Dev.dmaWrite
  rw [if_pos hlt]
  dsimp only
  rw [hc, if_pos hr, Dev.dmaCfg, if_neg (by simp [hb]), hmask]

/-! ### Fetches, reads and commits (R413 to R417) -/

/-- A descriptor that the channel does not own waits (R413). -/
theorem State.descFetch_waits (s : State) (env : Env) {c : Nat} {ws : List Word} (hon : s.dev.on Dom.dma = true)
    (hst : s.dev.chSt c = ChSt.fetch) (hr : (s.readDesc env c).2.toOption = some ws) (hown : bitOf (ws.getD 7 0).toNat 31 = false) :
    (s.descFetch env c).dev.chSt c = ChSt.waitDesc ∧ ((s.descFetch env c).dev.chan c).desc = ws ∧
      ((s.descFetch env c).dev.chan c).waited = true := by
  obtain ⟨-, -, -, hev, -⟩ := dmaCh_ne c
  have hread : s.readDesc env c = ((s.readDesc env c).1, .ok ws) := by
    generalize s.readDesc env c = r at hr ⊢
    obtain ⟨u, e | o⟩ := r
    · exact absurd hr (by simp [Except.toOption])
    · exact congrArg (fun o => (u, Except.ok o)) (Option.some.inj hr)
  have hgo : ¬ (!s.dev.on Dom.dma || s.dev.chSt c != ChSt.fetch) = true := by simp [hon, hst]
  generalize (s.readDesc env c).1 = u at hread
  have hwait : s.descFetch env c = u.on (fun d => ((d.setChan c { u.dev.chan c with desc := ws, waited := true }).setChSt c
      ChSt.waitDesc).cond (!(u.dev.chan c).waited) (fun d => d.happen (Fld.dmaChEventsWaitDesc c))) := by
    unfold State.descFetch
    rw [if_neg hgo]
    simp only [hread, Chan.word, hown, Bool.not_false, if_true]
  rw [hwait, State.on_dev]
  generalize hx : ({ u.dev.chan c with desc := ws, waited := true } : Chan) = x
  have hdesc : x.desc = ws ∧ x.waited = true := by
    rw [← hx]
    exact ⟨rfl, rfl⟩
  have hchan (w : Dev) : (w.happen (Fld.dmaChEventsWaitDesc c)).chan c = w.chan c := Dev.chan_of_chans (by simp) c
  have hstate (w : Dev) : (w.happen (Fld.dmaChEventsWaitDesc c)).chSt c = w.chSt c := Dev.get_happen_ne _ _ _ hev.symm
  cases (u.dev.chan c).waited
  · simp only [Bool.not_false, Dev.cond, if_true, hstate, hchan, Dev.chan_setChSt, Dev.chan_setChan_same]
    exact ⟨Dev.chSt_setChSt _ _ (by decide), hdesc⟩
  · simp only [Bool.not_true, Dev.cond, Bool.false_eq_true, if_false, Dev.chan_setChSt, Dev.chan_setChan_same]
    exact ⟨Dev.chSt_setChSt _ _ (by decide), hdesc⟩

/-! ### Reads that return and beats that commit (R415, R417) -/

/-- A read of an array without errors changes no channel. -/
theorem Dev.chans_eccSpan_nil (d : Dev) (code a n : Nat) : (d.eccSpan code [] a n).chans = d.chans := by
  unfold Dev.eccSpan Dev.each
  generalize (List.range ((a + n - 1) / 16 - a / 16 + 1)).map (fun i => (a / 16 + i) * 16) = ws
  induction ws generalizing d with
  | nil => rfl
  | cons w ws ih =>
    rw [List.foldl_cons, ih]
    simp [Dev.eccRead, errsAt, Dev.each]

theorem State.agentRead_ok (s : State) {ag : Agent} {code : Nat} {secure : Bool} {a n : Nat} (h : s.dev.reach secure a = .ok) :
    s.agentRead ag code secure [] a n = (s.on (·.eccSpan code [] a n), s.bytes a n) := by
  refine Prod.ext ?_ (s.agentRead_ok_snd h)
  simp only [State.agentRead, h]

theorem spanBad_nil (a n : Nat) : spanBad [] a n = false := by simp [spanBad, badCw_nil]

/-- A read from memory without errors puts its bytes into the beat (R417). -/
theorem State.chan_dmaReadReturn (s : State) {env : Env} {c k off pa : Nat} {secure : Bool}
    (hb : (s.dev.chan c).beats[k]? = some ⟨off, none⟩)
    (ht : s.dev.translate (s.dev.chanSet c) .load ((s.dev.chan c).srcAt off) 16 = .ok pa secure) (hr : s.dev.region pa ≠ .reg)
    (hreach : s.dev.reach secure pa = .ok) (he : env.errs = []) :
    ((s.dmaReadReturn env c k).dev.chan c).beats = (s.dev.chan c).beats.map (fun b => if b.off = off then ⟨off, some (s.bytes pa 16)⟩ else b) := by
  have hchan : (s.dev.eccSpan EccAgent.dma [] pa 16).chan c = s.dev.chan c := Dev.chan_of_chans (Dev.chans_eccSpan_nil ..) c
  unfold State.dmaReadReturn
  simp only [hb, ht, he, s.agentRead_ok hreach, spanBad_nil, Bool.and_false, Bool.false_eq_true, if_false]
  simp only [State.on_dev, Dev.modChan, Dev.chan_setChan_same, hchan]

theorem State.dmaBeatCommit_writes (s : State) {env : Env} {u : State} {c off pa : Nat} {secure : Bool} {bs : List Byte}
    {rest : List Beat} (hon : s.dev.on Dom.dma = true) (hst : s.dev.chSt c = ChSt.active ∨ s.dev.chSt c = ChSt.stopping)
    (hu : s.dmaRun env = u) (hb : (u.dev.chan c).beats = ⟨off, some bs⟩ :: rest) (hp : u.dev.portSide c = none)
    (ht : u.dev.translate (u.dev.chanSet c) .store ((u.dev.chan c).dstAt off) 16 = .ok pa secure) :
    s.dmaBeatCommit env c = (u.beatWrite env c pa secure bs).beatDone env c off := by
  have hgo : ¬ (!s.dev.on Dom.dma || !(s.dev.chSt c == ChSt.active || s.dev.chSt c == ChSt.stopping)) = true := by
    obtain hst | hst := hst <;> simp [hon, hst]
  unfold State.dmaBeatCommit
  rw [if_neg hgo]
  simp only [hu, hb, hp, ht]

/-! ### The end of a chain, and stalls (R413, R427) -/

theorem dmaChStatus_bounds (c : Fin 64) : 0x840000 ≤ Reg.dmaChStatus c ∧ Reg.dmaChStatus c < 0x841000 := by
  unfold Reg.dmaChStatus
  omega

theorem unitStatus_serial (n : Nat) : 0x860000 ≤ unitStatus n := by
  unfold unitStatus Reg.spdifStatus Reg.portStatus
  split <;> omega

theorem fillF_addr (n : Nat) (tx : Bool) : (fillF n tx).addr = unitStatus n := by cases tx <;> rfl

/-- The end of a port block leaves the channel's state (R422). -/
theorem Dev.chSt_portDone (d : Dev) (c : Fin 64) : (d.portDone c).chSt c = d.chSt c := by
  obtain ⟨hlo, hhi⟩ := dmaChStatus_bounds c
  have hviol (e : Dev) (n : Nat) : (e.viol 3 .dma n).chSt c = e.chSt c := 
    congrArg (fun w : Word => (Fld.dmaChStatusState c).of w) (Dev.rd_viol_below _ _ _ _ (Nat.lt_trans hhi (by decide)))
  unfold Dev.portDone
  split
  · rfl
  · next n tx hp =>
    have hcut (b : Bool) : (d.cond b (fun d => d.viol 3 .dma (Reg.portPath n))).chSt c = d.chSt c := by
      cases b
      · rfl
      · exact hviol d _
    dsimp only
    split
    · exact hcut _
    · refine (Dev.get_put_ne _ _ _ _ ?_).trans (hcut _)
      rw [fillF_addr]
      exact Nat.ne_of_lt (Nat.lt_of_lt_of_le hhi (Nat.le_trans (by decide) (unitStatus_serial n)))

/-- The writeback's state, once counted: the channel's state is as before. -/
theorem Dev.chSt_counted (d : Dev) (c : Fin 64) (irq : Bool) :
    (((d.portDone c).inc (Fld.dmaChCountDescs c)).cond irq (fun d => d.happen (Fld.dmaChEventsDone c))).chSt c = d.chSt c := by
  obtain ⟨-, -, -, hev, hcnt, -⟩ := dmaCh_ne c
  have hinc : ((d.portDone c).inc (Fld.dmaChCountDescs c)).chSt c = d.chSt c :=
    (Dev.get_put_ne _ _ _ _ hcnt.symm).trans (d.chSt_portDone c)
  cases irq
  · exact hinc
  · exact (Dev.get_happen_ne _ _ _ hev.symm).trans hinc

/-- The last descriptor of a chain, written back while its channel is ACTIVE, ends the chain (R413). -/
theorem State.descComplete_last (s : State) {env : Env} {w : State} (c : Fin 64) (hon : s.dev.on Dom.dma = true)
    (hst : s.dev.chSt c = ChSt.active) (hbeats : (s.dev.chan c).beats = []) (hbad : (s.dev.chan c).bad = none)
    (hport : s.dev.portSide c = none) (hlen : s.dev.descLen c = some (s.dev.chanOff c)) (harm : (s.dev.chan c).arm = false)
    (hlast : (s.dev.chan c).last = true)
    (hw : (s.on (·.modChan c (fun x => { x with trunc := false }))).writeback env c (2 ^ 30 + s.dev.chanOff c) = (w, none))
    (hwst : w.dev.chSt c = ChSt.active) :
    (s.descComplete env c).dev.chSt c = ChSt.idle ∧ (s.descComplete env c).mem = w.mem ∧
      ((s.descComplete env c).dev.chan c).desc = [] := by
  have hgo : ¬ (!s.dev.on Dom.dma || s.dev.chSt c != ChSt.active || (s.dev.chan c).beats != [] || (s.dev.chan c).bad.isSome ||
      s.dev.descLen c != some (s.dev.chanOff c)) = true := by simp [hon, hst, hbeats, hbad, hlen]
  have hnoarm (u : State) (h : (u.dev.chan c).arm = false) : u.dmaArm env c = u := if_pos (by simp [h])
  have harm1 : ((s.on (·.modChan c (fun x => { x with trunc := false }))).dev.chan c).arm = false := by
    rw [State.on_dev, Dev.modChan, Dev.chan_setChan_same]
    exact harm
  have hend := fun (irq : Bool) => (w.dev.chSt_counted c irq).trans hwst
  have heq : ∃ d : Dev, s.descComplete env c =
      w.on (fun _ => (d.setChan c { d.chan c with desc := [], next := 0 }).setChSt c ChSt.idle) := by
    refine ⟨((w.dev.portDone c).inc (Fld.dmaChCountDescs c)).cond (s.dev.chan c).irq (fun d => d.happen (Fld.dmaChEventsDone c)), ?_⟩
    unfold State.descComplete
    rw [if_neg hgo]
    simp only [hport, Option.any_none, Bool.false_eq_true, if_false, Nat.add_zero, hnoarm _ harm1, hw]
    simp only [State.on, hend, hlast, ne_eq, not_true_eq_false, if_true, if_false]
  obtain ⟨d, heq⟩ := heq
  rw [heq, State.on_dev]
  refine ⟨Dev.chSt_setChSt _ _ (by decide), State.on_mem .., ?_⟩
  rw [Dev.chan_setChSt, Dev.chan_setChan_same]

/-- A saturating count after one more event. -/
theorem Dev.get_inc_same (d : Dev) {f : Fld} (h : f.fits) : (d.inc f).get f = min (d.get f + 1) (2 ^ f.width - 1) :=
  (Dev.get_put_same _ _ _ h).trans (Nat.mod_eq_of_lt
    (Nat.lt_of_le_of_lt (Nat.min_le_right ..) (Nat.sub_lt (Nat.two_pow_pos _) Nat.one_pos)))

/-- A stall is counted and starts the count of boundaries again (R427). -/
theorem Dev.dmaStall_counts (d : Dev) (c : Fin 64) (hst : d.chSt c = ChSt.active) (ht : d.get (Fld.dmaChCfgTimeout c) ≠ 0)
    (hi : d.get (Fld.dmaChCfgTimeout c) ≤ (d.chan c).idle) :
    (d.dmaStall c).get (Fld.dmaChEventsStall c) = 1 ∧ ((d.dmaStall c).chan c).idle = 0 ∧
      (d.dmaStall c).get (Fld.dmaChCountStalls c) = min (d.get (Fld.dmaChCountStalls c) + 1) (2 ^ (Fld.dmaChCountStalls c).width - 1) := by
  obtain ⟨-, -, -, -, hcnt, hcntev⟩ := dmaCh_ne c
  have hrun : d.dmaStall c = ((d.modChan c (fun x => { x with idle := 0 })).inc (Fld.dmaChCountStalls c)).happen (Fld.dmaChEventsStall c) :=
    if_pos ⟨hst, ht, hi⟩
  have hold : (d.modChan c (fun x => { x with idle := 0 })).get (Fld.dmaChCountStalls c) = d.get (Fld.dmaChCountStalls c) :=
    Dev.get_setChan_ne _ _ _ hcnt
  rw [hrun]
  refine ⟨Dev.happen_sets _ _ (show 2 < 32 by decide) rfl, ?_, ?_⟩
  · rw [Dev.chan_of_chans (d := d.modChan c (fun x => { x with idle := 0 })) (by simp), Dev.modChan, Dev.chan_setChan_same]
  · rw [Dev.get_happen_ne _ _ _ hcntev, Dev.get_inc_same _ ⟨show 0 ≤ 15 by decide, show 15 < 32 by decide⟩, hold]

/-- Settles O19: each command is one operation of its channel, and the host's writes are CTRL's, CFG's and DESC's own. -/
theorem dmaCommandsComplete : Obligations.DmaCommandsComplete := by
  unfold Obligations.DmaCommandsComplete
  refine ⟨?_, ?_, ?_, ?_, ?_, ?_, ?_, ?_, ?_, ?_, ?_, ?_⟩
  case refine_1 =>
    rintro s c ⟨h, hup, hst⟩
    obtain ⟨hfetch, hcur, hoff, -⟩ := Dev.dmaFetch_begins (s.dev.clearFault c) c (s.dev.rd (Reg.dmaChDesc c)).toNat false
    refine ⟨_, congrArg Host.Outcome.next (s.hostReg_dmaCtrl c h hup (f := fun d =>
      (d.clearFault c).dmaFetch c (d.rd (Reg.dmaChDesc c)).toNat false) (Dev.dmaCtrl_start _ |>.trans (Dev.dmaStart_fetches _ hst))
      fun hq => .dmaFetch (.clrRegs hq)), hfetch, hoff, hcur⟩
  case refine_2 =>
    rintro s c ⟨h, hup, hst⟩
    exact ⟨_, congrArg Host.Outcome.next (s.hostReg_dmaCtrl c h hup (f := (·.dmaHalt c))
      (Dev.dmaCtrl_stop _ |>.trans (Dev.dmaStop_halts _ hst)) fun hq => .dmaHalt hq), Dev.chSt_dmaHalt ..⟩
  case refine_3 =>
    rintro s c ⟨h, hup, hst⟩
    obtain ⟨hfetch, -, hoff, hres⟩ := Dev.dmaFetch_begins s.dev c (s.dev.rd (Reg.dmaChCurdesc c)).toNat true
    exact ⟨_, congrArg Host.Outcome.next (s.hostReg_dmaCtrl c h hup (f := fun d => d.dmaFetch c (d.rd (Reg.dmaChCurdesc c)).toNat true)
      (Dev.dmaCtrl_resume _ |>.trans (Dev.dmaResume_fetches _ hst)) fun hq => .dmaFetch hq), hfetch, hres, hoff⟩
  case refine_4 =>
    rintro s c ⟨h, hup, hst⟩
    exact ⟨_, congrArg Host.Outcome.next (s.hostReg_dmaCtrl c h hup (f := (·.setChSt c ChSt.fetch))
      (Dev.dmaCtrl_kick _ |>.trans (if_pos hst)) fun hq => .setChSt hq), Dev.chSt_setChSt _ _ (by decide)⟩
  case refine_5 =>
    rintro s c ⟨h, hup⟩
    exact ⟨_, congrArg Host.Outcome.next (s.hostReg_dmaCtrl c h hup (f := (·.dmaClr c)) (Dev.dmaCtrl_clr _) fun hq => .dmaClr hq),
      Dev.rd_wr_same ..⟩
  case refine_6 =>
    rintro s c v ⟨h, hup, hb⟩
    exact ⟨_, congrArg Host.Outcome.next (s.hostReg_dmaCfg c true h hup hb), Dev.rd_wr_same ..⟩
  case refine_7 =>
    rintro s c v ⟨h, hup, hb⟩
    exact ⟨_, congrArg Host.Outcome.next (s.hostReg_dmaCfg c false h hup hb), Dev.rd_wr_same ..⟩
  case refine_8 =>
    rintro s c env ws ⟨hon, hst, hr, hown⟩
    exact ⟨_, rfl, s.descFetch_waits env hon hst hr hown⟩
  case refine_9 =>
    rintro s c k env off pa secure ⟨hb, ht, hr, hreach, he⟩
    refine ⟨_, rfl, ?_⟩
    rw [s.chan_dmaReadReturn hb ht hr hreach he, List.getElem?_map, hb, Option.map_some, if_pos rfl]
  case refine_10 =>
    rintro s c env u off pa secure bs rest ⟨hon, hst, hu, hb, hp, ht⟩
    exact ⟨_, rfl, s.dmaBeatCommit_writes hon hst hu hb hp ht⟩
  case refine_11 =>
    rintro s c env w ⟨hon, hst, hbeats, hbad, hport, hlen, harm, hlast, hw, hwst⟩
    exact ⟨_, rfl, s.descComplete_last c hon hst hbeats hbad hport hlen harm hlast hw hwst⟩
  case refine_12 =>
    rintro s c ⟨hst, ht, hi⟩
    exact ⟨_, rfl, s.dev.dmaStall_counts c hst ht hi⟩

end Sys2Proof.Machine

/-! The keyway start (R48 steps 7 and 8): the pass that begins there carries out the mirrored writes that wait for its boundary. -/
namespace Sys2Proof.Machine
set_option Elab.async false

/-- A reseat awaits its frame boundary in a package that is ACTIVE without a standby; a batch entry for boundary 0 holds RESEAT from
source 1. The link's latch is short: its domain is off, and its first receive channel says so without a look at the others. -/
def reseatWithBatch : State := ready.on (fun d =>
  ((((d.modBoot (fun b => { b with commit := 7, reseat := 5 })).modClk (fun c => { c with fallback := false })).modHinge
    (fun h => { h with batch := [⟨1, 0, Reg.bootCtrl, 0x96160012⟩] })).setPll Dom.keyway true).setDom Dom.link 0 |>.puts
      [(Fld.hingeStatusRole, Role.active), (Fld.linkRxchEn 0, 1)])

/-- The entry takes effect as the first pass begins: RUNNING was entered before it, so the RESEAT is accepted (R56). -/
theorem reseatWithBatch_keywayStart : (reseatWithBatch.keywayStart quietFrame).dev.boot.reseat = 1 := by decide +kernel

/-- Refutes O8: the clause of KEYWAY_START has no reseat under way behind the start, but lets a batch entry of the hinge wait for
the first boundary, and that entry may be a RESEAT: the model checks the address of a mirrored write (R500) where it is sent, not
where it takes effect. -/
theorem not_bootCommandsComplete : ¬ Obligations.BootCommandsComplete := by
  rintro ⟨-, -, -, -, -, -, -, -, -, hkeyway, -⟩
  obtain ⟨t, ht, -, -, hreseat⟩ := hkeyway reseatWithBatch quietFrame (by decide +kernel)
  obtain rfl : reseatWithBatch.keywayStart quietFrame = t := Host.Outcome.next.inj ht
  exact absurd (reseatWithBatch_keywayStart.symm.trans hreseat) (by decide)

end Sys2Proof.Machine
